-- ==== Sys2Proof/Word.lean ====
section
/-! DEFINITION. The word types of the model: bytes, and tables of sparse data keyed by a number. -/

namespace Sys2Proof

/-- One byte, as the device's own memory structures and frames hold them. -/
abbrev Byte := BitVec 8

/-- A run of bytes, first byte first. -/
abbrev Bytes := List Byte

/-- Sparse data by number: pairs of a number and what stands there, no number twice. -/
abbrev Tab (α : Type) := List (Nat × α)

/-- The bit of `v` at position `k`. -/
abbrev bitAt (v k : Nat) : Bool := v.testBit k

/-- 1 for true and 0 for false. -/
abbrev b2n (b : Bool) : Nat := if b then 1 else 0

end Sys2Proof
end

