-- ==== Sys2Proof/Syntax.lean ====
section
/-! DEFINITION. The commands of the block, one constructor per row of spec/opcode_table.json, and the types of their
operands. Register words, addresses, indices and counts are natural numbers; a field takes what its width keeps. -/

namespace Sys2Proof

/-- A manifest (R177): the fields of its eight words. -/
structure Manifest where
  head : Nat := 0
  tc : Nat := 0
  exc : Nat := 0
  len : Nat := 0
  queue : Nat := 0
  flow : Nat := 0
  ciphRef : Nat := 0
  ciphOp : Nat := 0
  flags : Nat := 0
  src : Nat := 0
  stampNs : Nat := 0
  stampS : Nat := 0
  timeNs : Nat := 0
  timeS : Nat := 0
  deriving DecidableEq, Repr

/-- The kinds of an access (KIND of ERR_CODE). -/
inductive AccKind where
  | read | write | fetch
  deriving DecidableEq, Repr

/-- What an access names: an address, or an index at an indexed target of R63. -/
inductive Target where
  | addr (a : Nat)
  | keySlot (n : Nat)
  | context (n : Nat)
  | ring (n : Nat)
  deriving DecidableEq, Repr

/-- What a core's caches find while the core makes an access (R669): a parity error in a clean L1 line, a correctable
error of the L2, an uncorrectable one or parity in a dirty L1 line, or the write-back of the dirty line at `a` with an
uncorrectable error. -/
inductive CacheErr where
  | l1Clean
  | l2Corrected
  | uncorrectable
  | writeBack (a : Nat)
  deriving DecidableEq, Repr

/-- An access by a master. `data` holds the bytes of a write; `len` is the number of bytes touched; `cache` says what a
core's caches find. -/
structure Access where
  master : Nat
  kind : AccKind
  target : Target
  len : Nat
  data : List Byte
  cache : List CacheErr := []
  deriving DecidableEq, Repr

/-- A symbol in error in a stored 32-byte word with its two check symbols: the position of the symbol in the codeword
(0 and 1 the check symbols, 2–33 the data bytes 0–31) and the error added to it. -/
structure SymErr where
  pos : Nat
  err : Byte
  deriving DecidableEq, Repr

/-- The units that enqueue manifests (R187). -/
inductive EnqUnit where
  | waystation | hostRing | drover | cipher | outrider | convoy | core
  deriving DecidableEq, Repr

/-- How one chain hears a received PPDU (R253): the first-path arrival of its L-STF in 1/16 ns after the present instant,
and its SNR in dB. -/
structure RxChain where
  chain : Nat
  lag : Nat
  snr : Nat
  deriving DecidableEq, Repr

/-- What a received MPDU is. A data frame carries its MSDUs as Ethernet II frames (R441); `eapol` where they are of
EtherType 0x888E. A request is a probe, authentication, association or reassociation request (R354). -/
inductive RxKind where
  | data (qos : Bool) (group : Bool) (eapol : Bool) (msdus : List (List Byte))
  | barReq
  | psPoll
  | probeReq (body : List Byte)
  | request (assoc : Bool) (body : List Byte)
  | mgmt (group : Bool) (body : List Byte)
  | beacon (member : Nat) (overlaps : Bool)
  | other
  deriving DecidableEq, Repr

/-- A received MPDU: whether its FCS is right, its TID, sequence and fragment numbers, More Fragments and Retry, and, where
it is protected, its PN and whether its MIC verifies (R602). -/
structure RxMpdu where
  fcsOk : Bool
  kind : RxKind
  tid : Nat := 0
  sn : Nat := 0
  frag : Nat := 0
  moreFrag : Bool := false
  retry : Bool := false
  pn : Option (Nat × Bool) := none
  deriving DecidableEq, Repr

/-- A PPDU that arrives at a radio (R233, R241, R253): its format as a bit of DETECT_CFG.FORMAT_EN, whether the header
checks of its row pass, the transmitter's address, whether it is addressed to a BSSID of the device, its power in dBm as 8
bits, its frequency offset in 0.002 ppm, its Power Management bit, the chains, its MPDUs, and, for a timing frame or its Ack, TYPE and SEQ of
R529. -/
structure RxPpdu where
  format : Nat
  headerOk : Bool
  ta : Nat
  toUs : Bool
  rssi : Nat
  offset : Int
  doze : Bool
  chains : List RxChain
  mpdus : List RxMpdu
  ptp : Option (Nat × Nat) := none
  deriving DecidableEq, Repr

/-- An MPDU of a PPDU to be sent: the head cell of its caravan, whether it solicits an acknowledgement, and whether it is
acknowledged. -/
structure TxMpdu where
  head : Nat
  solicits : Bool
  acked : Bool
  deriving DecidableEq, Repr

/-- What kind of PPDU is sent: single-user, DL multi-user, a trigger frame, or an immediate response. -/
inductive TxKind where
  | su | mu | trigger | response
  deriving DecidableEq, Repr

/-- A PPDU to be sent: its kind, its MPDUs, its duration in µs, whether the other link of an NSTR pair is receiving when it
could start (R275, R277), and, for a timing frame or its Ack, TYPE and SEQ of R529. -/
structure TxPpdu where
  kind : TxKind
  mpdus : List TxMpdu
  dur : Nat
  otherRx : Bool
  ptp : Option (Nat × Nat) := none
  deriving DecidableEq, Repr

/-- The figures of a victim chain (R284, R288): chain, suppression of the two stages in dB, residual and leakage in
0.25 dBm. -/
structure StrcFig where
  chain : Nat
  suppA : Nat
  suppD : Nat
  resid : Int
  leak : Int
  deriving DecidableEq, Repr

/-- A frame that arrives at Outrider (R394, R395, R399): its mode code, whether the header check and the FCS pass, its power
in dBm as 8 bits, the time from its start to the end of its SFD in ns, and the PSDU without its FCS. -/
structure OutrRx where
  mode : Nat
  phrOk : Bool
  fcsOk : Bool
  rssi : Nat
  shr : Nat
  psdu : List Byte
  deriving DecidableEq, Repr

/-- What the device knows of a frame that it sends (R391, R408): the airtimes in µs of the frame and of its acknowledgement
in a mode whose rate the spec does not give, whether its FCS has 4 octets, and the time to the end of the SFD in ns. -/
structure OutrTx where
  dur : Nat
  ackDur : Nat
  longFcs : Bool
  shr : Nat
  deriving DecidableEq, Repr


/-- A symbol in error in a DRAM line: the codeword 0–7, the position of the symbol in it (0 and 1 the check bytes, 2–9
the data bytes 0–7), and the error added to it. -/
structure LineErr where
  cw : Nat
  pos : Nat
  err : Byte
  deriving DecidableEq, Repr

/-- The commands of the device. Each docstring names the rule that governs the row. -/
inductive Instr where
  /-- R76: master `m` writes the word `v` to the register at physical address `addr`. -/
  | regWrite (m addr v : Nat)
  /-- R40: master `m` writes to absent page `page`. -/
  | absentPageWrite (m page : Nat)
  /-- R40: master `m` writes `v` to SYS_ABSENT_CLR. -/
  | absentClr (m v : Nat)
  /-- R70: master `m` writes CTRL.EN = 1 of the block at first page `page`. -/
  | ctrlEnSet (m page : Nat)
  /-- R70: master `m` writes CTRL.EN = 0. -/
  | ctrlEnClear (m page : Nat)
  /-- R73: master `m` writes CTRL.SOFT_RST = 1. -/
  | ctrlSoftRst (m page : Nat)
  /-- R73: the soft reset of the block completes. -/
  | softResetComplete (page : Nat)
  /-- R71: master `m` writes CTRL.FREEZE = `v`. -/
  | ctrlFreezeWrite (m page v : Nat)
  /-- R70: the block's start-up is done. -/
  | startUpDone (page : Nat)
  /-- R70: the block's drain ends. -/
  | drainEnd (page : Nat)
  /-- R48: master `m` writes `v` to INT_TEST. -/
  | intTestWrite (m page v : Nat)
  /-- R46: master `m` writes ERR_CODE.VALID = 1. -/
  | errCodeClear (m page : Nat)
  /-- R45: master `m` writes LOCK.SET_CFG = 1. -/
  | lockSetCfg (m page : Nat)
  /-- R45: master `m` writes LOCK.SET_CTRL = 1. -/
  | lockSetCtrl (m page : Nat)
  /-- R52: an entry of the event-post queue frees for a held edge. -/
  | intrHeldPost 
  /-- R65: a read, write or fetch by a master. -/
  | masterAccess (a : Access)
  /-- R59: master `m` writes `v` to SYSFEAT_COMMIT. -/
  | sysfeatCommit (m v : Nat)
  /-- R60: the commit in progress ends. -/
  | commitComplete 
  /-- R84: the measurement window ends with these handshakes counted by point. -/
  | paceWindowEnd (counts : List Nat)
  /-- R87: INTERVAL has passed since the governor's last turn. -/
  | governorInterval 
  /-- R146: a source of class `cls` requests the admission of a frame of `size` bytes. -/
  | cellAdmit (cls size : Nat)
  /-- R134: port `port` transfers the 64 bytes at offset `off` for master `m`; `mask` names the bytes written; `errs` and `errs2` are the symbols found in error in the two words. -/
  | seraiTransfer (port m : Nat) (write : Bool) (off : Nat) (data : List Byte) (mask : List Bool) (errs errs2 : List SymErr)
  /-- R132: master `m` writes `v` to ALLOC_FREE of window `win`. -/
  | allocFree (m win v : Nat)
  /-- R175: master `m` writes `v` to ALLOC_REQ of window `win`. -/
  | allocReq (m win v : Nat)
  /-- R175: master `m` writes `v` to ALLOC_NEXT of window `win`. -/
  | allocNext (m win v : Nat)
  /-- R140: the scrubber reads the next word and finds these symbols in error. -/
  | scrubRead (errs : List SymErr)
  /-- R141: master `m` writes `v` to SERAI_QUAR_RELEASE. -/
  | quarRelease (m v : Nat)
  /-- R152: master `m` writes `v` to SERAI_CLASS_APPLY. -/
  | classApply (m v : Nat)
  /-- R158: master `m` writes SPILL_CFG.EN = 1. -/
  | spillEnable (m : Nat)
  /-- R158: the engine has written the free chain. -/
  | spillRegionReady 
  /-- R160: the engine spills the next eligible caravan. -/
  | spillCaravan 
  /-- R161: the engine returns the first spilled caravan in the return zone of queue `q`. -/
  | spillReturn (q : Nat)
  /-- R166: master `m` writes SPILL_CFG.EN = 0. -/
  | spillDisable (m : Nat)
  /-- R186: unit `u` enqueues manifest `x` on x.queue; `further` where the caravan is on a queue or in a unit already (R131). -/
  | enqueue (u : EnqUnit) (x : Manifest) (further : Bool)
  /-- R184: master `m` writes QMGR_Q_CMD.CMD = ENABLE. -/
  | qEnable (m : Nat)
  /-- R184: CMD = PAUSE. -/
  | qPause (m : Nat)
  /-- R184: CMD = RESUME. -/
  | qResume (m : Nat)
  /-- R185: CMD = FLUSH. -/
  | qFlush (m : Nat)
  /-- R185: CMD = DISABLE. -/
  | qDisable (m : Nat)
  /-- R185: the removal of queue `q`'s manifests ends. -/
  | qRemovalDone (q : Nat)
  /-- R205: master `m` writes HR_CFG.EN = 1 of ring `n`. -/
  | ringEnable (m n : Nat)
  /-- R193: the cell claim of ring `n` completes. -/
  | ringClaimDone (n : Nat)
  /-- R204: master `m` writes HR_CFG.EN = 0 of ring `n`. -/
  | ringDisable (m n : Nat)
  /-- R195: master `m` writes `v` to HR_SW_IDX of ring `n`. -/
  | hrDoorbell (m n v : Nat)
  /-- R197: the engine takes the next TX descriptor of ring `n`; `host` is what a read of the PCIe host's buffer returns, none where it fails. -/
  | txDescProcess (n : Nat) (host : Option (List Byte))
  /-- R197: the engine retries the refused enqueue of ring `n`. -/
  | ringEnqueueRetry (n : Nat)
  /-- R199: descriptor `idx` of ring `n` completes. -/
  | txDescComplete (n idx : Nat)
  /-- R202: the engine takes the next TX manifest-ring entry of ring `n`. -/
  | txManifestEntry (n : Nat)
  /-- R200: the manifest that the traffic manager has handed on for ring `n` is delivered; `hostOk` is whether the writes to the host succeed. -/
  | rxRingDeliver (n : Nat) (hostOk : Bool)
  /-- R206: ring `n` reaches a threshold. -/
  | ringFire (n : Nat)
  /-- R207: master `m` writes `v` to HR_ARM of ring `n`. -/
  | hrArm (m n v : Nat)
  /-- R541: master `m` writes TIME_CMD.SET = 1. -/
  | timeCmdSet (m : Nat)
  /-- R541: master `m` writes TIME_CMD.STEP = 1. -/
  | timeCmdStep (m : Nat)
  /-- R541: master `m` writes TIME_CMD.SLEW = 1. -/
  | timeCmdSlew (m : Nat)
  /-- R535: master `m` writes TIME_CMD.CLR_ASYM = 1. -/
  | timeCmdClrAsym (m : Nat)
  /-- R541: TIME_ADJ has been absorbed. -/
  | slewDone 
  /-- R533: master `m` writes TIME_SMP_PUSH. -/
  | timeSmpPush (m : Nat)
  /-- R537: no source offset has arrived for HOLD_MS. -/
  | servoHoldTimeout 
  /-- R526: master `m` reads TIME_NOW_NS. -/
  | timeNowRead (m : Nat)
  /-- R530: master `m` reads TIME_FIFO_HDR of port `p`. -/
  | timeFifoPop (m p : Nat)
  /-- R544: loss of the 40 MHz reference is detected. -/
  | referenceLoss 
  /-- R544: the reference returns. -/
  | referenceReturn 
  /-- R545: an edge of PPS_IN. -/
  | ppsInEdge (falling : Bool)
  /-- R546: a whole second less PPS_OUT_COMP is reached. -/
  | ppsOutSecond 
  /-- R546: WIDTH_US has passed since PPS_OUT rose. -/
  | ppsOutPulseEnd 
  /-- R547: an edge at capture input `c`. -/
  | captureEdge (c : Nat) (falling : Bool)
  /-- R547: master `m` reads CAP_NS of input `c`. -/
  | capturePop (m c : Nat)
  /-- R548: master `m` writes EVT_CFG.EN = 1 of output `e`. -/
  | evtEnable (m e : Nat)
  /-- R548: output `e` reaches its next instant. -/
  | evtInstant (e : Nat)
  /-- R548: WIDTH has passed since output `e` pulsed. -/
  | evtPulseEnd (e : Nat)
  /-- R686: sub-channel `s` of channel `c` serves its next request; `act` where it activates the row, `parity` where the command fails CA parity, `errs` the symbols found in error in the line. -/
  | dramRequestServe (c s : Nat) (act parity : Bool) (errs : List LineErr)
  /-- R688: a refresh of channel `c` falls due. -/
  | dramRefresh (c : Nat)
  /-- R687: master `m` declares a burst of `n` bytes at `a`. -/
  | rtBurstDeclare (m a n : Nat)
  /-- R689: a case of entry to self-refresh arises on channel `c`. -/
  | selfRefreshEntry (c : Nat)
  /-- R690: a request has arrived while channel `c` is in self-refresh, and the exit ends. -/
  | selfRefreshExit (c : Nat)
  /-- R691: a 32 ms refresh window of channel `c` starts. -/
  | rhWindowStart (c : Nat)
  /-- R683: the patrol scrubber of channel `c` reads its next line and finds these symbols in error. -/
  | dramScrubRead (c : Nat) (errs : List LineErr)
  /-- R684: the init engine of channel `c` writes its next line. -/
  | dramInitLine (c : Nat)
  /-- R694: master `m` writes DRAM_MIG.START = 1 of channel `c`. -/
  | migStart (m c : Nat)
  /-- R696: migration on channel `c` copies line P and finds these symbols in error. -/
  | migCopyLine (c : Nat) (errs : List LineErr)
  /-- R695: master `m` reads DRAM_ERR_LOG of channel `c`. -/
  | dramErrLogPop (m c : Nat)
  /-- R699: master `m` writes DRAM_TRN_CTRL.OP = MRW of channel `c`. -/
  | trnMrw (m c : Nat)
  /-- R699: OP = MRR. -/
  | trnMrr (m c : Nat)
  /-- R699: OP = MPC. -/
  | trnMpc (m c : Nat)
  /-- R699: OP = CS_SAMPLE. -/
  | trnCsSample (m c : Nat)
  /-- R699: OP = CA_SAMPLE. -/
  | trnCaSample (m c : Nat)
  /-- R699: OP = WLEVEL. -/
  | trnWlevel (m c : Nat)
  /-- R699: OP = PAT_WRITE. -/
  | trnPatWrite (m c : Nat)
  /-- R699: OP = RD_COMPARE. -/
  | trnRdCompare (m c : Nat)
  /-- R699: OP = EYE_SCAN. -/
  | trnEyeScan (m c : Nat)
  /-- R699: the helper of channel `c` ends; `data` is what MRR or a sample returned, `mask` and `cnt` the lanes and errors of a compare, `points` the points that passed a scan. -/
  | trnHelperDone (c data mask cnt points : Nat)
  /-- R701: master `m` writes DRAM_TRN_DONE.RESULT = PASS of channel `c`. -/
  | trnDonePass (m c : Nat)
  /-- R701: RESULT = FAIL. -/
  | trnDoneFail (m c : Nat)
  /-- R437: the Waystation takes the oldest manifest that an edge or an engine has handed it. -/
  | wayManifestIn 
  /-- R436: the fetch of the table line at address `line` completes; `bad` when DRAM returns it uncorrectable. -/
  | wayTableFetchDone (line : Nat) (bad : Bool)
  /-- R438: the oldest manifest that a Drover task has returned re-enters. -/
  | wayReturn 
  /-- R469: the oldest manifest that has raised a reason is posted. -/
  | wayExcPost 
  /-- R453: the scan of the bridge table. -/
  | brAgeScan 
  /-- R457: the connection scan visits its next entry. -/
  | ctScan 
  /-- R457: the hot store writes entry `e` back. -/
  | ctHotWriteback (e : Nat)
  /-- R457: master `m` reads WAY_CT_EXPIRY. -/
  | ctExpiryPop (m : Nat)
  /-- R458: master `m` writes WAY_CT_CMD with INSERT for entry `e`. -/
  | ctInsert (m e : Nat)
  /-- R458: DELETE of entry `e`. -/
  | ctDelete (m e : Nat)
  /-- R452: master `m` writes WAY_BR_CMD with LOOKUP. -/
  | brLookup (m : Nat)
  /-- R452: INSERT. -/
  | brInsert (m : Nat)
  /-- R452: DELETE. -/
  | brDelete (m : Nat)
  /-- R453: FLUSH_DYNAMIC. -/
  | brFlushDynamic (m : Nat)
  /-- R473: master `m` writes WAY_TBL_INV_CMD with LINES. -/
  | tblInv (m lines : Nat)
  /-- R463: master `m` writes WAY_ACL_CMD with WRITE. -/
  | aclWrite (m : Nat)
  /-- R463: READ. -/
  | aclRead (m : Nat)
  /-- R450: master `m` writes `v` to WAY_POL_BURST. -/
  | polBurstWrite (m v : Nat)
  /-- R358: master `m` writes STA_CMD with CREATE. -/
  | staCreate (m : Nat)
  /-- R358: ASSOC. -/
  | staAssoc (m : Nat)
  /-- R358: AUTHORIZE. -/
  | staAuthorize (m : Nat)
  /-- R361: UPDATE. -/
  | staUpdate (m : Nat)
  /-- R371: FREEZE. -/
  | staFreeze (m : Nat)
  /-- R371: the last PPDU to or from station `e`, which is being frozen, has ended. -/
  | staFreezeDone (e : Nat)
  /-- R358: THAW. -/
  | staThaw (m : Nat)
  /-- R365: REMOVE. -/
  | staRemove (m : Nat)
  /-- R365: the removal of station `e` ends. -/
  | staRemoveDone (e : Nat)
  /-- R357: PROBED entry `e` has had no probe request for PROBE_AGE s. -/
  | probeAgeExpire (e : Nat)
  /-- R366: the check of every 100 ms. -/
  | staAgeCheck 
  /-- R370: the MPDU `sn` of station `e` and `tid` has been held for LIFETIME ms. -/
  | mpduLifetimeExpire (e tid sn : Nat)
  /-- R372: master `m` writes `v` to BA_RX. -/
  | baRxWrite (m v : Nat)
  /-- R375: an MPDU of station `e` and `tid` has been held for TIMEOUT µs behind a hole. -/
  | reorderTimeout (e tid : Nat)
  /-- R381: master `m` reads STA_EVT. -/
  | staEvtPop (m : Nat)
  /-- R484: output `o` requests a dequeue. -/
  | tmDecision (o : Nat)
  /-- R487: an occurrence on link `l` takes the head of queue `q`. -/
  | airOccDequeue (l q : Nat)
  /-- R510: the instant at which the head of queue `q` may be dequeued for its launch time arrives. -/
  | launchEligible (q : Nat)
  /-- R493: master `m` writes TM_SHP_CMD with APPLY. -/
  | shaperApply (m : Nat)
  /-- R496: master `m` writes GATE_CMD with COMMIT. -/
  | gateCommit (m : Nat)
  /-- R498: CANCEL. -/
  | gateCancel (m : Nat)
  /-- R497: the start S of the pending list of `n` is reached. -/
  | gateTakeover (n : Nat)
  /-- R495: an entry boundary of list `n` is reached. -/
  | gateChange (n : Nat)
  /-- R489: the counts of shaper `s` refill so that a held node is allowed again. -/
  | shaperHoldEnd (s : Nat)
  /-- R587: master `m` writes KEY_CMD with LOAD; `host` is what the host's memory holds at KEY_BLOB where `m` is 17, none where it does not answer. -/
  | keyLoad (m : Nat) (host : Option (List Byte))
  /-- R588: SEAL. -/
  | keySeal (m : Nat) (host : Option (List Byte))
  /-- R588: EXPORT. -/
  | keyExport (m : Nat)
  /-- R591: DERIVE. -/
  | keyDerive (m : Nat)
  /-- R607: ERASE. -/
  | keyErase (m : Nat)
  /-- R607: the erasure of slot `slot` ends. -/
  | keyEraseDone (slot : Nat)
  /-- R603: master `m` writes `pn` to KEY_PN. -/
  | keyPnWrite (m pn : Nat)
  /-- R592: master `m` writes CIPH_CTX_CMD with WRITE. -/
  | ctxWrite (m : Nat)
  /-- R592: READ. -/
  | ctxRead (m : Nat)
  /-- R592: INVALIDATE. -/
  | ctxInvalidate (m : Nat)
  /-- R594: master `m` writes `v` to CR_SW_IDX of software ring `n`. -/
  | crDoorbell (m n v : Nat)
  /-- R606: the engine takes the next job of ring `r` of R593; the last two are what the host's memory holds at IN and at STATE where the ring's MASTER is 17. -/
  | ciphJobStart (r : Nat) (host hostState : Option (List Byte))
  /-- R597: the oldest job of software ring `r` (8–15) completes. -/
  | ciphJobComplete (r : Nat)
  /-- R598: the oldest manifest job of ring `r` (0–3) completes. -/
  | ciphManifestPass (r : Nat)
  /-- R379: master `m` writes STA_CMD with EXPORT. -/
  | staExport (m : Nat)
  /-- R380: IMPORT. -/
  | staImport (m : Nat)
  /-- R643: master `m` writes DRV_TASK_CMD with CREATE. -/
  | taskCreate (m : Nat)
  /-- R643: START. -/
  | taskStart (m : Nat)
  /-- R647: CANCEL. -/
  | taskCancel (m : Nat)
  /-- R643: DELETE. -/
  | taskDelete (m : Nat)
  /-- R643: SET_PRIO. -/
  | taskSetPrio (m : Nat)
  /-- R642: master `m` writes `v` to DRV_TASK_SET. -/
  | taskFlagSet (m v : Nat)
  /-- R643: master `m` writes `v` to DRV_TASK_CLR. -/
  | taskFlagClr (m v : Nat)
  /-- R645: the oldest post of the event-post queue is applied. -/
  | eventPost 
  /-- R651: master `m` writes WAIT with MASK and MODE to DRV_CMD of window `n`. -/
  | drvWait (m n mask : Nat) (all : Bool)
  /-- R651: YIELD. -/
  | drvYield (m n : Nat)
  /-- R651: PREEMPTED. -/
  | drvPreempted (m n : Nat)
  /-- R652: master `m` reads DRV_SLOT_TAKE of window `n`. -/
  | drvSlotTake (m n : Nat)
  /-- R655: master `m` reads DRV_ITEM of window `n`. -/
  | drvItemTake (m n : Nat)
  /-- R655: master `m` writes DRV_DISPOSE of window `n` with RETURN. -/
  | disposeReturn (m n : Nat)
  /-- R655: QUEUE. -/
  | disposeQueue (m n : Nat)
  /-- R655: DISCARD. -/
  | disposeDiscard (m n : Nat)
  /-- R655: the disposition of the item in service of task `t` completes. -/
  | disposeDone (t : Nat)
  /-- R656: the due instant of timer `n` arrives. -/
  | drvTimerFire (n : Nat)
  /-- R657: master `m` writes `v` to DRV_TMR_CFG with EN = 1. -/
  | timerArm (m v : Nat)
  /-- R659: master `m` writes `v` to DRV_TMR_CFG with EN = 0. -/
  | timerDisarm (m v : Nat)
  /-- R709: lane `n` sees no LOS for LOS_TIME, or a PCIe receiver; 8 is the reduced link of ETH0 (R730). -/
  | laneSignalDetect (n : Nat)
  /-- R709: training of lane `n` ends; `gen` and `width` are what the PCIe partner offers. -/
  | laneTrainDone (n : Nat) (ok : Bool) (gen width : Nat)
  /-- R709: lane `n` reaches synchronisation or block lock. -/
  | laneLockAchieved (n : Nat)
  /-- R711: lane `n` has not reached LOCK within its maximum. -/
  | laneLockTimeout (n : Nat)
  /-- R709: auto-negotiation of lane `n` ends; `full` is full duplex, `speed` the SPEED code. -/
  | laneAutonegDone (n : Nat) (ok full : Bool) (speed : Nat)
  /-- R714: INTERVAL ms have passed in the exchange of lane `n`. -/
  | capxInterval (n : Nat)
  /-- R713: lane `n` receives a frame, given without its FCS, with the CAPX EtherType. -/
  | capxFrameRx (n : Nat) (frame : List Byte) (fcsOk : Bool)
  /-- R714: TIMEOUT ms have passed without completion. -/
  | capxTimeout (n : Nat)
  /-- R716: lane `n` has upshifted and has not reached ACTIVE within 1 s. -/
  | upshiftTimeout (n : Nat)
  /-- R710: ACTIVE has held on lane `n` for LINK_HOLD ms. -/
  | linkHoldExpire (n : Nat)
  /-- R711: lane `n` loses its signal; `tx` and `rx` are whether its MAC is sending or receiving a frame. -/
  | laneLos (n : Nat) (tx rx : Bool)
  /-- R711: lane `n` loses lock. -/
  | laneLol (n : Nat) (tx rx : Bool)
  /-- R718: master `m` writes `v` to LANE_LPBK of lane `n`. -/
  | lpbkModeWrite (m n v : Nat)
  /-- R719: master `m` writes `v` to LANE_PRBS of lane `n`. -/
  | prbsEnableWrite (m n v : Nat)
  /-- R720: master `m` writes LANE_PRBS.INJ_ONE = 1 of lane `n`, its other fields as they are. -/
  | prbsInjOne (m n : Nat)
  /-- R721: the SFD of a frame, given without its FCS, crosses the PCS of port `p` `quarter` quarters of a ns after the tick. -/
  | ethFrameRx (p quarter : Nat) (frame : List Byte) (fcsOk : Bool)
  /-- R722: the quanta of a received pause of port `p` elapse; 8 is PAUSE. -/
  | pauseExpire (p prio : Nat)
  /-- R721: port `p` sends the next dequeued frame, in `frags` fragments where it is preemptible. -/
  | ethFrameTx (p quarter frags : Nat)
  /-- R723: REFRESH quanta have passed since port `p` sent its XOFF for `prio`; 8 is PAUSE. -/
  | xoffRefresh (p prio : Nat)
  /-- R724: a verify attempt of port `p` times out. -/
  | preemptVerifyTimeout (p : Nat)
  /-- R724: the verify response arrives at port `p`. -/
  | preemptVerifyResponse (p : Nat)
  /-- R727: a request of the host through `bar` at offset `a`, or of the downstream device at physical address `a`. -/
  | pcieInboundRequest (bar : Option Nat) (a : Nat) (write : Bool) (len : Nat) (data : List Byte)
  /-- R727: master `m` writes PCIE_OB_CMD with OP memory read and BE `be`. -/
  | pcieObMemRead (m be : Nat)
  /-- R727: OP memory write. -/
  | pcieObMemWrite (m be : Nat)
  /-- R727: OP configuration read. -/
  | pcieObCfgRead (m be : Nat)
  /-- R727: OP configuration write. -/
  | pcieObCfgWrite (m be : Nat)
  /-- R727: the completion of the outbound access arrives: 0 done, 1 UR, 2 CA. -/
  | pcieCompletion (status data : Nat)
  /-- R726: the outbound access, or the buffer read of ring `ring`, times out. -/
  | pcieCompletionTimeout (ring : Option Nat)
  /-- R728: the PCIe link leaves L0 other than by L1 entry. -/
  | pcieLinkDown 
  /-- R119: master `m` writes PCIE_CFG.EP_READY = 1. -/
  | epReadyWrite (m : Nat)
  /-- R720: the checker of lane `n` sees 1,024 consecutive correct bits. -/
  | prbsCheckerLocked (n : Nat)
  /-- R720: 64 errors in 1,024 bits; `errs` bits in error have been received since the checker locked. -/
  | prbsCheckerUnlocked (n errs : Nat)
  /-- R743: HB_MS ms have passed since the last HELLO. -/
  | helloTimer 
  /-- R743: the engine takes the oldest message, a HELLO, that the traffic manager has handed to it. -/
  | helloRx 
  /-- R750: it takes a RECORD message. -/
  | recordRx 
  /-- R745: it takes an ACK. -/
  | ackRx 
  /-- R751: it takes a SUMMARY. -/
  | summaryRx 
  /-- R755: it takes an HO_REQ. -/
  | hoReqRx 
  /-- R755: it takes an HO_DATA. -/
  | hoDataRx 
  /-- R755: it takes an HO_DONE. -/
  | hoDoneRx 
  /-- R755: it takes an HO_NAK. -/
  | hoNakRx 
  /-- R765: it takes a PLAN part. -/
  | planRx 
  /-- R770: it takes a DEPART. -/
  | departRx 
  /-- R746: the age of member `id` exceeds SUSPECT_N × HB_MS. -/
  | memberAgeSuspect (id : Nat)
  /-- R746: its age exceeds SEP_N × HB_MS. -/
  | memberAgeSeparated (id : Nat)
  /-- R745: RETX_MS ms have passed without the acknowledgement of message `seq` by member `dest`. -/
  | cvyRetxTimer (dest seq : Nat)
  /-- R750: the tombstone of this kind and RKEY is older than TOMB_S s. -/
  | tombExpire (kind rkey : Nat)
  /-- R760: the activation time of generation `gen` arrives. -/
  | keyActivation (gen : Nat)
  /-- R752: master `m` writes CVY_REC_CMD with WRITE; `host` is what the host's memory holds at CVY_REC_ADDR where `m` is 17. -/
  | recWrite (m : Nat) (host : Option (List Byte))
  /-- R752: READ. -/
  | recRead (m : Nat) (host : Option (List Byte))
  /-- R752: DELETE. -/
  | recDelete (m : Nat) (host : Option (List Byte))
  /-- R755: master `m` writes CVY_HO_CMD.REQUEST = 1. -/
  | hoRequest (m : Nat)
  /-- R755: RETX_US µs have passed without HO_DATA. -/
  | hoRetxTimer 
  /-- R755: TIMEOUT_US µs have passed without HO_DATA. -/
  | hoTimeout 
  /-- R758: station `addr` has been held exported for HOLD_MS ms without confirmation. -/
  | hoHoldExpire (addr : Nat)
  /-- R770: 1.5 ms have passed since DEPART. -/
  | departWaitEnd 
  /-- R772: master `m` reads CVY_EVT. -/
  | cvyEvtPop (m : Nat)
  /-- R224: the calibration step of radio `n` in progress ends, at the junction temperature `temp` in °C; `lat` is what step 9 has measured: chain, transmit and receive latency in 1/16 ns. -/
  | calStepDone (n : Nat) (temp : Int) (lat : List (Nat × Nat × Nat))
  /-- R228: radio `n` tracks RX DC offset and gain on one chain in an idle piece. -/
  | calTrackPiece (n chain : Nat)
  /-- R239: during a reception of radio `n` with signal estimate `est`, the shadow detector finds a preamble of `power`, both in 0.25 dBm; `inData` during the data portion, `passed` after the L-SIG or PLCP header check. -/
  | shadowCapture (n : Nat) (est power : Int) (inData passed : Bool)
  /-- R234: the power of radio `n`'s reception has stayed more than 10 dB down for 8 µs. -/
  | rxPowerDrop (n : Nat)
  /-- R232: radio `n` has measured `nf`, in 0.25 dBm. -/
  | noiseFloorUpdate (n : Nat) (nf : Int)
  /-- R244: one millisecond of radio `n`'s trim. -/
  | refTrimUpdate (n : Nat)
  /-- R246: master `m` writes FIR_CTRL.APPLY of radio `n`. -/
  | firApply (m n : Nat)
  /-- R246: a PPDU boundary of radio `n` with a bank pending. -/
  | firBankSwitch (n : Nat)
  /-- R248: master `m` writes MASK_CTRL.APPLY of radio `n`. -/
  | maskApply (m n : Nat)
  /-- R248: a PPDU boundary of radio `n` with a mask pending. -/
  | maskTakeEffect (n : Nat)
  /-- R257: Radio B receives a pulse, its width in 0.1 µs and its power in dBm. -/
  | radarPulse (width : Nat) (power : Int)
  /-- R257: master `m` reads RADAR_FIFO of Radio B. -/
  | radarFifoPop (m : Nat)
  /-- R259: the synthesizer of radio `n` loses lock. -/
  | synthLockLost (n : Nat)
  /-- R259: it relocks. -/
  | synthRelock (n : Nat)
  /-- R265: master `m` writes LINK_CMD of link `l` with ADD. -/
  | linkAdd (m l : Nat)
  /-- R265: REMOVE. -/
  | linkRemove (m l : Nat)
  /-- R265: CANCEL. -/
  | linkCancel (m l : Nat)
  /-- R265: the radio of JOINING link `l` is Active on a valid channel. -/
  | linkRadioActive (l : Nat)
  /-- R272: row 9's hold of MLD_STR_HOLD ms ends. -/
  | pairStrHoldEnd 
  /-- R278: MLD_MSD_TIMER µs have passed since medium synchronisation of link `l` began. -/
  | msdTimerEnd (l : Nat)
  /-- R284: master `m` writes STRC_CMD.TRAIN = 1. -/
  | strcTrain (m : Nat)
  /-- R284, R285: the training step in progress ends; `lost` receptions of the victim link were abandoned in its bursts; `figs` are the victim chains' figures where it is the verify step, `silent` the aggressor chains that show no coupled signal. -/
  | strcTrainStepDone (figs : List StrcFig) (silent : List Nat) (lost : Nat)
  /-- R284: the run has not ended within 60 ms, or a step has not ended within 2.5 times its typical time. -/
  | strcTrainTimeout 
  /-- R287: a silent symbol of victim 0 (Radio C) or 1 (Radio B), and the figures of its chains after it. -/
  | strcSilentSymbol (victim : Nat) (figs : List StrcFig)
  /-- R297: a slot boundary of the grid has been reached. -/
  | airSlotStart 
  /-- R316: the medium of link `l` has been idle for PIFS in a block; `short` with the short slot time in effect on link A. -/
  | airBlockAccess (l : Nat) (short : Bool)
  /-- R310: master `m` writes AIR_TBL_APPLY.APPLY = 1. -/
  | airTblApply (m : Nat)
  /-- R330: master `m` writes AIR_RES_CMD.RESUME = 1. -/
  | airResResume (m : Nat)
  /-- R315: master `m` writes AIR_RES_CMD.CLR_SKIPS = 1. -/
  | airResClrSkips (m : Nat)
  /-- R325: BSRP_MS ms have passed since the last BSRP triggers. -/
  | bsrpTimer 
  /-- R325: a backoff of link `l` reaches zero; `otherRx` while the other link of the B–C pair is receiving. -/
  | edcaTxop (l : Nat) (otherRx : Bool)
  /-- R217: master `m` writes CHAN_APPLY of radio `n`. -/
  | chanApply (m n : Nat)
  /-- R218: radio `n` is neither transmitting nor receiving while an accepted apply waits. -/
  | retuneStart (n : Nat)
  /-- R218: a reception of radio `n` is in progress FORCE_US µs after the apply. -/
  | retuneForceAbort (n : Nat)
  /-- R219: the retune of radio `n` completes. -/
  | retuneDone (n : Nat)
  /-- R225: a calibration step of radio `n` has not ended within 2.5 times its typical duration. -/
  | calStepOverrun (n : Nat)
  /-- R229: a piece of the calibration of radio `n` at a junction temperature in °C; `cut` where it is abandoned. -/
  | tempRecalPiece (n : Nat) (temp : Int) (cut : Bool)
  /-- R233: radio `n` receives a PPDU. -/
  | ppduRx (n : Nat) (p : RxPpdu)
  /-- R252: radio `n` sends a PPDU. -/
  | ppduTx (n : Nat) (p : TxPpdu)
  /-- R266: a TBTT of link `l`. -/
  | tbtt (l : Nat)
  /-- R414: Outrider receives a frame. -/
  | outrFrameRx (p : OutrRx)
  /-- R396: a preamble of `power` is found during a reception whose signal estimate is `est`, in 0.25 dBm; `passed` after its PHR check. -/
  | outrCapture (est power : Int) (passed : Bool)
  /-- R397: the power of a reception falls by more than 10 dB for 4 symbols. -/
  | outrRxLost 
  /-- R398: the calibration step in progress ends, or overruns; `lat` are the latencies of step 6 in the order TX 2.4 GHz, TX sub-GHz, RX 2.4 GHz, RX sub-GHz. -/
  | outrCalStepDone (overrun : Bool) (lat : List Nat)
  /-- R402: a timeslot starts. -/
  | outrTimeslot 
  /-- R408: a frame for entry `nbr`, 0x3FF for broadcast, can be sent. -/
  | outrFrameTx (nbr : Nat) (t : OutrTx)
  /-- R419: no acknowledgement from entry `nbr` has come within ACK_WAIT. -/
  | outrAckTimeout (nbr : Nat)
  /-- R423: the listen window of the cell in progress ends. -/
  | outrRxWindowEnd 
  /-- R413: master `m` writes NBR_CMD with CREATE. -/
  | nbrCreate (m : Nat)
  /-- R413: UPDATE. -/
  | nbrUpdate (m : Nat)
  /-- R420: REMOVE. -/
  | nbrRemove (m : Nat)
  /-- R423: RESYNC. -/
  | nbrResync (m : Nat)
  /-- R420: the age of entry `e` is looked at. -/
  | nbrAgeExpire (e : Nat)
  /-- R424: an extended listen for entry `e` falls due. -/
  | extListen (e : Nat)
  /-- R427: a frame for CSL neighbour `e` can be sent; `wake` is the airtime of a wake-up frame in µs in a mode whose rate the spec does not give. -/
  | cslSequence (e : Nat) (t : OutrTx) (wake : Nat)
  /-- R428: copies of a frame are sent to RFS neighbour `e`, until one is acknowledged or the window ends. -/
  | rfsDelivery (e : Nat) (t : OutrTx) (copies : Nat) (acked : Bool)
  /-- R434: master `m` reads OM_EVT. -/
  | omEvtPop (m : Nat)
  /-- R558: VBAT and VIO18 have both been absent, and one is applied. -/
  | backupPowerUp 
  /-- R553: the backup domain goes over to VBAT, or to VIO18; VBAT stands at `vbat` mV. -/
  | supplySwitch (battery : Bool) (vbat : Nat)
  /-- R558: no crystal edge for 1 ms while supplied. -/
  | crystalStop 
  /-- R558: VBAT is below 1.5 V while it supplies the domain. -/
  | vbatLowReset 
  /-- R573: a second boundary of the RTC. -/
  | rtcSecond 
  /-- R563: master `m` reads time register `r`: 0 RTC_SUBSEC to 8 RTC_YEAR; `sub` is the mirror's sub-second count. -/
  | rtcSnapshotRead (m r sub : Nat)
  /-- R563: 1 ms of the time base has passed since the snapshot. -/
  | rtcSnapshotExpire 
  /-- R564: master `m` writes `v` to time register `r`: 1 RTC_SEC to 8 RTC_YEAR. -/
  | rtcHoldWrite (m r v : Nat)
  /-- R565: master `m` writes RTC_APPLY.APPLY = 1. -/
  | rtcApply (m : Nat)
  /-- R565: the first crystal edge after an accepted apply has reached the island. -/
  | rtcApplyTakeEffect 
  /-- R559: master `m` writes 1 to RTC_STATUS.OSF. -/
  | osfClear (m : Nat)
  /-- R569: a network-trim window ends, `t` ns after its first edge. -/
  | netWindowEnd (t : Nat)
  /-- R571: the backup domain's sensor reads `temp` °C. -/
  | tempSample (temp : Int)
  /-- R558: the next crystal edge after a stop. -/
  | crystalRestart 
  /-- R623: master `m` writes BRYN_CMD with VERIFY. -/
  | brynVerify (m : Nat)
  /-- R638: ATTEST. -/
  | brynAttest (m : Nat)
  /-- R634: ID_EXPORT. -/
  | brynIdExport (m : Nat)
  /-- R630: ARB_ADVANCE with KEY and ARG, the value being in BRYN_CMD_DATA. -/
  | brynArbAdvance (m key arg : Nat)
  /-- R631: OWNER_PROGRAM of set ARG. -/
  | brynOwnerProgram (m key arg : Nat)
  /-- R632: OWNER_REVOKE of set ARG. -/
  | brynOwnerRevoke (m key arg : Nat)
  /-- R633: LC_DEPLOY. -/
  | brynLcDeploy (m key : Nat)
  /-- R633: OTP_WRITE of page ARG, the word being in BRYN_CMD_DATA. -/
  | brynOtpWrite (m key arg : Nat)
  /-- R636: CHALLENGE. -/
  | brynChallenge (m : Nat)
  /-- R637: UNLOCK. -/
  | brynUnlock (m key : Nat)
  /-- R635: DEBUG_OPEN. -/
  | brynDebugOpen (m : Nat)
  /-- R618: SCRAP. -/
  | brynScrap (m key : Nat)
  /-- R634: SYSKEY_LOAD into slot ARG. -/
  | brynSyskeyLoad (m key arg : Nat)
  /-- R634: the command in progress completes; `fails` where OTP programming fails to verify. -/
  | brynCmdDone (fails : Bool)
  /-- R672: master `m` sets or clears CORE_DBG.HALT_REQ of core `n`. -/
  | coreHaltReq (m n : Nat) (halt : Bool)
  /-- R672: master `m` writes CORE_DBG.STEP = 1 of core `n`. -/
  | coreStep (m n : Nat)
  /-- R789: the bus is free for a voltage command that waits. -/
  | pmbVoltageCmd 
  /-- R791: master `m` writes `v` to PMB_XFER with GO = 1. -/
  | pmbXferGo (m v : Nat)
  /-- R790: the transfer on the bus ends: 0 done, 1 no acknowledgement, 3 PEC error; `data` is what was read. -/
  | pmbXferDone (result data : Nat)
  /-- R790: SCL has been held low for 25 ms. -/
  | pmbSclTimeout 
  /-- R793: PMB_ALERT_N goes low or high. -/
  | pmbAlert (low : Bool)
  /-- R805: ball GPIO `n` goes to `level`. -/
  | gpioBallEvent (n : Nat) (level : Bool)
  /-- R805: master `m` writes `v` to GPIO_SET. -/
  | gpioSet (m v : Nat)
  /-- R805: master `m` writes `v` to GPIO_CLR. -/
  | gpioClr (m v : Nat)
  /-- R806: master `m` writes `v` to SPI_CMD with GO = 1. -/
  | spiCmdGo (m v : Nat)
  /-- R806: the SPI command in progress completes; `data` is what was read. -/
  | spiCmdDone (data : List Byte)
  /-- R807: master `m` writes `v` to UART_TX. -/
  | uartTxWrite (m v : Nat)
  /-- R807: the character in transmission has been sent. -/
  | uartCharSent 
  /-- R807: character `c` is received; `err` holds BREAK, PARITY and FRAME in bits 0 to 2. -/
  | uartCharRx (c err : Nat)
  /-- R807: master `m` reads UART_RX. -/
  | uartRxPop (m : Nat)
  /-- R803: the debug port reads IDCODE. -/
  | tapIdcode 
  /-- R816: the debug port reads STATUS. -/
  | tapStatus 
  /-- R817: Update-DR of BRYNBOX with INDEX `j`. -/
  | tapBrynbox (j : Nat) (write : Bool) (v : Nat)
  /-- R817: Update-DR of MEMAP: one 32-bit access as master 19. -/
  | tapMemap (a : Nat) (write : Bool) (v : Nat)
  /-- R803: EXTEST captures the balls and drives the cells. -/
  | tapExtest (balls cells : List Bool)
  /-- R803: SAMPLE/PRELOAD. -/
  | tapSamplePreload (balls cells : List Bool)
  /-- R803: HIGHZ. -/
  | tapHighz 
  /-- R803: CLAMP. -/
  | tapClamp 
  /-- R816: BYPASS, or an undefined instruction. -/
  | tapBypass 
  /-- R810: the grace time of a fatal report ends. -/
  | fatalGraceEnd 
  /-- R815: master `m` writes DIAG_SNAP.TRIGGER = 1. -/
  | diagSnapTrigger (m : Nat)
  /-- R815: master `m` writes DIAG_SNAP.RELEASE = 1. -/
  | diagSnapRelease (m : Nat)
  /-- R815: HOLD_MS has passed since the snapshot started. -/
  | snapHoldExpire 
  /-- R812: master `m` writes `v` to DIAG_LOG_CLR. -/
  | diagLogClr (m v : Nat)
  /-- R92: PWR_GOOD goes low, or these supply monitors (0 VDD_CORE, 1 VDD_SRAM, 2 VIO18) assert. -/
  | powerOnReset (pwrLow : Bool) (monitors : List Nat)
  /-- R783: supply monitor `n` releases. -/
  | supplyMonitorRelease (n : Nat)
  /-- R92: RESET_N has been low for 1 µs. -/
  | resetBall 
  /-- R786: PWR_GOOD and RESET_N are both high. -/
  | resetInputsHigh 
  /-- R92: master `m` writes SYS_RESET_CTRL with ACTION 0b01 and KEY `key`. -/
  | swResetWarm (m key : Nat)
  /-- R92: master `m` writes SYS_RESET_CTRL with ACTION 0b10 and KEY `key`. -/
  | swResetCold (m key : Nat)
  /-- R96: the internal reset asserts for a warm reset. -/
  | warmResetAssert 
  /-- R822: the internal reset releases; BOOT_MODE, EP_STRAP and EP_WIDTH are sampled; `otpFault` where the OTP copies disagree or the PUF fails (R616). -/
  | internalResetRelease (boot : Nat) (ep : Bool) (width : Nat) (otpFault : Bool)
  /-- R92: the sensor reaches 160 °C. -/
  | thermalTrip 
  /-- R822: the sensor reads 140 °C or less. -/
  | thermalRecover 
  /-- R92: a reset request on the debug port. -/
  | debugResetRequest 
  /-- R100: PERST_N is low. -/
  | pcieFundamentalReset 
  /-- R112: master `m` writes `v` to SYS_PREP_START. -/
  | prepStart (m v : Nat)
  /-- R109: the preparation of unit `u` ends. -/
  | preparationDone (u : Nat)
  /-- R110: the preparation of unit `u` has not ended within its cold maximum. -/
  | preparationTimeout (u : Nat)
  /-- R114: the reference has been absent for 2 ms after reset release. -/
  | referenceAbsentAtReset 
  /-- R114: the reference appears after its absence at start. -/
  | referenceAppear 
  /-- R119: RESET_N and PERST_N are released and PCIe link training starts. -/
  | pcieTrainingStart 
  /-- R623: Bryn ends verifying an image; from flash `image` is what it has read, none where the header cannot be read. -/
  | bootImageVerified (image : Option (List Byte))
  /-- R628: master `m` writes `v` to BRYN_RECOV. -/
  | brynRecovGo (m v : Nat)
  /-- R628: the last byte of an image has arrived over the UART. -/
  | uartImageArrived (image : List Byte)
  /-- R107: the quick calibration ends at junction temperature `temp`. -/
  | quickCalDone (temp : Int)
  /-- R120: master `m` writes `v` to SYS_WDOG_KICK. -/
  | wdogKick (m v : Nat)
  /-- R120: half of TIMEOUT has passed since the last kick. -/
  | wdogHalfTimeout 
  /-- R121: TIMEOUT has passed since the last kick. -/
  | wdogExpire 
  /-- R123: master `m` writes `v` to SYS_SHUTDOWN. -/
  | shutdownStart (m v : Nat)
  /-- R123: the phase in progress ends. -/
  | shutdownPhaseEnd 
  /-- R123: GRACE ms have passed since phase 3 started. -/
  | shutdownGraceEnd 
  /-- R123: 10 ms have passed since phase 4 started. -/
  | shutdownCoreTimeout 
  /-- R123: core `n` executes the halt instruction. -/
  | coreHalt (n : Nat)
  deriving DecidableEq, Repr

end Sys2Proof
end

