-- ==== Sys2Proof/Config.lean ====
section
/-! DEFINITION. What the spec leaves open: constants without a body, of which no proof can know a value. -/

namespace Sys2Proof

/-- A fresh open value, by the number of values drawn before it. -/
opaque Config.freeValue : Nat → Nat

/-- A value written at manufacture: factory records and per-part figures, by item. -/
opaque Config.factory : Nat → Nat

/-- What the body of a MEMBER record says (R735), whose layout is open: WARDEN, the node ID, and the CONVOY_MAX code. -/
opaque Config.memberWarden : List Byte → Bool
opaque Config.memberNode : List Byte → Nat
opaque Config.memberMax : List Byte → Nat

/-- Ed25519 and ML-DSA-65 (R622): whether a signature over a message verifies under a public key. -/
opaque Config.ed25519Verify : List Byte → List Byte → List Byte → Bool
opaque Config.mlDsaVerify : List Byte → List Byte → List Byte → Bool

/-- The key hash in the boot ROM (R622). -/
opaque Config.romKeyHash : List Byte

/-- The identity keys of a lifecycle class (R619): both public keys, and both signatures over a message. -/
opaque Config.identityPublic : Nat → List Byte
opaque Config.identitySign : Nat → Nat → List Byte → List Byte

/-- The fixed keys that Bryn derives (R619, R620): by slot, lifecycle class and owner set. -/
opaque Config.fixedKey : Nat → Nat → Nat → List Byte

/-- The bit of TRIG_AC and DELIV_AC that stands for the access category of a user priority (R364). -/
opaque Config.acBit : Nat → Nat

/-- The ARG of OTP_WRITE that names the boot configuration (R633). -/
opaque Config.bootCfgArg : Nat

end Sys2Proof
end

