-- ==== Sys2Proof/Machine/State.lean ====
section
/-! DEFINITION. The state of the device as plain data: the register fields, the state that no register shows, memory,
and the commands that wait. `State.reset` is the device right after reset. -/

namespace Sys2Proof.Machine

open Sys2Proof

/-- One home of a register field: the address of its register (page × 0x1000 + offset; for a regular array the
address of element 0), the lowest bit of the field, and the element or window index. -/
structure Key where
  reg : Nat
  lo : Nat
  idx : Nat
  deriving DecidableEq, Repr

/-- Every register field of the device. A field that is not listed holds its reset value. -/
abbrev RegStore := List (Key × Nat)

/-- The variants of the family (R1, R2). -/
inductive Variant where
  | nv9700 | nv9740 | nv9720
  deriving DecidableEq, Repr

/-- One detected error as a block reports it to DIAG (R46, R809). -/
structure ErrRec where
  page : Nat
  code : Nat
  sev : Nat
  kind : Nat
  master : Nat
  addr : Nat
  deriving DecidableEq, Repr

/-- What the device sends or shows outside, or does to a part outside, in the order it happened. The machine never
reads it back. -/
inductive Out where
  /-- an MSI-X message: vector, address, data (R53) -/
  | msix (vector addr data : Nat)
  /-- a PAUSE (priority 8) or PFC frame of port `port` with its quanta; 0 quanta is XON (R723) -/
  | pauseFrame (port prio quanta : Nat)
  /-- a write of the PCIe host's memory by the ring engine (R196, R209) -/
  | hostWrite (addr : Nat) (data : Bytes)
  /-- a PPDU of radio `radio`: each MPDU as its frame, sequence number, PN, and whether its FCS is inverted (R139) -/
  | ppdu (radio : Nat) (mpdus : List (Bytes × Nat × Option Nat × Bool))
  /-- a beacon of link `link`: AP Removal Timers by link (R266), the advertised B–C mode and the BSS Parameters Change
  Count (R273), the AIDs of its TIMs by BSS (R364), and restricted TWT periods as start slot, LEN and TIDS (R329) -/
  | beacon (link : Nat) (removal : List (Nat × Nat)) (bc count : Nat) (tim : List (Nat × Nat))
      (rtwt : List (Nat × Nat × Nat))
  /-- a trigger frame of link `link` by the device's own timer: BSRP (R325) -/
  | bsrp (link : Nat)
  /-- a BlockAckReq of radio `radio` to station `entry` for a TID with its starting sequence number (R370) -/
  | blockAckReq (radio entry tid sn : Nat)
  /-- an Outrider frame to entry `nbr`: centre in kHz, mode code, power in 0.25 dBm, nanoseconds from the start of its
  timeslot where it goes out in a cell, the PSDU without its FCS, and, in the long-range mode, its symbols' bits (R391) -/
  | outrFrame (nbr khz mode : Nat) (power : Int) (offset : Option Int) (psdu : Bytes) (symbols : List Bool)
  /-- wake-up frames to entry `nbr`: PAN ID, short address, and the Rendezvous Time in µs of each frame, from its end to the
  data frame (R427) -/
  | outrWake (nbr pan short : Nat) (times : List Nat)
  /-- an Outrider acknowledgement: its sequence number, whether it is an Enhanced Acknowledgement and, in a cell, its time
  correction in µs (R410, R414) -/
  | outrAck (seq : Option Nat) (enhanced : Bool) (correction : Option Int)
  /-- an Ethernet frame with its FCS on the wire of port `port` (R721) -/
  | ethFrame (port : Nat) (frame : Bytes)
  /-- a CAPX frame on lane `lane` (R713) -/
  | capxFrame (lane : Nat) (frame : Bytes)
  /-- an 802.3br verify request of port `port` (R724) -/
  | verify (port : Nat)
  /-- one transmitted PRBS bit of lane `lane` inverted (R720) -/
  | prbsInvert (lane : Nat)
  /-- an outbound PCIe request: OP, address, byte enables, write data (R727) -/
  | pcieRequest (op addr be data : Nat)
  /-- a PCIe completion to the host: whether it is answered, and its data (R727) -/
  | pcieReply (ok : Bool) (data : Bytes)
  /-- a transfer on the PMBus to device `addr`: bytes written, and the number of bytes then read (R788–R791) -/
  | pmbus (addr : Nat) (written : List Nat) (reads : Nat) (pec : Bool)
  /-- a command on the SPI balls: SPI_CMD, SPI_ADDR and the data written (R806) -/
  | spi (cmd addr : Nat) (data : Bytes)
  /-- a character sent on UART_TX (R807) -/
  | uart (c : Nat)
  /-- what the debug port shifts out: a data register of `bits` bits (R816) -/
  | tdo (bits value : Nat)
  deriving DecidableEq, Repr

/-- An event post that waits in the event-post queue: a task, an event flag, and an item, if any. -/
structure Post where
  task : Nat
  flag : Nat
  item : Option Manifest
  deriving DecidableEq, Repr

/-- State shared by all pages: the rules of "Register Pages, Feature Negotiation and Shared Rules" and of DIAG. -/
structure Shared where
  /-- features each block took at its last entry to Starting, by first page (R62); bit 32(w−1)+b for word w bit b -/
  taken : Tab Nat := []
  /-- writes of a _LO register held for the same master's next write of its _HI partner (R78) -/
  heldLo : List ((Nat × Nat) × Nat) := []
  /-- _HI values latched by a read of _LO, by master and register (R78, R526) -/
  latched : List ((Nat × Nat) × Nat) := []
  /-- counter events accumulated while a block holds its statistics (R71, R815) -/
  frozenCounts : RegStore := []
  /-- errors accumulated while a block holds its error capture, oldest first (R71, R815) -/
  frozenErrs : List ErrRec := []
  /-- interrupt lines whose rising edge the router holds for a full event-post queue (R52) -/
  heldLines : List Nat := []
  /-- the Drover's event-post queue, oldest first (R52, R645) -/
  posts : List Post := []
  /-- the DRV_FEAT1–3 words present at the write of SYSFEAT_COMMIT while a commit is in progress (R59) -/
  commit : Option (List Nat) := none
  /-- DIAG_FATAL_CFG.ACTION as it stood at the fatal report that started the grace (R812) -/
  graceAction : Nat := 0
  /-- PACE: last good VNOW (R89) and the tick at which the margin for a step down began to hold (R87) -/
  paceGood : Nat := 0x50
  paceHold : Option Nat := none
  /-- the result of the last read on the fabric, as the reading master receives it, and whether the access was blocked -/
  readData : Bytes := []
  readPoison : Bool := false
  blocked : Bool := false
  deriving DecidableEq, Repr

/-- Reset, bring-up and shut-down beyond the SYS registers. -/
structure Bringup where
  /-- the internal reset is asserted (R822) -/
  asserted : Bool := false
  /-- a warm reset has been requested and not yet asserted (R96): every input is closed -/
  warmPending : Bool := false
  /-- cause bits of the requests that are pending (R93) -/
  causes : Nat := 0
  /-- reset inputs at their balls (R92, R119) -/
  pwrGood : Bool := true
  resetN : Bool := true
  perstN : Bool := true
  /-- supply monitors that are asserted (R783): 0 VDD_CORE, 1 VDD_SRAM, 2 VIO18 -/
  monitors : List Nat := []
  /-- a thermal trip holds the internal reset (R822) -/
  hot : Bool := false
  /-- both reset inputs are high and the 100 µs to release are counted (R786) -/
  counting : Bool := false
  /-- the 40 MHz reference is present (R114) -/
  refPresent : Bool := true
  /-- strap balls as sampled at reset release (R786) -/
  bootMode : Nat := 0
  epStrap : Bool := false
  epWidth : Nat := 0
  /-- OTP faults in a row, and Bryn held at VERIFY by them (R616) -/
  otpFaults : Nat := 0
  brynHeld : Bool := false
  /-- tick of the reset release (SYS_BOOT_TIME counts from it) -/
  releaseTick : Nat := 0
  /-- a unit prepares from results kept over a warm reset (R109) -/
  warmPrep : Bool := false
  /-- Radio A and ETH0 are enabled in the reduced form (R106) -/
  reducedA : Bool := false
  reducedEth0 : Bool := false
  /-- the quick calibration of chain 0 is running (R107) -/
  quickCal : Bool := false
  /-- PCIe link training has been started (R119) -/
  pcieTraining : Bool := false
  /-- Bryn's grants to the PCIe host are in force (R628) -/
  recovOpen : Bool := false
  /-- the primary image has failed and the backup image is read (R117) -/
  backup : Bool := false
  /-- the LEN of the host's write of BRYN_RECOV.GO while the image in the Serai is being verified (R116) -/
  recovGo : Option Nat := none
  /-- tick of the last watchdog kick, and whether half of TIMEOUT has passed since (R120) -/
  wdogTick : Nat := 0
  /-- shut-down: MODE, GRACE and the pages already drained (R123–R125) -/
  stopMode : Nat := 0
  stopGrace : Nat := 0
  drained : List Nat := []
  /-- phase 1 has closed the inbound sides (R823), and phase 3's grace has ended -/
  inboundClosed : Bool := false
  graceOver : Bool := false
  /-- cores that have executed the halt instruction (R123) -/
  halted : List Nat := []
  coreDrain : Bool := false
  /-- the cells that hold the boot image (R118) -/
  bootCells : List Nat := []
  /-- PWR_OFF_REQ is asserted (R124) -/
  pwrOff : Bool := false
  deriving DecidableEq, Repr

/-- A caravan (R129–R131): the chain of its cells in order, head first, its reference count, the head-cell headroom H in
force at its admission, and the first slot and length of its spilled tail, if any (R160). -/
structure Caravan where
  cells : List Nat
  refs : Nat := 1
  room : Nat := 64
  spill : Option (Nat × Nat) := none
  deriving DecidableEq, Repr

/-- The applied values of an owner class (R152). -/
structure ClassCfg where
  reserve : Nat
  limit : Nat
  alpha : Nat
  headroom : Nat
  warn : Nat
  deriving DecidableEq, Repr

/-- A transfer that waits at a Serai port for the next microsecond of the time base (R135). -/
structure PortJob where
  port : Nat
  master : Nat
  write : Bool
  off : Nat
  data : Bytes
  mask : List Bool
  errs : List SymErr
  errs2 : List SymErr
  deriving DecidableEq, Repr

/-- The Serai beyond its registers: the link table (R130), caravans, quarantine, applied class values, port counts,
scrubber and spill. -/
structure Serai where
  /-- cells in use and the class each is charged to -/
  use : Tab Nat := []
  /-- caravans by head cell -/
  caravans : Tab Caravan := []
  /-- poisoned words, numbered cell × 8 + word -/
  poison : List Nat := []
  quar : List Nat := []
  live : List ClassCfg :=
    [⟨8192, 65536, 4, 0, 1024⟩, ⟨8192, 65536, 4, 2048, 1024⟩, ⟨2048, 32768, 4, 0, 256⟩, ⟨4096, 32768, 4, 0, 256⟩,
     ⟨2048, 16384, 4, 0, 256⟩, ⟨256, 1024, 4, 0, 64⟩, ⟨1024, 4096, 4, 0, 128⟩, ⟨2048, 16384, 4, 0, 256⟩]
  /-- classes that hold Throttle and Refuse until their leaving conditions (R150) -/
  throttled : List Nat := []
  refusing : List Nat := []
  /-- head cell of the caravan that the last CELL_ADMIT granted, none where it was refused -/
  admitted : Option Nat := none
  /-- microsecond of the time base to which the port counts belong, and transfers completed in it by port -/
  portUs : Nat := 0
  portUsed : Tab Nat := []
  portWait : List PortJob := []
  /-- the next word the scrubber reads -/
  scrubPos : Nat := 0
  /-- first slot of the free chain of the spill region -/
  spillFree : Nat := 0
  /-- slot chains given back, by first slot and length, that the engine has not yet linked into the free chain -/
  slotFrees : List (Nat × Nat) := []
  deriving DecidableEq, Repr

/-- A TX descriptor or entry that the ring engine has taken and not yet completed: its index, the caravan of its frame,
whether it waits for the egress stamp, and the completion once known: STATUS and stamp (R199). -/
structure TxWait where
  idx : Nat
  head : Nat
  tsReq : Bool
  result : Option (Nat × Nat × Nat)
  /-- its completion has been written -/
  done : Bool := false
  deriving DecidableEq, Repr

/-- A host ring beyond its registers. -/
structure Ring where
  /-- the entry the engine takes next -/
  next : Nat := 0
  waits : List TxWait := []
  /-- an enqueue that the engine retries (R197) -/
  retry : Option Manifest := none
  /-- the index of the entry that is retried -/
  retryIdx : Nat := 0
  /-- cells claimed for a ring in the Serai (R193) -/
  claimed : List Nat := []
  claiming : Bool := false
  /-- tick of the first event counted in PENDING (R206) -/
  firstEvent : Option Nat := none
  deriving DecidableEq, Repr

/-- The manifests on the queues, and those a flush or disable still removes (R185), by queue number. -/
structure Queues where
  lists : Tab (List Manifest) := []
  removing : Tab (List Manifest) := []
  rings : Tab Ring := []
  /-- manifests handed to the Waystation and not yet taken, oldest first: those of edges and engines, and those that
  Drover tasks return, which go first (R169) -/
  toWay : List Manifest := []
  toWayTask : List Manifest := []
  /-- manifests handed to the cipher engine by the Waystation, each with the VLAN of a decapsulated frame -/
  toCiph : List (Manifest × Nat) := []
  /-- nanoseconds of the time base at which a queue last came to hold a manifest (R492) -/
  filled : Tab Nat := []
  /-- tags to emit at an Ethernet egress, by head cell: VLAN, PCP and mask of the ports (R466) -/
  tags : Tab (Nat × Nat × Nat) := []
  deriving DecidableEq, Repr

/-- A channel (R216): centre and primary channel numbers, width code, and punctured 20 MHz subchannels. -/
structure Chan where
  centre : Nat
  primary : Nat
  width : Nat
  punct : Nat
  deriving DecidableEq, Repr

/-- What a radio calibrates (R224, R227): for a preparation, for segment `s`, or the quick calibration. -/
inductive CalKind where
  | prep | segment (s : Nat) | quick
  deriving DecidableEq, Repr

/-- A radar pulse (R257): width in 0.1 µs, power, and stamp. -/
structure RadarPulse where
  width : Nat
  power : Nat
  ns32 : Nat
  deriving DecidableEq, Repr

/-- A radio beyond its registers: the channel in use while it is not Off, an accepted apply and a retune in progress
(R218, R219), the calibration in progress and the temperature of the last one by segment, the pieces of R229 to rerun as
chain and step, the FIR bank that FIR_COEF does not address (taps by number), the mask in force and the one that waits
(R248), and the radar FIFO. -/
structure Radio where
  use : Option Chan := none
  apply : Option Chan := none
  retune : Option Chan := none
  cal : Option CalKind := none
  calTemp : Tab Int := []
  recal : List (Nat × Nat) := []
  firBank : Tab Nat := [(31, 0x7FFF)]
  mask : List (Nat × Nat) := []
  maskNext : Option (List (Nat × Nat)) := none
  radar : List RadarPulse := []
  deriving DecidableEq, Repr

/-- The multi-link unit beyond its registers: the instant in ticks from which row 9 of R270 holds, changes of the B–C mode
not yet advertised by link, the BSS Parameters Change Count by link (R273), and the TXOPs begun by link since medium
synchronisation started (R278). -/
structure MldUnit where
  hold : Option Nat := none
  changes : Tab Nat := []
  bpcc : Tab Nat := []
  txops : Tab Nat := []
  deriving DecidableEq, Repr

/-- The canceller beyond its registers: whether training is valid for the present channels, and the run in progress:
its start in ticks, and whether it is a preparation's (R284). -/
structure StrcUnit where
  trained : Bool := false
  run : Option (Nat × Bool) := none
  deriving DecidableEq, Repr

/-- An entry of a reservation table: its four words (R302) and its home link, 3 for none (R312). -/
structure AirEnt where
  words : List Nat
  home : Nat := 3
  deriving DecidableEq, Repr

/-- A reservation table: valid entries by index, and groups by number as the station entries of their members. -/
structure AirTable where
  ents : Tab AirEnt := []
  groups : Tab (List Nat) := []
  deriving DecidableEq, Repr

/-- A placed occurrence (R307): its entry, link, start slot in the period, LEN, DCLASS, DIR, and the 26-tone units of its
RU as a mask. -/
structure AirOcc where
  entry : Nat
  link : Nat
  start : Nat
  len : Nat
  dclass : Nat
  dir : Nat
  units : Nat
  deriving DecidableEq, Repr

/-- A block in progress (R307): its link, the number of its first slot counted from B, LEN, occurrences, whether it is
released (R319), and whether its exchange has begun (R316). -/
structure AirBlock where
  link : Nat
  slot : Nat
  len : Nat
  occs : List AirOcc
  released : Bool := false
  begun : Bool := false
  deriving DecidableEq, Repr

/-- A TWT service period in progress (R330): its entry, link, the number of the slot after its last, and whether a frame
has come from its station. -/
structure AirSp where
  entry : Nat
  link : Nat
  stop : Nat
  heard : Bool
  deriving DecidableEq, Repr

/-- An occurrence of a neighbour's requested plan (R765). -/
structure NbrOcc where
  link : Nat
  width : Nat
  centre : Nat
  start : Nat
  len : Nat
  dclass : Nat
  subs : Nat
  deriving DecidableEq, Repr

/-- What is kept of a neighbour member: by link the RSSI and tick of its latest beacon (R339), its plans by period, its
latest plan, plans missing in a row (R342), and whether its grid differs (R341). -/
structure AirNbr where
  heard : Tab (Nat × Nat) := []
  plans : Tab (List NbrOcc) := []
  latest : Option (List NbrOcc) := none
  missing : Nat := 0
  mismatch : Bool := false
  deriving DecidableEq, Repr

/-- The air scheduler beyond its registers: the active table, the accepted one that waits and the
period at which it takes effect, requested and resolved plans
by period, the first period served, none while AIR is not Active, the periods below which all are formed and resolved, the
number of the slot started last, blocks and service periods in progress, and neighbours by member. -/
structure AirUnit where
  table : AirTable := {}
  next : Option AirTable := none
  effect : Nat := 0
  asked : Tab (List AirOcc) := []
  plans : Tab (List AirOcc) := []
  first : Option Nat := none
  formed : Nat := 0
  resolved : Nat := 0
  last : Option Nat := none
  blocks : List AirBlock := []
  sps : List AirSp := []
  nbrs : Tab AirNbr := []
  deriving DecidableEq, Repr

/-- A received MPDU held by a reorder scoreboard: its sequence number, the manifests of its MSDUs, the tick since which it
is held (R373, R375), and its PN, if it was protected (R602). -/
structure HeldMpdu where
  sn : Nat
  xs : List Manifest
  since : Nat
  pn : Option Nat := none
  deriving DecidableEq, Repr

/-- A sent MPDU that awaits its acknowledgement: TID, sequence number, manifest, times sent, the tick of its first dequeue
(R368, R370), and its key slot, PN and generation, where it is protected (R601). -/
structure OutMpdu where
  tid : Nat
  sn : Nat
  x : Manifest
  tries : Nat
  since : Nat
  key : Option (Nat × Nat × Nat) := none
  deriving DecidableEq, Repr

/-- A station beyond its registers: the state recorded at FREEZE, held MPDUs by TID, MPDUs that await acknowledgement,
TIDs whose next A-MPDU a BlockAckReq precedes, the duplicate cache by TID (R377), the ticks of the latest frame by link,
what has been reported of it, and the link of the latest exchange of an EMLSR station (R279). -/
structure Station where
  recorded : Nat := 0
  held : Tab (List HeldMpdu) := []
  outst : List OutMpdu := []
  bars : List Nat := []
  dup : Tab (Nat × Nat) := []
  last : Tab Nat := []
  failSaid : Bool := false
  agedSaid : Bool := false
  /-- a FREEZE or a removal is in progress -/
  stopping : Bool := false
  removing : Bool := false
  emlLink : Option Nat := none
  /-- MSDUs that PS-Polls have released, by link (R364) -/
  polls : Tab Nat := []
  /-- unscheduled service periods by link: the MSDUs that remain, none where all are delivered (R364) -/
  usp : Tab (Option Nat) := []
  deriving DecidableEq, Repr

/-- The STA block beyond its registers: stations by entry, the sequence counters of the BSSs (R368), and events as kind and
entry (R381). -/
structure StaUnit where
  stations : Tab Station := []
  bssSn : Tab Nat := []
  evts : List (Nat × Nat) := []
  deriving DecidableEq, Repr

/-- A neighbour beyond its registers: the values in force since CREATE or UPDATE (R413), whether DRIFT is valid, t_sync in
2^−16 ns, whether a step has come since (R411), the tick of the latest frame, whether LOST has been said (R420), and the
tick of the latest extended listen (R424). -/
structure OutrNbr where
  mode : Nat := 0
  profile : Nat := 0
  short : Nat := 0xFFFE
  ext : Nat := 0
  advChan : Nat := 0
  period : Nat := 0
  driftValid : Bool := false
  sync : Option Nat := none
  stepped : Bool := false
  heard : Nat := 0
  lostSaid : Bool := false
  listened : Option Nat := none
  deriving DecidableEq, Repr

/-- A cell in progress (R403–R405): its link, the ASN of its first timeslot, SPAN, neighbour, profile, channel index,
whether it sends, is shared, and expects a frame, the total nanoseconds at which its SPAN ends, and whether its neighbour has
been heard in it. -/
structure OutrCell where
  link : Nat
  asn : Nat
  span : Nat
  nbr : Nat
  profile : Nat
  chan : Nat
  tx : Bool
  shared : Bool
  expect : Bool
  ends : Nat
  heard : Bool := false
  deriving DecidableEq, Repr

/-- A frame that Outrider has begun to send: its neighbour, its sequence number unless suppressed, times sent, whether an
acknowledgement is awaited, and the nominal instant of an acknowledgement's start, if the frame went out in a cell, in
2^−16 ns (R419, R422). -/
structure OutrHeld where
  x : Manifest
  nbr : Nat
  seq : Option Nat
  tries : Nat
  waiting : Bool
  nominal : Option Nat
  deriving DecidableEq, Repr

/-- An entry of the seen-cache (R430): originator, sequence, the tick of its entry, and the heard count. -/
structure FloodSeen where
  orig : Nat
  seq : Nat
  since : Nat
  heard : Nat
  deriving DecidableEq, Repr

/-- Outrider beyond its registers: the latest ASN started, the cell in progress, neighbours, frames begun and not done,
the seen-cache, oldest first, relays on the broadcast queue by head cell (R431), the neighbour of an extended listen with
the tick of its end, profiles reported as invalid (R386), and events as kind and entry (R434). -/
structure OutrUnit where
  last : Option Nat := none
  cell : Option OutrCell := none
  nbrs : Tab OutrNbr := []
  held : List OutrHeld := []
  seen : List FloodSeen := []
  relays : Tab (Nat × Nat) := []
  listen : Option (Nat × Nat) := none
  badSaid : List Nat := []
  evts : List (Nat × Nat) := []
  deriving DecidableEq, Repr


/-- What the Waystation keeps of a manifest between stages: the reason at which it continues (R468), its VLAN, the PCP of
its removed tag, whether it is routed, its destination (R460), the VLAN of a tag that a next hop emits, the tunnel entry
that encapsulates it, what an ACL rule set, whether stage 1 has settled its VLAN, and whether it goes on as a non-IP
frame (R468). -/
structure WayCtx where
  x : Manifest
  cont : Nat := 0
  vlan : Nat := 0
  pcp : Option Nat := none
  routed : Bool := false
  dest : Nat := 0
  tag : Option Nat := none
  tunnel : Option Bytes := none
  dscp : Option Nat := none
  mirror : Option Nat := none
  seen : Bool := false
  plain : Bool := false
  deriving DecidableEq, Repr

/-- A manifest that waits inside the pipeline: for a table line, or, with no line, behind an earlier one of its FLOW. -/
structure WayWait where
  ctx : WayCtx
  stage : Nat
  line : Option Nat
  deriving DecidableEq, Repr

/-- A manifest that has raised a reason at a stage and is not yet posted (R469). -/
structure WayExc where
  ctx : WayCtx
  stage : Nat
  deriving DecidableEq, Repr

/-- An entry of the bridge table (R452). -/
structure BrEntry where
  vlan : Nat
  mac : Nat
  dest : Nat
  static : Bool
  used : Nat
  deriving DecidableEq, Repr

/-- A policer in force (R450): its count in 10^−6 bytes, and the instant of its last update, none after a backward
step. -/
structure Policer where
  en : Bool
  rate : Nat
  burst : Nat
  tokens : Nat
  last : Option Nat
  deriving DecidableEq, Repr

/-- An ACL rule in force (R463). -/
structure AclRule where
  key : List Nat
  mask : List Nat
  act0 : Nat
  act1 : Nat
  deriving DecidableEq, Repr

/-- The Waystation beyond its registers. -/
structure WayUnit where
  /-- manifests posted and not yet reported back, by FLOW (R470) -/
  flows : Tab Nat := []
  /-- the table cache, by line address (R472) -/
  cache : Tab Bytes := []
  /-- the hot store of connection entries, by index (R457) -/
  hot : Tab Bytes := []
  /-- the bridge table, by bucket -/
  bridge : Tab (List BrEntry) := []
  parked : List WayWait := []
  excs : List WayExc := []
  /-- what is kept of posted manifests, by head cell -/
  saved : Tab WayCtx := []
  expiry : List Nat := []
  policers : Tab Policer := []
  acl : Tab AclRule := []
  /-- the entry that the connection scan visits next -/
  scanPos : Nat := 0
  deriving DecidableEq, Repr


/-- A shaper in force (R488–R493): rates in kb/s, sizes in bytes, its counts C and P, or the CBS credit in `c`, in units
of 10^−6 / 8 bytes, the instant of its last evaluation, none after a backward step, and, of a CBS shaper, the instant at
which the frame in transmission ends. -/
structure Shaper where
  cbsMode : Bool
  drop : Bool
  cir : Nat
  pir : Nat
  cbs : Nat
  pbs : Nat
  c : Int
  p : Int
  last : Option Nat
  txEnd : Nat
  deriving DecidableEq, Repr

/-- An entry of a gate list (R494). -/
structure GateEnt where
  interval : Nat
  op : Nat
  states : Nat
  deriving DecidableEq, Repr

/-- A gate list that runs from `start`, in nanoseconds of the time base (R495). -/
structure GateRun where
  start : Nat
  cycle : Nat
  ents : List GateEnt
  deriving DecidableEq, Repr

/-- A gate list beyond its registers: the oper list, and the start S of a pending one (R497). -/
structure GateList where
  run : Option GateRun := none
  pend : Option Nat := none
  deriving DecidableEq, Repr

/-- The traffic manager beyond its registers: shapers in force, the children of DRR nodes whose turn has begun, the
current child of each node (R484), manifests that decisions have handed to each output, and queues whose head's launch
instant has arrived. -/
structure TmUnit where
  shapers : Tab Shaper := []
  inTurn : List Nat := []
  cur : Tab Nat := []
  handed : Tab (List Manifest) := []
  ripe : List Nat := []
  gates : Tab GateList := []
  deriving DecidableEq, Repr

/-- The time base (R521): its count in units of 2^−48 ns, the residue of the increments below that in units of
2^−48 ns / 10^9, the ticks elapsed since cold reset (R821), the remainder of a slew in the residue's units (R541), and
the integrator of the servo in 2^−8 ppb (R536). -/
structure TimeBase where
  count : Nat := 0
  residue : Nat := 0
  elapsed : Nat := 0
  slew : Option Int := none
  integ : Int := 0
  deriving DecidableEq, Repr

/-- A stamp of a FIFO in full form, in 2^−16 ns: direction (0 received, 1 sent), TYPE, SEQ (R529). -/
structure PtpStamp where
  dir : Nat
  type : Nat
  seq : Nat
  at_ : Nat
  deriving DecidableEq, Repr

/-- A PTP port of the servo: mean path delay in 2^−16 ns, the run of a path step (R534), and the latest offset with the
tick at which it was taken (R535). -/
structure TimePort where
  mean : Int := 0
  run : List Int := []
  offset : Option (Int × Nat) := none
  fifo : List PtpStamp := []
  deriving DecidableEq, Repr

/-- An event output: the values taken at its enable, the indices of its next instant and of its first, and its level (R548). -/
structure EvtOut where
  periodic : Bool := false
  pol : Bool := false
  comp : Nat := 0
  start : Nat := 0
  period : Nat := 0
  width : Nat := 0
  next : Nat := 0
  first : Nat := 0
  high : Bool := false
  deriving DecidableEq, Repr

/-- The TIME block beyond its registers. -/
structure TimeUnit where
  ports : Tab TimePort := []
  /-- tick of the previous source offset, and source offsets in a row within LOCK_NS (R536) -/
  lastSource : Option Nat := none
  lockRun : Nat := 0
  /-- stamps of the capture inputs in full form, in 2^−16 ns (R547) -/
  caps : Tab (List Nat) := []
  /-- the level of PPS_OUT and the last second that has pulsed (R546) -/
  ppsHigh : Bool := false
  ppsLast : Option Nat := none
  evts : Tab EvtOut := []
  deriving DecidableEq, Repr

/-- A time of the RTC as its registers hold it, packed BCD (R560). -/
structure RtcTime where
  sec : Nat := 0
  min : Nat := 0
  hour : Nat := 0
  wday : Nat := 6
  date : Nat := 1
  month : Nat := 1
  century : Nat := 0x20
  year : Nat := 0
  deriving DecidableEq, Repr

/-- The backup domain beyond the registers of the RTC page: the time and sub-second count in the island, the snapshot with
the tick at which it was taken (R563), the holding registers once loaded (R564), an accepted apply (R565), the crystal, the
supply and VBAT's level in mV (R553, R559), seconds of the periodic wake (R574), the last second at which the alarm fired and
whether an apply has since gone back to or before it (R577), and whether the window in progress is spoilt (R570). -/
structure RtcUnit where
  now : RtcTime := {}
  sub : Nat := 0
  snap : Option (RtcTime × Nat × Nat) := none
  hold : Option RtcTime := none
  apply : Option RtcTime := none
  crystal : Bool := true
  onBattery : Bool := false
  vbat : Nat := 3000
  per : Nat := 0
  fired : Option RtcTime := none
  back : Bool := false
  spoilt : Bool := false
  deriving DecidableEq, Repr

/-- A context record beyond its registers (R592): the words in force, LAST_SECTOR, none when empty, and REPLAY_MAP, the
last 64 sequence numbers up to REPLAY_TOP, newest in bit 0. -/
structure CiphCtx where
  words : List Nat := []
  last : Option Nat := none
  map : Nat := 0
  deriving DecidableEq, Repr

/-- The pass of a manifest: the manifest, the VLAN of a decapsulated frame, whether it is opened, and the sequence number
and the inner packet of a frame whose ICV verifies. -/
structure CiphPass where
  x : Manifest
  vlan : Nat
  opening : Bool
  seq : Nat := 0
  inner : Bytes := []
  deriving DecidableEq, Repr

/-- A job that the engine has taken and not completed (R595, R606): its descriptor and where it lies, its context, the
slots bound with it, the status so far, the output, the caravan admitted for it, the PN drawn, the state to save without
its SAVE_SEQ, the last sector, and, of a manifest job, its pass. -/
structure CiphJob where
  at_ : Nat := 0
  master : Nat := 15
  desc : Bytes := []
  ctx : Nat := 0
  slots : List Nat := []
  status : Nat := 0
  out : Bytes := []
  outHead : Option Nat := none
  pn : Nat := 0
  save : Option Bytes := none
  sector : Option Nat := none
  pass : Option CiphPass := none
  deriving DecidableEq, Repr

/-- The cipher engine and key store beyond their registers: key material by slot, context records, and the jobs taken
by ring, oldest first. -/
structure CiphUnit where
  keys : Tab Bytes := []
  ctxs : Tab CiphCtx := []
  jobs : Tab (List CiphJob) := []
  deriving DecidableEq, Repr

/-- A measurement (R629, R638): KIND, SIGNER, ARB_INDEX, SVN, PAYLOAD_LEN and PAYLOAD_DIGEST of an image. -/
structure Measurement where
  kind : Nat
  signer : Nat
  arb : Nat
  svn : Nat
  len : Nat
  digest : Bytes
  deriving DecidableEq, Repr

/-- A command that Bryn carries out (R634): CMD, ARG, BRYN_CMD_DATA, its master, its input, its buffer address, and the
word of OTP that OTP_WRITE names. -/
structure BrynJob where
  cmd : Nat
  arg : Nat
  data : Nat
  master : Nat
  input : Bytes
  addr : Nat
  word : Nat
  deriving DecidableEq, Repr

/-- Bryn: OTP (R615) as the lifecycle state, 0 BLANK to 4 SCRAPPED, the counters' values, the owner sets' key hashes, which
are programmed and which revoked, the boot configuration's words and the owner data area's; then what a reset clears: the
measurements, the open challenge as eight words (R636), whether a token has opened the debug port (R635), the command in
progress, and whether an unlock's erasure is incomplete (R637). -/
structure BrynUnit where
  lc : Nat := 0
  arb : Tab Nat := []
  hashes : Tab Bytes := []
  programmed : Nat := 0
  revoked : Nat := 0
  bootCfg : Tab Nat := []
  owner : Tab Nat := []
  meas : List Measurement := []
  nonce : Option (List Nat) := none
  opened : Bool := false
  job : Option BrynJob := none
  wiping : Bool := false
  deriving DecidableEq, Repr

/-- An item of the Drover (R653): the manifest, its task and flag, and its atomic flow. -/
structure Item where
  x : Manifest
  task : Nat
  flag : Nat
  flow : Nat
  deriving DecidableEq, Repr

/-- A task beyond its registers: the values in force, its available items, oldest first, the item in service, and, while a
disposition is in progress, its CMD and the core that wrote it (R641, R655). -/
structure DrvTask where
  prio : Nat := 0
  affinity : Nat := 0
  all : Bool := false
  mask : Nat := 0
  items : List Item := []
  service : Option Item := none
  disposing : Option (Nat × Nat) := none
  deriving DecidableEq, Repr

/-- The Drover beyond its registers: tasks, ready lists by level, items that wait for their flow in post order, slots by
core, cores with a PREEMPT outstanding, the due instants of armed timers in nanoseconds, and the ledger: whether it writes,
its claimed cells and SEQ. -/
structure DrvUnit where
  tasks : Tab DrvTask := []
  ready : Tab (List Nat) := []
  parked : List Item := []
  slots : Tab (List Nat) := []
  preempts : List Nat := []
  timers : Tab Nat := []
  ledgerCells : List Nat := []
  ledgerSeq : Nat := 0
  deriving DecidableEq, Repr

/-- A request in a DRAM queue: for a read, the bytes that the access takes at its acceptance (R685). -/
structure DramReq where
  master : Nat
  write : Bool
  addr : Nat
  data : Bytes
  /-- the first part of its access -/
  first : Bool
  deriving DecidableEq, Repr

/-- A declared real-time burst (R687): its master, its lines by number, lines still to serve, and whether it is in
service. -/
structure RtBurst where
  master : Nat
  first : Nat
  lines : Nat
  left : Nat
  started : Bool
  deriving DecidableEq, Repr

/-- An entry of the DRAM error log (R695). -/
structure DramLog where
  kind : Nat
  addr : Nat
  deriving DecidableEq, Repr

/-- A sub-channel's queues (R685), whether its write queue drains (R686), and requests that a full queue holds off. -/
structure SubChan where
  reads : List DramReq := []
  writes : List DramReq := []
  stalled : List DramReq := []
  draining : Bool := false
  deriving DecidableEq, Repr

/-- A DRAM channel beyond its registers. -/
structure DramChan where
  sub0 : SubChan := {}
  sub1 : SubChan := {}
  bursts : List RtBurst := []
  /-- row-hammer tables by sub-channel and bank: rows and counts (R691) -/
  hammer : List ((Nat × Nat) × List (Nat × Nat)) := []
  log : List DramLog := []
  /-- INIT_PTR of each rank in lines (R684), and whether the init engine runs -/
  initPtr : Tab Nat := []
  initRun : Bool := false
  /-- the next line of the patrol scrubber -/
  scrubPos : Nat := 0
  /-- attempts in a row of a command that failed CA parity (R693) -/
  caFails : Nat := 0
  /-- the training helper in progress (R699) -/
  helper : Option Nat := none
  deriving DecidableEq, Repr

/-- The DRAM controllers: their channels, and the poisoned lines by physical address / 64 (R680). -/
structure DramUnit where
  chans : Tab DramChan := []
  poison : List Nat := []
  deriving DecidableEq, Repr

/-- An outbound access in progress (R727): the row's OP. -/
structure ObReq where
  op : Nat
  deriving DecidableEq, Repr

/-- The PCIe function beyond its registers: what configuration space holds of MSI-X (R725), and the outbound access that
waits for its completion. -/
structure Pcie where
  msixEnable : Bool := false
  msixFnMask : Bool := false
  ob : Option ObReq := none
  deriving DecidableEq, Repr

/-- A lane beyond its registers (R709–R717): the SPEED code of its rate, whether it has upshifted since its last enable,
whether the capability exchange runs, the SEQ and the fields of its latest CAPX frame, the partner's latest valid frame,
and whether one with ACK and its own SEQ in ECHO has come. The last three are the reduced link of R730, which the LANE0
page does not show. -/
structure Lane where
  speed : Nat := 0
  shifted : Bool := false
  exchange : Bool := false
  seq : Nat := 0
  sent : Option Bytes := none
  heard : Option Bytes := none
  acked : Bool := false
  rstate : Nat := 0
  rproto : Nat := 0
  rlink : Bool := false
  deriving DecidableEq, Repr

/-- An Ethernet MAC beyond its registers: the priorities whose XOFF is in force, 8 standing for PAUSE (R723), what a
received PAUSE (8) or PFC pauses (R722), and the failures of the verify (R724). -/
structure EthPort where
  xoff : List Nat := []
  paused : List Nat := []
  verifies : Nat := 0
  deriving DecidableEq, Repr

/-- What the Convoy engine keeps of a member beyond its registers (R740, R743, R746): the INCARNATION, highest SEQ and map
of the 63 values below it, the tick of its last HELLO, whether it announces WARDEN, and, of a neighbour, its address. -/
structure CvyMember where
  inc : Option Nat := none
  high : Nat := 0
  map : Nat := 0
  last : Nat := 0
  announced : Bool := false
  mac : Bytes := []
  deriving DecidableEq, Repr

/-- A message that waits for its acknowledgement (R745). -/
structure CvyOut where
  seq : Nat
  dest : Nat
  tries : Nat
  frame : Bytes
  deriving DecidableEq, Repr

/-- The handover that this member has requested (R755): the station, the reserved entry and slot, and the old member. -/
structure CvyIn where
  addr : Nat
  entry : Nat
  slot : Nat
  peer : Nat
  deriving DecidableEq, Repr

/-- A station handed over to member `peer`: its record and the generation of its key, once exported (R755). -/
structure CvyExp where
  addr : Nat
  entry : Nat
  peer : Nat
  gen : Nat
  record : Option Bytes
  deriving DecidableEq, Repr

/-- The Convoy engine beyond its registers: members, SEQ, messages unacknowledged, members with which anti-entropy waits
for the next HELLO, SUMMARY messages still awaited by member, events, the generations and purposes held in the key ring,
the local tag count, entries of local stations by slot address, handovers, whether a drain waits for acknowledgements, and
the parts of plans by origin: the period and the parts by number. -/
structure ConvoyUnit where
  members : Tab CvyMember := []
  seq : Nat := 0
  outs : List CvyOut := []
  owed : List Nat := []
  syncing : Tab Nat := []
  evts : List (Nat × Nat) := []
  gens : List (Nat × Nat) := []
  tag : Nat := 0
  locals : Tab Nat := []
  ho : Option CvyIn := none
  exps : List CvyExp := []
  departing : Bool := false
  plans : Tab (Nat × Tab Bytes) := []
  deriving DecidableEq, Repr


/-- A transfer on the PMBus (R788–R791): the read of VOUT_MODE, a voltage command for a VNOW, or a software transfer. -/
inductive PmbXfer where
  | mode
  | volt (v : Nat)
  | soft (read : Bool)
  deriving DecidableEq, Repr

/-- A character in the UART's receive FIFO: bits 10:0 of UART_RX. -/
abbrev UartChar := Nat

/-- What boundary scan does with the balls (R803, R816). -/
inductive ScanMode where
  | normal | extest | highz | clamp
  deriving DecidableEq, Repr

/-- The debug port (R816, R817): the boundary-scan cells as loaded, what they do, the result of the last access, and the
token buffer by word. -/
structure Tap where
  cells : List Bool := []
  mode : ScanMode := .normal
  data : Nat := 0
  error : Bool := false
  token : Tab Nat := []
  deriving DecidableEq, Repr

/-- The other parts on the package's edge: levels at the GPIO balls and of PMB_ALERT_N (low is true), the transfer on the
PMBus and the voltage commands that wait, the SPI command in progress, and the UART's FIFOs, oldest first. -/
structure EdgeUnit where
  gpio : Nat := 0
  alert : Bool := false
  pmb : Option PmbXfer := none
  volts : List Nat := []
  spi : Option Nat := none
  uartTx : List Nat := []
  uartRx : List UartChar := []
  tap : Tap := {}
  deriving DecidableEq, Repr

/-- The device beside its memory. -/
structure Dev where
  /-- the fuses' variant (R1, R2) -/
  variant : Variant := .nv9700
  regs : RegStore := []
  sh : Shared := {}
  rst : Bringup := {}
  tb : TimeBase := {}
  time : TimeUnit := {}
  rtc : RtcUnit := {}
  ser : Serai := {}
  q : Queues := {}
  way : WayUnit := {}
  radios : Tab Radio := []
  mld : MldUnit := {}
  strc : StrcUnit := {}
  air : AirUnit := {}
  sta : StaUnit := {}
  outr : OutrUnit := {}
  tm : TmUnit := {}
  ciph : CiphUnit := {}
  bryn : BrynUnit := {}
  drv : DrvUnit := {}
  pcie : Pcie := {}
  lanes : Tab Lane := []
  eth : Tab EthPort := []
  dram : DramUnit := {}
  cvy : ConvoyUnit := {}
  edge : EdgeUnit := {}
  /-- outputs, oldest first -/
  out : List Out := []
  /-- the model's own counter of free values drawn so far -/
  drawn : Nat := 0
  deriving DecidableEq, Repr

/-- Memory: bytes by physical address, in one canonical form. -/
abbrev Memory := List Host.Cell

/-- The machine: the device, its memory and the commands that wait, first in, first out. -/
structure State where
  dev : Dev := {}
  mem : Memory := []
  pending : List Instr := []
  deriving DecidableEq, Repr

/-- Why a step can stop. No command of this model ends in a fault. -/
inductive Fault where
  /-- reserved for a state that no rule of the spec reaches; raised by no meaning; safe -/
  | unreachable
  deriving DecidableEq, Repr

/-- Why a command has no meaning. -/
inductive Refusal where
  /-- raised by the dispatch for a command that has no meaning yet; safe -/
  | notModelled (mnemonic : String)
  deriving DecidableEq, Repr

/-- The device right after a power-on reset (log entry 1): every field at its reset value, SYS_RESET_CAUSE bit 0 set by
the power-on, nothing in memory, no command waiting. -/
def State.reset : State := { dev := { regs := [(⟨0x50, 0, 0⟩, 1)] } }

end Sys2Proof.Machine
end

