-- ==== Sys2Proof/Machine/Bits.lean ====
section
/-! DEFINITION. Bit fields, two's complement, little-endian bytes, and sparse tables. -/

namespace Sys2Proof.Machine

/-- Bits `hi` down to `lo` of `v`. -/
def bitsOf (v hi lo : Nat) : Nat := v / 2 ^ lo % 2 ^ (hi + 1 - lo)

/-- `v` with bit `k` set. -/
def setBit (v k : Nat) : Nat := v ||| 2 ^ k

/-- `v` with bit `k` cleared. -/
def clearBit (v k : Nat) : Nat := if v.testBit k then v - 2 ^ k else v

/-- `v` with bit `k` made `b`. -/
def putBit (v k : Nat) (b : Bool) : Nat := if b then setBit v k else clearBit v k

/-- The bits of `v` that `w` does not have, within 64 bits. -/
def andNot (v w : Nat) : Nat := v &&& ((2 ^ 64 - 1) ^^^ w)

/-- The signed number that `v` spells in `w` bits of two's complement. -/
def signed (w v : Nat) : Int := if v < 2 ^ (w - 1) then (v : Int) else (v : Int) - 2 ^ w

/-- The `w`-bit two's complement of `x`, kept to `w` bits. -/
def twos (w : Nat) (x : Int) : Nat := (x % (2 ^ w : Int)).toNat

/-- `a + b`, saturating at `top`. -/
def satAdd (top a b : Nat) : Nat := min top (a + b)

/-- The first `n` bytes of `v`, least significant first (R10). -/
def toBytes (n v : Nat) : Bytes := (List.range n).map (fun i => BitVec.ofNat 8 (v / 256 ^ i))

/-- The last `n` bytes of `v`, most significant first (R11). -/
def toBE (n v : Nat) : Bytes := (toBytes n v).reverse

/-- The number whose bytes are `b`, least significant first (R10). -/
def ofBytes : Bytes → Nat
  | [] => 0
  | b :: bs => b.toNat + 256 * ofBytes bs

/-- The number whose bytes are `b`, most significant first: the byte order of network headers (R11). -/
def ofBytesBE (b : Bytes) : Nat := ofBytes b.reverse

/-- One step of the reflected CRC-32 of IEEE 802.3. -/
def crcBit (c : Nat) : Nat := if c % 2 = 1 then (c / 2) ^^^ 0xEDB88320 else c / 2

/-- The CRC register after one byte. -/
def crcByte (c : Nat) (b : Byte) : Nat :=
  crcBit (crcBit (crcBit (crcBit (crcBit (crcBit (crcBit (crcBit (c ^^^ b.toNat))))))))

/-- The CRC-32 of IEEE 802.3 over `bs` with initial value `init`, complemented at the end. -/
def crc32 (init : Nat) (bs : Bytes) : Nat := (bs.foldl crcByte init) ^^^ 0xFFFFFFFF

/-- The entry `k` of a table, `dflt` where it has none. -/
def tabGet {α : Type} (t : Tab α) (k : Nat) (dflt : α) : α :=
  match t.find? (fun e => e.1 == k) with
  | some e => e.2
  | none => dflt

/-- The entry `k` of a table, if any. -/
def tabFind {α : Type} (t : Tab α) (k : Nat) : Option α := (t.find? (fun e => e.1 == k)).map (·.2)

/-- A table without entry `k`. -/
def tabDel {α : Type} (t : Tab α) (k : Nat) : Tab α := t.filter (fun e => e.1 != k)

/-- A table with entry `k` made `a`. -/
def tabSet {α : Type} (t : Tab α) (k : Nat) (a : α) : Tab α := (k, a) :: tabDel t k

/-- A table with entry `k` changed by `f`. -/
def tabMod {α : Type} (t : Tab α) (k : Nat) (dflt : α) (f : α → α) : Tab α := tabSet t k (f (tabGet t k dflt))

/-- The elements of `l` in order without those that satisfy `p`'s first match removed. -/
def dropFirst {α : Type} (p : α → Bool) : List α → List α
  | [] => []
  | a :: l => if p a then l else a :: dropFirst p l

/-- Whether `x` is in `l`. -/
def has (l : List Nat) (x : Nat) : Bool := l.any (· == x)

/-- `l` with `x` at its end, unless it holds `x` already. -/
def addOnce (l : List Nat) (x : Nat) : List Nat := if has l x then l else l ++ [x]

end Sys2Proof.Machine
end

