-- ==== Sys2Proof/Machine/Fields.lean ====
section
/-! DEFINITION. What a register field is, and the one place where fields are read and written. -/

namespace Sys2Proof.Machine

/-- The access codes of R14. -/
inductive Acc where
  | rw | ro | w1c | w1s | wo | rwl | rws
  deriving DecidableEq, Repr

/-- A field of a register table. `page` is the page of instance 0 and `span` the distance in pages to the next
instance. A regular array has its `stride` in bytes (with `perPage` elements to a page where it goes on over pages), or its step `pack` in bits; a field with
`count` above 1 and neither is reached through an index register; an array of `count` elements that exists once for each
of `win` values of an index register holds element `e` of window `w` at index w × count + e. `reset` gives the reset value by instance and index. -/
structure Fld where
  page : Nat
  span : Nat := 0
  off : Nat
  hi : Nat
  lo : Nat
  acc : Acc := .rw
  stat : Bool := false
  lockable : Bool := false
  stride : Nat := 0
  pack : Nat := 0
  perPage : Nat := 0
  count : Nat := 1
  win : Nat := 1
  reset : Nat → Nat → Nat := fun _ _ => 0

/-- The home of element `i` of field `F` of instance `n`. -/
def Fld.key (F : Fld) (n i : Nat) : Key := ⟨(F.page + F.span * n) * 4096 + F.off, F.lo, i⟩

/-- The width of a field in bits. -/
def Fld.width (F : Fld) : Nat := F.hi + 1 - F.lo

/-- The page that holds a field of instance `n`. -/
def Fld.pageOf (F : Fld) (n : Nat) : Nat := F.page + F.span * n

/-- The order of the register store. -/
def keyBefore (a b : Key) : Bool :=
  a.reg < b.reg || (a.reg == b.reg && (a.lo < b.lo || (a.lo == b.lo && a.idx < b.idx)))

/-- The stored value of a field, if it differs from its reset value. -/
def regLook (k : Key) : RegStore → Option Nat
  | [] => none
  | e :: r => if e.1 = k then some e.2 else regLook k r

/-- The register store without the field `k`. -/
def regDel (k : Key) (r : RegStore) : RegStore := r.filter (fun e => e.1 ≠ k)

/-- Puts a pair at its place in the order. -/
def regIns (e : Key × Nat) : RegStore → RegStore
  | [] => [e]
  | h :: r => if keyBefore e.1 h.1 then e :: h :: r else h :: regIns e r

/-- The register store with the field `k` at `v`; a field at its reset value `z` is not listed. -/
def regPut (k : Key) (v z : Nat) (r : RegStore) : RegStore :=
  if v = z then regDel k r else regIns (k, v) (regDel k r)

/-- The value of element `i` of field `F` of instance `n`. -/
def Dev.rd (d : Dev) (F : Fld) (n : Nat := 0) (i : Nat := 0) : Nat :=
  (regLook (F.key n i) d.regs).getD (F.reset n i)

/-- Whether a field holds a value other than 0. -/
def Dev.on (d : Dev) (F : Fld) (n : Nat := 0) (i : Nat := 0) : Bool := d.rd F n i != 0

/-- Sets element `i` of field `F` of instance `n` to `v`, kept to the field's width. -/
def Dev.put (d : Dev) (F : Fld) (v : Nat) (n : Nat := 0) (i : Nat := 0) : Dev :=
  { d with regs := regPut (F.key n i) (v % 2 ^ F.width) (F.reset n i) d.regs }

/-- Sets the single bit field `F`. -/
def Dev.set1 (d : Dev) (F : Fld) (n : Nat := 0) (i : Nat := 0) : Dev := d.put F 1 n i

/-- Clears the field `F`. -/
def Dev.clr (d : Dev) (F : Fld) (n : Nat := 0) (i : Nat := 0) : Dev := d.put F 0 n i

/-- Sets `F` when `c` holds, else leaves it. -/
def Dev.putIf (d : Dev) (c : Bool) (F : Fld) (v : Nat) (n : Nat := 0) (i : Nat := 0) : Dev :=
  if c then d.put F v n i else d

end Sys2Proof.Machine
end

