-- ==== Sys2Proof/Machine/RegsDiag.lean ====
section
/-! DEFINITION. The register fields of spec/22_faults_diagnostics.md: page, offset, bits, access code, reset value,
regular stride and count, one definition per field, from the register tables of that chapter. -/

namespace Sys2Proof.Machine

def DIAG_SUM_PAGE : Fld := { page := 0xf0, off := 0x40, hi := 31, lo := 0, acc := .ro, stride := 0x4, count := 16 }
def DIAG_STATUS_FATAL : Fld := { page := 0xf0, off := 0x80, hi := 31, lo := 31, acc := .ro }
def DIAG_STATUS_GRACE : Fld := { page := 0xf0, off := 0x80, hi := 30, lo := 30, acc := .ro }
def DIAG_STATUS_SNAP : Fld := { page := 0xf0, off := 0x80, hi := 29, lo := 29, acc := .ro }
def DIAG_STATUS_LOG_COUNT : Fld := { page := 0xf0, off := 0x80, hi := 20, lo := 16, acc := .ro }
def DIAG_FATAL_CFG_GRACE_US : Fld := { page := 0xf0, off := 0x84, hi := 31, lo := 16, lockable := true, reset := fun _ _ => 0x64 }
def DIAG_FATAL_CFG_ACTION : Fld := { page := 0xf0, off := 0x84, hi := 1, lo := 0, lockable := true, reset := fun _ _ => 1 }
def DIAG_SNAP_HOLD_MS : Fld := { page := 0xf0, off := 0x88, hi := 31, lo := 16, reset := fun _ _ => 0x3e8 }
def DIAG_SNAP_AUTO : Fld := { page := 0xf0, off := 0x88, hi := 5, lo := 4, reset := fun _ _ => 1 }
def DIAG_SNAP_RELEASE : Fld := { page := 0xf0, off := 0x88, hi := 2, lo := 2, acc := .wo }
def DIAG_SNAP_TRIGGER : Fld := { page := 0xf0, off := 0x88, hi := 1, lo := 1, acc := .w1s }
def DIAG_SNAP_NS_NS : Fld := { page := 0xf0, off := 0x8c, hi := 31, lo := 0, acc := .ro }
def DIAG_SNAP_S_S : Fld := { page := 0xf0, off := 0x90, hi := 31, lo := 0, acc := .ro }
def DIAG_CNT_CE_COUNT : Fld := { page := 0xf0, off := 0x94, hi := 31, lo := 0, acc := .w1c }
def DIAG_CNT_CONT_COUNT : Fld := { page := 0xf0, off := 0x98, hi := 31, lo := 0, acc := .w1c }
def DIAG_CNT_FATAL_COUNT : Fld := { page := 0xf0, off := 0x9c, hi := 31, lo := 0, acc := .w1c }
def DIAG_LOG_IDX_ENTRY : Fld := { page := 0xf0, off := 0xa0, hi := 3, lo := 0 }
def DIAG_LOG_W0_VALID : Fld := { page := 0xf0, off := 0xa4, hi := 31, lo := 31, acc := .ro, count := 16 }
def DIAG_LOG_W0_PAGE : Fld := { page := 0xf0, off := 0xa4, hi := 28, lo := 20, acc := .ro, count := 16 }
def DIAG_LOG_W0_SEVERITY : Fld := { page := 0xf0, off := 0xa4, hi := 19, lo := 18, acc := .ro, count := 16 }
def DIAG_LOG_W0_KIND : Fld := { page := 0xf0, off := 0xa4, hi := 17, lo := 16, acc := .ro, count := 16 }
def DIAG_LOG_W0_MASTER : Fld := { page := 0xf0, off := 0xa4, hi := 13, lo := 8, acc := .ro, count := 16 }
def DIAG_LOG_W0_CODE : Fld := { page := 0xf0, off := 0xa4, hi := 7, lo := 0, acc := .ro, count := 16 }
def DIAG_LOG_ADDR_LO_ADDR : Fld := { page := 0xf0, off := 0xa8, hi := 31, lo := 0, acc := .ro, count := 16 }
def DIAG_LOG_ADDR_HI_ADDR : Fld := { page := 0xf0, off := 0xac, hi := 15, lo := 0, acc := .ro, count := 16 }
def DIAG_LOG_NS_NS : Fld := { page := 0xf0, off := 0xb0, hi := 31, lo := 0, acc := .ro, count := 16 }
def DIAG_LOG_S_S : Fld := { page := 0xf0, off := 0xb4, hi := 31, lo := 0, acc := .ro, count := 16 }
def DIAG_LOG_OVF_COUNT : Fld := { page := 0xf0, off := 0xb8, hi := 31, lo := 0, acc := .w1c }
def DIAG_LOG_CLR_CLR : Fld := { page := 0xf0, off := 0xbc, hi := 0, lo := 0, acc := .wo }

/-- The fields of page 0 of DIAG. -/
def fldsDiag0 : List Fld :=
  [DIAG_SUM_PAGE, DIAG_STATUS_FATAL, DIAG_STATUS_GRACE, DIAG_STATUS_SNAP, DIAG_STATUS_LOG_COUNT, DIAG_FATAL_CFG_GRACE_US, DIAG_FATAL_CFG_ACTION, DIAG_SNAP_HOLD_MS, DIAG_SNAP_AUTO, DIAG_SNAP_RELEASE, DIAG_SNAP_TRIGGER, DIAG_SNAP_NS_NS, DIAG_SNAP_S_S, DIAG_CNT_CE_COUNT, DIAG_CNT_CONT_COUNT, DIAG_CNT_FATAL_COUNT, DIAG_LOG_IDX_ENTRY, DIAG_LOG_W0_VALID, DIAG_LOG_W0_PAGE, DIAG_LOG_W0_SEVERITY, DIAG_LOG_W0_KIND, DIAG_LOG_W0_MASTER, DIAG_LOG_W0_CODE, DIAG_LOG_ADDR_LO_ADDR, DIAG_LOG_ADDR_HI_ADDR, DIAG_LOG_NS_NS, DIAG_LOG_S_S, DIAG_LOG_OVF_COUNT, DIAG_LOG_CLR_CLR]

end Sys2Proof.Machine
end

