-- ==== Sys2Proof/Machine/RegsLane.lean ====
section
/-! DEFINITION. The register fields of spec/19_lanes.md: page, offset, bits, access code, reset value,
regular stride and count, one definition per field, from the register tables of that chapter. -/

namespace Sys2Proof.Machine

def LANE_CFG_MUX : Fld := { page := 0xc0, span := 1, off := 0x40, hi := 9, lo := 9, stat := true }
def LANE_CFG_REFSEL : Fld := { page := 0xc0, span := 1, off := 0x40, hi := 8, lo := 8, stat := true }
def LANE_CFG_UPSHIFT : Fld := { page := 0xc0, span := 1, off := 0x40, hi := 7, lo := 7, stat := true }
def LANE_CFG_CAPX_EN : Fld := { page := 0xc0, span := 1, off := 0x40, hi := 6, lo := 6, stat := true }
def LANE_CFG_TRAIN : Fld := { page := 0xc0, span := 1, off := 0x40, hi := 5, lo := 5, stat := true }
def LANE_CFG_FEC : Fld := { page := 0xc0, span := 1, off := 0x40, hi := 4, lo := 4, stat := true, reset := fun _ _ => 1 }
def LANE_CFG_PROTO : Fld := { page := 0xc0, span := 1, off := 0x40, hi := 3, lo := 0, stat := true }
def LANE_STATUS_RUN_PROTO : Fld := { page := 0xc0, span := 1, off := 0x44, hi := 15, lo := 12, acc := .ro }
def LANE_STATUS_UPSHIFT_FAIL : Fld := { page := 0xc0, span := 1, off := 0x44, hi := 10, lo := 10, acc := .ro }
def LANE_STATUS_UPSHIFTED : Fld := { page := 0xc0, span := 1, off := 0x44, hi := 9, lo := 9, acc := .ro }
def LANE_STATUS_PARTNER_NATIVAR : Fld := { page := 0xc0, span := 1, off := 0x44, hi := 8, lo := 8, acc := .ro }
def LANE_STATUS_LINK : Fld := { page := 0xc0, span := 1, off := 0x44, hi := 6, lo := 6, acc := .ro }
def LANE_STATUS_LOL : Fld := { page := 0xc0, span := 1, off := 0x44, hi := 5, lo := 5, acc := .ro }
def LANE_STATUS_LOS : Fld := { page := 0xc0, span := 1, off := 0x44, hi := 4, lo := 4, acc := .ro, reset := fun _ _ => 1 }
def LANE_STATUS_STATE : Fld := { page := 0xc0, span := 1, off := 0x44, hi := 2, lo := 0, acc := .ro }
def LANE_TIMING_LINK_HOLD : Fld := { page := 0xc0, span := 1, off := 0x48, hi := 31, lo := 16, reset := fun _ _ => 0xa }
def LANE_TIMING_LOS_TIME : Fld := { page := 0xc0, span := 1, off := 0x48, hi := 15, lo := 0, reset := fun _ _ => 0x64 }
def LANE_LPBK_TX_MUTE : Fld := { page := 0xc0, span := 1, off := 0x4c, hi := 2, lo := 2 }
def LANE_LPBK_MODE : Fld := { page := 0xc0, span := 1, off := 0x4c, hi := 1, lo := 0 }
def LANE_PRBS_EN_GEN : Fld := { page := 0xc0, span := 1, off := 0x50, hi := 31, lo := 31 }
def LANE_PRBS_EN_CHK : Fld := { page := 0xc0, span := 1, off := 0x50, hi := 30, lo := 30 }
def LANE_PRBS_BAUD : Fld := { page := 0xc0, span := 1, off := 0x50, hi := 24, lo := 24 }
def LANE_PRBS_PATTERN : Fld := { page := 0xc0, span := 1, off := 0x50, hi := 18, lo := 16, reset := fun _ _ => 4 }
def LANE_PRBS_INJ_RATE : Fld := { page := 0xc0, span := 1, off := 0x50, hi := 12, lo := 8 }
def LANE_PRBS_INJ_ONE : Fld := { page := 0xc0, span := 1, off := 0x50, hi := 0, lo := 0, acc := .w1s }
def LANE_PRBS_USER_LO_PATTERN : Fld := { page := 0xc0, span := 1, off := 0x54, hi := 31, lo := 0 }
def LANE_PRBS_USER_HI_PATTERN : Fld := { page := 0xc0, span := 1, off := 0x58, hi := 31, lo := 0 }
def LANE_PRBS_STATUS_LOCKED : Fld := { page := 0xc0, span := 1, off := 0x5c, hi := 0, lo := 0, acc := .ro }
def LANE_PRBS_ERR_COUNT : Fld := { page := 0xc0, span := 1, off := 0x60, hi := 31, lo := 0, acc := .w1c }
def LANE_CAPX_CFG_ETYPE : Fld := { page := 0xc0, span := 1, off := 0x64, hi := 31, lo := 16, reset := fun _ _ => 0x88b6 }
def LANE_CAPX_CFG_TIMEOUT : Fld := { page := 0xc0, span := 1, off := 0x64, hi := 15, lo := 8, reset := fun _ _ => 0x32 }
def LANE_CAPX_CFG_INTERVAL : Fld := { page := 0xc0, span := 1, off := 0x64, hi := 3, lo := 0, reset := fun _ _ => 1 }
def LANE_CAPX_ID_LO_ID : Fld := { page := 0xc0, span := 1, off := 0x68, hi := 31, lo := 0 }
def LANE_CAPX_ID_HI_MEMBER_VALID : Fld := { page := 0xc0, span := 1, off := 0x6c, hi := 31, lo := 31 }
def LANE_CAPX_ID_HI_MEMBER : Fld := { page := 0xc0, span := 1, off := 0x6c, hi := 25, lo := 16 }
def LANE_CAPX_ID_HI_ID : Fld := { page := 0xc0, span := 1, off := 0x6c, hi := 15, lo := 0 }
def LANE_PARTNER_ID_LO_ID : Fld := { page := 0xc0, span := 1, off := 0x70, hi := 31, lo := 0, acc := .ro }
def LANE_PARTNER_ID_HI_ID : Fld := { page := 0xc0, span := 1, off := 0x74, hi := 31, lo := 0, acc := .ro }
def LANE_PARTNER_INFO_LANE : Fld := { page := 0xc0, span := 1, off := 0x78, hi := 15, lo := 8, acc := .ro }
def LANE_PARTNER_INFO_FLAGS : Fld := { page := 0xc0, span := 1, off := 0x78, hi := 7, lo := 4, acc := .ro }
def LANE_PARTNER_INFO_RATES : Fld := { page := 0xc0, span := 1, off := 0x78, hi := 3, lo := 0, acc := .ro }
def LANE_LINK_UP_COUNT : Fld := { page := 0xc0, span := 1, off := 0x80, hi := 31, lo := 0, acc := .w1c }
def LANE_LINK_DOWN_COUNT : Fld := { page := 0xc0, span := 1, off := 0x84, hi := 31, lo := 0, acc := .w1c }
def LANE_LOS_EVENTS_COUNT : Fld := { page := 0xc0, span := 1, off := 0x88, hi := 31, lo := 0, acc := .w1c }
def LANE_LOL_EVENTS_COUNT : Fld := { page := 0xc0, span := 1, off := 0x8c, hi := 31, lo := 0, acc := .w1c }
def ETH_CFG_UNTAG_PRIO : Fld := { page := 0xc8, span := 1, off := 0x40, hi := 31, lo := 29, stat := true }
def ETH_CFG_PAUSE_RX : Fld := { page := 0xc8, span := 1, off := 0x40, hi := 18, lo := 18, stat := true, reset := fun _ _ => 1 }
def ETH_CFG_PFC_EN : Fld := { page := 0xc8, span := 1, off := 0x40, hi := 17, lo := 17, stat := true }
def ETH_CFG_PAUSE_EN : Fld := { page := 0xc8, span := 1, off := 0x40, hi := 16, lo := 16, stat := true }
def ETH_CFG_MAXLEN : Fld := { page := 0xc8, span := 1, off := 0x40, hi := 13, lo := 0, reset := fun _ _ => 0x5ee }
def ETH_ADDR_LO_ADDR : Fld := { page := 0xc8, span := 1, off := 0x44, hi := 31, lo := 0 }
def ETH_ADDR_HI_ADDR : Fld := { page := 0xc8, span := 1, off := 0x48, hi := 15, lo := 0 }
def ETH_PAUSE_QUANTA : Fld := { page := 0xc8, span := 1, off := 0x4c, hi := 31, lo := 16, reset := fun _ _ => 0xffff }
def ETH_PAUSE_REFRESH : Fld := { page := 0xc8, span := 1, off := 0x4c, hi := 15, lo := 0, reset := fun _ _ => 0x8000 }
def ETH_PFC_RX_EN_EN : Fld := { page := 0xc8, span := 1, off := 0x50, hi := 7, lo := 0, reset := fun _ _ => 0xff }
def ETH_PREEMPT_VERIFY_MS : Fld := { page := 0xc8, span := 1, off := 0x54, hi := 15, lo := 8, reset := fun _ _ => 0xa }
def ETH_PREEMPT_VERIFY_DIS : Fld := { page := 0xc8, span := 1, off := 0x54, hi := 3, lo := 3 }
def ETH_PREEMPT_ADD_FRAG : Fld := { page := 0xc8, span := 1, off := 0x54, hi := 2, lo := 1 }
def ETH_PREEMPT_EN : Fld := { page := 0xc8, span := 1, off := 0x54, hi := 0, lo := 0 }
def ETH_STATUS_SPEED : Fld := { page := 0xc8, span := 1, off := 0x58, hi := 7, lo := 4, acc := .ro }
def ETH_STATUS_VERIFY : Fld := { page := 0xc8, span := 1, off := 0x58, hi := 3, lo := 2, acc := .ro }
def ETH_STATUS_PREEMPT_ACTIVE : Fld := { page := 0xc8, span := 1, off := 0x58, hi := 1, lo := 1, acc := .ro }
def ETH_STATUS_LINK_UP : Fld := { page := 0xc8, span := 1, off := 0x58, hi := 0, lo := 0, acc := .ro }
def ETH_RX_OK_COUNT : Fld := { page := 0xc8, span := 1, off := 0x80, hi := 31, lo := 0, acc := .w1c }
def ETH_RX_FCS_ERR_COUNT : Fld := { page := 0xc8, span := 1, off := 0x84, hi := 31, lo := 0, acc := .w1c }
def ETH_RX_RUNT_COUNT : Fld := { page := 0xc8, span := 1, off := 0x88, hi := 31, lo := 0, acc := .w1c }
def ETH_RX_LONG_COUNT : Fld := { page := 0xc8, span := 1, off := 0x8c, hi := 31, lo := 0, acc := .w1c }
def ETH_RX_REFUSED_COUNT : Fld := { page := 0xc8, span := 1, off := 0x90, hi := 31, lo := 0, acc := .w1c }
def ETH_RX_TRUNC_COUNT : Fld := { page := 0xc8, span := 1, off := 0x94, hi := 31, lo := 0, acc := .w1c }
def ETH_RX_PAUSE_COUNT : Fld := { page := 0xc8, span := 1, off := 0x98, hi := 31, lo := 0, acc := .w1c }
def ETH_TX_OK_COUNT : Fld := { page := 0xc8, span := 1, off := 0x9c, hi := 31, lo := 0, acc := .w1c }
def ETH_TX_PAUSE_COUNT : Fld := { page := 0xc8, span := 1, off := 0xa0, hi := 31, lo := 0, acc := .w1c }
def ETH_TX_ABORT_COUNT : Fld := { page := 0xc8, span := 1, off := 0xa4, hi := 31, lo := 0, acc := .w1c }
def ETH_TX_POISON_COUNT : Fld := { page := 0xc8, span := 1, off := 0xa8, hi := 31, lo := 0, acc := .w1c }
def ETH_TX_LPBK_DROP_COUNT : Fld := { page := 0xc8, span := 1, off := 0xac, hi := 31, lo := 0, acc := .w1c }
def PCIE_CFG_CPL_TO_MS : Fld := { page := 0xce, off := 0x40, hi := 31, lo := 24, reset := fun _ _ => 0x32 }
def PCIE_CFG_EP_READY : Fld := { page := 0xce, off := 0x40, hi := 8, lo := 8 }
def PCIE_CFG_GEN : Fld := { page := 0xce, off := 0x40, hi := 6, lo := 4, stat := true, reset := fun _ _ => 4 }
def PCIE_CFG_WIDTH : Fld := { page := 0xce, off := 0x40, hi := 2, lo := 1, stat := true, reset := fun _ _ => 2 }
def PCIE_CFG_MODE : Fld := { page := 0xce, off := 0x40, hi := 0, lo := 0, acc := .ro }
def PCIE_STATUS_DL_UP : Fld := { page := 0xce, off := 0x44, hi := 16, lo := 16, acc := .ro }
def PCIE_STATUS_SPEED : Fld := { page := 0xce, off := 0x44, hi := 10, lo := 8, acc := .ro }
def PCIE_STATUS_WIDTH : Fld := { page := 0xce, off := 0x44, hi := 6, lo := 4, acc := .ro }
def PCIE_STATUS_LTSSM : Fld := { page := 0xce, off := 0x44, hi := 2, lo := 0, acc := .ro }
def PCIE_IDS_DEVICE : Fld := { page := 0xce, off := 0x48, hi := 31, lo := 16, acc := .rwl, reset := fun _ _ => Config.factory 0 }
def PCIE_IDS_VENDOR : Fld := { page := 0xce, off := 0x48, hi := 15, lo := 0, acc := .rwl, reset := fun _ _ => Config.factory 1 }
def PCIE_CLASS_CLASS : Fld := { page := 0xce, off := 0x4c, hi := 23, lo := 0, acc := .rwl, reset := fun _ _ => 0xd8000 }
def PCIE_OB_ADDR_LO_ADDR : Fld := { page := 0xce, off := 0x50, hi := 31, lo := 0 }
def PCIE_OB_ADDR_HI_ADDR : Fld := { page := 0xce, off := 0x54, hi := 31, lo := 0 }
def PCIE_OB_DATA_DATA : Fld := { page := 0xce, off := 0x58, hi := 31, lo := 0 }
def PCIE_OB_CMD_BUSY : Fld := { page := 0xce, off := 0x5c, hi := 31, lo := 31, acc := .ro }
def PCIE_OB_CMD_RESULT : Fld := { page := 0xce, off := 0x5c, hi := 30, lo := 28, acc := .ro }
def PCIE_OB_CMD_BE : Fld := { page := 0xce, off := 0x5c, hi := 7, lo := 4, acc := .wo }
def PCIE_OB_CMD_OP : Fld := { page := 0xce, off := 0x5c, hi := 1, lo := 0, acc := .wo }
def PCIE_CPL_TO_COUNT : Fld := { page := 0xce, off := 0x80, hi := 31, lo := 0, acc := .w1c }
def PCIE_LINK_DOWN_COUNT : Fld := { page := 0xce, off := 0x84, hi := 31, lo := 0, acc := .w1c }
def PCIE_AER_COR_COUNT : Fld := { page := 0xce, off := 0x88, hi := 31, lo := 0, acc := .w1c }
def PCIE_AER_UNCOR_COUNT : Fld := { page := 0xce, off := 0x8c, hi := 31, lo := 0, acc := .w1c }
def PCIE_MSIX_ADDR_LO_ADDR : Fld := { page := 0xce, off := 0x800, hi := 31, lo := 2, stride := 0x10, count := 64 }
def PCIE_MSIX_ADDR_HI_ADDR : Fld := { page := 0xce, off := 0x804, hi := 31, lo := 0, stride := 0x10, count := 64 }
def PCIE_MSIX_DATA_DATA : Fld := { page := 0xce, off := 0x808, hi := 31, lo := 0, stride := 0x10, count := 64 }
def PCIE_MSIX_CTL_MASK : Fld := { page := 0xce, off := 0x80c, hi := 0, lo := 0, stride := 0x10, count := 64, reset := fun _ _ => 1 }
def PCIE_MSIX_PBA_PEND : Fld := { page := 0xce, off := 0xc00, hi := 0, lo := 0, acc := .ro, pack := 1, count := 64 }

/-- The fields of page 0 of LANE. -/
def fldsLane0 : List Fld :=
  [LANE_CFG_MUX, LANE_CFG_REFSEL, LANE_CFG_UPSHIFT, LANE_CFG_CAPX_EN, LANE_CFG_TRAIN, LANE_CFG_FEC, LANE_CFG_PROTO, LANE_STATUS_RUN_PROTO, LANE_STATUS_UPSHIFT_FAIL, LANE_STATUS_UPSHIFTED, LANE_STATUS_PARTNER_NATIVAR, LANE_STATUS_LINK, LANE_STATUS_LOL, LANE_STATUS_LOS, LANE_STATUS_STATE, LANE_TIMING_LINK_HOLD, LANE_TIMING_LOS_TIME, LANE_LPBK_TX_MUTE, LANE_LPBK_MODE, LANE_PRBS_EN_GEN, LANE_PRBS_EN_CHK, LANE_PRBS_BAUD, LANE_PRBS_PATTERN, LANE_PRBS_INJ_RATE, LANE_PRBS_INJ_ONE, LANE_PRBS_USER_LO_PATTERN, LANE_PRBS_USER_HI_PATTERN, LANE_PRBS_STATUS_LOCKED, LANE_PRBS_ERR_COUNT, LANE_CAPX_CFG_ETYPE, LANE_CAPX_CFG_TIMEOUT, LANE_CAPX_CFG_INTERVAL, LANE_CAPX_ID_LO_ID, LANE_CAPX_ID_HI_MEMBER_VALID, LANE_CAPX_ID_HI_MEMBER, LANE_CAPX_ID_HI_ID, LANE_PARTNER_ID_LO_ID, LANE_PARTNER_ID_HI_ID, LANE_PARTNER_INFO_LANE, LANE_PARTNER_INFO_FLAGS] ++
  [LANE_PARTNER_INFO_RATES, LANE_LINK_UP_COUNT, LANE_LINK_DOWN_COUNT, LANE_LOS_EVENTS_COUNT, LANE_LOL_EVENTS_COUNT]

/-- The fields of page 0 of ETH. -/
def fldsEth0 : List Fld :=
  [ETH_CFG_UNTAG_PRIO, ETH_CFG_PAUSE_RX, ETH_CFG_PFC_EN, ETH_CFG_PAUSE_EN, ETH_CFG_MAXLEN, ETH_ADDR_LO_ADDR, ETH_ADDR_HI_ADDR, ETH_PAUSE_QUANTA, ETH_PAUSE_REFRESH, ETH_PFC_RX_EN_EN, ETH_PREEMPT_VERIFY_MS, ETH_PREEMPT_VERIFY_DIS, ETH_PREEMPT_ADD_FRAG, ETH_PREEMPT_EN, ETH_STATUS_SPEED, ETH_STATUS_VERIFY, ETH_STATUS_PREEMPT_ACTIVE, ETH_STATUS_LINK_UP, ETH_RX_OK_COUNT, ETH_RX_FCS_ERR_COUNT, ETH_RX_RUNT_COUNT, ETH_RX_LONG_COUNT, ETH_RX_REFUSED_COUNT, ETH_RX_TRUNC_COUNT, ETH_RX_PAUSE_COUNT, ETH_TX_OK_COUNT, ETH_TX_PAUSE_COUNT, ETH_TX_ABORT_COUNT, ETH_TX_POISON_COUNT, ETH_TX_LPBK_DROP_COUNT]

/-- The fields of page 0 of PCIE. -/
def fldsPcie0 : List Fld :=
  [PCIE_CFG_CPL_TO_MS, PCIE_CFG_EP_READY, PCIE_CFG_GEN, PCIE_CFG_WIDTH, PCIE_CFG_MODE, PCIE_STATUS_DL_UP, PCIE_STATUS_SPEED, PCIE_STATUS_WIDTH, PCIE_STATUS_LTSSM, PCIE_IDS_DEVICE, PCIE_IDS_VENDOR, PCIE_CLASS_CLASS, PCIE_OB_ADDR_LO_ADDR, PCIE_OB_ADDR_HI_ADDR, PCIE_OB_DATA_DATA, PCIE_OB_CMD_BUSY, PCIE_OB_CMD_RESULT, PCIE_OB_CMD_BE, PCIE_OB_CMD_OP, PCIE_CPL_TO_COUNT, PCIE_LINK_DOWN_COUNT, PCIE_AER_COR_COUNT, PCIE_AER_UNCOR_COUNT, PCIE_MSIX_ADDR_LO_ADDR, PCIE_MSIX_ADDR_HI_ADDR, PCIE_MSIX_DATA_DATA, PCIE_MSIX_CTL_MASK, PCIE_MSIX_PBA_PEND]

end Sys2Proof.Machine
end

