-- ==== Sys2Proof/Machine/RegsModel.lean ====
section
/-! DEFINITION. The register fields of spec/02_register_model.md: page, offset, bits, access code, reset value,
regular stride and count, one definition per field, from the register tables of that chapter. -/

namespace Sys2Proof.Machine

def HDR_ID_BLOCK : Fld := { page := 0x0, span := 1, off := 0x0, hi := 31, lo := 16, acc := .ro }
def HDR_ID_INSTANCE : Fld := { page := 0x0, span := 1, off := 0x0, hi := 15, lo := 8, acc := .ro }
def HDR_ID_VERSION : Fld := { page := 0x0, span := 1, off := 0x0, hi := 7, lo := 0, acc := .ro }
def HDR_FEAT_FEAT : Fld := { page := 0x0, span := 1, off := 0x4, hi := 31, lo := 0, acc := .ro }
def HDR_FEAT_ACCEPT_ACCEPT : Fld := { page := 0x0, span := 1, off := 0x8, hi := 31, lo := 0, acc := .rwl }
def HDR_CTRL_FREEZE : Fld := { page := 0x0, span := 1, off := 0xc, hi := 2, lo := 2 }
def HDR_CTRL_SOFT_RST : Fld := { page := 0x0, span := 1, off := 0xc, hi := 1, lo := 1 }
def HDR_CTRL_EN : Fld := { page := 0x0, span := 1, off := 0xc, hi := 0, lo := 0, reset := fun n _ => if n = 0 ∨ n = 1 ∨ n = 3 ∨ n = 4 ∨ n = 144 then 1 else 0 }
def HDR_STATUS_ERROR : Fld := { page := 0x0, span := 1, off := 0x10, hi := 3, lo := 3, acc := .ro }
def HDR_STATUS_RESTART_PENDING : Fld := { page := 0x0, span := 1, off := 0x10, hi := 2, lo := 2, acc := .ro }
def HDR_STATUS_DRAINING : Fld := { page := 0x0, span := 1, off := 0x10, hi := 1, lo := 1, acc := .ro }
def HDR_STATUS_ACTIVE : Fld := { page := 0x0, span := 1, off := 0x10, hi := 0, lo := 0, acc := .ro, reset := fun n _ => if n = 0 ∨ n = 1 ∨ n = 3 ∨ n = 4 ∨ n = 144 then 1 else 0 }
def HDR_INT_RAW_RAW : Fld := { page := 0x0, span := 1, off := 0x14, hi := 31, lo := 0, acc := .w1c }
def HDR_INT_EN_EN : Fld := { page := 0x0, span := 1, off := 0x18, hi := 31, lo := 0 }
def HDR_INT_STAT_STAT : Fld := { page := 0x0, span := 1, off := 0x1c, hi := 31, lo := 0, acc := .ro }
def HDR_INT_TEST_TEST : Fld := { page := 0x0, span := 1, off := 0x20, hi := 31, lo := 0, acc := .w1s }
def HDR_ERR_CODE_VALID : Fld := { page := 0x0, span := 1, off := 0x24, hi := 31, lo := 31, acc := .w1c }
def HDR_ERR_CODE_MORE : Fld := { page := 0x0, span := 1, off := 0x24, hi := 30, lo := 24, acc := .ro }
def HDR_ERR_CODE_SEVERITY : Fld := { page := 0x0, span := 1, off := 0x24, hi := 17, lo := 16, acc := .ro }
def HDR_ERR_CODE_KIND : Fld := { page := 0x0, span := 1, off := 0x24, hi := 15, lo := 14, acc := .ro }
def HDR_ERR_CODE_MASTER : Fld := { page := 0x0, span := 1, off := 0x24, hi := 13, lo := 8, acc := .ro }
def HDR_ERR_CODE_CODE : Fld := { page := 0x0, span := 1, off := 0x24, hi := 7, lo := 0, acc := .ro }
def HDR_ERR_ADDR_LO_ADDR : Fld := { page := 0x0, span := 1, off := 0x28, hi := 31, lo := 0, acc := .ro }
def HDR_ERR_ADDR_HI_ADDR : Fld := { page := 0x0, span := 1, off := 0x2c, hi := 15, lo := 0, acc := .ro }
def HDR_LOCK_CTRL : Fld := { page := 0x0, span := 1, off := 0x30, hi := 17, lo := 17, acc := .ro }
def HDR_LOCK_CFG : Fld := { page := 0x0, span := 1, off := 0x30, hi := 16, lo := 16, acc := .ro }
def HDR_LOCK_SET_CTRL : Fld := { page := 0x0, span := 1, off := 0x30, hi := 1, lo := 1, acc := .w1s }
def HDR_LOCK_SET_CFG : Fld := { page := 0x0, span := 1, off := 0x30, hi := 0, lo := 0, acc := .w1s }
def INTR_ROUTE_IDX_SOURCE : Fld := { page := 0x3, off := 0x40, hi := 9, lo := 0 }
def INTR_ROUTE_DATA_TASK : Fld := { page := 0x3, off := 0x44, hi := 27, lo := 16, count := 1024 }
def INTR_ROUTE_DATA_TARGET : Fld := { page := 0x3, off := 0x44, hi := 15, lo := 8, count := 1024 }
def INTR_ROUTE_DATA_KIND : Fld := { page := 0x3, off := 0x44, hi := 1, lo := 0, count := 1024 }
def INTR_PEND_LEVEL : Fld := { page := 0x3, off := 0x80, hi := 31, lo := 0, acc := .ro, stride := 0x4, count := 32 }
def SYS_ABSENT_HITS_COUNT : Fld := { page := 0x0, off := 0xf0, hi := 31, lo := 0, acc := .ro }
def SYS_ABSENT_LAST_MASTER : Fld := { page := 0x0, off := 0xf4, hi := 15, lo := 10, acc := .ro }
def SYS_ABSENT_LAST_PAGE : Fld := { page := 0x0, off := 0xf4, hi := 8, lo := 0, acc := .ro }
def SYS_ABSENT_CLR_CLR : Fld := { page := 0x0, off := 0xf8, hi := 0, lo := 0, acc := .wo }
def DEV_FEAT_OFFER : Fld := { page := 0x1, off := 0x40, hi := 31, lo := 0, acc := .ro, stride := 0x4, count := 8 }
def DRV_FEAT_ACCEPT : Fld := { page := 0x1, off := 0x60, hi := 31, lo := 0, acc := .rwl, stride := 0x4, count := 8 }
def SYSFEAT_COMMIT_COMMIT : Fld := { page := 0x1, off := 0x80, hi := 0, lo := 0, acc := .wo }
def SYSFEAT_STATUS_DEP_BIT : Fld := { page := 0x1, off := 0x84, hi := 12, lo := 8, acc := .ro }
def SYSFEAT_STATUS_DEP_WORD : Fld := { page := 0x1, off := 0x84, hi := 5, lo := 3, acc := .ro }
def SYSFEAT_STATUS_MASKED : Fld := { page := 0x1, off := 0x84, hi := 2, lo := 2, acc := .ro }
def SYSFEAT_STATUS_REJECTED : Fld := { page := 0x1, off := 0x84, hi := 1, lo := 1, acc := .ro }
def SYSFEAT_STATUS_COMMITTED : Fld := { page := 0x1, off := 0x84, hi := 0, lo := 0, acc := .ro }
def CUSTOMS_VIOL_COUNT : Fld := { page := 0x7, off := 0x40, hi := 31, lo := 0, acc := .w1c, stride := 0x4, count := 6 }
def PACE_WINDOW_WINDOW : Fld := { page := 0x8, off := 0x40, hi := 15, lo := 0, reset := fun _ _ => 0xa }
def PACE_VSET_VSET : Fld := { page := 0x8, off := 0x44, hi := 7, lo := 0, reset := fun _ _ => 0x50 }
def PACE_VLIMIT_VMAX : Fld := { page := 0x8, off := 0x48, hi := 23, lo := 16, reset := fun _ _ => 0xb4 }
def PACE_VLIMIT_VMIN : Fld := { page := 0x8, off := 0x48, hi := 7, lo := 0 }
def PACE_VNOW_VNOW : Fld := { page := 0x8, off := 0x4c, hi := 7, lo := 0, acc := .ro, reset := fun _ _ => 0x50 }
def PACE_GOV_VSTEP : Fld := { page := 0x8, off := 0x50, hi := 19, lo := 16, reset := fun _ _ => 5 }
def PACE_GOV_MARGIN_DN : Fld := { page := 0x8, off := 0x50, hi := 15, lo := 8, reset := fun _ _ => 0xf }
def PACE_GOV_MARGIN_UP : Fld := { page := 0x8, off := 0x50, hi := 7, lo := 0, reset := fun _ _ => 5 }
def PACE_TIMING_HOLD : Fld := { page := 0x8, off := 0x54, hi := 31, lo := 16, reset := fun _ _ => 0x3e8 }
def PACE_TIMING_INTERVAL : Fld := { page := 0x8, off := 0x54, hi := 15, lo := 0, reset := fun _ _ => 0x64 }
def PACE_STATUS_LOW_POINT : Fld := { page := 0x8, off := 0x58, hi := 19, lo := 16, acc := .ro }
def PACE_STATUS_LIMIT_BAD : Fld := { page := 0x8, off := 0x58, hi := 3, lo := 3, acc := .ro }
def PACE_STATUS_PMB_FAIL : Fld := { page := 0x8, off := 0x58, hi := 2, lo := 2, acc := .ro }
def PACE_STATUS_SATURATED : Fld := { page := 0x8, off := 0x58, hi := 1, lo := 1, acc := .ro }
def PACE_STATUS_BELOW_FLOOR : Fld := { page := 0x8, off := 0x58, hi := 0, lo := 0, acc := .ro }
def PACE_VALUE_VALUE : Fld := { page := 0x8, off := 0x80, hi := 15, lo := 0, acc := .ro, stride := 0x4, count := 16 }
def PACE_FLOOR_FLOOR : Fld := { page := 0x8, off := 0xc0, hi := 15, lo := 0, stride := 0x4, count := 16, reset := fun _ i => if i = 0 then 0x2710 else if i = 1 then 0x0708 else if i = 2 then 0x249F else if 8 ≤ i then 0x5208 else 0 }
def CUSTOMS_CUST0_BASE_LO : Fld := { page := 0x4, off := 0x100, hi := 31, lo := 0, lockable := true, stride := 0x30, count := 16 }
def CUSTOMS_CUST0_BASE_HI : Fld := { page := 0x4, off := 0x104, hi := 15, lo := 0, lockable := true, stride := 0x30, count := 16 }
def CUSTOMS_CUST0_LIMIT_LO : Fld := { page := 0x4, off := 0x108, hi := 31, lo := 0, lockable := true, stride := 0x30, count := 16 }
def CUSTOMS_CUST0_LIMIT_HI : Fld := { page := 0x4, off := 0x10c, hi := 15, lo := 0, lockable := true, stride := 0x30, count := 16 }
def CUSTOMS_CUST0_RD_LO : Fld := { page := 0x4, off := 0x110, hi := 31, lo := 0, lockable := true, stride := 0x30, count := 16 }
def CUSTOMS_CUST0_RD_HI : Fld := { page := 0x4, off := 0x114, hi := 31, lo := 0, lockable := true, stride := 0x30, count := 16 }
def CUSTOMS_CUST0_WR_LO : Fld := { page := 0x4, off := 0x118, hi := 31, lo := 0, lockable := true, stride := 0x30, count := 16 }
def CUSTOMS_CUST0_WR_HI : Fld := { page := 0x4, off := 0x11c, hi := 31, lo := 0, lockable := true, stride := 0x30, count := 16 }
def CUSTOMS_CUST0_EX_LO : Fld := { page := 0x4, off := 0x120, hi := 31, lo := 0, lockable := true, stride := 0x30, count := 16 }
def CUSTOMS_CUST0_EX_HI : Fld := { page := 0x4, off := 0x124, hi := 31, lo := 0, lockable := true, stride := 0x30, count := 16 }
def CUSTOMS_CUST0_EN : Fld := { page := 0x4, off := 0x128, hi := 0, lo := 0, lockable := true, stride := 0x30, count := 16 }
def CUSTOMS_CUST1_BASE_LO : Fld := { page := 0x4, off := 0x400, hi := 31, lo := 0, lockable := true, stride := 0x30, count := 16 }
def CUSTOMS_CUST1_BASE_HI : Fld := { page := 0x4, off := 0x404, hi := 15, lo := 0, lockable := true, stride := 0x30, count := 16 }
def CUSTOMS_CUST1_LIMIT_LO : Fld := { page := 0x4, off := 0x408, hi := 31, lo := 0, lockable := true, stride := 0x30, count := 16 }
def CUSTOMS_CUST1_LIMIT_HI : Fld := { page := 0x4, off := 0x40c, hi := 15, lo := 0, lockable := true, stride := 0x30, count := 16 }
def CUSTOMS_CUST1_RD_LO : Fld := { page := 0x4, off := 0x410, hi := 31, lo := 0, lockable := true, stride := 0x30, count := 16 }
def CUSTOMS_CUST1_RD_HI : Fld := { page := 0x4, off := 0x414, hi := 31, lo := 0, lockable := true, stride := 0x30, count := 16 }
def CUSTOMS_CUST1_WR_LO : Fld := { page := 0x4, off := 0x418, hi := 31, lo := 0, lockable := true, stride := 0x30, count := 16 }
def CUSTOMS_CUST1_WR_HI : Fld := { page := 0x4, off := 0x41c, hi := 31, lo := 0, lockable := true, stride := 0x30, count := 16 }
def CUSTOMS_CUST1_EX_LO : Fld := { page := 0x4, off := 0x420, hi := 31, lo := 0, lockable := true, stride := 0x30, count := 16 }
def CUSTOMS_CUST1_EX_HI : Fld := { page := 0x4, off := 0x424, hi := 31, lo := 0, lockable := true, stride := 0x30, count := 16 }
def CUSTOMS_CUST1_EN : Fld := { page := 0x4, off := 0x428, hi := 0, lo := 0, lockable := true, stride := 0x30, count := 16 }
def CUSTOMS_CUST2_BASE_LO : Fld := { page := 0x5, off := 0x100, hi := 31, lo := 0, lockable := true, stride := 0x30, count := 16 }
def CUSTOMS_CUST2_BASE_HI : Fld := { page := 0x5, off := 0x104, hi := 15, lo := 0, lockable := true, stride := 0x30, count := 16 }
def CUSTOMS_CUST2_LIMIT_LO : Fld := { page := 0x5, off := 0x108, hi := 31, lo := 0, lockable := true, stride := 0x30, count := 16 }
def CUSTOMS_CUST2_LIMIT_HI : Fld := { page := 0x5, off := 0x10c, hi := 15, lo := 0, lockable := true, stride := 0x30, count := 16 }
def CUSTOMS_CUST2_RD_LO : Fld := { page := 0x5, off := 0x110, hi := 31, lo := 0, lockable := true, stride := 0x30, count := 16 }
def CUSTOMS_CUST2_RD_HI : Fld := { page := 0x5, off := 0x114, hi := 31, lo := 0, lockable := true, stride := 0x30, count := 16 }
def CUSTOMS_CUST2_WR_LO : Fld := { page := 0x5, off := 0x118, hi := 31, lo := 0, lockable := true, stride := 0x30, count := 16 }
def CUSTOMS_CUST2_WR_HI : Fld := { page := 0x5, off := 0x11c, hi := 31, lo := 0, lockable := true, stride := 0x30, count := 16 }
def CUSTOMS_CUST2_EX_LO : Fld := { page := 0x5, off := 0x120, hi := 31, lo := 0, lockable := true, stride := 0x30, count := 16 }
def CUSTOMS_CUST2_EX_HI : Fld := { page := 0x5, off := 0x124, hi := 31, lo := 0, lockable := true, stride := 0x30, count := 16 }
def CUSTOMS_CUST2_EN : Fld := { page := 0x5, off := 0x128, hi := 0, lo := 0, lockable := true, stride := 0x30, count := 16 }
def CUSTOMS_CUST3_BASE_LO : Fld := { page := 0x5, off := 0x400, hi := 31, lo := 0, lockable := true, stride := 0x30, count := 16 }
def CUSTOMS_CUST3_BASE_HI : Fld := { page := 0x5, off := 0x404, hi := 15, lo := 0, lockable := true, stride := 0x30, count := 16 }
def CUSTOMS_CUST3_LIMIT_LO : Fld := { page := 0x5, off := 0x408, hi := 31, lo := 0, lockable := true, stride := 0x30, count := 16 }
def CUSTOMS_CUST3_LIMIT_HI : Fld := { page := 0x5, off := 0x40c, hi := 15, lo := 0, lockable := true, stride := 0x30, count := 16 }
def CUSTOMS_CUST3_RD_LO : Fld := { page := 0x5, off := 0x410, hi := 31, lo := 0, lockable := true, stride := 0x30, count := 16 }
def CUSTOMS_CUST3_RD_HI : Fld := { page := 0x5, off := 0x414, hi := 31, lo := 0, lockable := true, stride := 0x30, count := 16 }
def CUSTOMS_CUST3_WR_LO : Fld := { page := 0x5, off := 0x418, hi := 31, lo := 0, lockable := true, stride := 0x30, count := 16 }
def CUSTOMS_CUST3_WR_HI : Fld := { page := 0x5, off := 0x41c, hi := 31, lo := 0, lockable := true, stride := 0x30, count := 16 }
def CUSTOMS_CUST3_EX_LO : Fld := { page := 0x5, off := 0x420, hi := 31, lo := 0, lockable := true, stride := 0x30, count := 16 }
def CUSTOMS_CUST3_EX_HI : Fld := { page := 0x5, off := 0x424, hi := 31, lo := 0, lockable := true, stride := 0x30, count := 16 }
def CUSTOMS_CUST3_EN : Fld := { page := 0x5, off := 0x428, hi := 0, lo := 0, lockable := true, stride := 0x30, count := 16 }
def CUSTOMS_CUST4_BASE_LO : Fld := { page := 0x6, off := 0x100, hi := 31, lo := 0, lockable := true, stride := 0x30, count := 16 }
def CUSTOMS_CUST4_BASE_HI : Fld := { page := 0x6, off := 0x104, hi := 15, lo := 0, lockable := true, stride := 0x30, count := 16 }
def CUSTOMS_CUST4_LIMIT_LO : Fld := { page := 0x6, off := 0x108, hi := 31, lo := 0, lockable := true, stride := 0x30, count := 16 }
def CUSTOMS_CUST4_LIMIT_HI : Fld := { page := 0x6, off := 0x10c, hi := 15, lo := 0, lockable := true, stride := 0x30, count := 16 }
def CUSTOMS_CUST4_RD_LO : Fld := { page := 0x6, off := 0x110, hi := 31, lo := 0, lockable := true, stride := 0x30, count := 16 }
def CUSTOMS_CUST4_RD_HI : Fld := { page := 0x6, off := 0x114, hi := 31, lo := 0, lockable := true, stride := 0x30, count := 16 }
def CUSTOMS_CUST4_WR_LO : Fld := { page := 0x6, off := 0x118, hi := 31, lo := 0, lockable := true, stride := 0x30, count := 16 }
def CUSTOMS_CUST4_WR_HI : Fld := { page := 0x6, off := 0x11c, hi := 31, lo := 0, lockable := true, stride := 0x30, count := 16 }
def CUSTOMS_CUST4_EX_LO : Fld := { page := 0x6, off := 0x120, hi := 31, lo := 0, lockable := true, stride := 0x30, count := 16 }
def CUSTOMS_CUST4_EX_HI : Fld := { page := 0x6, off := 0x124, hi := 31, lo := 0, lockable := true, stride := 0x30, count := 16 }
def CUSTOMS_CUST4_EN : Fld := { page := 0x6, off := 0x128, hi := 0, lo := 0, lockable := true, stride := 0x30, count := 16 }
def CUSTOMS_CUST5_BASE_LO : Fld := { page := 0x6, off := 0x400, hi := 31, lo := 0, lockable := true, stride := 0x30, count := 16 }
def CUSTOMS_CUST5_BASE_HI : Fld := { page := 0x6, off := 0x404, hi := 15, lo := 0, lockable := true, stride := 0x30, count := 16 }
def CUSTOMS_CUST5_LIMIT_LO : Fld := { page := 0x6, off := 0x408, hi := 31, lo := 0, lockable := true, stride := 0x30, count := 16 }
def CUSTOMS_CUST5_LIMIT_HI : Fld := { page := 0x6, off := 0x40c, hi := 15, lo := 0, lockable := true, stride := 0x30, count := 16 }
def CUSTOMS_CUST5_RD_LO : Fld := { page := 0x6, off := 0x410, hi := 31, lo := 0, lockable := true, stride := 0x30, count := 16 }
def CUSTOMS_CUST5_RD_HI : Fld := { page := 0x6, off := 0x414, hi := 31, lo := 0, lockable := true, stride := 0x30, count := 16 }
def CUSTOMS_CUST5_WR_LO : Fld := { page := 0x6, off := 0x418, hi := 31, lo := 0, lockable := true, stride := 0x30, count := 16 }
def CUSTOMS_CUST5_WR_HI : Fld := { page := 0x6, off := 0x41c, hi := 31, lo := 0, lockable := true, stride := 0x30, count := 16 }
def CUSTOMS_CUST5_EX_LO : Fld := { page := 0x6, off := 0x420, hi := 31, lo := 0, lockable := true, stride := 0x30, count := 16 }
def CUSTOMS_CUST5_EX_HI : Fld := { page := 0x6, off := 0x424, hi := 31, lo := 0, lockable := true, stride := 0x30, count := 16 }
def CUSTOMS_CUST5_EN : Fld := { page := 0x6, off := 0x428, hi := 0, lo := 0, lockable := true, stride := 0x30, count := 16 }

/-- The fields of page 0 of HDR. -/
def fldsHdr0 : List Fld :=
  [HDR_ID_BLOCK, HDR_ID_INSTANCE, HDR_ID_VERSION, HDR_FEAT_FEAT, HDR_FEAT_ACCEPT_ACCEPT, HDR_CTRL_FREEZE, HDR_CTRL_SOFT_RST, HDR_CTRL_EN, HDR_STATUS_ERROR, HDR_STATUS_RESTART_PENDING, HDR_STATUS_DRAINING, HDR_STATUS_ACTIVE, HDR_INT_RAW_RAW, HDR_INT_EN_EN, HDR_INT_STAT_STAT, HDR_INT_TEST_TEST, HDR_ERR_CODE_VALID, HDR_ERR_CODE_MORE, HDR_ERR_CODE_SEVERITY, HDR_ERR_CODE_KIND, HDR_ERR_CODE_MASTER, HDR_ERR_CODE_CODE, HDR_ERR_ADDR_LO_ADDR, HDR_ERR_ADDR_HI_ADDR, HDR_LOCK_CTRL, HDR_LOCK_CFG, HDR_LOCK_SET_CTRL, HDR_LOCK_SET_CFG]

/-- The fields of page 0 of INTR. -/
def fldsIntr0 : List Fld :=
  [INTR_ROUTE_IDX_SOURCE, INTR_ROUTE_DATA_TASK, INTR_ROUTE_DATA_TARGET, INTR_ROUTE_DATA_KIND, INTR_PEND_LEVEL]

/-- The fields of page 0 of SYS. -/
def fldsSys0Absent : List Fld :=
  [SYS_ABSENT_HITS_COUNT, SYS_ABSENT_LAST_MASTER, SYS_ABSENT_LAST_PAGE, SYS_ABSENT_CLR_CLR]

/-- The fields of page 0 of SYSFEAT. -/
def fldsSysfeat0 : List Fld :=
  [DEV_FEAT_OFFER, DRV_FEAT_ACCEPT, SYSFEAT_COMMIT_COMMIT, SYSFEAT_STATUS_DEP_BIT, SYSFEAT_STATUS_DEP_WORD, SYSFEAT_STATUS_MASKED, SYSFEAT_STATUS_REJECTED, SYSFEAT_STATUS_COMMITTED]

/-- The fields of page 3 of CUSTOMS. -/
def fldsCustoms3 : List Fld :=
  [CUSTOMS_VIOL_COUNT]

/-- The fields of page 0 of PACE. -/
def fldsPace0 : List Fld :=
  [PACE_WINDOW_WINDOW, PACE_VSET_VSET, PACE_VLIMIT_VMAX, PACE_VLIMIT_VMIN, PACE_VNOW_VNOW, PACE_GOV_VSTEP, PACE_GOV_MARGIN_DN, PACE_GOV_MARGIN_UP, PACE_TIMING_HOLD, PACE_TIMING_INTERVAL, PACE_STATUS_LOW_POINT, PACE_STATUS_LIMIT_BAD, PACE_STATUS_PMB_FAIL, PACE_STATUS_SATURATED, PACE_STATUS_BELOW_FLOOR, PACE_VALUE_VALUE, PACE_FLOOR_FLOOR]

/-- The fields of page 0 of CUSTOMS. -/
def fldsCustoms0 : List Fld :=
  [CUSTOMS_CUST0_BASE_LO, CUSTOMS_CUST0_BASE_HI, CUSTOMS_CUST0_LIMIT_LO, CUSTOMS_CUST0_LIMIT_HI, CUSTOMS_CUST0_RD_LO, CUSTOMS_CUST0_RD_HI, CUSTOMS_CUST0_WR_LO, CUSTOMS_CUST0_WR_HI, CUSTOMS_CUST0_EX_LO, CUSTOMS_CUST0_EX_HI, CUSTOMS_CUST0_EN, CUSTOMS_CUST1_BASE_LO, CUSTOMS_CUST1_BASE_HI, CUSTOMS_CUST1_LIMIT_LO, CUSTOMS_CUST1_LIMIT_HI, CUSTOMS_CUST1_RD_LO, CUSTOMS_CUST1_RD_HI, CUSTOMS_CUST1_WR_LO, CUSTOMS_CUST1_WR_HI, CUSTOMS_CUST1_EX_LO, CUSTOMS_CUST1_EX_HI, CUSTOMS_CUST1_EN]

/-- The fields of page 1 of CUSTOMS. -/
def fldsCustoms1 : List Fld :=
  [CUSTOMS_CUST2_BASE_LO, CUSTOMS_CUST2_BASE_HI, CUSTOMS_CUST2_LIMIT_LO, CUSTOMS_CUST2_LIMIT_HI, CUSTOMS_CUST2_RD_LO, CUSTOMS_CUST2_RD_HI, CUSTOMS_CUST2_WR_LO, CUSTOMS_CUST2_WR_HI, CUSTOMS_CUST2_EX_LO, CUSTOMS_CUST2_EX_HI, CUSTOMS_CUST2_EN, CUSTOMS_CUST3_BASE_LO, CUSTOMS_CUST3_BASE_HI, CUSTOMS_CUST3_LIMIT_LO, CUSTOMS_CUST3_LIMIT_HI, CUSTOMS_CUST3_RD_LO, CUSTOMS_CUST3_RD_HI, CUSTOMS_CUST3_WR_LO, CUSTOMS_CUST3_WR_HI, CUSTOMS_CUST3_EX_LO, CUSTOMS_CUST3_EX_HI, CUSTOMS_CUST3_EN]

/-- The fields of page 2 of CUSTOMS. -/
def fldsCustoms2 : List Fld :=
  [CUSTOMS_CUST4_BASE_LO, CUSTOMS_CUST4_BASE_HI, CUSTOMS_CUST4_LIMIT_LO, CUSTOMS_CUST4_LIMIT_HI, CUSTOMS_CUST4_RD_LO, CUSTOMS_CUST4_RD_HI, CUSTOMS_CUST4_WR_LO, CUSTOMS_CUST4_WR_HI, CUSTOMS_CUST4_EX_LO, CUSTOMS_CUST4_EX_HI, CUSTOMS_CUST4_EN, CUSTOMS_CUST5_BASE_LO, CUSTOMS_CUST5_BASE_HI, CUSTOMS_CUST5_LIMIT_LO, CUSTOMS_CUST5_LIMIT_HI, CUSTOMS_CUST5_RD_LO, CUSTOMS_CUST5_RD_HI, CUSTOMS_CUST5_WR_LO, CUSTOMS_CUST5_WR_HI, CUSTOMS_CUST5_EX_LO, CUSTOMS_CUST5_EX_HI, CUSTOMS_CUST5_EN]

end Sys2Proof.Machine
end

