-- ==== Sys2Proof/Machine/RegsSys.lean ====
section
/-! DEFINITION. The register fields of spec/03_bringup.md: page, offset, bits, access code, reset value,
regular stride and count, one definition per field, from the register tables of that chapter. -/

namespace Sys2Proof.Machine

def SYS_STATUS_STOP_PHASE : Fld := { page := 0x0, off := 0x40, hi := 14, lo := 12, acc := .ro }
def SYS_STATUS_LAST_WARM : Fld := { page := 0x0, off := 0x40, hi := 8, lo := 8, acc := .ro }
def SYS_STATUS_SLOT : Fld := { page := 0x0, off := 0x40, hi := 7, lo := 7, acc := .ro }
def SYS_STATUS_BOOT_SRC : Fld := { page := 0x0, off := 0x40, hi := 6, lo := 4, acc := .ro }
def SYS_STATUS_LEVEL : Fld := { page := 0x0, off := 0x40, hi := 3, lo := 0, acc := .ro, reset := fun _ _ => 1 }
def SYS_UNIT_STATE_UNIT : Fld := { page := 0x0, off := 0x44, hi := 1, lo := 0, acc := .ro, pack := 2, count := 16, reset := fun _ i => if i = 0 then 1 else 0 }
def SYS_PREP_START_START : Fld := { page := 0x0, off := 0x48, hi := 15, lo := 1, acc := .w1s }
def SYS_FULL_MASK_COUNT : Fld := { page := 0x0, off := 0x4c, hi := 15, lo := 0, reset := fun _ _ => 0xffff }
def SYS_RESET_CAUSE_CAUSE : Fld := { page := 0x0, off := 0x50, hi := 10, lo := 0, acc := .ro }
def SYS_RESET_CTRL_KEY : Fld := { page := 0x0, off := 0x54, hi := 31, lo := 16, acc := .wo }
def SYS_RESET_CTRL_ACTION : Fld := { page := 0x0, off := 0x54, hi := 1, lo := 0, acc := .wo }
def SYS_WDOG_CFG_EN : Fld := { page := 0x0, off := 0x58, hi := 31, lo := 31 }
def SYS_WDOG_CFG_ACTION : Fld := { page := 0x0, off := 0x58, hi := 17, lo := 16 }
def SYS_WDOG_CFG_TIMEOUT : Fld := { page := 0x0, off := 0x58, hi := 15, lo := 0, reset := fun _ _ => 0x3e8 }
def SYS_WDOG_KICK_KICK : Fld := { page := 0x0, off := 0x5c, hi := 15, lo := 0, acc := .wo }
def SYS_BOOT_TIME_TIME : Fld := { page := 0x0, off := 0x60, hi := 31, lo := 0, acc := .ro }
def SYS_FULL_TIME_TIME : Fld := { page := 0x0, off := 0x64, hi := 31, lo := 0, acc := .ro }
def SYS_SHUTDOWN_KEY : Fld := { page := 0x0, off := 0x68, hi := 31, lo := 16, acc := .wo }
def SYS_SHUTDOWN_GRACE : Fld := { page := 0x0, off := 0x68, hi := 15, lo := 8, acc := .wo }
def SYS_SHUTDOWN_MODE : Fld := { page := 0x0, off := 0x68, hi := 2, lo := 1, acc := .wo }
def SYS_SHUTDOWN_START : Fld := { page := 0x0, off := 0x68, hi := 0, lo := 0, acc := .wo }

/-- The fields of page 0 of SYS. -/
def fldsSys0 : List Fld :=
  [SYS_STATUS_STOP_PHASE, SYS_STATUS_LAST_WARM, SYS_STATUS_SLOT, SYS_STATUS_BOOT_SRC, SYS_STATUS_LEVEL, SYS_UNIT_STATE_UNIT, SYS_PREP_START_START, SYS_FULL_MASK_COUNT, SYS_RESET_CAUSE_CAUSE, SYS_RESET_CTRL_KEY, SYS_RESET_CTRL_ACTION, SYS_WDOG_CFG_EN, SYS_WDOG_CFG_ACTION, SYS_WDOG_CFG_TIMEOUT, SYS_WDOG_KICK_KICK, SYS_BOOT_TIME_TIME, SYS_FULL_TIME_TIME, SYS_SHUTDOWN_KEY, SYS_SHUTDOWN_GRACE, SYS_SHUTDOWN_MODE, SYS_SHUTDOWN_START]

end Sys2Proof.Machine
end

