-- ==== Sys2Proof/Machine/Ops.lean ====
section
/-! DEFINITION. The shared operations over the device: memory, pages, statistics, error capture and report, interrupt
lines and their routes, free values, and the frame of every meaning. -/

namespace Sys2Proof.Machine

/-! ### The frame of a meaning -/

/-- Nothing but reset inputs and the backup domain acts: the internal reset is asserted (R822), or a warm reset has been
requested and every block input is closed (R96). -/
def frozen (d : Dev) : Bool := d.rst.asserted || d.rst.warmPending

/-- A command that changes the device and no memory; while the device is frozen nothing runs. -/
def upd (s : State) (f : Dev → Dev) : Host.Outcome State Fault Refusal :=
  .next (if frozen s.dev then s else { s with dev := f s.dev })

/-- A command of the backup domain or of a reset input, which acts while the internal reset is asserted too. -/
def updAlways (s : State) (f : Dev → Dev) : Host.Outcome State Fault Refusal :=
  .next { s with dev := f s.dev }

/-- A command that may store to memory as well. -/
def updMem (s : State) (f : Dev → Memory → Dev × Memory) : Host.Outcome State Fault Refusal :=
  .next (if frozen s.dev then s
    else { s with dev := (f s.dev s.mem).1, mem := (f s.dev s.mem).2 })

/-- A command of a reset input that may store to memory as well. -/
def updMemAlways (s : State) (f : Dev → Memory → Dev × Memory) : Host.Outcome State Fault Refusal :=
  .next { s with dev := (f s.dev s.mem).1, mem := (f s.dev s.mem).2 }

/-- The device and its memory. -/
abbrev DM := Dev × Memory

/-- Changes the device and leaves memory. -/
def onDev (f : Dev → Dev) (x : DM) : DM := (f x.1, x.2)

/-! ### Memory: one list of bytes in canonical form -/

/-- What a byte that nothing has written reads as. DESIGN CHOICE (log entry 2): the spec gives DRAM and the Serai no
contents after a cold reset. -/
def memDefault : Byte := 0

/-- The byte at address `a`. -/
def memGet : Memory → Nat → Byte
  | [], _ => memDefault
  | c :: m, a => if c.1 = a then c.2 else memGet m a

/-- Memory with the byte at `a` made `b`, in canonical form. -/
def memPut : Memory → Nat → Byte → Memory
  | [], a, b => if b = memDefault then [] else [(a, b)]
  | c :: m, a, b =>
    if a < c.1 then (if b = memDefault then c :: m else (a, b) :: c :: m)
    else if c.1 = a then (if b = memDefault then m else (a, b) :: m)
    else c :: memPut m a b

/-- `n` bytes from address `a`. -/
def memRead (m : Memory) (a n : Nat) : Bytes := (List.range n).map (fun i => memGet m (a + i))

/-- Memory with the bytes `bs` stored from address `a`. -/
def memWrite (m : Memory) (a : Nat) : Bytes → Memory
  | [] => m
  | b :: bs => memWrite (memPut m a b) (a + 1) bs

/-- Memory without every byte whose address satisfies `p`. -/
def memErase (m : Memory) (p : Nat → Bool) : Memory := m.filter (fun c => !p c.1)

/-- `m` holds its addresses in rising order from `lo` and lists no byte equal to what an unlisted one reads as. -/
def memWfFrom : Nat → Memory → Bool
  | _, [] => true
  | lo, c :: m => decide (lo ≤ c.1) && decide (c.2 ≠ memDefault) && memWfFrom (c.1 + 1) m

/-- The canonical form of memory. -/
def Memory.wf (m : Memory) : Bool := memWfFrom 0 m

/-- First address of the Serai window (R27). -/
def seraiBase : Nat := 0x8000000000

/-- First address of the register space (R12, R27). -/
def regBase : Nat := 0xF000000000

/-! ### Pages and blocks -/

/-- The page index of a block's first page, for a page of R38's table. -/
def firstPage (p : Nat) : Nat :=
  if p < 4 then p
  else if p < 8 then 4
  else if p < 0x10 then p
  else if p < 0x18 then 0x10
  else if p < 0x20 then 0x18
  else if p < 0x30 then 0x20
  else if p < 0x40 then 0x30 + (p - 0x30) / 5 * 5
  else if p < 0x48 then p / 4 * 4
  else if p < 0x58 then p / 8 * 8
  else if p < 0x60 then p / 4 * 4
  else if p < 0x70 then 0x60
  else if p < 0x7C then 0x70
  else if p < 0x84 then p / 4 * 4
  else if p < 0x88 then p
  else if p < 0x8C then 0x88
  else if p < 0x90 then 0x8C
  else if p < 0x98 then 0x90
  else if p < 0xA0 then 0x98
  else if p < 0xB0 then p
  else if p < 0xC0 then p / 4 * 4
  else if p < 0xD0 then p
  else if p < 0xE0 then 0xD0
  else p

/-- Whether R38's table lists page index `p`. -/
def listedPage (p : Nat) : Bool :=
  decide (p < 9) || (decide (0x10 ≤ p) && decide (p < 0x14)) || (decide (0x18 ≤ p) && decide (p < 0x28)) ||
  (decide (0x30 ≤ p) && decide (p < 0x3F)) || (decide (0x40 ≤ p) && decide (p < 0x85)) ||
  (decide (0x88 ≤ p) && decide (p < 0x8E)) || (decide (0x90 ≤ p) && decide (p < 0x94)) ||
  (decide (0x98 ≤ p) && decide (p < 0xA8)) || (decide (0xB0 ≤ p) && decide (p < 0xB8)) ||
  (decide (0xC0 ≤ p) && decide (p < 0xCF)) || (decide (0xD0 ≤ p) && decide (p < 0xD4)) ||
  (decide (0xE0 ≤ p) && decide (p < 0xE4)) || p == 0xF0

/-- Whether the variant has the unit of page `p` (R2, R39; LANE4–7, ETH4, ETH5 and PCIE as "Lanes, Ethernet Ports and
PCI Express" lists them for the NV9720). -/
def variantHas (v : Variant) (p : Nat) : Bool :=
  match v with
  | .nv9700 => true
  | .nv9740 => !(decide (0x40 ≤ p) && decide (p < 0x44)) && p != 0xA6 && p != 0xA7
  | .nv9720 =>
    !(decide (0x40 ≤ p) && decide (p < 0x44)) && !(decide (0x58 ≤ p) && decide (p < 0x60)) &&
    !(decide (0xA4 ≤ p) && decide (p < 0xA8)) && !(decide (0xB4 ≤ p) && decide (p < 0xB8)) &&
    !(decide (0xC4 ≤ p) && decide (p < 0xC8)) && p != 0xCC && p != 0xCD && p != 0xCE

/-- Whether page `p` is present (R39). -/
def present (d : Dev) (p : Nat) : Bool := listedPage p && variantHas d.variant p

/-- SYS, SYSFEAT, INTR, CUSTOMS, PACE, RTC and BRYN ignore SOFT_RST and FREEZE (R75). -/
def ignoresSoft (p : Nat) : Bool := has [0, 1, 3, 4, 8, 0x84, 0x90] p

/-- SYS, SYSFEAT, INTR and CUSTOMS work whatever CTRL.EN holds (R819). -/
def alwaysOn (p : Nat) : Bool := has [0, 1, 3, 4] p

/-- The states of R70. -/
inductive BlockState where
  | off | starting | active | draining | drainingRestart
  deriving DecidableEq, Repr

/-- The state of the block at first page `p`, read from its header as R70's table gives it. -/
def blockState (d : Dev) (p : Nat) : BlockState :=
  if d.on HDR_STATUS_DRAINING p then
    (if d.on HDR_STATUS_RESTART_PENDING p then .drainingRestart else .draining)
  else if d.on HDR_STATUS_ACTIVE p then .active
  else if d.on HDR_CTRL_EN p then .starting
  else .off

/-- Puts the header of the block at `p` into a state of R70. -/
def setBlockState (p : Nat) (b : BlockState) (d : Dev) : Dev :=
  let w := fun (e a dr r : Nat) =>
    (((d.put HDR_CTRL_EN e p).put HDR_STATUS_ACTIVE a p).put HDR_STATUS_DRAINING dr p).put
      HDR_STATUS_RESTART_PENDING r p
  match b with
  | .off => w 0 0 0 0
  | .starting => w 1 0 0 0
  | .active => w 1 1 0 0
  | .draining => w 0 0 1 0
  | .drainingRestart => w 1 0 1 1

/-- The block at first page `p` is Active. -/
def isActive (d : Dev) (p : Nat) : Bool := blockState d p == .active

/-- The block at first page `p` is Off. -/
def isOff (d : Dev) (p : Nat) : Bool := blockState d p == .off

/-! ### Features (R55–R62) -/

/-- Offered feature word `w` of the variant (R58). -/
def offered (v : Variant) (w : Nat) : Nat :=
  match v, w with
  | .nv9700, 0 => 0x00381628 | .nv9700, 1 => 0x3F | .nv9700, 2 => 0xFF | .nv9700, 3 => 0xFF
  | .nv9740, 0 => 0x00240E26 | .nv9740, 1 => 0x3B | .nv9740, 2 => 0xFF | .nv9740, 3 => 0xFF
  | .nv9720, 0 => 0x00040114 | .nv9720, 1 => 0x0B | .nv9720, 2 => 0xFF | .nv9720, 3 => 0xBF
  | _, _ => 0

/-- Whether features are committed and device bit `b` of word `w` is accepted. -/
def accepted (d : Dev) (w b : Nat) : Bool :=
  d.on SYSFEAT_STATUS_COMMITTED && (d.rd DRV_FEAT_ACCEPT 0 w).testBit b

/-- The committed features as one number: bit 32(w−1)+b for word w bit b; 0 before the commit (R55). -/
def committedBits (d : Dev) : Nat :=
  if d.on SYSFEAT_STATUS_COMMITTED then
    d.rd DRV_FEAT_ACCEPT 0 1 + 2 ^ 32 * d.rd DRV_FEAT_ACCEPT 0 2 + 2 ^ 64 * d.rd DRV_FEAT_ACCEPT 0 3
  else 0

/-- Whether the block at first page `p` works with device bit `b` of word `w`: the features it took at its last entry
to Starting (R62). -/
def feat (d : Dev) (p w b : Nat) : Bool := (tabGet d.sh.taken p 0).testBit (32 * (w - 1) + b)

/-- The governing bit `b` of word `w` as the block at `p` goes by it: an Off block, which will take the committed features
at its next enable, by those (R60, R62). -/
def govern (d : Dev) (p w b : Nat) : Bool := if isOff d p then accepted d w b else feat d p w b

/-- The block at `p` takes the features committed at this moment (R62). -/
def takeFeatures (p : Nat) (d : Dev) : Dev :=
  { d with sh := { d.sh with taken := tabSet d.sh.taken p (committedBits d) } }

/-! ### Free values -/

/-- A fresh value the spec leaves open, and the device with the counter of such values advanced. -/
def draw (d : Dev) : Nat × Dev := (Config.freeValue d.drawn, { d with drawn := d.drawn + 1 })

/-- One of two coincident outcomes (R79): the arbiter's choice is open. -/
def drawBit (d : Dev) : Bool × Dev := (Config.freeValue d.drawn % 2 == 1, { d with drawn := d.drawn + 1 })

/-! ### Outputs -/

/-- Appends to what the device shows outside. -/
def emit (o : Out) (d : Dev) : Dev := { d with out := d.out ++ [o] }

/-! ### Holding of statistics and error capture (R71, R815) -/

/-- Whether the block at first page `p` holds its statistics counters and error capture. -/
def holding (d : Dev) (p : Nat) : Bool :=
  !ignoresSoft p && (d.on HDR_CTRL_FREEZE p || d.on DIAG_STATUS_SNAP)

/-- Adds `n` to a field, saturating at all ones. -/
def satPut (F : Fld) (n i amount : Nat) (d : Dev) : Dev :=
  d.put F (satAdd (2 ^ F.width - 1) (d.rd F n i) amount) n i

/-- Adds `amount` to a saturating statistics counter; while the block holds, the events accumulate (R71). -/
def bump (F : Fld) (n i amount : Nat) (d : Dev) : Dev :=
  if holding d (firstPage (F.pageOf n)) then
    { d with sh := { d.sh with
      frozenCounts := regPut (F.key n i) ((regLook (F.key n i) d.sh.frozenCounts).getD 0 + amount) 0
        d.sh.frozenCounts } }
  else satPut F n i amount d

/-- Counts one event. -/
def count (F : Fld) (n : Nat := 0) (i : Nat := 0) (d : Dev) : Dev := bump F n i 1 d

/-! ### Interrupts (R48–R53) -/

/-- INT_STAT of the block at `p`. -/
def intStat (d : Dev) (p : Nat) : Nat := d.rd HDR_INT_RAW_RAW p &&& d.rd HDR_INT_EN_EN p

/-- Line `l` of the block at `p` is asserted (R48). -/
def lineOn (d : Dev) (p l : Nat) : Bool := intStat d p / 2 ^ (8 * l) % 256 != 0

/-- Interrupt number `n` (R49) is at a high level: its page is present and the first of its block, and its line is
asserted. -/
def numberOn (d : Dev) (n : Nat) : Bool :=
  present d (n / 4) && firstPage (n / 4) == n / 4 && lineOn d (n / 4) (n % 4)

/-- First page of DROVER. -/
def pDrover : Nat := 0x98

/-- The Drover's event-post queue takes a post: the block is Active, and fewer than 1,024 wait (R645, R673). -/
def postRoom (d : Dev) : Bool := isActive d pDrover && decide (d.sh.posts.length < 1024)

/-- Posts an event, the queue having room. -/
def pushPost (p : Post) (d : Dev) : Dev := { d with sh := { d.sh with posts := d.sh.posts ++ [p] } }

/-- Sends the message of MSI-X vector `v`, or sets its pending bit while the function or the vector is masked or MSI-X
is disabled (R53). -/
def msixFire (v : Nat) (d : Dev) : Dev :=
  if !present d 0xCE then d
  else if d.on PCIE_MSIX_CTL_MASK 0 v || !d.pcie.msixEnable || d.pcie.msixFnMask then d.put PCIE_MSIX_PBA_PEND 1 0 v
  else emit (.msix v (d.rd PCIE_MSIX_ADDR_LO_ADDR 0 v + 2 ^ 32 * d.rd PCIE_MSIX_ADDR_HI_ADDR 0 v)
    (d.rd PCIE_MSIX_DATA_DATA 0 v)) d

/-- The router takes a rising edge of interrupt number `n` (R51–R53). A line routed to cores is a level, which
`numberOn` shows. -/
def routeEdge (n : Nat) (d : Dev) : Dev :=
  match d.rd INTR_ROUTE_DATA_KIND 0 n with
  | 2 =>
    if postRoom d then
      pushPost { task := d.rd INTR_ROUTE_DATA_TASK 0 n, flag := d.rd INTR_ROUTE_DATA_TARGET 0 n % 32, item := none } d
    else { d with sh := { d.sh with heldLines := addOnce d.sh.heldLines n } }
  | 3 => msixFire (d.rd INTR_ROUTE_DATA_TARGET 0 n % 64) d
  | _ => d

/-- Routes every line of the block at `p` that is asserted in `e` and was not in `d`. -/
def routeRises (p : Nat) (d e : Dev) : Dev :=
  (List.range 4).foldl
    (fun x l => if lineOn e p l && !lineOn d p l then routeEdge (4 * p + l) x else x) e

/-- Changes INT_RAW or INT_EN of the block at `p` by `f` and routes the lines that rise. -/
def withLines (p : Nat) (f : Dev → Dev) (d : Dev) : Dev := routeRises p d (f d)

/-- Sets the bits `m` of INT_RAW of the block at `p`. -/
def raise (p m : Nat) (d : Dev) : Dev :=
  withLines p (fun x => x.put HDR_INT_RAW_RAW (x.rd HDR_INT_RAW_RAW p ||| m) p) d

/-- Raises cause bit `b` of the block at `p`. -/
def raiseBit (p b : Nat) (d : Dev) : Dev := raise p (2 ^ b) d

/-- Takes cause bit `b` of the block at `p` back: for the causes that a rule raises "while" a condition holds. -/
def lowerBit (p b : Nat) (d : Dev) : Dev :=
  d.put HDR_INT_RAW_RAW (clearBit (d.rd HDR_INT_RAW_RAW p) b) p

/-! ### Time as the units read it -/

/-- Nanoseconds within the second, from the count of the time base. -/
def nowNs (d : Dev) : Nat := d.tb.count / 2 ^ 48 % 1000000000

/-- Whole seconds of the time base. -/
def nowS (d : Dev) : Nat := d.tb.count / 2 ^ 48 / 1000000000

/-- Total whole nanoseconds of the time base. -/
def nowTotal (d : Dev) : Nat := d.tb.count / 2 ^ 48

/-! ### Errors (R46, R47, R808–R815) -/

/-- The DIAG page. -/
def pDiag : Nat := 0xF0

/-- The BRYN page. -/
def pBryn : Nat := 0x90

/-- The capture of R46 at the block's header: the first error fills the fields, each further one counts in MORE. -/
def captureNow (e : ErrRec) (d : Dev) : Dev :=
  if d.on HDR_ERR_CODE_VALID e.page then satPut HDR_ERR_CODE_MORE e.page 0 1 d
  else
    raiseBit e.page 0
      (((((((d.put HDR_ERR_CODE_VALID 1 e.page).put HDR_ERR_CODE_SEVERITY e.sev e.page).put
        HDR_ERR_CODE_KIND e.kind e.page).put HDR_ERR_CODE_MASTER e.master e.page).put
        HDR_ERR_CODE_CODE e.code e.page).put HDR_ERR_ADDR_LO_ADDR (e.addr % 2 ^ 32) e.page).put
        HDR_ERR_ADDR_HI_ADDR (e.addr / 2 ^ 32) e.page)

/-- The capture of R46, accumulated while the block holds (R71). -/
def capture (e : ErrRec) (d : Dev) : Dev :=
  if holding d e.page then { d with sh := { d.sh with frozenErrs := d.sh.frozenErrs ++ [e] } }
  else captureNow e d

/-- A contained or fatal report takes a log entry, or counts in DIAG_LOG_OVF (R814). -/
def diagLog (e : ErrRec) (d : Dev) : Dev :=
  let k := d.rd DIAG_STATUS_LOG_COUNT
  if k < 16 then
    (((((((((((d.put DIAG_LOG_W0_VALID 1 0 k).put DIAG_LOG_W0_PAGE e.page 0 k).put
      DIAG_LOG_W0_SEVERITY e.sev 0 k).put DIAG_LOG_W0_KIND e.kind 0 k).put
      DIAG_LOG_W0_MASTER e.master 0 k).put DIAG_LOG_W0_CODE e.code 0 k).put
      DIAG_LOG_ADDR_LO_ADDR (e.addr % 2 ^ 32) 0 k).put DIAG_LOG_ADDR_HI_ADDR (e.addr / 2 ^ 32) 0 k).put
      DIAG_LOG_NS_NS (nowNs d) 0 k).put DIAG_LOG_S_S (nowS d) 0 k).put DIAG_STATUS_LOG_COUNT (k + 1))
  else raiseBit pDiag 5 (count DIAG_LOG_OVF_COUNT 0 0 d)

/-- A snapshot starts, unless one holds or DIAG is not Active (R815). -/
def snapStart (d : Dev) : Dev :=
  if isActive d pDiag && !d.on DIAG_STATUS_SNAP then
    raiseBit pDiag 4
      (((d.put DIAG_STATUS_SNAP 1).put DIAG_SNAP_NS_NS (nowNs d)).put DIAG_SNAP_S_S (nowS d))
  else d

/-- The response to a fatal report from a page other than BRYN: FATAL and GRACE (R810, R811). -/
def fatalReport (d : Dev) : Dev :=
  if d.on DIAG_STATUS_GRACE then raiseBit pDiag 8 (d.put DIAG_STATUS_FATAL 1)
  else
    raiseBit pDiag 8
      { (d.put DIAG_STATUS_FATAL 1).put DIAG_STATUS_GRACE 1 with
        sh := { d.sh with graceAction := d.rd DIAG_FATAL_CFG_ACTION } }

/-- The report of an error to DIAG (R808–R815), whatever the block's capture did. -/
def diagReport (e : ErrRec) (d : Dev) : Dev :=
  if e.sev = 0 then count DIAG_CNT_CE_COUNT 0 0 d
  else if e.sev = 1 then
    let x := raiseBit pDiag 3 (diagLog e (count DIAG_CNT_CONT_COUNT 0 0 d))
    if 2 ≤ d.rd DIAG_SNAP_AUTO then snapStart x else x
  else
    let x := diagLog e (count DIAG_CNT_FATAL_COUNT 0 0 d)
    let y := if e.page = pBryn then x else fatalReport x
    if 1 ≤ d.rd DIAG_SNAP_AUTO then snapStart y else y

/-- A block detects an error: it captures it (R46) and reports it to DIAG (R809). -/
def report (e : ErrRec) (d : Dev) : Dev := diagReport e (capture e d)

/-- A correctable error of a write by master `m`: SEVERITY 0b00, KIND 0b01. -/
def refuseWrite (page code m addr : Nat) (d : Dev) : Dev :=
  report { page := page, code := code, sev := 0, kind := 1, master := m, addr := addr } d

/-- An error that is not an access: KIND 0b11, no master, and an index as its address. -/
def fault0 (page code sev idx : Nat) (d : Dev) : Dev :=
  report { page := page, code := code, sev := sev, kind := 3, master := 0, addr := idx } d

/-! ### Guards of a register write -/

/-- The address of a register. -/
def regAddr (page off : Nat) : Nat := regBase + page * 4096 + off

/-- Soft reset is in progress for the block that page `p` belongs to. -/
def inSoftReset (d : Dev) (p : Nat) : Bool := d.on HDR_CTRL_SOFT_RST (firstPage p)

/-- LOCK.CFG of the block that page `p` belongs to. -/
def cfgLocked (d : Dev) (p : Nat) : Bool := d.on HDR_LOCK_CFG (firstPage p)

/-- LOCK.CTRL of the block that page `p` belongs to. -/
def ctrlLocked (d : Dev) (p : Nat) : Bool := d.on HDR_LOCK_CTRL (firstPage p)

/-- A write to an absent page is discarded and counted (R40). -/
def absentWrite (m page : Nat) (d : Dev) : Dev :=
  ((satPut SYS_ABSENT_HITS_COUNT 0 0 1 d).put SYS_ABSENT_LAST_MASTER m).put SYS_ABSENT_LAST_PAGE page

end Sys2Proof.Machine
end

