-- ==== Sys2Proof/Machine/RegsDram.lean ====
section
/-! DEFINITION. The register fields of spec/18_dram.md: page, offset, bits, access code, reset value,
regular stride and count, one definition per field, from the register tables of that chapter. -/

namespace Sys2Proof.Machine

def DRAM_GEOM_SPARE : Fld := { page := 0xb0, span := 4, off := 0x40, hi := 20, lo := 20, acc := .rws, stat := true }
def DRAM_GEOM_RANKS : Fld := { page := 0xb0, span := 4, off := 0x40, hi := 17, lo := 16, acc := .rws, stat := true, reset := fun _ _ => 1 }
def DRAM_GEOM_ROW_BITS : Fld := { page := 0xb0, span := 4, off := 0x40, hi := 15, lo := 12, acc := .rws, stat := true }
def DRAM_GEOM_BA_BITS : Fld := { page := 0xb0, span := 4, off := 0x40, hi := 11, lo := 8, acc := .rws, stat := true, reset := fun _ _ => 2 }
def DRAM_GEOM_BG_BITS : Fld := { page := 0xb0, span := 4, off := 0x40, hi := 7, lo := 4, acc := .rws, stat := true, reset := fun _ _ => 3 }
def DRAM_GEOM_COL_BITS : Fld := { page := 0xb0, span := 4, off := 0x40, hi := 3, lo := 0, acc := .rws, stat := true, reset := fun _ _ => 6 }
def DRAM_MAP_ILV : Fld := { page := 0xb0, span := 4, off := 0x44, hi := 0, lo := 0, acc := .rws, stat := true }
def DRAM_RATE_MTS : Fld := { page := 0xb0, span := 4, off := 0x48, hi := 15, lo := 0, acc := .rws, stat := true, reset := fun _ _ => 0x1900 }
def DRAM_WQ_HIGH : Fld := { page := 0xb0, span := 4, off := 0x4c, hi := 13, lo := 8, reset := fun _ _ => 0x30 }
def DRAM_WQ_LOW : Fld := { page := 0xb0, span := 4, off := 0x4c, hi := 5, lo := 0, reset := fun _ _ => 0x10 }
def DRAM_RT_EN : Fld := { page := 0xb0, span := 4, off := 0x50, hi := 14, lo := 10 }
def DRAM_PWR_SR_IDLE : Fld := { page := 0xb0, span := 4, off := 0x54, hi := 15, lo := 0 }
def DRAM_STATUS_SELF_REFRESH : Fld := { page := 0xb0, span := 4, off := 0x58, hi := 8, lo := 8, acc := .ro }
def DRAM_STATUS_OWED : Fld := { page := 0xb0, span := 4, off := 0x58, hi := 2, lo := 0, acc := .ro }
def DRAM_CE_RANK_COUNT : Fld := { page := 0xb0, span := 4, off := 0x80, hi := 31, lo := 0, acc := .w1c, stride := 0x4, count := 3 }
def DRAM_UE_RANK_COUNT : Fld := { page := 0xb0, span := 4, off := 0x8c, hi := 31, lo := 0, acc := .w1c, stride := 0x4, count := 3 }
def DRAM_POISON_READ_COUNT : Fld := { page := 0xb0, span := 4, off := 0x98, hi := 31, lo := 0, acc := .w1c }
def DRAM_CA_RETRY_COUNT : Fld := { page := 0xb0, span := 4, off := 0x9c, hi := 31, lo := 0, acc := .w1c }
def DRAM_RH_REFRESH_COUNT : Fld := { page := 0xb0, span := 4, off := 0xa0, hi := 31, lo := 0, acc := .w1c }
def DRAM_MIG_LOST_COUNT : Fld := { page := 0xb0, span := 4, off := 0xa4, hi := 31, lo := 0, acc := .w1c }
def DRAM_LOG_OVF_COUNT : Fld := { page := 0xb0, span := 4, off := 0xa8, hi := 31, lo := 0, acc := .w1c }
def DRAM_TIM0_TRAS : Fld := { page := 0xb1, span := 4, off := 0x40, hi := 27, lo := 16, acc := .rws, stat := true, reset := fun _ _ => 0x68 }
def DRAM_TIM0_TRCD : Fld := { page := 0xb1, span := 4, off := 0x40, hi := 11, lo := 0, acc := .rws, stat := true, reset := fun _ _ => 0x34 }
def DRAM_TIM1_TRC : Fld := { page := 0xb1, span := 4, off := 0x44, hi := 27, lo := 16, acc := .rws, stat := true, reset := fun _ _ => 0x9c }
def DRAM_TIM1_TRP : Fld := { page := 0xb1, span := 4, off := 0x44, hi := 11, lo := 0, acc := .rws, stat := true, reset := fun _ _ => 0x34 }
def DRAM_TIM2_TXS : Fld := { page := 0xb1, span := 4, off := 0x48, hi := 27, lo := 16, acc := .rws, stat := true, reset := fun _ _ => 0x3d0 }
def DRAM_TIM2_TRFC1 : Fld := { page := 0xb1, span := 4, off := 0x48, hi := 11, lo := 0, acc := .rws, stat := true, reset := fun _ _ => 0x3b0 }
def DRAM_TIM3_TREFI : Fld := { page := 0xb1, span := 4, off := 0x4c, hi := 31, lo := 16, acc := .rws, stat := true, reset := fun _ _ => 0x30c0 }
def DRAM_TIM3_TCKSRE : Fld := { page := 0xb1, span := 4, off := 0x4c, hi := 7, lo := 0, acc := .rws, stat := true, reset := fun _ _ => 0xc }
def DRAM_TRN_CTRL_BUSY : Fld := { page := 0xb2, span := 4, off := 0x40, hi := 31, lo := 31, acc := .ro }
def DRAM_TRN_CTRL_RANK : Fld := { page := 0xb2, span := 4, off := 0x40, hi := 13, lo := 12 }
def DRAM_TRN_CTRL_SUBCH : Fld := { page := 0xb2, span := 4, off := 0x40, hi := 8, lo := 8 }
def DRAM_TRN_CTRL_OP : Fld := { page := 0xb2, span := 4, off := 0x40, hi := 3, lo := 0, acc := .wo }
def DRAM_TRN_ARG_ADDR : Fld := { page := 0xb2, span := 4, off := 0x44, hi := 23, lo := 16 }
def DRAM_TRN_ARG_DATA : Fld := { page := 0xb2, span := 4, off := 0x44, hi := 7, lo := 0 }
def DRAM_TRN_PAT_KIND : Fld := { page := 0xb2, span := 4, off := 0x48, hi := 18, lo := 16, reset := fun _ _ => 1 }
def DRAM_TRN_PAT_LINES : Fld := { page := 0xb2, span := 4, off := 0x48, hi := 15, lo := 0, reset := fun _ _ => 0x100 }
def DRAM_TRN_USER_LO_PATTERN : Fld := { page := 0xb2, span := 4, off := 0x4c, hi := 31, lo := 0 }
def DRAM_TRN_USER_HI_PATTERN : Fld := { page := 0xb2, span := 4, off := 0x50, hi := 31, lo := 0 }
def DRAM_TRN_ERR_LO_MASK : Fld := { page := 0xb2, span := 4, off := 0x54, hi := 31, lo := 0, acc := .ro }
def DRAM_TRN_ERR_HI_COUNT : Fld := { page := 0xb2, span := 4, off := 0x58, hi := 31, lo := 16, acc := .ro }
def DRAM_TRN_ERR_HI_MASK : Fld := { page := 0xb2, span := 4, off := 0x58, hi := 7, lo := 0, acc := .ro }
def DRAM_EYE_CFG_STEP : Fld := { page := 0xb2, span := 4, off := 0x5c, hi := 31, lo := 24, reset := fun _ _ => 1 }
def DRAM_EYE_CFG_END : Fld := { page := 0xb2, span := 4, off := 0x5c, hi := 23, lo := 16, reset := fun _ _ => 0x7f }
def DRAM_EYE_CFG_START : Fld := { page := 0xb2, span := 4, off := 0x5c, hi := 15, lo := 8 }
def DRAM_EYE_CFG_WHAT : Fld := { page := 0xb2, span := 4, off := 0x5c, hi := 6, lo := 5 }
def DRAM_EYE_CFG_LANE : Fld := { page := 0xb2, span := 4, off := 0x5c, hi := 4, lo := 0 }
def DRAM_EYE_MAP_PASS : Fld := { page := 0xb2, span := 4, off := 0x60, hi := 31, lo := 0, acc := .ro, stride := 0x4, count := 2 }
def DRAM_DLY_IDX_LANE : Fld := { page := 0xb2, span := 4, off := 0x68, hi := 5, lo := 0 }
def DRAM_DLY_VREF : Fld := { page := 0xb2, span := 4, off := 0x6c, hi := 31, lo := 24, acc := .rws, count := 64, reset := fun _ _ => 0x40 }
def DRAM_DLY_TX : Fld := { page := 0xb2, span := 4, off := 0x6c, hi := 15, lo := 8, acc := .rws, count := 64 }
def DRAM_DLY_RX : Fld := { page := 0xb2, span := 4, off := 0x6c, hi := 7, lo := 0, acc := .rws, count := 64 }
def DRAM_TRN_DONE_RESULT : Fld := { page := 0xb2, span := 4, off := 0x70, hi := 1, lo := 0, acc := .wo }
def DRAM_RH_THRESH : Fld := { page := 0xb3, span := 4, off := 0x40, hi := 31, lo := 16, reset := fun _ _ => 0x800 }
def DRAM_RH_BLAST : Fld := { page := 0xb3, span := 4, off := 0x40, hi := 10, lo := 8, reset := fun _ _ => 2 }
def DRAM_RH_RFM_EN : Fld := { page := 0xb3, span := 4, off := 0x40, hi := 0, lo := 0, reset := fun _ _ => 1 }
def DRAM_SCRUB_PERIOD_H : Fld := { page := 0xb3, span := 4, off := 0x44, hi := 23, lo := 16, reset := fun _ _ => 0x18 }
def DRAM_SCRUB_ECC_DETECT : Fld := { page := 0xb3, span := 4, off := 0x44, hi := 8, lo := 8 }
def DRAM_SCRUB_EN : Fld := { page := 0xb3, span := 4, off := 0x44, hi := 0, lo := 0, reset := fun _ _ => 1 }
def DRAM_INIT_DONE : Fld := { page := 0xb3, span := 4, off := 0x48, hi := 31, lo := 31, acc := .ro }
def DRAM_INIT_RATE : Fld := { page := 0xb3, span := 4, off := 0x48, hi := 15, lo := 0, reset := fun _ _ => 0x40 }
def DRAM_MIG_RATE : Fld := { page := 0xb3, span := 4, off := 0x4c, hi := 31, lo := 16, reset := fun _ _ => 0x20 }
def DRAM_MIG_RANK : Fld := { page := 0xb3, span := 4, off := 0x4c, hi := 9, lo := 8 }
def DRAM_MIG_START : Fld := { page := 0xb3, span := 4, off := 0x4c, hi := 1, lo := 1, acc := .wo }
def DRAM_MIG_AUTO : Fld := { page := 0xb3, span := 4, off := 0x4c, hi := 0, lo := 0, reset := fun _ _ => 1 }
def DRAM_MIG_STATUS_ACTIVE : Fld := { page := 0xb3, span := 4, off := 0x50, hi := 31, lo := 31, acc := .ro }
def DRAM_MIG_STATUS_DONE : Fld := { page := 0xb3, span := 4, off := 0x50, hi := 30, lo := 30, acc := .ro }
def DRAM_MIG_PTR_LINE : Fld := { page := 0xb3, span := 4, off := 0x54, hi := 31, lo := 0, acc := .ro }
def DRAM_MIG_MAP_VALID : Fld := { page := 0xb3, span := 4, off := 0x58, hi := 2, lo := 2, acc := .rws }
def DRAM_MIG_MAP_RANK : Fld := { page := 0xb3, span := 4, off := 0x58, hi := 1, lo := 0, acc := .rws }
def DRAM_ERR_LOG_VALID : Fld := { page := 0xb3, span := 4, off := 0x5c, hi := 31, lo := 31, acc := .ro }
def DRAM_ERR_LOG_KIND : Fld := { page := 0xb3, span := 4, off := 0x5c, hi := 29, lo := 28, acc := .ro }
def DRAM_ERR_LOG_RANK : Fld := { page := 0xb3, span := 4, off := 0x5c, hi := 25, lo := 24, acc := .ro }
def DRAM_ERR_LOG_SUBCH : Fld := { page := 0xb3, span := 4, off := 0x5c, hi := 20, lo := 20, acc := .ro }
def DRAM_ERR_LOG_ROW : Fld := { page := 0xb3, span := 4, off := 0x5c, hi := 19, lo := 0, acc := .ro }
def DRAM_ERR_ADDR_LO_ADDR : Fld := { page := 0xb3, span := 4, off := 0x60, hi := 31, lo := 6, acc := .ro }
def DRAM_ERR_ADDR_HI_BANK : Fld := { page := 0xb3, span := 4, off := 0x64, hi := 20, lo := 16, acc := .ro }
def DRAM_ERR_ADDR_HI_ADDR : Fld := { page := 0xb3, span := 4, off := 0x64, hi := 15, lo := 0, acc := .ro }

/-- The fields of page 0 of DRAM. -/
def fldsDram0 : List Fld :=
  [DRAM_GEOM_SPARE, DRAM_GEOM_RANKS, DRAM_GEOM_ROW_BITS, DRAM_GEOM_BA_BITS, DRAM_GEOM_BG_BITS, DRAM_GEOM_COL_BITS, DRAM_MAP_ILV, DRAM_RATE_MTS, DRAM_WQ_HIGH, DRAM_WQ_LOW, DRAM_RT_EN, DRAM_PWR_SR_IDLE, DRAM_STATUS_SELF_REFRESH, DRAM_STATUS_OWED, DRAM_CE_RANK_COUNT, DRAM_UE_RANK_COUNT, DRAM_POISON_READ_COUNT, DRAM_CA_RETRY_COUNT, DRAM_RH_REFRESH_COUNT, DRAM_MIG_LOST_COUNT, DRAM_LOG_OVF_COUNT]

/-- The fields of page 1 of DRAM. -/
def fldsDram1 : List Fld :=
  [DRAM_TIM0_TRAS, DRAM_TIM0_TRCD, DRAM_TIM1_TRC, DRAM_TIM1_TRP, DRAM_TIM2_TXS, DRAM_TIM2_TRFC1, DRAM_TIM3_TREFI, DRAM_TIM3_TCKSRE]

/-- The fields of page 2 of DRAM. -/
def fldsDram2 : List Fld :=
  [DRAM_TRN_CTRL_BUSY, DRAM_TRN_CTRL_RANK, DRAM_TRN_CTRL_SUBCH, DRAM_TRN_CTRL_OP, DRAM_TRN_ARG_ADDR, DRAM_TRN_ARG_DATA, DRAM_TRN_PAT_KIND, DRAM_TRN_PAT_LINES, DRAM_TRN_USER_LO_PATTERN, DRAM_TRN_USER_HI_PATTERN, DRAM_TRN_ERR_LO_MASK, DRAM_TRN_ERR_HI_COUNT, DRAM_TRN_ERR_HI_MASK, DRAM_EYE_CFG_STEP, DRAM_EYE_CFG_END, DRAM_EYE_CFG_START, DRAM_EYE_CFG_WHAT, DRAM_EYE_CFG_LANE, DRAM_EYE_MAP_PASS, DRAM_DLY_IDX_LANE, DRAM_DLY_VREF, DRAM_DLY_TX, DRAM_DLY_RX, DRAM_TRN_DONE_RESULT]

/-- The fields of page 3 of DRAM. -/
def fldsDram3 : List Fld :=
  [DRAM_RH_THRESH, DRAM_RH_BLAST, DRAM_RH_RFM_EN, DRAM_SCRUB_PERIOD_H, DRAM_SCRUB_ECC_DETECT, DRAM_SCRUB_EN, DRAM_INIT_DONE, DRAM_INIT_RATE, DRAM_MIG_RATE, DRAM_MIG_RANK, DRAM_MIG_START, DRAM_MIG_AUTO, DRAM_MIG_STATUS_ACTIVE, DRAM_MIG_STATUS_DONE, DRAM_MIG_PTR_LINE, DRAM_MIG_MAP_VALID, DRAM_MIG_MAP_RANK, DRAM_ERR_LOG_VALID, DRAM_ERR_LOG_KIND, DRAM_ERR_LOG_RANK, DRAM_ERR_LOG_SUBCH, DRAM_ERR_LOG_ROW, DRAM_ERR_ADDR_LO_ADDR, DRAM_ERR_ADDR_HI_BANK, DRAM_ERR_ADDR_HI_ADDR]

end Sys2Proof.Machine
end

