-- ==== Sys2Proof/Machine/Customs.lean ====
section
/-! DEFINITION. The address map and the customs tables (spec/01_architecture.md R27–R35, spec/02_register_model.md
R63–R69): which access is granted, what a blocked access does, and the memory accesses of the device's own units. -/

namespace Sys2Proof.Machine

open Sys2Proof

/-- The customs targets in the order of R63. -/
inductive CustomsTarget where
  | serai | dram | regs | keyStore | contexts | rings
  deriving DecidableEq, Repr

/-- The number of a target in the order of R63. -/
def targetNo : CustomsTarget → Nat
  | .serai => 0 | .dram => 1 | .regs => 2 | .keyStore => 3 | .contexts => 4 | .rings => 5

/-- The field at byte `off` of the region registers of a target (R63, R64). -/
def customsFld (t : CustomsTarget) (off hi : Nat) : Fld :=
  { page := 4 + targetNo t / 2, off := (if targetNo t % 2 = 0 then 0x100 else 0x400) + off, hi := hi, lo := 0,
    lockable := true, stride := 0x30, count := 16 }

/-- First and last granule of region `r`, inclusive (R64). -/
def regionFirst (d : Dev) (t : CustomsTarget) (r : Nat) : Nat :=
  d.rd (customsFld t 0 31) 0 r + 2 ^ 32 * d.rd (customsFld t 4 15) 0 r

def regionLast (d : Dev) (t : CustomsTarget) (r : Nat) : Nat :=
  d.rd (customsFld t 8 31) 0 r + 2 ^ 32 * d.rd (customsFld t 0xC 15) 0 r

/-- Region `r` is in force. -/
def regionOn (d : Dev) (t : CustomsTarget) (r : Nat) : Bool := d.on (customsFld t 0x28 0) 0 r

/-- The rights of region `r` for master `m` and an access of kind `k`. -/
def regionGrants (d : Dev) (t : CustomsTarget) (r m : Nat) (k : AccKind) : Bool :=
  let base := match k with
    | .read => 0x10
    | .write => 0x18
    | .fetch => 0x20
  (d.rd (customsFld t (base + 4 * (m / 32)) 31) 0 r).testBit (m % 32)

/-- The lowest-numbered enabled region that contains granule `g` decides; a granule in none grants nothing (R65). -/
def granuleGrants (d : Dev) (t : CustomsTarget) (g m : Nat) (k : AccKind) : Bool :=
  match (List.range 16).find? (fun r =>
      regionOn d t r && decide (regionFirst d t r ≤ g) && decide (g ≤ regionLast d t r)) with
  | some r => regionGrants d t r m k
  | none => false

/-- Whether the customs tables grant an access: the granules of its first and its last byte (R65); Bryn is not subject
to the tables (R67). -/
def customsGrant (d : Dev) (t : CustomsTarget) (g1 g2 m : Nat) (k : AccKind) : Bool :=
  m == 16 || (granuleGrants d t g1 m k && granuleGrants d t g2 m k)

/-- KIND as ERR_CODE holds it. -/
def kindCode : AccKind → Nat
  | .read => 0 | .write => 1 | .fetch => 2

/-! ### The DRAM region (R29, R105, R677) -/

/-- Channel `c` is READY (units 1 and 2 of SYS_UNIT_STATE). -/
def dramReady (d : Dev) (c : Nat) : Bool := d.rd SYS_UNIT_STATE_UNIT 0 (1 + c) == 2

/-- Channel `c` is present. -/
def dramPresent (d : Dev) (c : Nat) : Bool := present d (0xB0 + 4 * c)

/-- Data capacity of channel `c` in bytes, from DRAM_GEOM (R678). -/
def channelBytes (d : Dev) (c : Nat) : Nat :=
  2 ^ (7 + d.rd DRAM_GEOM_COL_BITS c + d.rd DRAM_GEOM_BG_BITS c + d.rd DRAM_GEOM_BA_BITS c + 16
    + d.rd DRAM_GEOM_ROW_BITS c) * d.rd DRAM_GEOM_RANKS c

/-- Installed capacity: zero until every present channel is READY (R29, R105), at most 64 GiB a channel. -/
def dramCapacity (d : Dev) : Nat :=
  if !dramReady d 0 || (dramPresent d 1 && !dramReady d 1) then 0
  else min (channelBytes d 0) (2 ^ 36) + (if dramPresent d 1 then min (channelBytes d 1) (2 ^ 36) else 0)

/-- The channel that holds physical address `a` (R677). -/
def channelOf (d : Dev) (a : Nat) : Nat :=
  if !dramPresent d 1 then 0
  else if d.on DRAM_MAP_ILV 0 then a / 4096 % 2
  else if a < min (channelBytes d 0) (2 ^ 36) then 0 else 1

/-! ### Blocked accesses (R28, R68) -/

/-- An access outside the address map or above the installed DRAM: captured on SYS with code 0x05 (R28). -/
def blockOutside (m : Nat) (k : AccKind) (a : Nat) (d : Dev) : Dev :=
  report ⟨0, 0x05, 0, kindCode k, m, a⟩ d

/-- The page on which a refusal at a target is captured (R63). -/
def violationPage (d : Dev) (t : CustomsTarget) (a : Nat) : Nat :=
  match t with
  | .serai => 0x10
  | .dram => 0xB0 + 4 * channelOf d a
  | .regs => let p := (a - regBase) / 4096; if present d p then firstPage p else 0
  | .keyStore => 0x8C
  | .contexts => 0x88
  | .rings => 0x20

/-- A refused access: captured with code 0x01 at the target's page and counted in CUSTOMS_VIOL (R68). `a` is the
address, or the index of an indexed target. -/
def customsRefuse (t : CustomsTarget) (m : Nat) (k : AccKind) (a : Nat) (d : Dev) : Dev :=
  count CUSTOMS_VIOL_COUNT 0 (targetNo t) (report ⟨violationPage d t a, 0x01, 0, kindCode k, m, a⟩ d)

/-- The regions of R27 that hold an address. -/
inductive Region where
  | dram | serai | regs | rom | none
  deriving DecidableEq, Repr

/-- The region of an address (R27). -/
def regionOf (a : Nat) : Region :=
  if a < 0x4000000000 then .dram
  else if 0x8000000000 ≤ a ∧ a < 0x8002000000 then .serai
  else if 0xF000000000 ≤ a ∧ a < 0xF000200000 then .regs
  else if 0xF800000000 ≤ a ∧ a < 0xF800020000 then .rom
  else .none

/-- The decision about an access of `n` bytes to memory at `a`: granted, refused at a target, or outside the map. -/
inductive Verdict where
  | granted
  | refused (t : CustomsTarget)
  | outside
  deriving DecidableEq, Repr

/-- The decision about an access to DRAM or the Serai window by master `m` (R27–R29, R63–R67). -/
def memVerdict (d : Dev) (m : Nat) (k : AccKind) (a n : Nat) : Verdict :=
  let last := a + (n - 1)
  match regionOf a, regionOf last with
  | .serai, .serai =>
    if customsGrant d .serai ((a - seraiBase) / 256) ((last - seraiBase) / 256) m k then .granted else .refused .serai
  | .dram, .dram =>
    if dramCapacity d ≤ last || !isActive d (0xB0 + 4 * channelOf d a) then .outside
    else if customsGrant d .dram (a / 4096) (last / 4096) m k then .granted else .refused .dram
  | _, _ => .outside

/-- The device after an access that the verdict blocks. -/
def blockAccess (v : Verdict) (m : Nat) (k : AccKind) (a : Nat) (d : Dev) : Dev :=
  match v with
  | .granted => d
  | .refused t => customsRefuse t m k a d
  | .outside => blockOutside m k a d

/-- Some byte of `a … a + n − 1` lies in a poisoned line. -/
def dramPoisoned (d : Dev) (a n : Nat) : Bool :=
  d.dram.poison.any (fun l => decide (a / 64 ≤ l) && decide (l ≤ (a + (n - 1)) / 64))

/-- The lines that a write of `n` bytes at `a` covers whole lose their poison (R680). -/
def dramCover (a n : Nat) (d : Dev) : Dev :=
  { d with dram := { d.dram with
    poison := d.dram.poison.filter (fun l => !(decide (a ≤ 64 * l) && decide (64 * l + 64 ≤ a + n))) } }

/-- The words of the Serai that a write of `n` bytes at `a` covers whole lose their poison (R138). -/
def seraiCover (a n : Nat) (d : Dev) : Dev :=
  { d with ser := { d.ser with
    poison := d.ser.poison.filter (fun w =>
      !(decide (a ≤ seraiBase + 32 * w) && decide (seraiBase + 32 * w + 32 ≤ a + n))) } }

/-- The marks of poison after a write of `n` bytes at `a`. -/
def coverWrite (a n : Nat) (d : Dev) : Dev :=
  if seraiBase ≤ a then seraiCover a n d else dramCover a n d

/-- Some byte of `a … a + n − 1` is poisoned. -/
def poisonedAt (d : Dev) (a n : Nat) : Bool :=
  if seraiBase ≤ a then
    d.ser.poison.any (fun w =>
      decide (a < seraiBase + 32 * w + 32) && decide (seraiBase + 32 * w < a + n))
  else dramPoisoned d a n

/-- A read of `n` bytes by a unit of the device: the bytes, zeros where it is blocked, and whether it was granted. -/
def unitRead (m a n : Nat) (d : Dev) (mem : Memory) : Bytes × Bool × Dev :=
  let v := memVerdict d m .read a n
  if v = .granted then (memRead mem a n, true, d)
  else (List.replicate n 0, false, blockAccess v m .read a d)

/-- A write by a unit of the device, discarded where it is blocked. -/
def unitWrite (m a : Nat) (bs : Bytes) (d : Dev) (mem : Memory) : Bool × Dev × Memory :=
  let v := memVerdict d m .write a bs.length
  if v = .granted then (true, coverWrite a bs.length d, memWrite mem a bs)
  else (false, blockAccess v m .write a d, mem)

/-! ### Accesses to registers (R40, R68, R74) -/

/-- Whether the CORE pages are open to writes of master `m` (R663). -/
def coreWriter (m : Nat) : Bool := decide (m < 8) || m == 16 || m == 19

/-- The customs tables grant master `m` a write of register page `p`; CORE pages refuse most masters whatever the tables
hold (R663). -/
def pageWritable (d : Dev) (m p : Nat) : Bool :=
  customsGrant d .regs p p m .write && (coreWriter m || !(decide (0xA0 ≤ p) && decide (p < 0xA8)))

/-- The customs tables grant master `m` a read of register page `p`. -/
def pageReadable (d : Dev) (m p : Nat) : Bool := customsGrant d .regs p p m .read

/-- A write by master `m` to page `page` is taken: it is granted, the page is present and its block is not in soft
reset. -/
def writeTaken (d : Dev) (m page : Nat) : Bool :=
  pageWritable d m page && present d page && !inSoftReset d page

/-- A write that is not taken: refused by the customs tables, counted at an absent page, or refused in a soft reset. -/
def writeLost (page off m : Nat) (d : Dev) : Dev :=
  if !pageWritable d m page then customsRefuse .regs m .write (regAddr page off) d
  else if !present d page then absentWrite m page d
  else refuseWrite 0 0x02 m (regAddr page off) d

/-- A write to a command register: taken as `f`, or lost. -/
def cmdWrite (page off m : Nat) (f : Dev → Dev) (d : Dev) : Dev :=
  if writeTaken d m page then f d else writeLost page off m d

/-- A write to a command register that may change memory. -/
def cmdWriteMem (page off m : Nat) (f : Dev → Memory → Dev × Memory) (d : Dev) (mem : Memory) : Dev × Memory :=
  if writeTaken d m page then f d mem else (writeLost page off m d, mem)

/-- The value that a read leaves for its master. -/
def answer (v : Nat) (d : Dev) : Dev :=
  { d with sh := { d.sh with readData := toBytes 4 v, readPoison := false, blocked := false } }

/-- A read that the customs tables refuse returns zeros. -/
def readLost (page off m : Nat) (d : Dev) : Dev :=
  let e := customsRefuse .regs m .read (regAddr page off) d
  { e with sh := { e.sh with readData := toBytes 4 0, readPoison := false, blocked := true } }

/-- A read of a register whose read has an effect `f`. -/
def cmdRead (page off m : Nat) (f : Dev → Dev) (d : Dev) : Dev :=
  if !pageReadable d m page then readLost page off m d
  else if !present d page then answer 0 d
  else f d

end Sys2Proof.Machine
end

