-- ==== Sys2Proof/Machine/Crypto.lean ====
section
/-! DEFINITION. The algorithms of spec/15_cipher.md R580: the ciphers, modes, authentication codes, hashes and the key
derivation that the table of R580 and R589 name, from the standards it cites. All work over byte strings. -/

namespace Sys2Proof.Machine

open Sys2Proof

/-! ### Byte strings -/

/-- The exclusive or of two byte strings, as long as the shorter. -/
def xorBytes (a b : Bytes) : Bytes := List.zipWith (· ^^^ ·) a b

/-- `b` filled with zeros on the right to `n` bytes. -/
def padTo (n : Nat) (b : Bytes) : Bytes := b ++ List.replicate (n - b.length) 0

/-- `b` filled with zeros to a whole number of blocks of `n` bytes. -/
def padBlock (n : Nat) (b : Bytes) : Bytes := padTo ((b.length + n - 1) / n * n) b

/-- `k` pieces of `n` bytes. -/
def chunksOf (n : Nat) : Nat → Bytes → List Bytes
  | 0, _ => []
  | k + 1, b => b.take n :: chunksOf n k (b.drop n)

/-- `b` in pieces of `n` bytes, the last one as long as what is left. -/
def blocks (n : Nat) (b : Bytes) : List Bytes := chunksOf n ((b.length + n - 1) / n) b

/-! ### AES (FIPS 197) -/

/-- Multiplication by x in the field of AES. -/
def aesTwice (a : Nat) : Nat := if 128 ≤ a then (2 * a) ^^^ 0x11B else 2 * a

/-- Multiplication by the bits of `b`, lowest first. -/
def aesMulBits : Nat → Nat → Nat → Nat
  | 0, _, _ => 0
  | n + 1, a, b => (if b % 2 = 1 then a else 0) ^^^ aesMulBits n (aesTwice a) (b / 2)

/-- Multiplication in the field of AES. -/
def aesMul (a b : Nat) : Nat := aesMulBits 8 a b

/-- The inverse of `a`, 0 for 0: its 254th power. -/
def aesInv (a : Nat) : Nat :=
  let p2 := aesMul a a
  let p4 := aesMul p2 p2
  let p8 := aesMul p4 p4
  let p16 := aesMul p8 p8
  let p32 := aesMul p16 p16
  let p64 := aesMul p32 p32
  let p128 := aesMul p64 p64
  aesMul p2 (aesMul p4 (aesMul p8 (aesMul p16 (aesMul p32 (aesMul p64 p128)))))

/-- An 8-bit rotation to the left. -/
def rotByte (a k : Nat) : Nat := (a * 2 ^ k + a / 2 ^ (8 - k)) % 256

/-- The substitution of one byte. -/
def aesSub (a : Nat) : Nat :=
  let b := aesInv a
  b ^^^ rotByte b 1 ^^^ rotByte b 2 ^^^ rotByte b 3 ^^^ rotByte b 4 ^^^ 0x63

/-- The substitution table and its inverse. -/
def aesBox : List Nat := (List.range 256).map aesSub
def aesUnbox : List Nat := (List.range 256).map (fun v => (aesBox.findIdx? (· == v)).getD 0)

def subByte (b : Byte) : Byte := BitVec.ofNat 8 (aesBox.getD b.toNat 0)
def unsubByte (b : Byte) : Byte := BitVec.ofNat 8 (aesUnbox.getD b.toNat 0)

/-- The words of the key schedule, newest first, extended from word `i`, `n` more words; `nk` words of key. -/
def keyWords (nk : Nat) : Nat → Nat → Nat → List Bytes → List Bytes
  | 0, _, _, ws => ws
  | n + 1, i, rc, ws =>
    let prev := ws.headD []
    let old := ws.getD (nk - 1) []
    let t := if i % nk = 0 then
        xorBytes ((prev.drop 1 ++ prev.take 1).map subByte) [BitVec.ofNat 8 rc, 0, 0, 0]
      else if 6 < nk ∧ i % nk = 4 then prev.map subByte
      else prev
    keyWords nk n (i + 1) (if i % nk = 0 then aesTwice rc else rc) (xorBytes old t :: ws)

/-- The round keys of a key of 16, 24 or 32 bytes. -/
def roundKeys (key : Bytes) : List Bytes :=
  let nk := key.length / 4
  blocks 16 ((keyWords nk (4 * (nk + 7) - nk) nk 1 (blocks 4 key).reverse).reverse.flatMap id)

/-- The bytes of a block moved by the rows, row r by r places to the left (`k` = 1) or right (`k` = 3). -/
def shiftRows (k : Nat) (b : Bytes) : Bytes :=
  (List.range 16).map (fun i => b.getD ((i % 4) + 4 * ((i / 4 + k * (i % 4)) % 4)) 0)

/-- One column times the circulant matrix of `c`. -/
def mixColumn (c : List Nat) (col : Bytes) : Bytes :=
  (List.range 4).map (fun r => BitVec.ofNat 8 ((List.range 4).foldl (fun x j =>
    x ^^^ aesMul (col.getD j 0).toNat (c.getD ((j + 4 - r) % 4) 0)) 0))

def mixColumns (c : List Nat) (b : Bytes) : Bytes := (blocks 4 b).flatMap (mixColumn c)

/-- The rounds after the first key, encrypting. -/
def aesRounds : List Bytes → Bytes → Bytes
  | [], b => b
  | [k], b => xorBytes (shiftRows 1 (b.map subByte)) k
  | k :: ks, b => aesRounds ks (xorBytes (mixColumns [2, 3, 1, 1] (shiftRows 1 (b.map subByte))) k)

/-- Encrypts one block with the round keys `ks`. -/
def aesEnc (ks : List Bytes) (b : Bytes) : Bytes := aesRounds ks.tail (xorBytes b (ks.headD []))

/-- The rounds of decryption, with the round keys in reverse. -/
def aesUnrounds : List Bytes → Bytes → Bytes
  | [], b => b
  | [k], b => xorBytes ((shiftRows 3 b).map unsubByte) k
  | k :: ks, b => aesUnrounds ks (mixColumns [14, 11, 13, 9] (xorBytes ((shiftRows 3 b).map unsubByte) k))

/-- Decrypts one block with the round keys `ks`. -/
def aesDec (ks : List Bytes) (b : Bytes) : Bytes := aesUnrounds ks.reverse.tail (xorBytes b (ks.reverse.headD []))

/-! ### Modes of AES (SP 800-38A, 38B, 38C, 38D, 38E) -/

/-- CBC encryption of whole blocks from a chaining block. -/
def cbcEnc (ks : List Bytes) : Bytes → List Bytes → List Bytes
  | _, [] => []
  | c, b :: bs => let y := aesEnc ks (xorBytes c b); y :: cbcEnc ks y bs

/-- CBC decryption of whole blocks from a chaining block. -/
def cbcDec (ks : List Bytes) : Bytes → List Bytes → List Bytes
  | _, [] => []
  | c, b :: bs => xorBytes c (aesDec ks b) :: cbcDec ks b bs

/-- The chaining value of CBC-MAC after whole blocks. -/
def cbcMac (ks : List Bytes) (acc : Bytes) (bs : Bytes) : Bytes :=
  (blocks 16 bs).foldl (fun a b => aesEnc ks (xorBytes a b)) acc

/-- The counter block with `n` added to its last `w` bytes, big-endian. -/
def addCounter (w n : Nat) (c : Bytes) : Bytes :=
  c.take (16 - w) ++ toBE w (ofBytesBE (c.drop (16 - w)) + n)

/-- Counter mode over blocks, from counter block `c`, whose last `w` bytes count. -/
def ctrBlocks (ks : List Bytes) (w : Nat) : Bytes → List Bytes → Bytes
  | _, [] => []
  | c, b :: bs => xorBytes b (aesEnc ks c) ++ ctrBlocks ks w (addCounter w 1 c) bs

def ctrRun (ks : List Bytes) (w : Nat) (c b : Bytes) : Bytes := ctrBlocks ks w c (blocks 16 b)

/-- Doubling of a block in GF(2^128) as SP 800-38B states it. -/
def cmacTwice (b : Bytes) : Bytes :=
  let v := ofBytesBE b
  toBE 16 ((2 * v) ^^^ (if 2 ^ 127 ≤ v then 0x87 else 0))

/-- The last step of CMAC over the rest of the message, 1 byte or more, from the chaining value. -/
def cmacEnd (ks : List Bytes) (acc rest : Bytes) : Bytes :=
  let k1 := cmacTwice (aesEnc ks (List.replicate 16 0))
  let n := (rest.length - 1) / 16 * 16
  let last := rest.drop n
  let x := if last.length = 16 then xorBytes last k1 else xorBytes (padTo 16 (last ++ [0x80])) (cmacTwice k1)
  aesEnc ks (xorBytes (cbcMac ks acc (rest.take n)) x)

/-- AES-CMAC of a message. -/
def cmac (key msg : Bytes) : Bytes := cmacEnd (roundKeys key) (List.replicate 16 0) msg

/-- Multiplication in the field of GCM by the bits of `y` from the left; blocks are numbers, first bit highest. -/
def ghashBits : Nat → Nat → Nat → Nat
  | 0, _, _ => 0
  | n + 1, v, y =>
    (if y.testBit n then v else 0) ^^^
      ghashBits n (if v % 2 = 1 then (v / 2) ^^^ (0xE1 * 2 ^ 120) else v / 2) y

/-- GHASH from `acc` over zero-filled blocks. -/
def ghash (h : Nat) (acc : Nat) (b : Bytes) : Nat :=
  (blocks 16 (padBlock 16 b)).foldl (fun a x => ghashBits 128 h (a ^^^ ofBytesBE x)) acc

/-- The hash key of GCM. -/
def gcmH (ks : List Bytes) : Nat := ofBytesBE (aesEnc ks (List.replicate 16 0))

/-- The tag of GCM: `nonce` of 12 bytes, and the lengths in bytes. -/
def gcmTag (ks : List Bytes) (nonce : Bytes) (acc aadN msgN : Nat) : Bytes :=
  let s := ghashBits 128 (gcmH ks) (acc ^^^ (8 * aadN * 2 ^ 64 + 8 * msgN))
  xorBytes (toBE 16 s) (aesEnc ks (nonce ++ [0, 0, 0, 1]))

/-- AES-GCM encryption: the ciphertext and the 16-byte tag. -/
def gcmSeal (key nonce aad plain : Bytes) : Bytes × Bytes :=
  let ks := roundKeys key
  let c := ctrRun ks 4 (nonce ++ [0, 0, 0, 2]) plain
  (c, gcmTag ks nonce (ghash (gcmH ks) (ghash (gcmH ks) 0 aad) c) aad.length plain.length)

/-- AES-GCM decryption with a tag: none where it does not verify. -/
def gcmOpen (key nonce aad cipher tag : Bytes) : Option Bytes :=
  let ks := roundKeys key
  let t := gcmTag ks nonce (ghash (gcmH ks) (ghash (gcmH ks) 0 aad) cipher) aad.length cipher.length
  if t.take tag.length = tag then some (ctrRun ks 4 (nonce ++ [0, 0, 0, 2]) cipher) else none

/-- Block B0 of CCM with L = 3: tag length `t`, a nonce of 12 bytes and a message of `q` bytes. -/
def ccmB0 (t aadN q : Nat) (nonce : Bytes) : Bytes :=
  BitVec.ofNat 8 ((if aadN = 0 then 0 else 64) + 8 * ((t - 2) / 2) + 2) :: nonce ++ toBE 3 q

/-- The CBC-MAC of CCM over B0 and up to 65,279 bytes of AAD. -/
def ccmBegin (ks : List Bytes) (b0 aad : Bytes) : Bytes :=
  let a := cbcMac ks (List.replicate 16 0) b0
  if aad.isEmpty then a else cbcMac ks a (padBlock 16 (toBE 2 aad.length ++ aad))

/-- Doubling of an XTS tweak. -/
def xtsTwice (b : Bytes) : Bytes :=
  let v := ofBytes b
  toBytes 16 ((2 * v) ^^^ (if 2 ^ 127 ≤ v then 0x87 else 0))

/-- XTS over the whole blocks of one data unit, from the encrypted tweak. -/
def xtsBlocks (f : Bytes → Bytes) : Bytes → List Bytes → Bytes
  | _, [] => []
  | t, b :: bs => xorBytes t (f (xorBytes t b)) ++ xtsBlocks f (xtsTwice t) bs

/-- XTS over data units of `du` bytes, the first with sector number `n`. -/
def xtsUnits (enc : Bool) (k1 k2 : List Bytes) : Nat → List Bytes → Bytes
  | _, [] => []
  | n, u :: us =>
    xtsBlocks (if enc then aesEnc k1 else aesDec k1) (aesEnc k2 (toBytes 16 n)) (blocks 16 u) ++
      xtsUnits enc k1 k2 (n + 1) us

/-! ### ChaCha20-Poly1305 (RFC 8439) -/

def rotl32 (v k : Nat) : Nat := (v * 2 ^ k + v / 2 ^ (32 - k)) % 2 ^ 32

/-- A quarter round on words a, b, c, d of the state. -/
def chachaQuarter (a b c d : Nat) (s : List Nat) : List Nat :=
  let g := fun (i : Nat) => s.getD i 0
  let a1 := (g a + g b) % 2 ^ 32
  let d1 := rotl32 (g d ^^^ a1) 16
  let c1 := (g c + d1) % 2 ^ 32
  let b1 := rotl32 (g b ^^^ c1) 12
  let a2 := (a1 + b1) % 2 ^ 32
  let d2 := rotl32 (d1 ^^^ a2) 8
  let c2 := (c1 + d2) % 2 ^ 32
  let b2 := rotl32 (b1 ^^^ c2) 7
  (((s.set a a2).set b b2).set c c2).set d d2

/-- A column round and a diagonal round. -/
def chachaDouble (s : List Nat) : List Nat :=
  let s1 := chachaQuarter 3 7 11 15 (chachaQuarter 2 6 10 14 (chachaQuarter 1 5 9 13 (chachaQuarter 0 4 8 12 s)))
  chachaQuarter 3 4 9 14 (chachaQuarter 2 7 8 13 (chachaQuarter 1 6 11 12 (chachaQuarter 0 5 10 15 s1)))

/-- The key stream block of a 32-byte key and a block of counter and nonce, 16 bytes. -/
def chachaBlock (key ctr : Bytes) : Bytes :=
  let s := [0x61707865, 0x3320646e, 0x79622d32, 0x6b206574] ++ ((blocks 4 key) ++ (blocks 4 ctr)).map ofBytes
  let t := (List.range 10).foldl (fun x _ => chachaDouble x) s
  (List.zipWith (· + ·) s t).flatMap (toBytes 4)

/-- The counter block with its counter, the first 4 bytes, advanced by `n`. -/
def chachaAdd (n : Nat) (c : Bytes) : Bytes := toBytes 4 (ofBytes (c.take 4) + n) ++ c.drop 4

/-- The stream cipher over blocks of 64 bytes. -/
def chachaBlocks (key : Bytes) : Bytes → List Bytes → Bytes
  | _, [] => []
  | c, b :: bs => xorBytes b (chachaBlock key c) ++ chachaBlocks key (chachaAdd 1 c) bs

/-- The one-time key of Poly1305: r, clamped, and s. -/
def polyKey (key nonce : Bytes) : Nat × Nat :=
  let b := chachaBlock key ([0, 0, 0, 0] ++ nonce)
  (ofBytes (b.take 16) &&& 0x0ffffffc0ffffffc0ffffffc0fffffff, ofBytes ((b.drop 16).take 16))

/-- Poly1305 over zero-filled blocks of 16 bytes. -/
def polyRun (r acc : Nat) (b : Bytes) : Nat :=
  (blocks 16 (padBlock 16 b)).foldl (fun a x => (a + ofBytes x + 2 ^ 128) * r % (2 ^ 130 - 5)) acc

/-- The tag over the lengths. -/
def polyTag (key nonce : Bytes) (acc aadN msgN : Nat) : Bytes :=
  let k := polyKey key nonce
  toBytes 16 (polyRun k.1 acc (toBytes 8 aadN ++ toBytes 8 msgN) + k.2)

/-! ### SHA-2 (FIPS 180-4) -/

/-- The first 80 primes. -/
def primes80 : List Nat :=
  (List.range 410).filter (fun n => decide (2 ≤ n) && (List.range n).all (fun k => decide (k < 2) || n % k != 0))

/-- The integer root of degree `e` of `v`, below 2^`n`. -/
def rootBits (e v : Nat) : Nat → Nat → Nat
  | 0, r => r
  | n + 1, r => if (r + 2 ^ n) ^ e ≤ v then rootBits e v n (r + 2 ^ n) else rootBits e v n r

/-- The first `w` bits of the fractional part of the root of degree `e` of `p`. -/
def fracRoot (e w p : Nat) : Nat := rootBits e (p * 2 ^ (e * w)) (w + 5) 0 % 2 ^ w

/-- The round constants for words of `w` bits. -/
def shaK (w : Nat) : List Nat := (primes80.take (if w = 32 then 64 else 80)).map (fracRoot 3 w)

def shaK32 : List Nat := shaK 32
def shaK64 : List Nat := shaK 64

/-- The initial hash value for a digest of `n` bits. -/
def shaInit (n : Nat) : List Nat :=
  if n = 256 then (primes80.take 8).map (fracRoot 2 32)
  else if n = 512 then (primes80.take 8).map (fracRoot 2 64)
  else ((primes80.drop 8).take 8).map (fun p => if n = 224 then fracRoot 2 64 p % 2 ^ 32 else fracRoot 2 64 p)

def rotr (w v k : Nat) : Nat := (v / 2 ^ k + v * 2 ^ (w - k)) % 2 ^ w

/-- A sum of two rotations and a third part: a rotation, or a shift where `sh`. -/
def shaSum (w : Nat) (sh : Bool) (a b c v : Nat) : Nat :=
  rotr w v a ^^^ rotr w v b ^^^ (if sh then v / 2 ^ c else rotr w v c)

/-- The message schedule, newest first. -/
def shaSchedule (w : Nat) : Nat → List Nat → List Nat
  | 0, l => l
  | n + 1, l =>
    let s1 := if w = 32 then shaSum w true 17 19 10 (l.getD 1 0) else shaSum w true 19 61 6 (l.getD 1 0)
    let s0 := if w = 32 then shaSum w true 7 18 3 (l.getD 14 0) else shaSum w true 1 8 7 (l.getD 14 0)
    shaSchedule w n ((s1 + l.getD 6 0 + s0 + l.getD 15 0) % 2 ^ w :: l)

/-- One round. -/
def shaRound (w : Nat) (v : List Nat) (kw : Nat × Nat) : List Nat :=
  match v with
  | [a, b, c, d, e, f, g, h] =>
    let s1 := if w = 32 then shaSum w false 6 11 25 e else shaSum w false 14 18 41 e
    let s0 := if w = 32 then shaSum w false 2 13 22 a else shaSum w false 28 34 39 a
    let t1 := h + s1 + ((e &&& f) ^^^ ((2 ^ w - 1 - e) &&& g)) + kw.1 + kw.2
    let t2 := s0 + ((a &&& b) ^^^ (a &&& c) ^^^ (b &&& c))
    [(t1 + t2) % 2 ^ w, a, b, c, (d + t1) % 2 ^ w, e, f, g]
  | _ => v

/-- The compression of one block. -/
def shaBlock (w : Nat) (h : List Nat) (b : Bytes) : List Nat :=
  let n := if w = 32 then 64 else 80
  let ws := (shaSchedule w (n - 16) ((blocks (w / 8) b).map ofBytesBE).reverse).reverse
  let v := (List.zip (if w = 32 then shaK32 else shaK64) ws).foldl (shaRound w) h
  List.zipWith (fun x y => (x + y) % 2 ^ w) h v

/-- Whole blocks. -/
def shaFeed (w : Nat) (h : List Nat) (b : Bytes) : List Nat := (blocks (w / 4 * 8) b).foldl (shaBlock w) h

/-- The padding of a message of `n` bytes. -/
def shaPad (w n : Nat) : Bytes :=
  let blk := w / 4 * 8
  0x80 :: List.replicate ((blk - (n + 1 + w / 4) % blk) % blk) 0 ++ toBE (w / 4) (8 * n)

/-- The digest of `bits` bits from the state over all but the rest of a message of `n` bytes. -/
def shaEnd (w bits n : Nat) (h : List Nat) (rest : Bytes) : Bytes :=
  ((shaFeed w h (rest ++ shaPad w n)).flatMap (toBE (w / 8))).take (bits / 8)

/-! ### SHA-3 (FIPS 202) -/

def rotl64 (v k : Nat) : Nat := (v * 2 ^ (k % 64) + v / 2 ^ (64 - k % 64)) % 2 ^ 64

/-- The bits of the round constants' shift register. -/
def keccakBits : Nat → Nat → List Bool
  | 0, _ => []
  | n + 1, r => (r % 2 == 1) :: keccakBits n (if 128 ≤ r then ((2 * r) ^^^ 0x171) else 2 * r)

/-- Round constant `i`. -/
def keccakRc (i : Nat) : Nat :=
  (List.range 7).foldl (fun x j => if (keccakBits 168 1).getD (7 * i + j) false then x ||| 2 ^ (2 ^ j - 1) else x) 0

def keccakConsts : List Nat := (List.range 24).map keccakRc

/-- The walk of the offsets of the rotations: lane x + 5y at each step t, moved by (t+1)(t+2)/2. -/
def keccakWalk : Nat → Nat → Nat → Nat → List (Nat × Nat)
  | 0, _, _, _ => []
  | n + 1, t, x, y => (x + 5 * y, (t + 1) * (t + 2) / 2) :: keccakWalk n (t + 1) y ((2 * x + 3 * y) % 5)

def keccakOffsets : List Nat :=
  (keccakWalk 24 0 1 0).foldl (fun l e => l.set e.1 e.2) (List.replicate 25 0)

/-- One round over 25 lanes. -/
def keccakRound (a : List Nat) (rc : Nat) : List Nat :=
  let g := fun (l : List Nat) (x y : Nat) => l.getD (x % 5 + 5 * (y % 5)) 0
  let c := (List.range 5).map (fun x => g a x 0 ^^^ g a x 1 ^^^ g a x 2 ^^^ g a x 3 ^^^ g a x 4)
  let t := (List.range 25).map (fun i =>
    a.getD i 0 ^^^ c.getD ((i + 4) % 5) 0 ^^^ rotl64 (c.getD ((i + 1) % 5) 0) 1)
  let b := (List.range 25).map (fun i =>
    let x := i % 5
    let y := i / 5
    let sx := (x + 3 * y) % 5
    rotl64 (g t sx x) (keccakOffsets.getD (sx + 5 * x) 0))
  let e := (List.range 25).map (fun i =>
    g b i (i / 5) ^^^ ((2 ^ 64 - 1 - g b (i % 5 + 1) (i / 5)) &&& g b (i % 5 + 2) (i / 5)))
  e.set 0 (e.getD 0 0 ^^^ rc)

def keccakF (a : List Nat) : List Nat := keccakConsts.foldl keccakRound a

/-- Absorbs whole blocks of `rate` bytes. -/
def keccakFeed (rate : Nat) (a : List Nat) (b : Bytes) : List Nat :=
  (blocks rate b).foldl (fun s x =>
    keccakF (List.zipWith (· ^^^ ·) s ((blocks 8 (padTo 200 x)).map ofBytes))) a

/-- Squeezes `k` blocks of `rate` bytes. -/
def keccakSqueeze (rate : Nat) : Nat → List Nat → Bytes
  | 0, _ => []
  | k + 1, a => (a.flatMap (toBytes 8)).take rate ++ keccakSqueeze rate k (keccakF a)

/-- `n` bytes of output after the rest of a message, with the domain byte `dom`. -/
def keccakEnd (rate dom n : Nat) (a : List Nat) (rest : Bytes) : Bytes :=
  let p := padTo (rest.length / rate * rate + rate) (rest ++ [BitVec.ofNat 8 dom])
  let q := p.dropLast ++ [p.getLastD 0 ||| 0x80]
  (keccakSqueeze rate ((n + rate - 1) / rate) (keccakFeed rate a q)).take n

/-! ### Derivation (R589) -/

/-- The key of `bits` bits that the counter mode of SP 800-108 derives with AES-256-CMAC from a root key and a label. -/
def kdf (root lbl : Bytes) (bits : Nat) : Bytes :=
  ((List.range ((bits + 127) / 128)).flatMap (fun i =>
    cmac root (toBE 4 (i + 1) ++ lbl ++ [0] ++ toBE 4 bits))).take (bits / 8)

end Sys2Proof.Machine
end

