-- ==== Sys2Proof/Machine/RegsTime.lean ====
section
/-! DEFINITION. The register fields of spec/13_time.md: page, offset, bits, access code, reset value,
regular stride and count, one definition per field, from the register tables of that chapter. -/

namespace Sys2Proof.Machine

def TIME_NOW_NS_NS : Fld := { page := 0x80, off := 0x40, hi := 29, lo := 0, acc := .ro }
def TIME_NOW_S_LO_S : Fld := { page := 0x80, off := 0x44, hi := 31, lo := 0, acc := .ro }
def TIME_NOW_S_HI_S : Fld := { page := 0x80, off := 0x48, hi := 15, lo := 0, acc := .ro }
def TIME_NOW_FRAC_FRAC : Fld := { page := 0x80, off := 0x4c, hi := 15, lo := 0, acc := .ro }
def TIME_SET_NS_NS : Fld := { page := 0x80, off := 0x50, hi := 29, lo := 0 }
def TIME_SET_S_LO_S : Fld := { page := 0x80, off := 0x54, hi := 31, lo := 0 }
def TIME_SET_S_HI_S : Fld := { page := 0x80, off := 0x58, hi := 15, lo := 0 }
def TIME_ADJ_NS : Fld := { page := 0x80, off := 0x5c, hi := 31, lo := 0 }
def TIME_CMD_CLR_ASYM : Fld := { page := 0x80, off := 0x60, hi := 3, lo := 3, acc := .wo }
def TIME_CMD_SLEW : Fld := { page := 0x80, off := 0x60, hi := 2, lo := 2, acc := .wo }
def TIME_CMD_STEP : Fld := { page := 0x80, off := 0x60, hi := 1, lo := 1, acc := .wo }
def TIME_CMD_SET : Fld := { page := 0x80, off := 0x60, hi := 0, lo := 0, acc := .wo }
def TIME_FREQ_FREQ : Fld := { page := 0x80, off := 0x64, hi := 31, lo := 0, acc := .rws }
def TIME_SERVO_CFG_EN : Fld := { page := 0x80, off := 0x68, hi := 31, lo := 31 }
def TIME_SERVO_CFG_STEP_EN : Fld := { page := 0x80, off := 0x68, hi := 30, lo := 30, reset := fun _ _ => 1 }
def TIME_SERVO_CFG_CHECK_EN : Fld := { page := 0x80, off := 0x68, hi := 29, lo := 29 }
def TIME_SERVO_CFG_CHECK_HOLD : Fld := { page := 0x80, off := 0x68, hi := 28, lo := 28, reset := fun _ _ => 1 }
def TIME_SERVO_CFG_CHECK_PORT : Fld := { page := 0x80, off := 0x68, hi := 19, lo := 16, reset := fun _ _ => 1 }
def TIME_SERVO_CFG_SRC_PORT : Fld := { page := 0x80, off := 0x68, hi := 15, lo := 12 }
def TIME_SERVO_CFG_DLY_SHIFT : Fld := { page := 0x80, off := 0x68, hi := 11, lo := 8, reset := fun _ _ => 3 }
def TIME_SERVO_CFG_KI_SHIFT : Fld := { page := 0x80, off := 0x68, hi := 7, lo := 4, reset := fun _ _ => 4 }
def TIME_SERVO_CFG_KP_SHIFT : Fld := { page := 0x80, off := 0x68, hi := 3, lo := 0, reset := fun _ _ => 1 }
def TIME_STEP_THRESH_NS : Fld := { page := 0x80, off := 0x6c, hi := 31, lo := 0, reset := fun _ _ => 0x2710 }
def TIME_PATH_THRESH_NS : Fld := { page := 0x80, off := 0x70, hi := 15, lo := 0, reset := fun _ _ => 0xc8 }
def TIME_ASYM_THRESH_NS : Fld := { page := 0x80, off := 0x74, hi := 15, lo := 0, reset := fun _ _ => 0x64 }
def TIME_HOLD_CFG_HOLD_MS : Fld := { page := 0x80, off := 0x78, hi := 31, lo := 16, reset := fun _ _ => 0xbb8 }
def TIME_HOLD_CFG_LOCK_NS : Fld := { page := 0x80, off := 0x78, hi := 15, lo := 0, reset := fun _ _ => 0x64 }
def TIME_LIMIT_SLEW_MAX : Fld := { page := 0x80, off := 0x7c, hi := 31, lo := 16, reset := fun _ _ => 0x2710 }
def TIME_LIMIT_FREQ_MAX : Fld := { page := 0x80, off := 0x7c, hi := 15, lo := 0, reset := fun _ _ => 0x1f4 }
def TIME_STATUS_SLEWING : Fld := { page := 0x80, off := 0x80, hi := 8, lo := 8, acc := .ro }
def TIME_STATUS_REF_LOST : Fld := { page := 0x80, off := 0x80, hi := 7, lo := 7, acc := .ro }
def TIME_STATUS_ASYM_SUSPECT : Fld := { page := 0x80, off := 0x80, hi := 6, lo := 6, acc := .ro }
def TIME_STATUS_PATH_STEP : Fld := { page := 0x80, off := 0x80, hi := 5, lo := 5, acc := .ro }
def TIME_STATUS_STATE : Fld := { page := 0x80, off := 0x80, hi := 1, lo := 0, acc := .ro }
def TIME_OFFSET_NS : Fld := { page := 0x80, off := 0x84, hi := 31, lo := 0, acc := .ro }
def TIME_STEPS_COUNT : Fld := { page := 0x80, off := 0x88, hi := 31, lo := 0, acc := .w1c }
def TIME_LAST_STEP_NS : Fld := { page := 0x80, off := 0x8c, hi := 31, lo := 0, acc := .ro }
def TIME_SMP_CFG_KIND : Fld := { page := 0x81, off := 0x40, hi := 5, lo := 4 }
def TIME_SMP_CFG_PORT : Fld := { page := 0x81, off := 0x40, hi := 3, lo := 0 }
def TIME_SMP_D_MS_LO_D : Fld := { page := 0x81, off := 0x44, hi := 31, lo := 0 }
def TIME_SMP_D_MS_HI_D : Fld := { page := 0x81, off := 0x48, hi := 31, lo := 0 }
def TIME_SMP_D_SM_LO_D : Fld := { page := 0x81, off := 0x4c, hi := 31, lo := 0 }
def TIME_SMP_D_SM_HI_D : Fld := { page := 0x81, off := 0x50, hi := 31, lo := 0 }
def TIME_SMP_PUSH_PUSH : Fld := { page := 0x81, off := 0x54, hi := 0, lo := 0, acc := .wo }
def TIME_SMP_STATUS_REJECTED : Fld := { page := 0x81, off := 0x58, hi := 0, lo := 0, acc := .ro }
def TIME_PORT_TXLAT_LAT : Fld := { page := 0x81, off := 0x80, hi := 15, lo := 0, stride := 0x20, count := 9 }
def TIME_PORT_RXLAT_LAT : Fld := { page := 0x81, off := 0x84, hi := 15, lo := 0, stride := 0x20, count := 9 }
def TIME_PORT_ASYM_A : Fld := { page := 0x81, off := 0x88, hi := 31, lo := 0, stride := 0x20, count := 9 }
def TIME_PORT_MEAN_MEAN : Fld := { page := 0x81, off := 0x8c, hi := 31, lo := 0, acc := .ro, stride := 0x20, count := 9 }
def TIME_PORT_OFS_NS : Fld := { page := 0x81, off := 0x90, hi := 31, lo := 0, acc := .ro, stride := 0x20, count := 9 }
def TIME_PORT_STATUS_RUN : Fld := { page := 0x81, off := 0x94, hi := 12, lo := 8, acc := .ro, stride := 0x20, count := 9 }
def TIME_PORT_STATUS_STEPPED : Fld := { page := 0x81, off := 0x94, hi := 1, lo := 1, acc := .ro, stride := 0x20, count := 9 }
def TIME_PORT_STATUS_VALID : Fld := { page := 0x81, off := 0x94, hi := 0, lo := 0, acc := .ro, stride := 0x20, count := 9 }
def TIME_FIFO_CFG_UDP : Fld := { page := 0x82, off := 0x40, hi := 2, lo := 2, stride := 0x20, count := 9, reset := fun _ _ => 1 }
def TIME_FIFO_CFG_L2 : Fld := { page := 0x82, off := 0x40, hi := 1, lo := 1, stride := 0x20, count := 9, reset := fun _ _ => 1 }
def TIME_FIFO_CFG_EN : Fld := { page := 0x82, off := 0x40, hi := 0, lo := 0, stride := 0x20, count := 9 }
def TIME_FIFO_HDR_VALID : Fld := { page := 0x82, off := 0x44, hi := 31, lo := 31, acc := .ro, stride := 0x20, count := 9 }
def TIME_FIFO_HDR_DIR : Fld := { page := 0x82, off := 0x44, hi := 30, lo := 30, acc := .ro, stride := 0x20, count := 9 }
def TIME_FIFO_HDR_TYPE : Fld := { page := 0x82, off := 0x44, hi := 27, lo := 24, acc := .ro, stride := 0x20, count := 9 }
def TIME_FIFO_HDR_SEQ : Fld := { page := 0x82, off := 0x44, hi := 15, lo := 0, acc := .ro, stride := 0x20, count := 9 }
def TIME_FIFO_NS_NS : Fld := { page := 0x82, off := 0x48, hi := 29, lo := 0, acc := .ro, stride := 0x20, count := 9 }
def TIME_FIFO_S_LO_S : Fld := { page := 0x82, off := 0x4c, hi := 31, lo := 0, acc := .ro, stride := 0x20, count := 9 }
def TIME_FIFO_S_HI_FRAC : Fld := { page := 0x82, off := 0x50, hi := 31, lo := 16, acc := .ro, stride := 0x20, count := 9 }
def TIME_FIFO_S_HI_S : Fld := { page := 0x82, off := 0x50, hi := 15, lo := 0, acc := .ro, stride := 0x20, count := 9 }
def TIME_FIFO_OVF_COUNT : Fld := { page := 0x82, off := 0x54, hi := 31, lo := 0, acc := .w1c, stride := 0x20, count := 9 }
def PPS_CFG_WIDTH_US : Fld := { page := 0x83, off := 0x40, hi := 23, lo := 4, reset := fun _ _ => 0x186a0 }
def PPS_CFG_IN_EDGE : Fld := { page := 0x83, off := 0x40, hi := 2, lo := 2 }
def PPS_CFG_IN_EN : Fld := { page := 0x83, off := 0x40, hi := 1, lo := 1 }
def PPS_CFG_OUT_EN : Fld := { page := 0x83, off := 0x40, hi := 0, lo := 0 }
def PPS_OUT_COMP_NS : Fld := { page := 0x83, off := 0x44, hi := 15, lo := 0 }
def PPS_IN_DELAY_NS : Fld := { page := 0x83, off := 0x48, hi := 15, lo := 0 }
def PPS_IN_NS_NS : Fld := { page := 0x83, off := 0x4c, hi := 29, lo := 0, acc := .ro }
def PPS_IN_S_LO_S : Fld := { page := 0x83, off := 0x50, hi := 31, lo := 0, acc := .ro }
def PPS_IN_S_HI_S : Fld := { page := 0x83, off := 0x54, hi := 15, lo := 0, acc := .ro }
def CAP_CFG_EN : Fld := { page := 0x83, off := 0x80, hi := 31, lo := 31, stride := 0x10, count := 8 }
def CAP_CFG_EDGE : Fld := { page := 0x83, off := 0x80, hi := 29, lo := 28, stride := 0x10, count := 8 }
def CAP_CFG_DELAY : Fld := { page := 0x83, off := 0x80, hi := 15, lo := 0, stride := 0x10, count := 8 }
def CAP_NS_VALID : Fld := { page := 0x83, off := 0x84, hi := 31, lo := 31, acc := .ro, stride := 0x10, count := 8 }
def CAP_NS_NS : Fld := { page := 0x83, off := 0x84, hi := 29, lo := 0, acc := .ro, stride := 0x10, count := 8 }
def CAP_S_LO_S : Fld := { page := 0x83, off := 0x88, hi := 31, lo := 0, acc := .ro, stride := 0x10, count := 8 }
def CAP_S_HI_CAP_OVF : Fld := { page := 0x83, off := 0x8c, hi := 31, lo := 16, acc := .w1c, stride := 0x10, count := 8 }
def CAP_S_HI_S : Fld := { page := 0x83, off := 0x8c, hi := 15, lo := 0, acc := .ro, stride := 0x10, count := 8 }
def EVT_CFG_EN : Fld := { page := 0x83, off := 0x100, hi := 31, lo := 31, stride := 0x20, count := 8 }
def EVT_CFG_MODE : Fld := { page := 0x83, off := 0x100, hi := 29, lo := 28, stride := 0x20, count := 8 }
def EVT_CFG_POL : Fld := { page := 0x83, off := 0x100, hi := 27, lo := 27, stride := 0x20, count := 8 }
def EVT_CFG_COMP : Fld := { page := 0x83, off := 0x100, hi := 15, lo := 0, stride := 0x20, count := 8 }
def EVT_START_NS_NS : Fld := { page := 0x83, off := 0x104, hi := 29, lo := 0, stride := 0x20, count := 8 }
def EVT_START_S_LO_S : Fld := { page := 0x83, off := 0x108, hi := 31, lo := 0, stride := 0x20, count := 8 }
def EVT_START_S_HI_S : Fld := { page := 0x83, off := 0x10c, hi := 15, lo := 0, stride := 0x20, count := 8 }
def EVT_PERIOD_NS : Fld := { page := 0x83, off := 0x110, hi := 29, lo := 0, stride := 0x20, count := 8 }
def EVT_WIDTH_NS : Fld := { page := 0x83, off := 0x114, hi := 29, lo := 0, stride := 0x20, count := 8 }
def EVT_STATUS_ARMED : Fld := { page := 0x83, off := 0x118, hi := 2, lo := 2, acc := .ro, stride := 0x20, count := 8 }
def EVT_STATUS_SKIPPED : Fld := { page := 0x83, off := 0x118, hi := 1, lo := 1, acc := .w1c, stride := 0x20, count := 8 }
def EVT_STATUS_FIRED : Fld := { page := 0x83, off := 0x118, hi := 0, lo := 0, acc := .w1c, stride := 0x20, count := 8 }

/-- The fields of page 0 of TIME. -/
def fldsTime0 : List Fld :=
  [TIME_NOW_NS_NS, TIME_NOW_S_LO_S, TIME_NOW_S_HI_S, TIME_NOW_FRAC_FRAC, TIME_SET_NS_NS, TIME_SET_S_LO_S, TIME_SET_S_HI_S, TIME_ADJ_NS, TIME_CMD_CLR_ASYM, TIME_CMD_SLEW, TIME_CMD_STEP, TIME_CMD_SET, TIME_FREQ_FREQ, TIME_SERVO_CFG_EN, TIME_SERVO_CFG_STEP_EN, TIME_SERVO_CFG_CHECK_EN, TIME_SERVO_CFG_CHECK_HOLD, TIME_SERVO_CFG_CHECK_PORT, TIME_SERVO_CFG_SRC_PORT, TIME_SERVO_CFG_DLY_SHIFT, TIME_SERVO_CFG_KI_SHIFT, TIME_SERVO_CFG_KP_SHIFT, TIME_STEP_THRESH_NS, TIME_PATH_THRESH_NS, TIME_ASYM_THRESH_NS, TIME_HOLD_CFG_HOLD_MS, TIME_HOLD_CFG_LOCK_NS, TIME_LIMIT_SLEW_MAX, TIME_LIMIT_FREQ_MAX, TIME_STATUS_SLEWING, TIME_STATUS_REF_LOST, TIME_STATUS_ASYM_SUSPECT, TIME_STATUS_PATH_STEP, TIME_STATUS_STATE, TIME_OFFSET_NS, TIME_STEPS_COUNT, TIME_LAST_STEP_NS]

/-- The fields of page 1 of TIME. -/
def fldsTime1 : List Fld :=
  [TIME_SMP_CFG_KIND, TIME_SMP_CFG_PORT, TIME_SMP_D_MS_LO_D, TIME_SMP_D_MS_HI_D, TIME_SMP_D_SM_LO_D, TIME_SMP_D_SM_HI_D, TIME_SMP_PUSH_PUSH, TIME_SMP_STATUS_REJECTED, TIME_PORT_TXLAT_LAT, TIME_PORT_RXLAT_LAT, TIME_PORT_ASYM_A, TIME_PORT_MEAN_MEAN, TIME_PORT_OFS_NS, TIME_PORT_STATUS_RUN, TIME_PORT_STATUS_STEPPED, TIME_PORT_STATUS_VALID]

/-- The fields of page 2 of TIME. -/
def fldsTime2 : List Fld :=
  [TIME_FIFO_CFG_UDP, TIME_FIFO_CFG_L2, TIME_FIFO_CFG_EN, TIME_FIFO_HDR_VALID, TIME_FIFO_HDR_DIR, TIME_FIFO_HDR_TYPE, TIME_FIFO_HDR_SEQ, TIME_FIFO_NS_NS, TIME_FIFO_S_LO_S, TIME_FIFO_S_HI_FRAC, TIME_FIFO_S_HI_S, TIME_FIFO_OVF_COUNT]

/-- The fields of page 3 of TIME. -/
def fldsTime3 : List Fld :=
  [PPS_CFG_WIDTH_US, PPS_CFG_IN_EDGE, PPS_CFG_IN_EN, PPS_CFG_OUT_EN, PPS_OUT_COMP_NS, PPS_IN_DELAY_NS, PPS_IN_NS_NS, PPS_IN_S_LO_S, PPS_IN_S_HI_S, CAP_CFG_EN, CAP_CFG_EDGE, CAP_CFG_DELAY, CAP_NS_VALID, CAP_NS_NS, CAP_S_LO_S, CAP_S_HI_CAP_OVF, CAP_S_HI_S, EVT_CFG_EN, EVT_CFG_MODE, EVT_CFG_POL, EVT_CFG_COMP, EVT_START_NS_NS, EVT_START_S_LO_S, EVT_START_S_HI_S, EVT_PERIOD_NS, EVT_WIDTH_NS, EVT_STATUS_ARMED, EVT_STATUS_SKIPPED, EVT_STATUS_FIRED]

end Sys2Proof.Machine
end

