-- ==== Sys2Proof/Machine/RegsRtc.lean ====
section
/-! DEFINITION. The register fields of spec/14_rtc.md: page, offset, bits, access code, reset value,
regular stride and count, one definition per field, from the register tables of that chapter. -/

namespace Sys2Proof.Machine

def RTC_SUBSEC_SUBSEC : Fld := { page := 0x84, off := 0x40, hi := 14, lo := 0, acc := .ro }
def RTC_SEC_SEC : Fld := { page := 0x84, off := 0x44, hi := 6, lo := 0 }
def RTC_MIN_MIN : Fld := { page := 0x84, off := 0x48, hi := 6, lo := 0 }
def RTC_HOUR_HOUR : Fld := { page := 0x84, off := 0x4c, hi := 5, lo := 0 }
def RTC_WDAY_WDAY : Fld := { page := 0x84, off := 0x50, hi := 2, lo := 0, reset := fun _ _ => 6 }
def RTC_DATE_DATE : Fld := { page := 0x84, off := 0x54, hi := 5, lo := 0, reset := fun _ _ => 1 }
def RTC_MONTH_MONTH : Fld := { page := 0x84, off := 0x58, hi := 4, lo := 0, reset := fun _ _ => 1 }
def RTC_CENTURY_CENTURY : Fld := { page := 0x84, off := 0x5c, hi := 7, lo := 0, reset := fun _ _ => 0x20 }
def RTC_YEAR_YEAR : Fld := { page := 0x84, off := 0x60, hi := 7, lo := 0 }
def RTC_APPLY_APPLY : Fld := { page := 0x84, off := 0x64, hi := 0, lo := 0, acc := .wo }
def RTC_STATUS_OSF : Fld := { page := 0x84, off := 0x68, hi := 31, lo := 31, acc := .w1c, reset := fun _ _ => 1 }
def RTC_STATUS_OSF_CAUSE : Fld := { page := 0x84, off := 0x68, hi := 30, lo := 29, acc := .ro, reset := fun _ _ => 1 }
def RTC_STATUS_VBAT_LOW : Fld := { page := 0x84, off := 0x68, hi := 9, lo := 9, acc := .ro }
def RTC_STATUS_WRAP : Fld := { page := 0x84, off := 0x68, hi := 8, lo := 8, acc := .w1c }
def RTC_STATUS_CURVE_BAD : Fld := { page := 0x84, off := 0x68, hi := 7, lo := 7, acc := .ro }
def RTC_STATUS_NET_VALID : Fld := { page := 0x84, off := 0x68, hi := 6, lo := 6, acc := .ro }
def RTC_STATUS_TRIM_SRC : Fld := { page := 0x84, off := 0x68, hi := 5, lo := 4, acc := .ro }
def RTC_STATUS_APPLY_REJECT : Fld := { page := 0x84, off := 0x68, hi := 3, lo := 3, acc := .ro }
def RTC_STATUS_ALARM_SKIPPED : Fld := { page := 0x84, off := 0x68, hi := 2, lo := 2, acc := .w1c }
def RTC_STATUS_PER_F : Fld := { page := 0x84, off := 0x68, hi := 1, lo := 1, acc := .w1c }
def RTC_STATUS_ALARM_F : Fld := { page := 0x84, off := 0x68, hi := 0, lo := 0, acc := .w1c }
def RTC_CFG_TEMP_PERIOD : Fld := { page := 0x84, off := 0x6c, hi := 31, lo := 24, acc := .rws, lockable := true, reset := fun _ _ => 0x3c }
def RTC_CFG_NET_WINDOW : Fld := { page := 0x84, off := 0x6c, hi := 23, lo := 16, acc := .rws, lockable := true, reset := fun _ _ => 0x10 }
def RTC_CFG_NET_SHIFT : Fld := { page := 0x84, off := 0x6c, hi := 11, lo := 8, acc := .rws, lockable := true, reset := fun _ _ => 2 }
def RTC_CFG_NET_EN : Fld := { page := 0x84, off := 0x6c, hi := 4, lo := 4, acc := .rws, lockable := true, reset := fun _ _ => 1 }
def RTC_CFG_TEMP_EN : Fld := { page := 0x84, off := 0x6c, hi := 3, lo := 3, acc := .rws, lockable := true, reset := fun _ _ => 1 }
def RTC_CFG_ALM_EN : Fld := { page := 0x84, off := 0x6c, hi := 2, lo := 2, acc := .rws, lockable := true }
def RTC_CFG_WAKE_EN : Fld := { page := 0x84, off := 0x6c, hi := 0, lo := 0, acc := .rws, lockable := true }
def RTC_TRIM_TRIM : Fld := { page := 0x84, off := 0x70, hi := 15, lo := 0, acc := .ro }
def RTC_TRIM_MAN_TRIM : Fld := { page := 0x84, off := 0x74, hi := 15, lo := 0, acc := .rws, lockable := true }
def RTC_NET_TRIM_TRIM : Fld := { page := 0x84, off := 0x78, hi := 15, lo := 0, acc := .ro }
def RTC_NET_MEAS_TEMP : Fld := { page := 0x84, off := 0x7c, hi := 31, lo := 24, acc := .ro }
def RTC_NET_MEAS_MEAS : Fld := { page := 0x84, off := 0x7c, hi := 15, lo := 0, acc := .ro }
def RTC_TEMP_TEMP : Fld := { page := 0x84, off := 0x80, hi := 7, lo := 0, acc := .ro }
def RTC_ALM_SEC_MASK : Fld := { page := 0x84, off := 0x84, hi := 7, lo := 7, acc := .rws, reset := fun _ _ => 1 }
def RTC_ALM_SEC_SEC : Fld := { page := 0x84, off := 0x84, hi := 6, lo := 0, acc := .rws }
def RTC_ALM_MIN_MASK : Fld := { page := 0x84, off := 0x88, hi := 7, lo := 7, acc := .rws, reset := fun _ _ => 1 }
def RTC_ALM_MIN_MIN : Fld := { page := 0x84, off := 0x88, hi := 6, lo := 0, acc := .rws }
def RTC_ALM_HOUR_MASK : Fld := { page := 0x84, off := 0x8c, hi := 7, lo := 7, acc := .rws, reset := fun _ _ => 1 }
def RTC_ALM_HOUR_HOUR : Fld := { page := 0x84, off := 0x8c, hi := 5, lo := 0, acc := .rws }
def RTC_ALM_DAY_MASK : Fld := { page := 0x84, off := 0x90, hi := 7, lo := 7, acc := .rws, reset := fun _ _ => 1 }
def RTC_ALM_DAY_WDAY_SEL : Fld := { page := 0x84, off := 0x90, hi := 6, lo := 6, acc := .rws }
def RTC_ALM_DAY_DAY : Fld := { page := 0x84, off := 0x90, hi := 5, lo := 0, acc := .rws, reset := fun _ _ => 1 }
def RTC_PER_EN : Fld := { page := 0x84, off := 0x94, hi := 31, lo := 31, acc := .rws }
def RTC_PER_PERIOD : Fld := { page := 0x84, off := 0x94, hi := 15, lo := 0, acc := .rws, reset := fun _ _ => 0xe10 }
def RTC_TCURVE_N_COUNT : Fld := { page := 0x84, off := 0x98, hi := 4, lo := 0, acc := .rws, lockable := true, reset := fun _ _ => 2 }
def RTC_NET_DISCARD_COUNT : Fld := { page := 0x84, off := 0x9c, hi := 31, lo := 0, acc := .w1c }
def RTC_TCURVE_TEMP : Fld := { page := 0x84, off := 0xc0, hi := 31, lo := 24, acc := .rws, lockable := true, stride := 0x4, count := 16, reset := fun _ i => if i = 0 then 24 else 214 }
def RTC_TCURVE_TRIM : Fld := { page := 0x84, off := 0xc0, hi := 15, lo := 0, acc := .rws, lockable := true, stride := 0x4, count := 16 }
def RTC_BKP_DATA : Fld := { page := 0x84, off := 0x100, hi := 31, lo := 0, acc := .rws, stride := 0x4, count := 16 }

/-- The fields of page 0 of RTC. -/
def fldsRtc0 : List Fld :=
  [RTC_SUBSEC_SUBSEC, RTC_SEC_SEC, RTC_MIN_MIN, RTC_HOUR_HOUR, RTC_WDAY_WDAY, RTC_DATE_DATE, RTC_MONTH_MONTH, RTC_CENTURY_CENTURY, RTC_YEAR_YEAR, RTC_APPLY_APPLY, RTC_STATUS_OSF, RTC_STATUS_OSF_CAUSE, RTC_STATUS_VBAT_LOW, RTC_STATUS_WRAP, RTC_STATUS_CURVE_BAD, RTC_STATUS_NET_VALID, RTC_STATUS_TRIM_SRC, RTC_STATUS_APPLY_REJECT, RTC_STATUS_ALARM_SKIPPED, RTC_STATUS_PER_F, RTC_STATUS_ALARM_F, RTC_CFG_TEMP_PERIOD, RTC_CFG_NET_WINDOW, RTC_CFG_NET_SHIFT, RTC_CFG_NET_EN, RTC_CFG_TEMP_EN, RTC_CFG_ALM_EN, RTC_CFG_WAKE_EN, RTC_TRIM_TRIM, RTC_TRIM_MAN_TRIM, RTC_NET_TRIM_TRIM, RTC_NET_MEAS_TEMP, RTC_NET_MEAS_MEAS, RTC_TEMP_TEMP, RTC_ALM_SEC_MASK, RTC_ALM_SEC_SEC, RTC_ALM_MIN_MASK, RTC_ALM_MIN_MIN, RTC_ALM_HOUR_MASK, RTC_ALM_HOUR_HOUR] ++
  [RTC_ALM_DAY_MASK, RTC_ALM_DAY_WDAY_SEL, RTC_ALM_DAY_DAY, RTC_PER_EN, RTC_PER_PERIOD, RTC_TCURVE_N_COUNT, RTC_NET_DISCARD_COUNT, RTC_TCURVE_TEMP, RTC_TCURVE_TRIM, RTC_BKP_DATA]

end Sys2Proof.Machine
end

