-- ==== Sys2Proof/Machine/Rtc.lean ====
section
/-! DEFINITION. The backup domain and the real-time clock (spec/14_rtc.md). The commands of the backup domain act while the
internal reset is asserted too. -/

namespace Sys2Proof.Machine

open Sys2Proof

/-- First page of RTC. -/
def pRtc : Nat := 0x84

/-- Changes the backup domain. -/
def rtcMod (f : RtcUnit → RtcUnit) (d : Dev) : Dev := { d with rtc := f d.rtc }

/-- Raises a cause of the RTC page; while a reset holds the fabric nothing is raised. -/
def rtcRaise (b : Nat) (d : Dev) : Dev := if frozen d then d else raiseBit pRtc b d

/-! ### The calendar (R560, R561) -/

/-- `v` is packed BCD of two digits. -/
def isBcd (v : Nat) : Bool := decide (v % 16 < 10) && decide (v / 16 < 10)

/-- The number that packed BCD `v` spells, and the other way. -/
def fromBcd (v : Nat) : Nat := v / 16 * 10 + v % 16
def toBcd (n : Nat) : Nat := n / 10 * 16 + n % 10

/-- The next BCD value. -/
def bcdInc (v : Nat) : Nat := toBcd (fromBcd v + 1)

/-- The year of a time as a number. -/
def yearOf (t : RtcTime) : Nat := 100 * fromBcd t.century + fromBcd t.year

/-- R561: leap years. -/
def isLeap (y : Nat) : Bool := (y % 4 == 0) && (y % 100 != 0 || y % 400 == 0)

/-- The last day of month `m` of year `y`, as numbers. -/
def lastDay (y m : Nat) : Nat :=
  if m = 2 then (if isLeap y then 29 else 28)
  else if m = 4 ∨ m = 6 ∨ m = 9 ∨ m = 11 then 30 else 31

/-- Every field is valid BCD within its range and the date exists (R565). -/
def rtcValid (t : RtcTime) : Bool :=
  isBcd t.sec && decide (t.sec ≤ 0x59) && isBcd t.min && decide (t.min ≤ 0x59) &&
  isBcd t.hour && decide (t.hour ≤ 0x23) && decide (1 ≤ t.wday) && decide (t.wday ≤ 7) &&
  isBcd t.month && decide (1 ≤ t.month) && decide (t.month ≤ 0x12) &&
  isBcd t.century && decide (0x20 ≤ t.century) && decide (t.century ≤ 0x23) &&
  isBcd t.year && decide (t.year ≤ 0x99) &&
  isBcd t.date && decide (1 ≤ t.date) && decide (fromBcd t.date ≤ lastDay (yearOf t) (fromBcd t.month))

/-- The day of the week after `w`. -/
def nextWday (w : Nat) : Nat := if w = 7 then 1 else w + 1

/-- The midnight that ends the day of `t`; true where it goes from 2399-12-31 to 2000-01-01. -/
def nextDay (t : RtcTime) : RtcTime × Bool :=
  let u := { t with sec := 0, min := 0, hour := 0, wday := nextWday t.wday }
  if fromBcd t.date < lastDay (yearOf t) (fromBcd t.month) then ({ u with date := bcdInc t.date }, false)
  else if t.month ≠ 0x12 then ({ u with date := 1, month := bcdInc t.month }, false)
  else if t.year ≠ 0x99 then ({ u with date := 1, month := 1, year := bcdInc t.year }, false)
  else if t.century ≠ 0x23 then ({ u with date := 1, month := 1, year := 0, century := bcdInc t.century }, false)
  else ({ u with date := 1, month := 1, year := 0, century := 0x20 }, true)

/-- The next second, and whether the calendar wraps. -/
def nextSecond (t : RtcTime) : RtcTime × Bool :=
  if t.sec ≠ 0x59 then ({ t with sec := bcdInc t.sec }, false)
  else if t.min ≠ 0x59 then ({ t with sec := 0, min := bcdInc t.min }, false)
  else if t.hour ≠ 0x23 then ({ t with sec := 0, min := 0, hour := bcdInc t.hour }, false)
  else nextDay t

/-- The date of a time, and its second of the day, as numbers in the order of time. -/
def dateKey (t : RtcTime) : Nat := (yearOf t * 100 + fromBcd t.month) * 100 + fromBcd t.date
def secOfDay (t : RtcTime) : Nat := (fromBcd t.hour * 60 + fromBcd t.min) * 60 + fromBcd t.sec
def timeKey (t : RtcTime) : Nat := dateKey t * 86400 + secOfDay t

/-! ### The active trim (R568, R572) -/

/-- Points of the curve in use: RTC_TCURVE_N within 2–16. -/
def curvePoints (d : Dev) : Nat := max 2 (min 16 (d.rd RTC_TCURVE_N_COUNT))

/-- The curve's temperatures strictly ascend. -/
def curveValid (d : Dev) : Bool :=
  (List.range (curvePoints d - 1)).all (fun i => decide (d.rd RTC_TCURVE_TEMP 0 i < d.rd RTC_TCURVE_TEMP 0 (i + 1)))

/-- Temperature and trim of point `i`. -/
def curveAt (d : Dev) (i : Nat) : Nat × Int := (d.rd RTC_TCURVE_TEMP 0 i, signed 16 (d.rd RTC_TCURVE_TRIM 0 i))

/-- R572: the curve's trim at coded temperature `t`: the last point at or below it and the next, interpolated. -/
def curveTrim (d : Dev) (t : Nat) : Int :=
  let n := curvePoints d
  match (List.range n).reverse.find? (fun i => decide ((curveAt d i).1 ≤ t)) with
  | none => (curveAt d 0).2
  | some i =>
    if i + 1 = n then (curveAt d i).2
    else
      let a := curveAt d i
      let b := curveAt d (i + 1)
      a.2 + Int.tdiv ((b.2 - a.2) * ((t : Int) - a.1)) ((b.1 : Int) - a.1)

/-- The servo is LOCKED. -/
def servoLocked (d : Dev) : Bool := d.rd TIME_STATUS_STATE == 2

/-- The conditions of the network row of R568 apart from NET_VALID: the device bit RTC_NETTRIM and bit 0 of the page's
FEAT_ACCEPT are accepted. -/
def netRow (d : Dev) : Bool :=
  !d.rtc.onBattery && govern d pRtc 2 6 && (d.rd HDR_FEAT_ACCEPT_ACCEPT pRtc).testBit 0 && d.on RTC_CFG_NET_EN && servoLocked d

/-- RTC_STATUS.TRIM_SRC (R568). -/
def trimSrc (d : Dev) : Nat :=
  if netRow d && d.on RTC_STATUS_NET_VALID then 1
  else if d.on RTC_CFG_TEMP_EN && curveValid d then 2 else 0

/-- Within ±512 ppm. -/
def rtcTrimLimit (x : Int) : Int := max (-17180) (min 17180 x)

/-- RTC_TRIM (R568). -/
def activeTrim (d : Dev) : Int :=
  rtcTrimLimit
    (match trimSrc d with
      | 1 => signed 16 (d.rd RTC_NET_TRIM_TRIM)
      | 2 => curveTrim d (d.rd RTC_TEMP_TEMP)
      | _ => signed 16 (d.rd RTC_TRIM_MAN_TRIM))

/-- RTC_STATUS.VBAT_LOW (R559). -/
def vbatLow (d : Dev) : Bool := !d.rtc.onBattery && decide (d.rtc.vbat < 1800)

/-- RTC_WAKE_N is driven low (R575). -/
def wakeLow (d : Dev) : Bool := d.on RTC_CFG_WAKE_EN && (d.on RTC_STATUS_ALARM_F || d.on RTC_STATUS_PER_F)

/-- R572: a write by master `m` to the curve has been taken; CURVE_BAD follows, and an invalid curve is captured. -/
def curveFollow (m off : Nat) (d : Dev) : Dev :=
  if curveValid d then d.put RTC_STATUS_CURVE_BAD 0
  else refuseWrite pRtc 0x41 m (regAddr pRtc off) (d.put RTC_STATUS_CURVE_BAD 1)

/-- A window is being measured (R557, R569). -/
def netMeasuring (d : Dev) : Bool := netRow d && isActive d pRtc

/-- The time base steps, or the servo is about to leave LOCKED: the window in progress is spoilt (R570). -/
def netSpoil (d : Dev) : Dev := if netMeasuring d then rtcMod (fun r => { r with spoilt := true }) d else d

/-- The servo leaves LOCKED (R570). -/
def netUnlock (d : Dev) : Dev := (netSpoil d).put RTC_STATUS_NET_VALID 0

/-- A drain abandons the window in progress (R557). -/
def netAbandon (d : Dev) : Dev := rtcMod (fun r => { r with spoilt := false }) d

/-! ### Power, supply and crystal (R553, R558, R559) -/

/-- Everything of the RTC takes its reset value; OSF_CAUSE is `cause`, and the supplies stay as they are. -/
def rtcReset (cause : Nat) (d : Dev) : Dev :=
  let e := { d with
    regs := d.regs.filter (fun x => x.1.reg / 4096 != pRtc)
    rtc := { onBattery := d.rtc.onBattery, vbat := d.rtc.vbat, crystal := true } }
  rtcRaise 5 ((e.put RTC_STATUS_OSF 1).put RTC_STATUS_OSF_CAUSE cause)

/-- R558: the crystal has stopped. -/
def crystalStopped (d : Dev) : Dev :=
  if !d.rtc.crystal then d
  else
    let e := rtcMod (fun r => { r with crystal := false }) d
    rtcRaise 5 (if e.on RTC_STATUS_OSF then e else (e.put RTC_STATUS_OSF 1).put RTC_STATUS_OSF_CAUSE 2)

/-- R559: 1 is written to OSF. -/
def osfWrite (d : Dev) : Dev :=
  if d.rtc.crystal then (d.put RTC_STATUS_OSF 0).put RTC_STATUS_OSF_CAUSE 0 else d

/-! ### Alarm and periodic wake (R573–R577) -/

/-- The day field of the alarm matches day of the week `w` or date `x`. -/
def almDay (d : Dev) (w x : Nat) : Bool :=
  d.on RTC_ALM_DAY_MASK || d.rd RTC_ALM_DAY_DAY == (if d.on RTC_ALM_DAY_WDAY_SEL then w else x)

/-- The fields of the time of day match. A field with invalid BCD equals no time of day. -/
def almHour (d : Dev) (h : Nat) : Bool := d.on RTC_ALM_HOUR_MASK || d.rd RTC_ALM_HOUR_HOUR == h
def almMin (d : Dev) (m : Nat) : Bool := d.on RTC_ALM_MIN_MASK || d.rd RTC_ALM_MIN_MIN == m
def almSec (d : Dev) (x : Nat) : Bool := d.on RTC_ALM_SEC_MASK || d.rd RTC_ALM_SEC_SEC == x

/-- The alarm matches time `t` (R573). -/
def almMatch (d : Dev) (t : RtcTime) : Bool :=
  almSec d t.sec && almMin d t.min && almHour d t.hour && almDay d t.wday t.date

/-- Some second of the day from `a` to before `b` matches the fields of the time of day. -/
def almWithin (d : Dev) (a b : Nat) : Bool :=
  ((List.range 24).filter (fun h => almHour d (toBcd h))).any (fun h =>
    decide (h * 3600 < b) && decide (a < (h + 1) * 3600) &&
    ((List.range 60).filter (fun m => almMin d (toBcd m))).any (fun m =>
      decide (h * 3600 + m * 60 < b) && decide (a < h * 3600 + (m + 1) * 60) &&
      ((List.range 60).filter (fun x => almSec d (toBcd x))).any (fun x =>
        decide (a ≤ h * 3600 + m * 60 + x) && decide (h * 3600 + m * 60 + x < b))))

/-- Some whole day before date `stop` matches, from the day of `t` on, over at most `n` days; `any` tells whether any
second of a day does. -/
def almDays (d : Dev) (any : Bool) (stop : Nat) : Nat → RtcTime → Bool
  | 0, _ => false
  | n + 1, t =>
    if stop ≤ dateKey t then false
    else (any && almDay d t.wday t.date) || almDays d any stop n (nextDay t).1

/-- The day of date `stop` as the count reaches it from `t`, with its day of the week. -/
def dayAt (stop : Nat) : Nat → RtcTime → RtcTime
  | 0, t => t
  | n + 1, t => if stop ≤ dateKey t then t else dayAt stop n (nextDay t).1

/-- Days in the 400 years of the calendar. -/
def calendarDays : Nat := 146097

/-- R576: some second strictly between `old` and `new` matches the alarm. -/
def almBetween (d : Dev) (old new : RtcTime) : Bool :=
  if dateKey old = dateKey new then
    almDay d old.wday old.date && almWithin d (secOfDay old + 1) (secOfDay new)
  else
    let last := dayAt (dateKey new) calendarDays old
    (almDay d old.wday old.date && almWithin d (secOfDay old + 1) 86400) ||
    almDays d (almWithin d 0 86400) (dateKey new) calendarDays (nextDay old).1 ||
    (almDay d last.wday last.date && almWithin d 0 (secOfDay new))

/-- The alarm fires in second `t`. -/
def almFire (t : RtcTime) (d : Dev) : Dev :=
  rtcRaise 3 ((rtcMod (fun r => { r with fired := some t, back := false }) d).put RTC_STATUS_ALARM_F 1)

/-- R577: a match at `t` fires nothing: an apply has gone back with ALARM_F still set, and `t` is at or before the last
second at which the alarm fired. -/
def almRepeated (d : Dev) (t : RtcTime) : Bool :=
  match d.rtc.fired with
  | some f => d.rtc.back && d.on RTC_STATUS_ALARM_F && decide (timeKey t ≤ timeKey f)
  | none => false

/-- R573: the alarm is evaluated in the second that begins. -/
def almEval (d : Dev) : Dev :=
  if d.on RTC_CFG_ALM_EN && almMatch d d.rtc.now && !almRepeated d d.rtc.now then almFire d.rtc.now d else d

/-- R574: the periodic wake counts a second. -/
def perEval (d : Dev) : Dev :=
  if !d.on RTC_PER_EN then d
  else if max 1 (d.rd RTC_PER_PERIOD) ≤ d.rtc.per + 1 then
    rtcRaise 4 ((rtcMod (fun r => { r with per := 0 }) d).put RTC_STATUS_PER_F 1)
  else rtcMod (fun r => { r with per := r.per + 1 }) d

/-- A second boundary (R561, R562, R573, R574): the calendar advances, then the alarm, then the periodic wake (R575). -/
def secondBoundary (d : Dev) : Dev :=
  if !d.rtc.crystal then d
  else
    let n := nextSecond d.rtc.now
    perEval (almEval ((rtcMod (fun r => { r with now := n.1, sub := 0 }) d).putIf n.2 RTC_STATUS_WRAP 1))

/-! ### Reading and writing the time (R563–R566) -/

/-- Time register `r` of a time: 1 RTC_SEC to 8 RTC_YEAR. -/
def rtcField (t : RtcTime) (r : Nat) : Nat :=
  match r with
  | 1 => t.sec | 2 => t.min | 3 => t.hour | 4 => t.wday | 5 => t.date | 6 => t.month | 7 => t.century | _ => t.year

/-- Time register `r` of a time made `v`, kept to its width. -/
def rtcSetField (r v : Nat) (t : RtcTime) : RtcTime :=
  match r with
  | 1 => { t with sec := v % 128 } | 2 => { t with min := v % 128 } | 3 => { t with hour := v % 64 }
  | 4 => { t with wday := v % 8 } | 5 => { t with date := v % 64 } | 6 => { t with month := v % 32 }
  | 7 => { t with century := v % 256 } | 8 => { t with year := v % 256 } | _ => t

/-- A snapshot in force: taken less than 1 ms of the time base ago (500,000 ticks of 2 ns). -/
def snapLive (d : Dev) : Option (RtcTime × Nat) :=
  match d.rtc.snap with
  | some s => if d.tb.elapsed - s.2.2 < 500000 then some (s.1, s.2.1) else none
  | none => none

/-- R563: a read of time register `r` by any master, the mirror's sub-second count being `sub`. -/
def snapRead (r sub : Nat) (d : Dev) : Dev :=
  let cur := max d.rtc.sub (if d.rtc.crystal then min sub 32767 else 0)
  let s := (snapLive d).getD (d.rtc.now, cur)
  let e := match snapLive d with
    | some _ => d
    | none => rtcMod (fun x => { x with sub := cur, snap := some (d.rtc.now, cur, d.tb.elapsed) }) d
  answer (if r = 0 then s.2 else rtcField s.1 r) (if 8 ≤ r then rtcMod (fun x => { x with snap := none }) e else e)

/-- A read of a time register by a bus access, which brings no sub-second count with it: it is at least the last one known
and otherwise open. -/
def snapReadOpen (r : Nat) (d : Dev) : Dev :=
  let v := draw d
  snapRead r (d.rtc.sub + v.1 % (32768 - d.rtc.sub)) v.2

/-- R564: a write of `v` to time register `r`. -/
def holdWrite (r v : Nat) (d : Dev) : Dev :=
  if r = 0 ∨ 8 < r then d
  else rtcMod (fun x => { x with hold := some (rtcSetField r v (x.hold.getD x.now)) }) d

/-- R565: a write of RTC_APPLY.APPLY = 1 by master `m`. -/
def applyWrite (m : Nat) (d : Dev) : Dev :=
  let t := d.rtc.hold.getD d.rtc.now
  if rtcValid t then
    (rtcMod (fun r => { r with apply := some t, hold := none }) d).put RTC_STATUS_APPLY_REJECT 0
  else refuseWrite pRtc 0x40 m (regAddr pRtc 0x064) (d.put RTC_STATUS_APPLY_REJECT 1)

/-- R565, R574, R576, R577: the crystal edge at which an accepted apply takes effect. -/
def applyEffect (d : Dev) : Dev :=
  match d.rtc.apply with
  | none => d
  | some t =>
    if !d.rtc.crystal then d
    else
      let old := d.rtc.now
      let back := match d.rtc.fired with
        | some f => decide (timeKey t < timeKey old) && decide (timeKey t ≤ timeKey f)
        | none => false
      let d1 := rtcMod (fun r => { r with now := t, sub := 0, apply := none, per := 0, back := r.back || back }) d
      let d2 := if decide (timeKey old < timeKey t) && d1.on RTC_CFG_ALM_EN && almBetween d1 old t then
          almFire t (d1.put RTC_STATUS_ALARM_SKIPPED 1)
        else d1
      rtcRaise 7 (almEval d2)

/-! ### Network trim and temperature (R569–R571) -/

/-- M of R569 for a window of `w` seconds that took `t` ns; the quotient lies never half-way between two numbers. -/
def netM (t w : Nat) : Int :=
  rtcTrimLimit ((2 * (((t : Int) - w * 1000000000) * 2 ^ 25) + w * 1000000000) / (2 * (w * 1000000000)))

/-- R569, R570: a window ends after `t` ns. -/
def windowEnd (t : Nat) (d : Dev) : Dev :=
  if d.rtc.spoilt then satPut RTC_NET_DISCARD_COUNT 0 0 1 (netAbandon d)
  else if !netMeasuring d then d
  else
    let m := netM t (max 1 (d.rd RTC_CFG_NET_WINDOW))
    let cur := signed 16 (d.rd RTC_NET_TRIM_TRIM)
    let trim := if d.on RTC_STATUS_NET_VALID then cur + (m - cur) / 2 ^ d.rd RTC_CFG_NET_SHIFT else m
    raiseBit pRtc 6
      ((((d.put RTC_NET_MEAS_MEAS (twos 16 m)).put RTC_NET_MEAS_TEMP (d.rd RTC_TEMP_TEMP)).put
        RTC_NET_TRIM_TRIM (twos 16 trim)).put RTC_STATUS_NET_VALID 1)

/-! ### Meanings -/

def execBackupPowerUp (s : State) : Host.Outcome State Fault Refusal := updAlways s (rtcReset 1)

def execSupplySwitch (battery : Bool) (vbat : Nat) (s : State) : Host.Outcome State Fault Refusal :=
  updAlways s (rtcMod (fun r => { r with onBattery := battery, vbat := vbat }))

def execCrystalStop (s : State) : Host.Outcome State Fault Refusal := updAlways s crystalStopped

def execVbatLowReset (s : State) : Host.Outcome State Fault Refusal :=
  updAlways s (fun d => if d.rtc.onBattery then rtcReset 3 d else d)

def execRtcSecond (s : State) : Host.Outcome State Fault Refusal := updAlways s secondBoundary

def execRtcSnapshotRead (m r sub : Nat) (s : State) : Host.Outcome State Fault Refusal :=
  upd s (cmdRead pRtc (0x040 + 4 * r) m (snapRead r sub))

def execRtcSnapshotExpire (s : State) : Host.Outcome State Fault Refusal :=
  upd s (fun d => if (snapLive d).isNone then rtcMod (fun r => { r with snap := none }) d else d)

def execRtcHoldWrite (m r v : Nat) (s : State) : Host.Outcome State Fault Refusal :=
  upd s (cmdWrite pRtc (0x040 + 4 * r) m (holdWrite r v))

def execRtcApply (m : Nat) (s : State) : Host.Outcome State Fault Refusal :=
  upd s (cmdWrite pRtc 0x064 m (applyWrite m))

def execRtcApplyTakeEffect (s : State) : Host.Outcome State Fault Refusal := updAlways s applyEffect

def execOsfClear (m : Nat) (s : State) : Host.Outcome State Fault Refusal :=
  upd s (cmdWrite pRtc 0x068 m osfWrite)

def execNetWindowEnd (t : Nat) (s : State) : Host.Outcome State Fault Refusal := upd s (windowEnd t)

def execTempSample (temp : Int) (s : State) : Host.Outcome State Fault Refusal :=
  updAlways s (fun d => d.put RTC_TEMP_TEMP (twos 8 (temp + 64)))

def execCrystalRestart (s : State) : Host.Outcome State Fault Refusal :=
  updAlways s (rtcMod (fun r => { r with crystal := true }))

end Sys2Proof.Machine
end

