-- ==== Sys2Proof/Machine/Time.lean ====
section
/-! DEFINITION. The time base, the servo, the stamp FIFOs, PPS, captures and event outputs (spec/13_time.md). Steps of
the time base, which many units follow, are in TimeSteps.lean. -/

namespace Sys2Proof.Machine

open Sys2Proof

/-- First page of TIME. -/
def pTime : Nat := 0x80

/-! ### The counter (R521, R522, R524) -/

/-- Units of the count in a nanosecond, and in a second. -/
def nsUnit : Nat := 2 ^ 48
def secUnit : Nat := 1000000000 * nsUnit

/-- The whole range of the count: 48 bits of seconds (R522). -/
def timeRange : Nat := 2 ^ 48 * secUnit

/-- A value of the count kept to its range. -/
def wrapTime (x : Int) : Nat := (x % (timeRange : Int)).toNat

/-- TIME_FREQ in 2^−8 ppb. -/
def freqNow (d : Dev) : Int := signed 32 (d.rd TIME_FREQ_FREQ)

/-- What a slew adds in one tick, in the residue's units (R541). -/
def slewRate (d : Dev) : Int := (2 ^ 49 * max 1 (d.rd TIME_LIMIT_SLEW_MAX) : Nat)

/-- What a slew adds in this tick: no more than what remains of it. -/
def slewPart (d : Dev) : Int :=
  match d.tb.slew with
  | none => 0
  | some r => if 0 ≤ r then min r (slewRate d) else max r (-(slewRate d))

/-- The on-die oscillator's deviation over one tick, within ±1,000 ppm and otherwise open, in units of the count
(R544). -/
def oscillatorPart (d : Dev) : Int × Dev :=
  let r := draw d
  (((r.1 % (2 ^ 50 / 1000 + 1) : Nat) : Int) - (2 ^ 49 / 1000 : Nat), r.2)

/-- The count moves by `inc` in the residue's units. -/
def addToCount (inc : Int) (tb : TimeBase) : TimeBase :=
  let t := (tb.residue : Int) + inc
  { tb with count := wrapTime ((tb.count : Int) + t / 1000000000), residue := (t % 1000000000).toNat }

/-- One tick of the time base (R521, R544): 2 ns at the frequency in force. -/
def timeTick (d : Dev) : Dev :=
  let s := slewPart d
  let o := if d.on TIME_STATUS_REF_LOST then oscillatorPart d else (0, d)
  let inc := (2 ^ 49 * 1000000000 : Nat) + 2 ^ 41 * freqNow d + s + o.1 * 1000000000
  let tb := addToCount inc d.tb
  { o.2 with tb := { tb with elapsed := d.tb.elapsed + 1, slew := d.tb.slew.map (· - s) } }

/-- The full form of the present instant, in 2^−16 ns (R523). -/
def fullNow (d : Dev) : Nat := d.tb.count / 2 ^ 32

/-- Nanoseconds, seconds and fraction of a full-form value. -/
def fullNs (t : Nat) : Nat := t / 65536 % 1000000000
def fullS (t : Nat) : Nat := t / 65536 / 1000000000
def fullFrac (t : Nat) : Nat := t % 65536

/-- The manifest form of a full-form value: nanoseconds and the low 32 bits of seconds (R524). -/
def manifestForm (t : Nat) : Nat × Nat := (fullNs t, fullS t % 2 ^ 32)

/-- A full-form value moved by `x` in 2^−16 ns. -/
def fullAdd (t : Nat) (x : Int) : Nat := wrapTime (((t : Int) + x) * 2 ^ 32) / 2 ^ 32

/-- A value latched for master `m`'s next reads of a register (R78, R526, R530). -/
def latch (m addr v : Nat) (d : Dev) : Dev :=
  { d with sh := { d.sh with latched := ((m, addr), v) :: d.sh.latched.filter (fun e => e.1 != (m, addr)) } }

/-- R526: a read of TIME_NOW_NS by master `m`. -/
def timeNowRead (m : Nat) (d : Dev) : Dev :=
  let t := fullNow d
  answer (fullNs t) (latch m (regAddr pTime 0x04C) (fullFrac t)
    (latch m (regAddr pTime 0x048) (fullS t / 2 ^ 32 % 65536) (latch m (regAddr pTime 0x044) (fullS t % 2 ^ 32) d)))

/-! ### Stamp FIFOs (R529, R530) -/

/-- PTP port `p` beyond its registers. -/
def timePort (d : Dev) (p : Nat) : TimePort := tabGet d.time.ports p {}

/-- Changes PTP port `p`. -/
def timePortMod (p : Nat) (f : TimePort → TimePort) (d : Dev) : Dev :=
  { d with time := { d.time with ports := tabMod d.time.ports p {} f } }

/-- The first page of the unit behind PTP port `p`. -/
def portPage (p : Nat) : Nat := if p < 6 then 0xC8 + p else 0x30 + 5 * (p - 6)

/-- Port `p` exists here and, for an 802.11 port, TIME works with TIME_AS (R532). -/
def portUsable (d : Dev) (p : Nat) : Bool :=
  decide (p < 9) && present d (portPage p) && (decide (p < 6) || feat d pTime 2 5)

/-- A stamp enters the FIFO of port `p`, or is lost and counted (R530). -/
def ptpPush (p : Nat) (e : PtpStamp) (d : Dev) : Dev :=
  if !isActive d pTime || !portUsable d p || !d.on TIME_FIFO_CFG_EN 0 p then d
  else if 32 ≤ (timePort d p).fifo.length then count TIME_FIFO_OVF_COUNT 0 p d
  else raiseBit pTime 8 (timePortMod p (fun x => { x with fifo := x.fifo ++ [e] }) d)

/-- FIFO stands while any stamp FIFO holds a stamp (R552). -/
def fifoHeld (d : Dev) : Bool := d.time.ports.any (fun e => !e.2.fifo.isEmpty)
def fifoCause (d : Dev) : Dev := if fifoHeld d then d else lowerBit pTime 8 d

/-- R530: a read of TIME_FIFO_HDR of port `p` by master `m`. -/
def ptpPop (m p : Nat) (d : Dev) : Dev :=
  match (timePort d p).fifo with
  | [] => answer 0 d
  | e :: l =>
    let a := fun o => regAddr (pTime + 2) (0x040 + 0x20 * p + o)
    answer (2 ^ 31 + 2 ^ 30 * e.dir + 2 ^ 24 * e.type + e.seq)
      (latch m (a 0x10) (2 ^ 16 * fullFrac e.at_ + fullS e.at_ / 2 ^ 32 % 65536)
        (latch m (a 0xC) (fullS e.at_ % 2 ^ 32) (latch m (a 8) (fullNs e.at_)
          (fifoCause (timePortMod p (fun x => { x with fifo := l }) d)))))

/-! ### The servo (R533–R539) -/

/-- States of the servo (R537). -/
def stFree : Nat := 0
def stAcquire : Nat := 1
def stLocked : Nat := 2
def stHoldover : Nat := 3

def servoState (d : Dev) : Nat := d.rd TIME_STATUS_STATE

/-- The servo enters a state; each change raises LOCK_CHANGE, and leaving LOCKED ends the validity of the RTC's network
trim (R570). -/
def servoTo (st : Nat) (d : Dev) : Dev :=
  if servoState d = st then d
  else
    let e := if servoState d = stLocked then netUnlock d else d
    raiseBit pTime 6 (e.put TIME_STATUS_STATE st)

/-- HOLDOVER with the frequency held at −integ (R537). -/
def enterHoldover (d : Dev) : Dev :=
  if servoState d = stFree then d
  else servoTo stHoldover (d.put TIME_FREQ_FREQ (twos 32 (-d.tb.integ)))

/-- `x` kept to the range of a signed register of 32 bits. -/
def sat32 (x : Int) : Nat := twos 32 (max (-(2 ^ 31)) (min (2 ^ 31 - 1) x))

/-- `a / b`, the last digit open where it is not exact and the spec gives no rounding. -/
def divOpen (a : Int) (b : Nat) (d : Dev) : Int × Dev :=
  if a % (b : Int) = 0 then (a / b, d)
  else
    let r := drawBit d
    (a / b + (if r.1 then 1 else 0), r.2)

/-- `x` kept within ±`lim`. -/
def clampTo (lim : Int) (x : Int) : Int := max (-lim) (min lim x)

/-- A hold of R535 or R544 keeps the servo in HOLDOVER. -/
def holdCause (d : Dev) : Bool :=
  d.on TIME_STATUS_PATH_STEP || (d.on TIME_STATUS_ASYM_SUSPECT && d.on TIME_SERVO_CFG_CHECK_HOLD) ||
  d.on TIME_STATUS_REF_LOST

/-- `y` of R536 in 2^−8 ppb: θ in 2^−16 ns over `ticks` ticks of 2 ns; open where no time has passed. -/
def servoY (theta : Int) (ticks : Nat) (d : Dev) : Int × Dev :=
  if ticks = 0 then
    let r := draw d
    ((r.1 : Int), r.2)
  else divOpen (theta * 1000000000) (512 * ticks) d

/-- The frequency update of R536. -/
def servoUpdate (theta : Int) (ticks : Nat) (d : Dev) : Dev :=
  let y := servoY theta ticks d
  let lim : Int := (d.rd TIME_LIMIT_FREQ_MAX * 256000 : Nat)
  let integ := clampTo lim (d.tb.integ + y.1 / 2 ^ d.rd TIME_SERVO_CFG_KI_SHIFT)
  let freq := clampTo lim (-(integ + y.1 / 2 ^ d.rd TIME_SERVO_CFG_KP_SHIFT))
  let d1 := { y.2 with tb := { y.2.tb with integ := integ } }.put TIME_FREQ_FREQ (twos 32 freq)
  if 8 ≤ d1.time.lockRun then servoTo stLocked d1
  else if d1.rd TIME_HOLD_CFG_LOCK_NS * 65536 < theta.natAbs then servoTo stAcquire d1
  else d1

/-- A source offset θ in 2^−16 ns (R536), τ being the ticks given or those since the previous source offset. `stepBy`
steps the time by an amount in units of the count. -/
def servoOffset (stepBy : Int → Dev → Dev) (theta : Int) (tau : Option Nat) (d : Dev) : Dev :=
  let prev := d.time.lastSource
  let d0 := { d with time := { d.time with
    lastSource := some d.tb.elapsed
    lockRun := if theta.natAbs ≤ d.rd TIME_HOLD_CFG_LOCK_NS * 65536 then d.time.lockRun + 1 else 0 } }
  let d1 := d0.put TIME_OFFSET_NS (sat32 (theta / 65536))
  if !d1.on TIME_SERVO_CFG_EN || servoState d1 = stFree then d1
  else if servoState d1 = stHoldover && holdCause d1 then d1
  else if d1.on TIME_SERVO_CFG_STEP_EN && decide (d1.rd TIME_STEP_THRESH_NS * 65536 < theta.natAbs) then
    servoTo stAcquire (stepBy (-(theta * 2 ^ 32)) d1)
  else if servoState d1 = stHoldover then servoTo stAcquire d1
  else
    let ticks := match tau with
      | some t => some t
      | none => prev.map (d1.tb.elapsed - ·)
    match ticks with
    | none => servoTo stAcquire d1
    | some t => servoUpdate theta t d1

/-- SRC_PORT names port `p`. -/
def isSource (d : Dev) (p : Nat) : Bool := d.rd TIME_SERVO_CFG_SRC_PORT == p

/-- Stores the mean of port `p` and its register. -/
def setMean (p : Nat) (mean : Int) (d : Dev) : Dev :=
  ((timePortMod p (fun x => { x with mean := mean }) d).put TIME_PORT_MEAN_MEAN (twos 32 (mean / 4096)) 0 p)

/-- Stores the run of port `p`. -/
def setRun (p : Nat) (l : List Int) (d : Dev) : Dev :=
  (timePortMod p (fun x => { x with run := l }) d).put TIME_PORT_STATUS_RUN l.length 0 p

/-- R534: a mean sample `m` at port `p`, in 2^−16 ns. -/
def meanSample (p : Nat) (m : Int) (d : Dev) : Dev :=
  let x := timePort d p
  let thresh : Nat := d.rd TIME_PATH_THRESH_NS * 65536
  if !d.on TIME_PORT_STATUS_STEPPED 0 p then
    if d.on TIME_PORT_STATUS_VALID 0 p && decide (thresh < (m - x.mean).natAbs) then
      let d1 := setRun p [m] (d.put TIME_PORT_STATUS_STEPPED 1 0 p)
      if isSource d p then raiseBit pTime 4 (enterHoldover (d1.put TIME_STATUS_PATH_STEP 1)) else d1
    else if !d.on TIME_PORT_STATUS_VALID 0 p then setMean p m (d.put TIME_PORT_STATUS_VALID 1 0 p)
    else setMean p (x.mean + (m - x.mean) / 2 ^ d.rd TIME_SERVO_CFG_DLY_SHIFT) d
  else
    let run := match x.run with
      | [] => [m]
      | r0 :: _ => if (m - r0).natAbs ≤ thresh then x.run ++ [m] else [m]
    if run.length = 16 then
      let avg := divOpen run.sum 16 d
      let d1 := setMean p avg.1 (setRun p [] (avg.2.put TIME_PORT_STATUS_STEPPED 0 0 p))
      if isSource d p then d1.put TIME_STATUS_PATH_STEP 0 else d1
    else setRun p run d

/-- R535: the check of a source offset against the check port. -/
def asymCheck (theta : Int) (d : Dev) : Dev :=
  let c := d.rd TIME_SERVO_CFG_CHECK_PORT
  match (timePort d c).offset with
  | some (phi, t) =>
    if d.on TIME_SERVO_CFG_CHECK_EN && decide (d.tb.elapsed - t ≤ 1000000000) &&
        decide (d.rd TIME_ASYM_THRESH_NS * 65536 < (theta - phi).natAbs) then
      let d1 := raiseBit pTime 5 (d.put TIME_STATUS_ASYM_SUSPECT 1)
      if d1.on TIME_SERVO_CFG_CHECK_HOLD then enterHoldover d1 else d1
    else d
  | none => d

/-- An offset θ of port `p` (R533, R535, R536). -/
def portOffset (stepBy : Int → Dev → Dev) (p : Nat) (theta : Int) (d : Dev) : Dev :=
  let d1 := (timePortMod p (fun x => { x with offset := some (theta, d.tb.elapsed) }) d).put
    TIME_PORT_OFS_NS (sat32 (theta / 65536)) 0 p
  if isSource d1 p then servoOffset stepBy theta none (asymCheck theta d1) else d1

/-- A signed 64-bit operand of a sample. -/
def sampleD (d : Dev) (lo hi : Fld) : Int := signed 64 (d.rd lo + 2 ^ 32 * d.rd hi)

/-- A refused sample or command: code 0x40. -/
def timeRefuse (m off : Nat) (d : Dev) : Dev := refuseWrite pTime 0x40 m (regAddr pTime off) d

/-- R533: a write of TIME_SMP_PUSH by master `m`. -/
def samplePush (stepBy : Int → Dev → Dev) (m : Nat) (d : Dev) : Dev :=
  let p := d.rd TIME_SMP_CFG_PORT
  let kind := d.rd TIME_SMP_CFG_KIND
  let ms := sampleD d TIME_SMP_D_MS_LO_D TIME_SMP_D_MS_HI_D
  let sm := sampleD d TIME_SMP_D_SM_LO_D TIME_SMP_D_SM_HI_D
  if !isActive d pTime || !portUsable d p || kind == 3 || (kind == 1 && sm != 0) then
    timeRefuse m 0x1054 (d.put TIME_SMP_STATUS_REJECTED 1)
  else
    let d0 := d.put TIME_SMP_STATUS_REJECTED 0
    let d1 := if kind = 2 then d0
      else
        let mean := divOpen (if kind = 0 then ms + sm else ms) 2 d0
        meanSample p mean.1 mean.2
    if kind = 1 || !d1.on TIME_PORT_STATUS_VALID 0 p || d1.on TIME_PORT_STATUS_STEPPED 0 p then d1
    else portOffset stepBy p (ms - (timePort d1 p).mean - 4096 * signed 32 (d1.rd TIME_PORT_ASYM_A 0 p)) d1

/-- TIME_SERVO_CFG.EN or the activity of TIME changed: FREE while off, ACQUIRE when the servo comes on (R537, R551). -/
def servoFollow (d : Dev) : Dev :=
  if d.on TIME_SERVO_CFG_EN && isActive d pTime then
    (if servoState d = stFree then
      servoTo stAcquire { d with time := { d.time with lastSource := none, lockRun := 0 } } else d)
  else servoTo stFree d

/-- The length of a slew in the residue's units. -/
def slewOf (ns : Int) : Int := ns * (nsUnit * 1000000000 : Nat)

/-- R541: TIME_CMD.SLEW. -/
def slewStart (m : Nat) (d : Dev) : Dev :=
  let adj := signed 32 (d.rd TIME_ADJ_NS)
  if d.on TIME_SERVO_CFG_EN then timeRefuse m 0x060 d
  else if adj = 0 then { d with tb := { d.tb with slew := none } }.put TIME_STATUS_SLEWING 0
  else { d with tb := { d.tb with slew := some (slewOf adj) } }.put TIME_STATUS_SLEWING 1

/-- TIME_ADJ has been absorbed: what remains of it is in the count, and SLEWING clears. -/
def slewEnd (d : Dev) : Dev :=
  match d.tb.slew with
  | none => d
  | some r => { d with tb := { addToCount r d.tb with slew := none } }.put TIME_STATUS_SLEWING 0

/-! ### The reference (R544) -/

/-- Loss of the 40 MHz reference is detected. -/
def referenceLost (d : Dev) : Dev :=
  if d.on TIME_STATUS_REF_LOST then d
  else
    raiseBit pTime 7 (fault0 pTime 0x41 1 0 (enterHoldover (d.put TIME_STATUS_REF_LOST 1)))

/-- The 40 MHz reference is there or not; in a reset nothing but this follows it. -/
def refSeen (here : Bool) (d : Dev) : Dev := { d with rst := { d.rst with refPresent := here } }

/-! ### PPS, captures and event outputs (R545–R548) -/

/-- An edge is of the polarity that an IN_EDGE bit selects. -/
def edgeIs (sel : Nat) (falling : Bool) : Bool := (sel == 1) == falling

/-- R545: the signed distance of a full-form stamp from the nearest whole second. -/
def fromSecond (t : Nat) (d : Dev) : Int × Dev :=
  let f := t % (65536 * 1000000000)
  let half := 32768 * 1000000000
  if f < half then (f, d)
  else if half < f then ((f : Int) - 65536 * 1000000000, d)
  else
    let r := drawBit d
    (if r.1 then (f : Int) else (f : Int) - 65536 * 1000000000, r.2)

/-- R545: an edge of PPS_IN. -/
def ppsIn (stepBy : Int → Dev → Dev) (falling : Bool) (d : Dev) : Dev :=
  if !isActive d pTime || !d.on PPS_CFG_IN_EN || !edgeIs (d.rd PPS_CFG_IN_EDGE) falling then d
  else
    let t := fullAdd (fullNow d) (-(65536 * d.rd PPS_IN_DELAY_NS : Nat))
    let d1 := ((d.put PPS_IN_NS_NS (fullNs t)).put PPS_IN_S_LO_S (fullS t % 2 ^ 32)).put PPS_IN_S_HI_S
      (fullS t / 2 ^ 32)
    if isSource d1 15 then
      let th := fromSecond t d1
      servoOffset stepBy th.1 (some 500000000) th.2
    else d1

/-- R546: PPS_OUT rises at a whole second less PPS_OUT_COMP, once for each second. -/
def ppsSecond (d : Dev) : Dev :=
  let sec := (nowTotal d + d.rd PPS_OUT_COMP_NS) / 1000000000
  let fresh := match d.time.ppsLast with
    | none => true
    | some l => decide (l < sec)
  if isActive d pTime && d.on PPS_CFG_OUT_EN && fresh then
    { d with time := { d.time with ppsHigh := true, ppsLast := some sec } }
  else d

/-- The capture FIFO of input `c`. -/
def capFifo (d : Dev) (c : Nat) : List Nat := tabGet d.time.caps c []

/-- R547: an edge at capture input `c`. -/
def captureEdge (c : Nat) (falling : Bool) (d : Dev) : Dev :=
  let sel := d.rd CAP_CFG_EDGE 0 c
  if !isActive d pTime || !decide (c < 8) || !d.on CAP_CFG_EN 0 c || !(decide (2 ≤ sel) || edgeIs sel falling) then d
  else if 16 ≤ (capFifo d c).length then fault0 pTime 0x43 0 c (count CAP_S_HI_CAP_OVF 0 c d)
  else
    let t := fullAdd (fullNow d) (-(65536 * d.rd CAP_CFG_DELAY 0 c : Nat))
    raiseBit pTime 9 { d with time := { d.time with caps := tabSet d.time.caps c (capFifo d c ++ [t]) } }

/-- CAPTURE stands while any capture FIFO holds a stamp (R552). -/
def capHeld (d : Dev) : Bool := d.time.caps.any (fun e => !e.2.isEmpty)
def capCause (d : Dev) : Dev := if capHeld d then d else lowerBit pTime 9 d

/-- A read of CAP_NS of input `c` by master `m` pops the oldest stamp. CAP_OVF is read as it stands. -/
def capturePop (m c : Nat) (d : Dev) : Dev :=
  match capFifo d c with
  | [] => answer 0 d
  | t :: l =>
    let a := fun o => regAddr (pTime + 3) (0x080 + 0x10 * c + o)
    answer (2 ^ 31 + fullNs t)
      (latch m (a 0xC) (2 ^ 16 * d.rd CAP_S_HI_CAP_OVF 0 c + fullS t / 2 ^ 32 % 65536)
        (latch m (a 8) (fullS t % 2 ^ 32)
          (capCause { d with time := { d.time with caps := tabSet d.time.caps c l } })))

/-- Event output `e`. -/
def evtOf (d : Dev) (e : Nat) : EvtOut := tabGet d.time.evts e {}

/-- Changes event output `e`. -/
def evtMod (e : Nat) (f : EvtOut → EvtOut) (d : Dev) : Dev :=
  { d with time := { d.time with evts := tabMod d.time.evts e {} f } }

/-- Total nanoseconds of START of output `e` as its registers hold it. -/
def evtStart (d : Dev) (e : Nat) : Nat :=
  (d.rd EVT_START_S_LO_S 0 e + 2 ^ 32 * d.rd EVT_START_S_HI_S 0 e) * 1000000000 + d.rd EVT_START_NS_NS 0 e

/-- Instant `k` of an output, in total nanoseconds. -/
def evtInstant (x : EvtOut) (k : Nat) : Nat := x.start + (if x.periodic then k * x.period else 0)

/-- The first instant of a periodic output at or after `t`, and the first after `t`. -/
def firstAt (x : EvtOut) (t : Nat) : Nat :=
  if t ≤ x.start then 0 else (t - x.start + x.period - 1) / x.period
def firstAfter (x : EvtOut) (t : Nat) : Nat :=
  if t < x.start then 0 else (t - x.start) / x.period + 1

/-- The output pulses: FIRED, and its ball goes to the active level. -/
def evtPulse (e : Nat) (skipped : Bool) (d : Dev) : Dev :=
  raiseBit pTime 10 (evtMod e (fun x => { x with high := true })
    ((d.put EVT_STATUS_FIRED 1 0 e).putIf skipped EVT_STATUS_SKIPPED 1 0 e))

/-- R548: EVT_CFG.EN of output `e` goes from 0 to 1, or the enable is refused with code 0x42. -/
def evtEnable (m e : Nat) (d : Dev) : Dev :=
  let periodic := d.rd EVT_CFG_MODE 0 e == 1
  let width := d.rd EVT_WIDTH_NS 0 e
  let period := d.rd EVT_PERIOD_NS 0 e
  if d.on EVT_CFG_EN 0 e then d
  else if 1000000000 ≤ d.rd EVT_START_NS_NS 0 e || width < 2 || (periodic && (period < 16 || period ≤ width)) then
    refuseWrite pTime 0x42 m (regAddr (pTime + 3) (0x100 + 0x20 * e)) d
  else
    let x : EvtOut := ⟨periodic, d.on EVT_CFG_POL 0 e, d.rd EVT_CFG_COMP 0 e, evtStart d e, period, width, 0, 0, false⟩
    let now := nowTotal d
    let d1 := evtMod e (fun _ => if periodic then { x with next := firstAt x now, first := firstAt x now } else x)
      ((d.put EVT_CFG_EN 1 0 e).put EVT_STATUS_ARMED 1 0 e)
    if !periodic && decide (x.start < now) then evtPulse e true (d1.put EVT_STATUS_ARMED 0 0 e) else d1

/-- EVT_CFG.EN of output `e` goes to 0: nothing is pending and the ball is inactive. -/
def evtDisable (e : Nat) (d : Dev) : Dev :=
  evtMod e (fun x => { x with high := false }) ((d.put EVT_CFG_EN 0 0 e).put EVT_STATUS_ARMED 0 0 e)

/-- R548: output `e` reaches its next instant. -/
def evtInstantNow (e : Nat) (d : Dev) : Dev :=
  if isActive d pTime && d.on EVT_CFG_EN 0 e && d.on EVT_STATUS_ARMED 0 e then
    let d1 := evtPulse e false d
    if (evtOf d e).periodic then evtMod e (fun x => { x with next := x.next + 1 }) d1
    else d1.put EVT_STATUS_ARMED 0 0 e
  else d

/-- R549: output `e` over a step of the time from `old` to `new`, in total nanoseconds. -/
def evtStep (old new e : Nat) (d : Dev) : Dev :=
  let x := evtOf d e
  if !isActive d pTime || !d.on EVT_CFG_EN 0 e then d
  else if old < new then
    if d.on EVT_STATUS_ARMED 0 e && decide (evtInstant x x.next ≤ new) then
      let d1 := evtPulse e true d
      if x.periodic then evtMod e (fun y => { y with next := firstAfter x new }) d1
      else d1.put EVT_STATUS_ARMED 0 0 e
    else d
  else if d.on EVT_STATUS_FIRED 0 e then d
  else if x.periodic then evtMod e (fun y => { y with next := min y.next (max y.first (firstAfter x new)) }) d
  else if new < x.start then d.put EVT_STATUS_ARMED 1 0 e
  else d

/-! ### Enable, drain and soft reset (R551) -/

/-- TIME is not Active: every output goes to its inactive level and the servo is FREE. -/
def timeInactive (d : Dev) : Dev :=
  servoTo stFree { d with time := { d.time with
    ppsHigh := false, evts := d.time.evts.map (fun e => (e.1, { e.2 with high := false })) } }

/-- The hidden state after a soft reset of TIME. -/
def timeSoftReset (d : Dev) : Dev :=
  { d with time := {}, tb := { d.tb with slew := none } }

/-! ### Meanings -/

/-- A write of TIME_CMD or another command register of TIME on page `p`. -/
def timeWrite (m p off : Nat) (f : Dev → Dev) (s : State) : Host.Outcome State Fault Refusal :=
  upd s (cmdWrite (pTime + p) off m f)

def execTimeCmdSlew (m : Nat) (s : State) : Host.Outcome State Fault Refusal :=
  timeWrite m 0 0x060 (slewStart m) s

def execTimeCmdClrAsym (m : Nat) (s : State) : Host.Outcome State Fault Refusal :=
  timeWrite m 0 0x060 (fun d => d.put TIME_STATUS_ASYM_SUSPECT 0) s

def execSlewDone (s : State) : Host.Outcome State Fault Refusal := upd s slewEnd

/-- R537: no source offset for HOLD_MS. -/
def execServoHoldTimeout (s : State) : Host.Outcome State Fault Refusal := upd s enterHoldover

def execTimeNowRead (m : Nat) (s : State) : Host.Outcome State Fault Refusal := upd s (cmdRead pTime 0x040 m (timeNowRead m))

def execTimeFifoPop (m p : Nat) (s : State) : Host.Outcome State Fault Refusal := upd s (cmdRead (pTime + 2) (0x044 + 0x20 * p) m (ptpPop m p))

def execReferenceLoss (s : State) : Host.Outcome State Fault Refusal :=
  updAlways s (fun d => if frozen d then refSeen false d else referenceLost (refSeen false d))

def execPpsOutSecond (s : State) : Host.Outcome State Fault Refusal := upd s ppsSecond

def execPpsOutPulseEnd (s : State) : Host.Outcome State Fault Refusal :=
  upd s (fun d => { d with time := { d.time with ppsHigh := false } })

def execCaptureEdge (c : Nat) (falling : Bool) (s : State) : Host.Outcome State Fault Refusal :=
  upd s (captureEdge c falling)

def execCapturePop (m c : Nat) (s : State) : Host.Outcome State Fault Refusal := upd s (cmdRead (pTime + 3) (0x084 + 0x10 * c) m (capturePop m c))

def execEvtEnable (m e : Nat) (s : State) : Host.Outcome State Fault Refusal :=
  timeWrite m 3 (0x100 + 0x20 * e) (evtEnable m e) s

def execEvtInstant (e : Nat) (s : State) : Host.Outcome State Fault Refusal := upd s (evtInstantNow e)

def execEvtPulseEnd (e : Nat) (s : State) : Host.Outcome State Fault Refusal :=
  upd s (evtMod e (fun x => { x with high := false }))

end Sys2Proof.Machine
end

