-- ==== Sys2Proof/Machine/RegsCiph.lean ====
section
/-! DEFINITION. The register fields of spec/15_cipher.md: page, offset, bits, access code, reset value,
regular stride and count, one definition per field, from the register tables of that chapter. -/

namespace Sys2Proof.Machine

def CIPH_DPA_DUMMY_MAX : Fld := { page := 0x88, off := 0x40, hi := 26, lo := 24, reset := fun _ _ => 7 }
def CIPH_DPA_SCOPE : Fld := { page := 0x88, off := 0x40, hi := 17, lo := 16, reset := fun _ _ => 1 }
def CIPH_DPA_SHUFFLE : Fld := { page := 0x88, off := 0x40, hi := 8, lo := 8, reset := fun _ _ => 1 }
def CIPH_SAVE_BASE_CELL : Fld := { page := 0x88, off := 0x44, hi := 16, lo := 0, stat := true }
def CIPH_SAVE_CELLS_COUNT : Fld := { page := 0x88, off := 0x48, hi := 16, lo := 0, stat := true }
def CIPH_BOOT_EPOCH_EPOCH : Fld := { page := 0x88, off := 0x4c, hi := 31, lo := 0, acc := .ro, reset := fun _ _ => Config.factory 5000 % 4294967296 }
def CIPH_JOBS_COUNT : Fld := { page := 0x88, off := 0x80, hi := 31, lo := 0, acc := .w1c }
def CIPH_MAN_DROP_COUNT : Fld := { page := 0x88, off := 0x84, hi := 31, lo := 0, acc := .w1c }
def CIPH_AUTH_FAIL_COUNT : Fld := { page := 0x88, off := 0x88, hi := 31, lo := 0, acc := .w1c }
def CIPH_REPLAY_COUNT : Fld := { page := 0x88, off := 0x8c, hi := 31, lo := 0, acc := .w1c }
def CIPH_STALE_DROP_COUNT : Fld := { page := 0x88, off := 0x90, hi := 31, lo := 0, acc := .w1c }
def CIPH_EXH_DROP_COUNT : Fld := { page := 0x88, off := 0x94, hi := 31, lo := 0, acc := .w1c }
def CIPH_CTX_IDX_CTX : Fld := { page := 0x89, off := 0x40, hi := 12, lo := 0 }
def CIPH_CTX_W_WORD : Fld := { page := 0x89, off := 0x44, hi := 31, lo := 0, stride := 0x4, count := 8, win := 8192 }
def CIPH_CTX_CMD_BUSY : Fld := { page := 0x89, off := 0x64, hi := 31, lo := 31, acc := .ro, count := 8192 }
def CIPH_CTX_CMD_RESULT : Fld := { page := 0x89, off := 0x64, hi := 30, lo := 28, acc := .ro, count := 8192 }
def CIPH_CTX_CMD_CMD : Fld := { page := 0x89, off := 0x64, hi := 1, lo := 0, acc := .wo, count := 8192 }
def CIPH_CTX_SEQ_SAVE_SEQ : Fld := { page := 0x89, off := 0x68, hi := 31, lo := 0, acc := .ro, count := 8192 }
def CIPH_CTX_SECT_LO_SECTOR : Fld := { page := 0x89, off := 0x6c, hi := 31, lo := 0, acc := .ro, count := 8192 }
def CIPH_CTX_SECT_HI_EMPTY : Fld := { page := 0x89, off := 0x70, hi := 31, lo := 31, acc := .ro, count := 8192, reset := fun _ _ => 1 }
def CIPH_CTX_SECT_HI_SECTOR : Fld := { page := 0x89, off := 0x70, hi := 30, lo := 0, acc := .ro, count := 8192 }
def CIPH_CTX_REPLAY_TOP : Fld := { page := 0x89, off := 0x74, hi := 31, lo := 0, acc := .ro, count := 8192 }
def CR_CFG_EN : Fld := { page := 0x8a, off := 0x40, hi := 31, lo := 31, stride := 0x20, count := 8 }
def CR_CFG_MASTER : Fld := { page := 0x8a, off := 0x40, hi := 23, lo := 18, stat := true, stride := 0x20, count := 8 }
def CR_CFG_LOG2SIZE : Fld := { page := 0x8a, off := 0x40, hi := 11, lo := 8, stat := true, stride := 0x20, count := 8, reset := fun _ _ => 8 }
def CR_CFG_LOC : Fld := { page := 0x8a, off := 0x40, hi := 4, lo := 4, stat := true, stride := 0x20, count := 8 }
def CR_BASE_LO_BASE : Fld := { page := 0x8a, off := 0x44, hi := 31, lo := 0, stat := true, stride := 0x20, count := 8 }
def CR_BASE_HI_BASE : Fld := { page := 0x8a, off := 0x48, hi := 15, lo := 0, stat := true, stride := 0x20, count := 8 }
def CR_SW_IDX_SW_IDX : Fld := { page := 0x8a, off := 0x4c, hi := 31, lo := 0, stride := 0x20, count := 8 }
def CR_HW_IDX_HW_IDX : Fld := { page := 0x8a, off := 0x50, hi := 31, lo := 0, acc := .ro, stride := 0x20, count := 8 }
def CR_ROUTE_ROUTE : Fld := { page := 0x8a, off := 0x54, hi := 31, lo := 0, stride := 0x20, count := 8, reset := fun _ _ => 0xc0000000 }
def KEY_IDX_SLOT : Fld := { page := 0x8c, off := 0x40, hi := 12, lo := 0 }
def KEY_ATTR_VALID : Fld := { page := 0x8c, off := 0x44, hi := 31, lo := 31, acc := .ro, count := 8192 }
def KEY_ATTR_ROOT : Fld := { page := 0x8c, off := 0x44, hi := 30, lo := 30, acc := .ro, count := 8192 }
def KEY_ATTR_EXHAUSTED : Fld := { page := 0x8c, off := 0x44, hi := 29, lo := 29, acc := .ro, count := 8192 }
def KEY_ATTR_ERASING : Fld := { page := 0x8c, off := 0x44, hi := 28, lo := 28, acc := .ro, count := 8192 }
def KEY_ATTR_REKEY_F : Fld := { page := 0x8c, off := 0x44, hi := 27, lo := 27, acc := .w1c, count := 8192 }
def KEY_ATTR_DPA : Fld := { page := 0x8c, off := 0x44, hi := 26, lo := 26, acc := .ro, count := 8192 }
def KEY_ATTR_PN32 : Fld := { page := 0x8c, off := 0x44, hi := 25, lo := 25, acc := .ro, count := 8192 }
def KEY_ATTR_LEN : Fld := { page := 0x8c, off := 0x44, hi := 23, lo := 22, acc := .ro, count := 8192 }
def KEY_ATTR_USAGE : Fld := { page := 0x8c, off := 0x44, hi := 21, lo := 16, acc := .ro, count := 8192 }
def KEY_ATTR_GEN : Fld := { page := 0x8c, off := 0x44, hi := 15, lo := 0, acc := .ro, count := 8192 }
def KEY_PN_LO_PN : Fld := { page := 0x8c, off := 0x48, hi := 31, lo := 0, count := 8192 }
def KEY_PN_HI_PN : Fld := { page := 0x8c, off := 0x4c, hi := 15, lo := 0, count := 8192 }
def KEY_CMD_BUSY : Fld := { page := 0x8c, off := 0x50, hi := 31, lo := 31, acc := .ro, count := 8192 }
def KEY_CMD_RESULT : Fld := { page := 0x8c, off := 0x50, hi := 30, lo := 28, acc := .ro, count := 8192 }
def KEY_CMD_ERASE_DONE : Fld := { page := 0x8c, off := 0x50, hi := 8, lo := 8, acc := .ro, count := 8192 }
def KEY_CMD_CMD : Fld := { page := 0x8c, off := 0x50, hi := 2, lo := 0, acc := .wo, count := 8192 }
def KEY_WRAP_SLOT_SLOT : Fld := { page := 0x8c, off := 0x54, hi := 12, lo := 0, count := 8192 }
def KEY_BLOB_LO_ADDR : Fld := { page := 0x8c, off := 0x58, hi := 31, lo := 0 }
def KEY_BLOB_HI_ADDR : Fld := { page := 0x8c, off := 0x5c, hi := 15, lo := 0 }
def KEY_OUT_LO_ADDR : Fld := { page := 0x8c, off := 0x60, hi := 31, lo := 0 }
def KEY_OUT_HI_ADDR : Fld := { page := 0x8c, off := 0x64, hi := 15, lo := 0 }
def KEY_LABEL_LABEL : Fld := { page := 0x8c, off := 0x68, hi := 31, lo := 0, stride := 0x4, count := 4 }
def KEY_DERIVE_ATTR_LEN : Fld := { page := 0x8c, off := 0x78, hi := 23, lo := 22, reset := fun _ _ => 2 }
def KEY_DERIVE_ATTR_USAGE : Fld := { page := 0x8c, off := 0x78, hi := 21, lo := 16, reset := fun _ _ => 3 }
def KEY_CFG_CLEAR_SEAL_EN : Fld := { page := 0x8c, off := 0x7c, hi := 0, lo := 0, lockable := true, reset := fun _ _ => 1 }
def KEY_REKEY_LO_PN : Fld := { page := 0x8c, off := 0x80, hi := 31, lo := 0 }
def KEY_REKEY_HI_PN : Fld := { page := 0x8c, off := 0x84, hi := 15, lo := 0, reset := fun _ _ => 0x8000 }
def KEY_REKEY_LAST_SLOT : Fld := { page := 0x8c, off := 0x88, hi := 12, lo := 0, acc := .ro }
def KEY_GTK_EN : Fld := { page := 0x8d, off := 0x40, hi := 31, lo := 31, stride := 0x4, count := 48 }
def KEY_GTK_KEYID : Fld := { page := 0x8d, off := 0x40, hi := 17, lo := 16, stride := 0x4, count := 48, reset := fun _ _ => 1 }
def KEY_GTK_SLOT : Fld := { page := 0x8d, off := 0x40, hi := 12, lo := 0, stride := 0x4, count := 48 }

/-- The fields of page 0 of CIPH. -/
def fldsCiph0 : List Fld :=
  [CIPH_DPA_DUMMY_MAX, CIPH_DPA_SCOPE, CIPH_DPA_SHUFFLE, CIPH_SAVE_BASE_CELL, CIPH_SAVE_CELLS_COUNT, CIPH_BOOT_EPOCH_EPOCH, CIPH_JOBS_COUNT, CIPH_MAN_DROP_COUNT, CIPH_AUTH_FAIL_COUNT, CIPH_REPLAY_COUNT, CIPH_STALE_DROP_COUNT, CIPH_EXH_DROP_COUNT]

/-- The fields of page 1 of CIPH. -/
def fldsCiph1 : List Fld :=
  [CIPH_CTX_IDX_CTX, CIPH_CTX_W_WORD, CIPH_CTX_CMD_BUSY, CIPH_CTX_CMD_RESULT, CIPH_CTX_CMD_CMD, CIPH_CTX_SEQ_SAVE_SEQ, CIPH_CTX_SECT_LO_SECTOR, CIPH_CTX_SECT_HI_EMPTY, CIPH_CTX_SECT_HI_SECTOR, CIPH_CTX_REPLAY_TOP]

/-- The fields of page 2 of CIPH. -/
def fldsCiph2 : List Fld :=
  [CR_CFG_EN, CR_CFG_MASTER, CR_CFG_LOG2SIZE, CR_CFG_LOC, CR_BASE_LO_BASE, CR_BASE_HI_BASE, CR_SW_IDX_SW_IDX, CR_HW_IDX_HW_IDX, CR_ROUTE_ROUTE]

/-- The fields of page 0 of KEY. -/
def fldsKey0 : List Fld :=
  [KEY_IDX_SLOT, KEY_ATTR_VALID, KEY_ATTR_ROOT, KEY_ATTR_EXHAUSTED, KEY_ATTR_ERASING, KEY_ATTR_REKEY_F, KEY_ATTR_DPA, KEY_ATTR_PN32, KEY_ATTR_LEN, KEY_ATTR_USAGE, KEY_ATTR_GEN, KEY_PN_LO_PN, KEY_PN_HI_PN, KEY_CMD_BUSY, KEY_CMD_RESULT, KEY_CMD_ERASE_DONE, KEY_CMD_CMD, KEY_WRAP_SLOT_SLOT, KEY_BLOB_LO_ADDR, KEY_BLOB_HI_ADDR, KEY_OUT_LO_ADDR, KEY_OUT_HI_ADDR, KEY_LABEL_LABEL, KEY_DERIVE_ATTR_LEN, KEY_DERIVE_ATTR_USAGE, KEY_CFG_CLEAR_SEAL_EN, KEY_REKEY_LO_PN, KEY_REKEY_HI_PN, KEY_REKEY_LAST_SLOT]

/-- The fields of page 1 of KEY. -/
def fldsKey1 : List Fld :=
  [KEY_GTK_EN, KEY_GTK_KEYID, KEY_GTK_SLOT]

end Sys2Proof.Machine
end

