-- ==== Sys2Proof/Machine/RegsConvoy.lean ====
section
/-! DEFINITION. The register fields of spec/20_convoy.md: page, offset, bits, access code, reset value,
regular stride and count, one definition per field, from the register tables of that chapter. -/

namespace Sys2Proof.Machine

def CVY_CFG_PORTS : Fld := { page := 0xd0, off := 0x40, hi := 29, lo := 24, stat := true }
def CVY_CFG_TC : Fld := { page := 0xd0, off := 0x40, hi := 22, lo := 20, stat := true, reset := fun _ _ => 7 }
def CVY_CFG_DIR_AUTO : Fld := { page := 0xd0, off := 0x40, hi := 19, lo := 19, reset := fun _ _ => 1 }
def CVY_CFG_AUTO_THAW : Fld := { page := 0xd0, off := 0x40, hi := 18, lo := 18, reset := fun _ _ => 1 }
def CVY_CFG_AUTO_DROP : Fld := { page := 0xd0, off := 0x40, hi := 17, lo := 17, reset := fun _ _ => 1 }
def CVY_CFG_WARDEN : Fld := { page := 0xd0, off := 0x40, hi := 16, lo := 16, stat := true }
def CVY_CFG_MEMBER : Fld := { page := 0xd0, off := 0x40, hi := 9, lo := 0, stat := true }
def CVY_ETYPE_ETYPE : Fld := { page := 0xd0, off := 0x44, hi := 15, lo := 0, stat := true, reset := fun _ _ => 0x88b5 }
def CVY_GROUP_LO_ADDR : Fld := { page := 0xd0, off := 0x48, hi := 31, lo := 0, stat := true, reset := fun _ _ => 0xc05a01 }
def CVY_GROUP_HI_ADDR : Fld := { page := 0xd0, off := 0x4c, hi := 15, lo := 0, stat := true, reset := fun _ _ => 0x100 }
def CVY_SYSID_LO_SYSID : Fld := { page := 0xd0, off := 0x50, hi := 31, lo := 0, stat := true }
def CVY_SYSID_HI_SYSID : Fld := { page := 0xd0, off := 0x54, hi := 31, lo := 0, stat := true }
def CVY_NODE_LO_NODE : Fld := { page := 0xd0, off := 0x58, hi := 31, lo := 0, stat := true }
def CVY_NODE_HI_NODE : Fld := { page := 0xd0, off := 0x5c, hi := 31, lo := 0, stat := true }
def CVY_TIMERS_SEP_N : Fld := { page := 0xd0, off := 0x60, hi := 27, lo := 24, reset := fun _ _ => 0xa }
def CVY_TIMERS_SUSPECT_N : Fld := { page := 0xd0, off := 0x60, hi := 19, lo := 16, reset := fun _ _ => 3 }
def CVY_TIMERS_HB_MS : Fld := { page := 0xd0, off := 0x60, hi := 15, lo := 0, reset := fun _ _ => 0x64 }
def CVY_RETX_RETX_MS : Fld := { page := 0xd0, off := 0x64, hi := 15, lo := 8, reset := fun _ _ => 0x14 }
def CVY_RETX_RETX_MAX : Fld := { page := 0xd0, off := 0x64, hi := 3, lo := 0, reset := fun _ _ => 5 }
def CVY_STATUS_MEMBERS_ALIVE : Fld := { page := 0xd0, off := 0x68, hi := 26, lo := 16, acc := .ro }
def CVY_STATUS_WARDENS : Fld := { page := 0xd0, off := 0x68, hi := 15, lo := 12, acc := .ro }
def CVY_STATUS_VOTES : Fld := { page := 0xd0, off := 0x68, hi := 11, lo := 8, acc := .ro }
def CVY_STATUS_ID_CONFLICT : Fld := { page := 0xd0, off := 0x68, hi := 6, lo := 6, acc := .ro }
def CVY_STATUS_KEY_HELD : Fld := { page := 0xd0, off := 0x68, hi := 5, lo := 5, acc := .ro }
def CVY_STATUS_AUTHORITY : Fld := { page := 0xd0, off := 0x68, hi := 4, lo := 4, acc := .ro }
def CVY_STATUS_STATE : Fld := { page := 0xd0, off := 0x68, hi := 1, lo := 0, acc := .ro }
def CVY_EPOCH_LO_EPOCH : Fld := { page := 0xd0, off := 0x6c, hi := 31, lo := 0, acc := .ro }
def CVY_EPOCH_HI_EPOCH : Fld := { page := 0xd0, off := 0x70, hi := 31, lo := 0, acc := .ro }
def CVY_LAMPORT_L : Fld := { page := 0xd0, off := 0x74, hi := 31, lo := 0, acc := .ro }
def CVY_EVT_VALID : Fld := { page := 0xd0, off := 0x78, hi := 31, lo := 31, acc := .ro }
def CVY_EVT_KIND : Fld := { page := 0xd0, off := 0x78, hi := 27, lo := 24, acc := .ro }
def CVY_EVT_ARG : Fld := { page := 0xd0, off := 0x78, hi := 10, lo := 0, acc := .ro }
def CVY_TIMEPATH_PARENT : Fld := { page := 0xd0, off := 0x7c, hi := 25, lo := 16, reset := fun _ _ => 0x3ff }
def CVY_TIMEPATH_HOPS : Fld := { page := 0xd0, off := 0x7c, hi := 4, lo := 0 }
def CVY_RX_COUNT : Fld := { page := 0xd0, off := 0x80, hi := 31, lo := 0, acc := .w1c }
def CVY_TX_COUNT : Fld := { page := 0xd0, off := 0x84, hi := 31, lo := 0, acc := .w1c }
def CVY_AUTH_FAIL_COUNT : Fld := { page := 0xd0, off := 0x88, hi := 31, lo := 0, acc := .w1c }
def CVY_KEY_UNKNOWN_COUNT : Fld := { page := 0xd0, off := 0x8c, hi := 31, lo := 0, acc := .w1c }
def CVY_SYSID_MISMATCH_COUNT : Fld := { page := 0xd0, off := 0x90, hi := 31, lo := 0, acc := .w1c }
def CVY_DUP_COUNT : Fld := { page := 0xd0, off := 0x94, hi := 31, lo := 0, acc := .w1c }
def CVY_REFUSED_COUNT : Fld := { page := 0xd0, off := 0x98, hi := 31, lo := 0, acc := .w1c }
def CVY_RETX_COUNT : Fld := { page := 0xd0, off := 0x9c, hi := 31, lo := 0, acc := .w1c }
def CVY_REC_APPLIED_COUNT : Fld := { page := 0xd0, off := 0xa0, hi := 31, lo := 0, acc := .w1c }
def CVY_REC_STALE_COUNT : Fld := { page := 0xd0, off := 0xa4, hi := 31, lo := 0, acc := .w1c }
def CVY_STORE_FULL_COUNT : Fld := { page := 0xd0, off := 0xa8, hi := 31, lo := 0, acc := .w1c }
def CVY_STA_DROPPED_COUNT : Fld := { page := 0xd0, off := 0xac, hi := 31, lo := 0, acc := .w1c }
def CVY_HO_FAIL_COUNT : Fld := { page := 0xd0, off := 0xb0, hi := 31, lo := 0, acc := .w1c }
def CVY_KEY_FAIL_COUNT : Fld := { page := 0xd0, off := 0xb4, hi := 31, lo := 0, acc := .w1c }
def CVY_PLAN_TRUNC_COUNT : Fld := { page := 0xd0, off := 0xb8, hi := 31, lo := 0, acc := .w1c }
def CVY_EVT_OVF_COUNT : Fld := { page := 0xd0, off := 0xbc, hi := 31, lo := 0, acc := .w1c }
def CVY_BOOT_W : Fld := { page := 0xd0, off := 0xc0, hi := 3, lo := 0, stat := true, reset := fun _ _ => 1 }
def CVY_MBR_IDX_MEMBER : Fld := { page := 0xd1, off := 0x40, hi := 9, lo := 0 }
def CVY_MBR_STATE_HOPS : Fld := { page := 0xd1, off := 0x44, hi := 31, lo := 27, acc := .ro, count := 1024 }
def CVY_MBR_STATE_PARENT : Fld := { page := 0xd1, off := 0x44, hi := 25, lo := 16, acc := .ro, count := 1024 }
def CVY_MBR_STATE_NEIGHBOUR : Fld := { page := 0xd1, off := 0x44, hi := 5, lo := 5, acc := .ro, count := 1024 }
def CVY_MBR_STATE_WARDEN : Fld := { page := 0xd1, off := 0x44, hi := 4, lo := 4, acc := .ro, count := 1024 }
def CVY_MBR_STATE_STATE : Fld := { page := 0xd1, off := 0x44, hi := 1, lo := 0, acc := .ro, count := 1024 }
def CVY_MBR_AGE_MS : Fld := { page := 0xd1, off := 0x48, hi := 31, lo := 0, acc := .ro, count := 1024 }
def CVY_MBR_NODE_LO_NODE : Fld := { page := 0xd1, off := 0x4c, hi := 31, lo := 0, acc := .ro, count := 1024 }
def CVY_MBR_NODE_HI_NODE : Fld := { page := 0xd1, off := 0x50, hi := 31, lo := 0, acc := .ro, count := 1024 }
def CVY_MBR_VIA_KIND : Fld := { page := 0xd1, off := 0x54, hi := 15, lo := 12, acc := .ro, count := 1024 }
def CVY_MBR_VIA_INDEX : Fld := { page := 0xd1, off := 0x54, hi := 10, lo := 0, acc := .ro, count := 1024 }
def CVY_BH_VALID : Fld := { page := 0xd1, off := 0x100, hi := 31, lo := 31, stride := 0x4, count := 16 }
def CVY_BH_STATION : Fld := { page := 0xd1, off := 0x100, hi := 10, lo := 0, stride := 0x4, count := 16 }
def CVY_STORE_BASE_LO_BASE : Fld := { page := 0xd2, off := 0x40, hi := 31, lo := 12, stat := true }
def CVY_STORE_BASE_HI_BASE : Fld := { page := 0xd2, off := 0x44, hi := 15, lo := 0, stat := true }
def CVY_STORE_CFG_LOG2 : Fld := { page := 0xd2, off := 0x48, hi := 4, lo := 0, stat := true, reset := fun _ _ => 0xc }
def CVY_REC_ADDR_LO_ADDR : Fld := { page := 0xd2, off := 0x4c, hi := 31, lo := 0 }
def CVY_REC_ADDR_HI_ADDR : Fld := { page := 0xd2, off := 0x50, hi := 15, lo := 0 }
def CVY_REC_CMD_BUSY : Fld := { page := 0xd2, off := 0x54, hi := 31, lo := 31, acc := .ro }
def CVY_REC_CMD_RESULT : Fld := { page := 0xd2, off := 0x54, hi := 30, lo := 28, acc := .ro }
def CVY_REC_CMD_CMD : Fld := { page := 0xd2, off := 0x54, hi := 1, lo := 0, acc := .wo }
def CVY_HO_STA_LO_ADDR : Fld := { page := 0xd2, off := 0x58, hi := 31, lo := 0 }
def CVY_HO_STA_HI_ENTRY : Fld := { page := 0xd2, off := 0x5c, hi := 26, lo := 16 }
def CVY_HO_STA_HI_ADDR : Fld := { page := 0xd2, off := 0x5c, hi := 15, lo := 0 }
def CVY_HO_SLOT_SLOT : Fld := { page := 0xd2, off := 0x60, hi := 12, lo := 0 }
def CVY_HO_CMD_BUSY : Fld := { page := 0xd2, off := 0x64, hi := 31, lo := 31, acc := .ro }
def CVY_HO_CMD_RESULT : Fld := { page := 0xd2, off := 0x64, hi := 30, lo := 28, acc := .ro }
def CVY_HO_CMD_REQUEST : Fld := { page := 0xd2, off := 0x64, hi := 0, lo := 0, acc := .wo }
def CVY_HO_CFG_TIMEOUT_US : Fld := { page := 0xd2, off := 0x68, hi := 31, lo := 16, reset := fun _ _ => 0x7d0 }
def CVY_HO_CFG_RETX_US : Fld := { page := 0xd2, off := 0x68, hi := 15, lo := 0, reset := fun _ _ => 0x1f4 }
def CVY_HO_HOLD_HOLD_MS : Fld := { page := 0xd2, off := 0x6c, hi := 15, lo := 0, reset := fun _ _ => 0x32 }
def CVY_KEY_CFG_BASE : Fld := { page := 0xd2, off := 0x70, hi := 12, lo := 0, stat := true }
def CVY_KEK_SLOT : Fld := { page := 0xd2, off := 0x74, hi := 12, lo := 0, stat := true }
def CVY_KEY_GEN_ACTIVE : Fld := { page := 0xd2, off := 0x78, hi := 31, lo := 0, acc := .ro }
def CVY_TOMB_TOMB_S : Fld := { page := 0xd2, off := 0x7c, hi := 15, lo := 0, reset := fun _ _ => 0xe10 }
def CVY_PLAN_CFG_TTL : Fld := { page := 0xd3, off := 0x40, hi := 3, lo := 0, reset := fun _ _ => 2 }
def CVY_PLAN_TX_COUNT : Fld := { page := 0xd3, off := 0x80, hi := 31, lo := 0, acc := .w1c }
def CVY_PLAN_RX_COUNT : Fld := { page := 0xd3, off := 0x84, hi := 31, lo := 0, acc := .w1c }

/-- The fields of page 0 of CONVOY. -/
def fldsConvoy0 : List Fld :=
  [CVY_CFG_PORTS, CVY_CFG_TC, CVY_CFG_DIR_AUTO, CVY_CFG_AUTO_THAW, CVY_CFG_AUTO_DROP, CVY_CFG_WARDEN, CVY_CFG_MEMBER, CVY_ETYPE_ETYPE, CVY_GROUP_LO_ADDR, CVY_GROUP_HI_ADDR, CVY_SYSID_LO_SYSID, CVY_SYSID_HI_SYSID, CVY_NODE_LO_NODE, CVY_NODE_HI_NODE, CVY_TIMERS_SEP_N, CVY_TIMERS_SUSPECT_N, CVY_TIMERS_HB_MS, CVY_RETX_RETX_MS, CVY_RETX_RETX_MAX, CVY_STATUS_MEMBERS_ALIVE, CVY_STATUS_WARDENS, CVY_STATUS_VOTES, CVY_STATUS_ID_CONFLICT, CVY_STATUS_KEY_HELD, CVY_STATUS_AUTHORITY, CVY_STATUS_STATE, CVY_EPOCH_LO_EPOCH, CVY_EPOCH_HI_EPOCH, CVY_LAMPORT_L, CVY_EVT_VALID, CVY_EVT_KIND, CVY_EVT_ARG, CVY_TIMEPATH_PARENT, CVY_TIMEPATH_HOPS, CVY_RX_COUNT, CVY_TX_COUNT, CVY_AUTH_FAIL_COUNT, CVY_KEY_UNKNOWN_COUNT, CVY_SYSID_MISMATCH_COUNT, CVY_DUP_COUNT] ++
  [CVY_REFUSED_COUNT, CVY_RETX_COUNT, CVY_REC_APPLIED_COUNT, CVY_REC_STALE_COUNT, CVY_STORE_FULL_COUNT, CVY_STA_DROPPED_COUNT, CVY_HO_FAIL_COUNT, CVY_KEY_FAIL_COUNT, CVY_PLAN_TRUNC_COUNT, CVY_EVT_OVF_COUNT, CVY_BOOT_W]

/-- The fields of page 1 of CONVOY. -/
def fldsConvoy1 : List Fld :=
  [CVY_MBR_IDX_MEMBER, CVY_MBR_STATE_HOPS, CVY_MBR_STATE_PARENT, CVY_MBR_STATE_NEIGHBOUR, CVY_MBR_STATE_WARDEN, CVY_MBR_STATE_STATE, CVY_MBR_AGE_MS, CVY_MBR_NODE_LO_NODE, CVY_MBR_NODE_HI_NODE, CVY_MBR_VIA_KIND, CVY_MBR_VIA_INDEX, CVY_BH_VALID, CVY_BH_STATION]

/-- The fields of page 2 of CONVOY. -/
def fldsConvoy2 : List Fld :=
  [CVY_STORE_BASE_LO_BASE, CVY_STORE_BASE_HI_BASE, CVY_STORE_CFG_LOG2, CVY_REC_ADDR_LO_ADDR, CVY_REC_ADDR_HI_ADDR, CVY_REC_CMD_BUSY, CVY_REC_CMD_RESULT, CVY_REC_CMD_CMD, CVY_HO_STA_LO_ADDR, CVY_HO_STA_HI_ENTRY, CVY_HO_STA_HI_ADDR, CVY_HO_SLOT_SLOT, CVY_HO_CMD_BUSY, CVY_HO_CMD_RESULT, CVY_HO_CMD_REQUEST, CVY_HO_CFG_TIMEOUT_US, CVY_HO_CFG_RETX_US, CVY_HO_HOLD_HOLD_MS, CVY_KEY_CFG_BASE, CVY_KEK_SLOT, CVY_KEY_GEN_ACTIVE, CVY_TOMB_TOMB_S]

/-- The fields of page 3 of CONVOY. -/
def fldsConvoy3 : List Fld :=
  [CVY_PLAN_CFG_TTL, CVY_PLAN_TX_COUNT, CVY_PLAN_RX_COUNT]

end Sys2Proof.Machine
end

