-- ==== Sys2Proof/Machine/RegsOutr.lean ====
section
/-! DEFINITION. The register fields of spec/10_outrider.md: page, offset, bits, access code, reset value,
regular stride and count, one definition per field, from the register tables of that chapter. -/

namespace Sys2Proof.Machine

def OP_IDLE_CHAN : Fld := { page := 0x58, off := 0x40, hi := 25, lo := 16 }
def OP_IDLE_PROFILE : Fld := { page := 0x58, off := 0x40, hi := 2, lo := 0 }
def OP_DETECT_DETECT_EN : Fld := { page := 0x58, off := 0x44, hi := 11, lo := 0, reset := fun _ _ => 0xfff }
def OP_CAPTURE_CAPTURE_IN_DATA : Fld := { page := 0x58, off := 0x48, hi := 8, lo := 8, reset := fun _ _ => 1 }
def OP_CAPTURE_CAPTURE_MARGIN : Fld := { page := 0x58, off := 0x48, hi := 5, lo := 0, reset := fun _ _ => 6 }
def OP_CCA_ED_THRESH : Fld := { page := 0x58, off := 0x4c, hi := 7, lo := 0, reset := fun _ _ => 0xab }
def OP_NOISE_NF_24 : Fld := { page := 0x58, off := 0x50, hi := 31, lo := 16, acc := .ro }
def OP_NOISE_NF_SUB : Fld := { page := 0x58, off := 0x50, hi := 15, lo := 0, acc := .ro }
def OP_BAND_SWITCHING : Fld := { page := 0x58, off := 0x54, hi := 1, lo := 1, acc := .ro }
def OP_BAND_BAND : Fld := { page := 0x58, off := 0x54, hi := 0, lo := 0, acc := .ro }
def OP_LR_PREAMBLE_LEN : Fld := { page := 0x58, off := 0x58, hi := 7, lo := 0, reset := fun _ _ => 0x20 }
def OP_RX_FRAME_COUNT : Fld := { page := 0x58, off := 0x80, hi := 31, lo := 0, acc := .w1c }
def OP_HDR_FAIL_COUNT : Fld := { page := 0x58, off := 0x84, hi := 31, lo := 0, acc := .w1c }
def OP_SHADOW_TAKEOVER_COUNT : Fld := { page := 0x58, off := 0x88, hi := 31, lo := 0, acc := .w1c }
def OP_CAPTURE_ABORT_COUNT : Fld := { page := 0x58, off := 0x8c, hi := 31, lo := 0, acc := .w1c }
def OP_CAPTURE_IGNORED_COUNT : Fld := { page := 0x58, off := 0x90, hi := 31, lo := 0, acc := .w1c }
def OP_RX_LOST_COUNT : Fld := { page := 0x58, off := 0x94, hi := 31, lo := 0, acc := .w1c }
def OP_BAND_SWITCH_COUNT : Fld := { page := 0x58, off := 0x98, hi := 31, lo := 0, acc := .w1c }
def OP_TX_FRAME_COUNT : Fld := { page := 0x58, off := 0x9c, hi := 31, lo := 0, acc := .w1c }
def PROF_CFG_TXPWR : Fld := { page := 0x59, off := 0x40, hi := 31, lo := 24, stride := 0x10, count := 8, reset := fun _ _ => 0x20 }
def PROF_CFG_HOPSEQ : Fld := { page := 0x59, off := 0x40, hi := 21, lo := 20, stride := 0x10, count := 8 }
def PROF_CFG_FSK_FEC : Fld := { page := 0x59, off := 0x40, hi := 16, lo := 16, stride := 0x10, count := 8, reset := fun _ _ => 1 }
def PROF_CFG_OFDM_MCS : Fld := { page := 0x59, off := 0x40, hi := 14, lo := 12, stride := 0x10, count := 8, reset := fun _ _ => 2 }
def PROF_CFG_BAND : Fld := { page := 0x59, off := 0x40, hi := 8, lo := 8, stride := 0x10, count := 8, reset := fun _ _ => 1 }
def PROF_CFG_MODE : Fld := { page := 0x59, off := 0x40, hi := 3, lo := 0, stride := 0x10, count := 8 }
def PROF_CHAN0_KHZ : Fld := { page := 0x59, off := 0x44, hi := 21, lo := 0, stride := 0x10, count := 8, reset := fun _ _ => 0x24b288 }
def PROF_SPACING_KHZ : Fld := { page := 0x59, off := 0x48, hi := 15, lo := 0, stride := 0x10, count := 8, reset := fun _ _ => 0x1388 }
def OP_TX_LAT_LAT_24 : Fld := { page := 0x59, off := 0x100, hi := 31, lo := 16, acc := .ro, reset := fun _ _ => Config.factory 1300 % 65536 }
def OP_TX_LAT_LAT_SUB : Fld := { page := 0x59, off := 0x100, hi := 15, lo := 0, acc := .ro, reset := fun _ _ => Config.factory 1301 % 65536 }
def OP_RX_LAT_LAT_24 : Fld := { page := 0x59, off := 0x104, hi := 31, lo := 16, acc := .ro, reset := fun _ _ => Config.factory 1302 % 65536 }
def OP_RX_LAT_LAT_SUB : Fld := { page := 0x59, off := 0x104, hi := 15, lo := 0, acc := .ro, reset := fun _ _ => Config.factory 1303 % 65536 }
def OP_ANT_TX_DELAY_D_24 : Fld := { page := 0x59, off := 0x108, hi := 31, lo := 16 }
def OP_ANT_TX_DELAY_D_SUB : Fld := { page := 0x59, off := 0x108, hi := 15, lo := 0 }
def OP_ANT_RX_DELAY_D_24 : Fld := { page := 0x59, off := 0x10c, hi := 31, lo := 16 }
def OP_ANT_RX_DELAY_D_SUB : Fld := { page := 0x59, off := 0x10c, hi := 15, lo := 0 }
def OP_CAL_STATUS_RUNNING : Fld := { page := 0x59, off := 0x110, hi := 31, lo := 31, acc := .ro }
def OP_CAL_STATUS_STEP : Fld := { page := 0x59, off := 0x110, hi := 19, lo := 16, acc := .ro }
def HOP_LEN_LEN : Fld := { page := 0x5a, off := 0x40, hi := 7, lo := 0, stride := 0x4, count := 4, reset := fun _ _ => 0x10 }
def HOP_CHAN_ODD : Fld := { page := 0x5a, off := 0x100, hi := 25, lo := 16, stride := 0x4, count := 256 }
def HOP_CHAN_EVEN : Fld := { page := 0x5a, off := 0x100, hi := 9, lo := 0, stride := 0x4, count := 256 }
def OM_CFG_PAN_ID : Fld := { page := 0x5c, off := 0x40, hi := 31, lo := 16, reset := fun _ _ => 0xffff }
def OM_CFG_RELAY_EN : Fld := { page := 0x5c, off := 0x40, hi := 1, lo := 1, reset := fun _ _ => 1 }
def OM_CFG_DRIFT_TX : Fld := { page := 0x5c, off := 0x40, hi := 0, lo := 0, reset := fun _ _ => 1 }
def OM_ADDR_SHORT : Fld := { page := 0x5c, off := 0x44, hi := 15, lo := 0, reset := fun _ _ => 0xfffe }
def OM_EXT_LO_EXT : Fld := { page := 0x5c, off := 0x48, hi := 31, lo := 0 }
def OM_EXT_HI_EXT : Fld := { page := 0x5c, off := 0x4c, hi := 31, lo := 0 }
def OM_EPOCH_NS_NS : Fld := { page := 0x5c, off := 0x50, hi := 31, lo := 0, stat := true }
def OM_EPOCH_S_LO_S : Fld := { page := 0x5c, off := 0x54, hi := 31, lo := 0, stat := true }
def OM_EPOCH_S_HI_S : Fld := { page := 0x5c, off := 0x58, hi := 15, lo := 0, stat := true }
def OM_TS_LEN_US : Fld := { page := 0x5c, off := 0x5c, hi := 15, lo := 0, stat := true, reset := fun _ _ => 0x2710 }
def OM_TS_OFS_TX_OFFSET : Fld := { page := 0x5c, off := 0x60, hi := 31, lo := 16, stat := true, reset := fun _ _ => 0x848 }
def OM_TS_OFS_RX_OFFSET : Fld := { page := 0x5c, off := 0x60, hi := 15, lo := 0, stat := true, reset := fun _ _ => 0x3fc }
def OM_TS_WAIT_RX_WAIT : Fld := { page := 0x5c, off := 0x64, hi := 31, lo := 16, stat := true, reset := fun _ _ => 0x898 }
def OM_TS_WAIT_ACK_WAIT : Fld := { page := 0x5c, off := 0x64, hi := 15, lo := 0, stat := true, reset := fun _ _ => 0x190 }
def OM_TS_ACK_TX_ACK_DELAY : Fld := { page := 0x5c, off := 0x68, hi := 31, lo := 16, stat := true, reset := fun _ _ => 0x3e8 }
def OM_TS_ACK_RX_ACK_DELAY : Fld := { page := 0x5c, off := 0x68, hi := 15, lo := 0, stat := true, reset := fun _ _ => 0x320 }
def OM_ASN_LO_ASN : Fld := { page := 0x5c, off := 0x6c, hi := 31, lo := 0, acc := .ro }
def OM_ASN_HI_ASN : Fld := { page := 0x5c, off := 0x70, hi := 7, lo := 0, acc := .ro }
def OM_RETRY_MAX_BE : Fld := { page := 0x5c, off := 0x74, hi := 15, lo := 12, reset := fun _ _ => 7 }
def OM_RETRY_MIN_BE : Fld := { page := 0x5c, off := 0x74, hi := 11, lo := 8, reset := fun _ _ => 1 }
def OM_RETRY_MAX_RETRIES : Fld := { page := 0x5c, off := 0x74, hi := 3, lo := 0, reset := fun _ _ => 3 }
def OM_SYNC_DRIFT_MIN_MS : Fld := { page := 0x5c, off := 0x78, hi := 31, lo := 16, reset := fun _ _ => 0x2710 }
def OM_SYNC_DRIFT_SHIFT : Fld := { page := 0x5c, off := 0x78, hi := 11, lo := 8, reset := fun _ _ => 3 }
def OM_SYNC_EXT_LISTEN : Fld := { page := 0x5c, off := 0x78, hi := 7, lo := 0, reset := fun _ _ => 0xc8 }
def OM_CSL_WAKE_GAP : Fld := { page := 0x5c, off := 0x7c, hi := 31, lo := 16, reset := fun _ _ => 0xc0 }
def OM_CSL_CSL_GUARD_US : Fld := { page := 0x5c, off := 0x7c, hi := 15, lo := 0, reset := fun _ _ => 0x3e8 }
def OM_AGE_NBR_AGE : Fld := { page := 0x5c, off := 0x80, hi := 15, lo := 0, reset := fun _ _ => 0x258 }
def OM_EVT_VALID : Fld := { page := 0x5c, off := 0x84, hi := 31, lo := 31, acc := .ro }
def OM_EVT_KIND : Fld := { page := 0x5c, off := 0x84, hi := 27, lo := 24, acc := .ro }
def OM_EVT_NBR : Fld := { page := 0x5c, off := 0x84, hi := 9, lo := 0, acc := .ro }
def OM_UNKNOWN_LO_ADDR : Fld := { page := 0x5c, off := 0x88, hi := 31, lo := 0, acc := .ro }
def OM_UNKNOWN_HI_SHORT : Fld := { page := 0x5c, off := 0x8c, hi := 31, lo := 31, acc := .ro }
def OM_UNKNOWN_HI_ADDR : Fld := { page := 0x5c, off := 0x8c, hi := 30, lo := 0, acc := .ro }
def OM_FLOOD_CFG_EXPIRY : Fld := { page := 0x5c, off := 0x90, hi := 31, lo := 16, reset := fun _ _ => 0x1e }
def OM_FLOOD_CFG_SUPPRESS_K : Fld := { page := 0x5c, off := 0x90, hi := 15, lo := 12 }
def OM_FLOOD_CFG_TTL_DEFAULT : Fld := { page := 0x5c, off := 0x90, hi := 11, lo := 8, reset := fun _ _ => 7 }
def OM_FLOOD_CFG_DISPATCH : Fld := { page := 0x5c, off := 0x90, hi := 7, lo := 0, reset := fun _ _ => 0x3e }
def OM_SEEN_COUNT : Fld := { page := 0x5c, off := 0x94, hi := 12, lo := 0, acc := .ro }
def OM_RX_ACCEPT_COUNT : Fld := { page := 0x5c, off := 0xc0, hi := 31, lo := 0, acc := .w1c }
def OM_RX_DUP_COUNT : Fld := { page := 0x5c, off := 0xc4, hi := 31, lo := 0, acc := .w1c }
def OM_RX_UNKNOWN_COUNT : Fld := { page := 0x5c, off := 0xc8, hi := 31, lo := 0, acc := .w1c }
def OM_RX_REFUSED_COUNT : Fld := { page := 0x5c, off := 0xcc, hi := 31, lo := 0, acc := .w1c }
def OM_ENQ_DROP_COUNT : Fld := { page := 0x5c, off := 0xd0, hi := 31, lo := 0, acc := .w1c }
def OM_TX_OK_COUNT : Fld := { page := 0x5c, off := 0xd4, hi := 31, lo := 0, acc := .w1c }
def OM_TX_NOACK_COUNT : Fld := { page := 0x5c, off := 0xd8, hi := 31, lo := 0, acc := .w1c }
def OM_TX_RETRY_DROP_COUNT : Fld := { page := 0x5c, off := 0xdc, hi := 31, lo := 0, acc := .w1c }
def OM_CELL_OVERRIDE_COUNT : Fld := { page := 0x5c, off := 0xe0, hi := 31, lo := 0, acc := .w1c }
def OM_TS_SKIPPED_COUNT : Fld := { page := 0x5c, off := 0xe4, hi := 31, lo := 0, acc := .w1c }
def OM_CSL_SEQ_COUNT : Fld := { page := 0x5c, off := 0xe8, hi := 31, lo := 0, acc := .w1c }
def OM_RFS_COPIES_COUNT : Fld := { page := 0x5c, off := 0xec, hi := 31, lo := 0, acc := .w1c }
def OM_FLOOD_DUP_COUNT : Fld := { page := 0x5c, off := 0xf0, hi := 31, lo := 0, acc := .w1c }
def OM_FLOOD_RELAY_COUNT : Fld := { page := 0x5c, off := 0xf4, hi := 31, lo := 0, acc := .w1c }
def OM_FLOOD_SUPPRESSED_COUNT : Fld := { page := 0x5c, off := 0xf8, hi := 31, lo := 0, acc := .w1c }
def OM_FLOOD_EVICT_COUNT : Fld := { page := 0x5c, off := 0xfc, hi := 31, lo := 0, acc := .w1c }
def OM_TIME_IGNORED_COUNT : Fld := { page := 0x5c, off := 0x100, hi := 31, lo := 0, acc := .w1c }
def OM_EVT_OVF_COUNT : Fld := { page := 0x5c, off := 0x104, hi := 31, lo := 0, acc := .w1c }
def OM_TOO_LONG_COUNT : Fld := { page := 0x5c, off := 0x108, hi := 31, lo := 0, acc := .w1c }
def OM_CHAN_INVALID_COUNT : Fld := { page := 0x5c, off := 0x10c, hi := 31, lo := 0, acc := .w1c }
def SF_CFG_EN : Fld := { page := 0x5d, off := 0x40, hi := 31, lo := 31, stride := 0x4, count := 8 }
def SF_CFG_LENGTH : Fld := { page := 0x5d, off := 0x40, hi := 15, lo := 0, stride := 0x4, count := 8, reset := fun _ _ => 0x65 }
def OM_LINK_IDX_LINK : Fld := { page := 0x5d, off := 0x80, hi := 10, lo := 0 }
def OM_LINK_W_LO_VALID : Fld := { page := 0x5d, off := 0x84, hi := 31, lo := 31, count := 2048 }
def OM_LINK_W_LO_SF : Fld := { page := 0x5d, off := 0x84, hi := 30, lo := 28, count := 2048 }
def OM_LINK_W_LO_SPANM1 : Fld := { page := 0x5d, off := 0x84, hi := 27, lo := 24, count := 2048 }
def OM_LINK_W_LO_TX : Fld := { page := 0x5d, off := 0x84, hi := 23, lo := 23, count := 2048 }
def OM_LINK_W_LO_RX : Fld := { page := 0x5d, off := 0x84, hi := 22, lo := 22, count := 2048 }
def OM_LINK_W_LO_SHARED : Fld := { page := 0x5d, off := 0x84, hi := 21, lo := 21, count := 2048 }
def OM_LINK_W_LO_TIMEKEEPING : Fld := { page := 0x5d, off := 0x84, hi := 20, lo := 20, count := 2048 }
def OM_LINK_W_LO_EXPECT : Fld := { page := 0x5d, off := 0x84, hi := 19, lo := 19, count := 2048 }
def OM_LINK_W_LO_PROFILE : Fld := { page := 0x5d, off := 0x84, hi := 18, lo := 16, count := 2048 }
def OM_LINK_W_LO_NBR : Fld := { page := 0x5d, off := 0x84, hi := 9, lo := 0, count := 2048 }
def OM_LINK_W_HI_TS_OFFSET : Fld := { page := 0x5d, off := 0x88, hi := 31, lo := 16, count := 2048 }
def OM_LINK_W_HI_CH_OFFSET : Fld := { page := 0x5d, off := 0x88, hi := 6, lo := 0, count := 2048 }
def OM_LINK_STAT_SKIPS : Fld := { page := 0x5d, off := 0x8c, hi := 15, lo := 0, acc := .w1c, count := 2048 }
def NBR_IDX_ENTRY : Fld := { page := 0x5e, off := 0x40, hi := 9, lo := 0 }
def NBR_CMD_BUSY : Fld := { page := 0x5e, off := 0x44, hi := 31, lo := 31, acc := .ro, count := 1024 }
def NBR_CMD_RESULT : Fld := { page := 0x5e, off := 0x44, hi := 30, lo := 28, acc := .ro, count := 1024 }
def NBR_CMD_CMD : Fld := { page := 0x5e, off := 0x44, hi := 2, lo := 0, acc := .wo, count := 1024 }
def NBR_W0_STATE : Fld := { page := 0x5e, off := 0x48, hi := 31, lo := 30, acc := .ro, count := 1024 }
def NBR_W0_MODE : Fld := { page := 0x5e, off := 0x48, hi := 29, lo := 28, count := 1024 }
def NBR_W0_PROFILE : Fld := { page := 0x5e, off := 0x48, hi := 26, lo := 24, count := 1024 }
def NBR_W0_SHORT : Fld := { page := 0x5e, off := 0x48, hi := 15, lo := 0, count := 1024, reset := fun _ _ => 0xfffe }
def NBR_W1_EXT : Fld := { page := 0x5e, off := 0x4c, hi := 31, lo := 0, count := 1024 }
def NBR_W2_EXT : Fld := { page := 0x5e, off := 0x50, hi := 31, lo := 0, count := 1024 }
def NBR_W3_PHASE_VALID : Fld := { page := 0x5e, off := 0x54, hi := 31, lo := 31, count := 1024 }
def NBR_W3_ADV_CHAN : Fld := { page := 0x5e, off := 0x54, hi := 29, lo := 20, count := 1024 }
def NBR_W3_CSL_PERIOD : Fld := { page := 0x5e, off := 0x54, hi := 19, lo := 0, count := 1024 }
def NBR_CSL_PHASE_PHASE : Fld := { page := 0x5e, off := 0x58, hi := 19, lo := 0, count := 1024 }
def NBR_DRIFT_UNC : Fld := { page := 0x5e, off := 0x5c, hi := 31, lo := 16, count := 1024 }
def NBR_DRIFT_DRIFT : Fld := { page := 0x5e, off := 0x5c, hi := 15, lo := 0, count := 1024 }
def NBR_SEQ_VALID : Fld := { page := 0x5e, off := 0x60, hi := 16, lo := 16, acc := .ro, count := 1024 }
def NBR_SEQ_TX_SEQ : Fld := { page := 0x5e, off := 0x60, hi := 15, lo := 8, count := 1024 }
def NBR_SEQ_HIGH : Fld := { page := 0x5e, off := 0x60, hi := 7, lo := 0, acc := .ro, count := 1024 }
def NBR_SEQ_MAP_MAP : Fld := { page := 0x5e, off := 0x64, hi := 31, lo := 0, acc := .ro, count := 1024 }
def NBR_STAT_RSSI : Fld := { page := 0x5e, off := 0x68, hi := 31, lo := 24, acc := .ro, count := 1024 }
def NBR_STAT_FAILS : Fld := { page := 0x5e, off := 0x68, hi := 5, lo := 0, acc := .ro, count := 1024 }
def NBR_SYNC_NS_NS : Fld := { page := 0x5e, off := 0x6c, hi := 31, lo := 0, acc := .ro, count := 1024 }
def NBR_SYNC_S_S : Fld := { page := 0x5e, off := 0x70, hi := 31, lo := 0, acc := .ro, count := 1024 }

/-- The fields of page 0 of OUTRPHY. -/
def fldsOutrphy0 : List Fld :=
  [OP_IDLE_CHAN, OP_IDLE_PROFILE, OP_DETECT_DETECT_EN, OP_CAPTURE_CAPTURE_IN_DATA, OP_CAPTURE_CAPTURE_MARGIN, OP_CCA_ED_THRESH, OP_NOISE_NF_24, OP_NOISE_NF_SUB, OP_BAND_SWITCHING, OP_BAND_BAND, OP_LR_PREAMBLE_LEN, OP_RX_FRAME_COUNT, OP_HDR_FAIL_COUNT, OP_SHADOW_TAKEOVER_COUNT, OP_CAPTURE_ABORT_COUNT, OP_CAPTURE_IGNORED_COUNT, OP_RX_LOST_COUNT, OP_BAND_SWITCH_COUNT, OP_TX_FRAME_COUNT]

/-- The fields of page 1 of OUTRPHY. -/
def fldsOutrphy1 : List Fld :=
  [PROF_CFG_TXPWR, PROF_CFG_HOPSEQ, PROF_CFG_FSK_FEC, PROF_CFG_OFDM_MCS, PROF_CFG_BAND, PROF_CFG_MODE, PROF_CHAN0_KHZ, PROF_SPACING_KHZ, OP_TX_LAT_LAT_24, OP_TX_LAT_LAT_SUB, OP_RX_LAT_LAT_24, OP_RX_LAT_LAT_SUB, OP_ANT_TX_DELAY_D_24, OP_ANT_TX_DELAY_D_SUB, OP_ANT_RX_DELAY_D_24, OP_ANT_RX_DELAY_D_SUB, OP_CAL_STATUS_RUNNING, OP_CAL_STATUS_STEP]

/-- The fields of page 2 of OUTRPHY. -/
def fldsOutrphy2 : List Fld :=
  [HOP_LEN_LEN, HOP_CHAN_ODD, HOP_CHAN_EVEN]

/-- The fields of page 0 of OUTRMAC. -/
def fldsOutrmac0 : List Fld :=
  [OM_CFG_PAN_ID, OM_CFG_RELAY_EN, OM_CFG_DRIFT_TX, OM_ADDR_SHORT, OM_EXT_LO_EXT, OM_EXT_HI_EXT, OM_EPOCH_NS_NS, OM_EPOCH_S_LO_S, OM_EPOCH_S_HI_S, OM_TS_LEN_US, OM_TS_OFS_TX_OFFSET, OM_TS_OFS_RX_OFFSET, OM_TS_WAIT_RX_WAIT, OM_TS_WAIT_ACK_WAIT, OM_TS_ACK_TX_ACK_DELAY, OM_TS_ACK_RX_ACK_DELAY, OM_ASN_LO_ASN, OM_ASN_HI_ASN, OM_RETRY_MAX_BE, OM_RETRY_MIN_BE, OM_RETRY_MAX_RETRIES, OM_SYNC_DRIFT_MIN_MS, OM_SYNC_DRIFT_SHIFT, OM_SYNC_EXT_LISTEN, OM_CSL_WAKE_GAP, OM_CSL_CSL_GUARD_US, OM_AGE_NBR_AGE, OM_EVT_VALID, OM_EVT_KIND, OM_EVT_NBR, OM_UNKNOWN_LO_ADDR, OM_UNKNOWN_HI_SHORT, OM_UNKNOWN_HI_ADDR, OM_FLOOD_CFG_EXPIRY, OM_FLOOD_CFG_SUPPRESS_K, OM_FLOOD_CFG_TTL_DEFAULT, OM_FLOOD_CFG_DISPATCH, OM_SEEN_COUNT, OM_RX_ACCEPT_COUNT, OM_RX_DUP_COUNT] ++
  [OM_RX_UNKNOWN_COUNT, OM_RX_REFUSED_COUNT, OM_ENQ_DROP_COUNT, OM_TX_OK_COUNT, OM_TX_NOACK_COUNT, OM_TX_RETRY_DROP_COUNT, OM_CELL_OVERRIDE_COUNT, OM_TS_SKIPPED_COUNT, OM_CSL_SEQ_COUNT, OM_RFS_COPIES_COUNT, OM_FLOOD_DUP_COUNT, OM_FLOOD_RELAY_COUNT, OM_FLOOD_SUPPRESSED_COUNT, OM_FLOOD_EVICT_COUNT, OM_TIME_IGNORED_COUNT, OM_EVT_OVF_COUNT, OM_TOO_LONG_COUNT, OM_CHAN_INVALID_COUNT]

/-- The fields of page 1 of OUTRMAC. -/
def fldsOutrmac1 : List Fld :=
  [SF_CFG_EN, SF_CFG_LENGTH, OM_LINK_IDX_LINK, OM_LINK_W_LO_VALID, OM_LINK_W_LO_SF, OM_LINK_W_LO_SPANM1, OM_LINK_W_LO_TX, OM_LINK_W_LO_RX, OM_LINK_W_LO_SHARED, OM_LINK_W_LO_TIMEKEEPING, OM_LINK_W_LO_EXPECT, OM_LINK_W_LO_PROFILE, OM_LINK_W_LO_NBR, OM_LINK_W_HI_TS_OFFSET, OM_LINK_W_HI_CH_OFFSET, OM_LINK_STAT_SKIPS]

/-- The fields of page 2 of OUTRMAC. -/
def fldsOutrmac2 : List Fld :=
  [NBR_IDX_ENTRY, NBR_CMD_BUSY, NBR_CMD_RESULT, NBR_CMD_CMD, NBR_W0_STATE, NBR_W0_MODE, NBR_W0_PROFILE, NBR_W0_SHORT, NBR_W1_EXT, NBR_W2_EXT, NBR_W3_PHASE_VALID, NBR_W3_ADV_CHAN, NBR_W3_CSL_PERIOD, NBR_CSL_PHASE_PHASE, NBR_DRIFT_UNC, NBR_DRIFT_DRIFT, NBR_SEQ_VALID, NBR_SEQ_TX_SEQ, NBR_SEQ_HIGH, NBR_SEQ_MAP_MAP, NBR_STAT_RSSI, NBR_STAT_FAILS, NBR_SYNC_NS_NS, NBR_SYNC_S_S]

end Sys2Proof.Machine
end

