-- ==== Sys2Proof/Machine/RegsQueue.lean ====
section
/-! DEFINITION. The register fields of spec/05_manifests.md: page, offset, bits, access code, reset value,
regular stride and count, one definition per field, from the register tables of that chapter. -/

namespace Sys2Proof.Machine

def QMGR_Q_IDX_QUEUE : Fld := { page := 0x18, off := 0x40, hi := 13, lo := 0 }
def QMGR_Q_CFG_LATE_POLICY : Fld := { page := 0x18, off := 0x44, hi := 31, lo := 30, count := 16384 }
def QMGR_Q_CFG_SPILLABLE : Fld := { page := 0x18, off := 0x44, hi := 29, lo := 29, count := 16384 }
def QMGR_Q_CFG_OWNER_KIND : Fld := { page := 0x18, off := 0x44, hi := 26, lo := 24, count := 16384 }
def QMGR_Q_CFG_OWNER_INDEX : Fld := { page := 0x18, off := 0x44, hi := 15, lo := 0, count := 16384 }
def QMGR_Q_LIMIT_DEPTH_LIMIT : Fld := { page := 0x18, off := 0x48, hi := 15, lo := 0, count := 16384, reset := fun _ _ => 0x400 }
def QMGR_Q_LATE_TOL_NS : Fld := { page := 0x18, off := 0x4c, hi := 19, lo := 0, count := 16384, reset := fun _ _ => 0x3e8 }
def QMGR_Q_STATE_STATE : Fld := { page := 0x18, off := 0x50, hi := 1, lo := 0, acc := .ro, count := 16384 }
def QMGR_Q_DEPTH_DEPTH : Fld := { page := 0x18, off := 0x54, hi := 15, lo := 0, acc := .ro, count := 16384 }
def QMGR_Q_ENQ_COUNT : Fld := { page := 0x18, off := 0x58, hi := 31, lo := 0, acc := .w1c, count := 16384 }
def QMGR_Q_DROP_COUNT : Fld := { page := 0x18, off := 0x5c, hi := 31, lo := 0, acc := .w1c, count := 16384 }
def QMGR_Q_CMD_BUSY : Fld := { page := 0x18, off := 0x60, hi := 31, lo := 31, acc := .ro, count := 16384 }
def QMGR_Q_CMD_RESULT : Fld := { page := 0x18, off := 0x60, hi := 30, lo := 28, acc := .ro, count := 16384 }
def QMGR_Q_CMD_CMD : Fld := { page := 0x18, off := 0x60, hi := 2, lo := 0, acc := .wo, count := 16384 }
def QMGR_STORE_FREE : Fld := { page := 0x18, off := 0x64, hi := 16, lo := 0, acc := .ro }
def QMGR_STORE_RSV_RESERVE : Fld := { page := 0x18, off := 0x68, hi := 15, lo := 0, reset := fun _ _ => 0x400 }
def QMGR_BAD_COUNT : Fld := { page := 0x18, off := 0x6c, hi := 31, lo := 0, acc := .w1c }
def HR_CFG_EN : Fld := { page := 0x21, off := 0x100, hi := 31, lo := 31, stride := 0x40, perPage := 16, count := 64 }
def HR_CFG_FULL_WAIT : Fld := { page := 0x21, off := 0x100, hi := 25, lo := 25, stat := true, stride := 0x40, perPage := 16, count := 64, reset := fun _ _ => 1 }
def HR_CFG_AUTO_FREE : Fld := { page := 0x21, off := 0x100, hi := 24, lo := 24, stat := true, stride := 0x40, perPage := 16, count := 64 }
def HR_CFG_MASTER : Fld := { page := 0x21, off := 0x100, hi := 23, lo := 18, stat := true, stride := 0x40, perPage := 16, count := 64 }
def HR_CFG_LOG2SIZE : Fld := { page := 0x21, off := 0x100, hi := 12, lo := 8, stat := true, stride := 0x40, perPage := 16, count := 64, reset := fun _ _ => 8 }
def HR_CFG_LOC : Fld := { page := 0x21, off := 0x100, hi := 4, lo := 4, stat := true, stride := 0x40, perPage := 16, count := 64 }
def HR_CFG_COMPACT : Fld := { page := 0x21, off := 0x100, hi := 3, lo := 3, stat := true, stride := 0x40, perPage := 16, count := 64 }
def HR_CFG_DIR : Fld := { page := 0x21, off := 0x100, hi := 2, lo := 2, stat := true, stride := 0x40, perPage := 16, count := 64 }
def HR_CFG_KIND : Fld := { page := 0x21, off := 0x100, hi := 1, lo := 0, stat := true, stride := 0x40, perPage := 16, count := 64 }
def HR_BASE_LO_BASE : Fld := { page := 0x21, off := 0x104, hi := 31, lo := 0, stat := true, stride := 0x40, perPage := 16, count := 64 }
def HR_BASE_HI_BASE : Fld := { page := 0x21, off := 0x108, hi := 15, lo := 0, stat := true, stride := 0x40, perPage := 16, count := 64 }
def HR_MOD_TIME_THRESH : Fld := { page := 0x21, off := 0x10c, hi := 31, lo := 16, stride := 0x40, perPage := 16, count := 64, reset := fun _ _ => 0x32 }
def HR_MOD_PKT_THRESH : Fld := { page := 0x21, off := 0x10c, hi := 15, lo := 0, stride := 0x40, perPage := 16, count := 64, reset := fun _ _ => 0x20 }
def HR_ROUTE_KIND : Fld := { page := 0x21, off := 0x110, hi := 31, lo := 30, stride := 0x40, perPage := 16, count := 64, reset := fun _ _ => 3 }
def HR_ROUTE_TASK : Fld := { page := 0x21, off := 0x110, hi := 27, lo := 16, stride := 0x40, perPage := 16, count := 64 }
def HR_ROUTE_FLAG : Fld := { page := 0x21, off := 0x110, hi := 12, lo := 8, stride := 0x40, perPage := 16, count := 64 }
def HR_ROUTE_VECTOR : Fld := { page := 0x21, off := 0x110, hi := 5, lo := 0, stride := 0x40, perPage := 16, count := 64 }
def HR_WB_LO_ADDR : Fld := { page := 0x21, off := 0x114, hi := 31, lo := 2, stride := 0x40, perPage := 16, count := 64 }
def HR_WB_LO_WB_EN : Fld := { page := 0x21, off := 0x114, hi := 0, lo := 0, stride := 0x40, perPage := 16, count := 64 }
def HR_WB_HI_ADDR : Fld := { page := 0x21, off := 0x118, hi := 31, lo := 0, stride := 0x40, perPage := 16, count := 64 }
def HR_STATUS_PENDING : Fld := { page := 0x21, off := 0x11c, hi := 31, lo := 16, acc := .ro, stride := 0x40, perPage := 16, count := 64 }
def HR_STATUS_ERROR : Fld := { page := 0x21, off := 0x11c, hi := 11, lo := 8, acc := .ro, stride := 0x40, perPage := 16, count := 64 }
def HR_STATUS_ARMED : Fld := { page := 0x21, off := 0x11c, hi := 4, lo := 4, acc := .ro, stride := 0x40, perPage := 16, count := 64 }
def HR_STATUS_RESTART_PENDING : Fld := { page := 0x21, off := 0x11c, hi := 3, lo := 3, acc := .ro, stride := 0x40, perPage := 16, count := 64 }
def HR_STATUS_DRAINING : Fld := { page := 0x21, off := 0x11c, hi := 2, lo := 2, acc := .ro, stride := 0x40, perPage := 16, count := 64 }
def HR_STATUS_ACTIVE : Fld := { page := 0x21, off := 0x11c, hi := 0, lo := 0, acc := .ro, stride := 0x40, perPage := 16, count := 64 }
def HR_ARM_ARM : Fld := { page := 0x21, off := 0x120, hi := 0, lo := 0, acc := .w1s, stride := 0x40, perPage := 16, count := 64 }
def HR_COUNT_COUNT : Fld := { page := 0x21, off := 0x124, hi := 31, lo := 0, acc := .w1c, stride := 0x40, perPage := 16, count := 64 }
def HR_SW_IDX_SW_IDX : Fld := { page := 0x25, off := 0x100, hi := 31, lo := 0, stride := 0x8, count := 64 }
def HR_HW_IDX_HW_IDX : Fld := { page := 0x25, off := 0x104, hi := 31, lo := 0, acc := .ro, stride := 0x8, count := 64 }
def HR_EVENT_PEND_RING : Fld := { page := 0x20, off := 0x40, hi := 31, lo := 0, acc := .w1c, stride := 0x4, count := 2 }

/-- The fields of page 0 of QMGR. -/
def fldsQmgr0 : List Fld :=
  [QMGR_Q_IDX_QUEUE, QMGR_Q_CFG_LATE_POLICY, QMGR_Q_CFG_SPILLABLE, QMGR_Q_CFG_OWNER_KIND, QMGR_Q_CFG_OWNER_INDEX, QMGR_Q_LIMIT_DEPTH_LIMIT, QMGR_Q_LATE_TOL_NS, QMGR_Q_STATE_STATE, QMGR_Q_DEPTH_DEPTH, QMGR_Q_ENQ_COUNT, QMGR_Q_DROP_COUNT, QMGR_Q_CMD_BUSY, QMGR_Q_CMD_RESULT, QMGR_Q_CMD_CMD, QMGR_STORE_FREE, QMGR_STORE_RSV_RESERVE, QMGR_BAD_COUNT]

/-- The fields of page 1 of HOSTRING. -/
def fldsHostring1 : List Fld :=
  [HR_CFG_EN, HR_CFG_FULL_WAIT, HR_CFG_AUTO_FREE, HR_CFG_MASTER, HR_CFG_LOG2SIZE, HR_CFG_LOC, HR_CFG_COMPACT, HR_CFG_DIR, HR_CFG_KIND, HR_BASE_LO_BASE, HR_BASE_HI_BASE, HR_MOD_TIME_THRESH, HR_MOD_PKT_THRESH, HR_ROUTE_KIND, HR_ROUTE_TASK, HR_ROUTE_FLAG, HR_ROUTE_VECTOR, HR_WB_LO_ADDR, HR_WB_LO_WB_EN, HR_WB_HI_ADDR, HR_STATUS_PENDING, HR_STATUS_ERROR, HR_STATUS_ARMED, HR_STATUS_RESTART_PENDING, HR_STATUS_DRAINING, HR_STATUS_ACTIVE, HR_ARM_ARM, HR_COUNT_COUNT]

/-- The fields of page 5 of HOSTRING. -/
def fldsHostring5 : List Fld :=
  [HR_SW_IDX_SW_IDX, HR_HW_IDX_HW_IDX]

/-- The fields of page 0 of HOSTRING. -/
def fldsHostring0 : List Fld :=
  [HR_EVENT_PEND_RING]

end Sys2Proof.Machine
end

