-- ==== Sys2Proof/Machine/RegsWay.lean ====
section
/-! DEFINITION. The register fields of spec/11_waystation.md: page, offset, bits, access code, reset value,
regular stride and count, one definition per field, from the register tables of that chapter. -/

namespace Sys2Proof.Machine

def WAY_CFG_ACL_DEFAULT : Fld := { page := 0x60, off := 0x40, hi := 31, lo := 31 }
def WAY_CFG_CT_ALL : Fld := { page := 0x60, off := 0x40, hi := 9, lo := 9 }
def WAY_CFG_CT_EN : Fld := { page := 0x60, off := 0x40, hi := 8, lo := 8, reset := fun _ _ => 1 }
def WAY_HASH_SEED_SEED : Fld := { page := 0x60, off := 0x44, hi := 31, lo := 0, stat := true, reset := fun _ _ => 0xffffffff }
def WAY_VXLAN_PORT_PORT : Fld := { page := 0x60, off := 0x48, hi := 15, lo := 0, reset := fun _ _ => 0x12b5 }
def WAY_OUT_FLOWS : Fld := { page := 0x60, off := 0x4c, hi := 16, lo := 0, acc := .ro }
def WAY_EXC_ROUTE_DROP : Fld := { page := 0x60, off := 0x80, hi := 31, lo := 31, stride := 0x4, count := 9 }
def WAY_EXC_ROUTE_TASK : Fld := { page := 0x60, off := 0x80, hi := 27, lo := 16, stride := 0x4, count := 9 }
def WAY_EXC_ROUTE_FLAG : Fld := { page := 0x60, off := 0x80, hi := 12, lo := 8, stride := 0x4, count := 9 }
def WAY_RMAC_LO_ADDR : Fld := { page := 0x60, off := 0xc0, hi := 31, lo := 0, stride := 0x8, count := 16 }
def WAY_RMAC_HI_VALID : Fld := { page := 0x60, off := 0xc4, hi := 31, lo := 31, stride := 0x8, count := 16 }
def WAY_RMAC_HI_VLAN : Fld := { page := 0x60, off := 0xc4, hi := 27, lo := 16, stride := 0x8, count := 16 }
def WAY_RMAC_HI_ADDR : Fld := { page := 0x60, off := 0xc4, hi := 15, lo := 0, stride := 0x8, count := 16 }
def WAY_IN_COUNT : Fld := { page := 0x60, off := 0x200, hi := 31, lo := 0, acc := .w1c }
def WAY_RET_COUNT : Fld := { page := 0x60, off := 0x204, hi := 31, lo := 0, acc := .w1c }
def WAY_EXC_POSTED_COUNT : Fld := { page := 0x60, off := 0x208, hi := 31, lo := 0, acc := .w1c }
def WAY_ENQ_COUNT : Fld := { page := 0x60, off := 0x20c, hi := 31, lo := 0, acc := .w1c }
def WAY_POL_DROP_COUNT : Fld := { page := 0x60, off := 0x210, hi := 31, lo := 0, acc := .w1c }
def WAY_ACL_DROP_COUNT : Fld := { page := 0x60, off := 0x214, hi := 31, lo := 0, acc := .w1c }
def WAY_ENQ_DROP_COUNT : Fld := { page := 0x60, off := 0x218, hi := 31, lo := 0, acc := .w1c }
def WAY_DEST_DROP_COUNT : Fld := { page := 0x60, off := 0x21c, hi := 31, lo := 0, acc := .w1c }
def WAY_POISON_DROP_COUNT : Fld := { page := 0x60, off := 0x220, hi := 31, lo := 0, acc := .w1c }
def WAY_TBL_ERR_DROP_COUNT : Fld := { page := 0x60, off := 0x224, hi := 31, lo := 0, acc := .w1c }
def WAY_EXC_DROPPED_COUNT : Fld := { page := 0x60, off := 0x228, hi := 31, lo := 0, acc := .w1c }
def WAY_EXC_REPEAT_COUNT : Fld := { page := 0x60, off := 0x22c, hi := 31, lo := 0, acc := .w1c }
def WAY_RET_DROP_COUNT : Fld := { page := 0x60, off := 0x230, hi := 31, lo := 0, acc := .w1c }
def WAY_LEARN_FULL_COUNT : Fld := { page := 0x60, off := 0x234, hi := 31, lo := 0, acc := .w1c }
def WAY_LEARN_MOVE_COUNT : Fld := { page := 0x60, off := 0x238, hi := 31, lo := 0, acc := .w1c }
def WAY_FLOOD_COPIES_COUNT : Fld := { page := 0x60, off := 0x23c, hi := 31, lo := 0, acc := .w1c }
def WAY_LPM4_BASE_LO_BASE : Fld := { page := 0x61, off := 0x40, hi := 31, lo := 12, stat := true }
def WAY_LPM4_BASE_HI_BASE : Fld := { page := 0x61, off := 0x44, hi := 15, lo := 0, stat := true }
def WAY_LPM4_BLOCKS_BLOCKS : Fld := { page := 0x61, off := 0x48, hi := 23, lo := 0, stat := true }
def WAY_LPM6_BASE_LO_BASE : Fld := { page := 0x61, off := 0x4c, hi := 31, lo := 12, stat := true }
def WAY_LPM6_BASE_HI_BASE : Fld := { page := 0x61, off := 0x50, hi := 15, lo := 0, stat := true }
def WAY_LPM6_BLOCKS_BLOCKS : Fld := { page := 0x61, off := 0x54, hi := 23, lo := 0, stat := true }
def WAY_NH_BASE_LO_BASE : Fld := { page := 0x61, off := 0x58, hi := 31, lo := 12, stat := true }
def WAY_NH_BASE_HI_BASE : Fld := { page := 0x61, off := 0x5c, hi := 15, lo := 0, stat := true }
def WAY_NH_COUNT_COUNT : Fld := { page := 0x61, off := 0x60, hi := 16, lo := 0, stat := true }
def WAY_TUN_BASE_LO_BASE : Fld := { page := 0x61, off := 0x64, hi := 31, lo := 12, stat := true }
def WAY_TUN_BASE_HI_BASE : Fld := { page := 0x61, off := 0x68, hi := 15, lo := 0, stat := true }
def WAY_CT_BASE_LO_BASE : Fld := { page := 0x61, off := 0x6c, hi := 31, lo := 12, stat := true }
def WAY_CT_BASE_HI_BASE : Fld := { page := 0x61, off := 0x70, hi := 15, lo := 0, stat := true }
def WAY_CT_CFG_CT_LOG2 : Fld := { page := 0x61, off := 0x74, hi := 20, lo := 16, stat := true, reset := fun _ _ => 0xa }
def WAY_CT_CFG_SCAN_S : Fld := { page := 0x61, off := 0x74, hi := 15, lo := 0, reset := fun _ _ => 0xa }
def WAY_CT_TIMEOUT_SEC : Fld := { page := 0x61, off := 0x78, hi := 23, lo := 0, stride := 0x4, count := 4, reset := fun _ i => [0x1C20, 0x78, 0x3C, 0x0A].getD i 0 }
def WAY_TBL_INV_LO_ADDR : Fld := { page := 0x61, off := 0x88, hi := 31, lo := 6 }
def WAY_TBL_INV_HI_ADDR : Fld := { page := 0x61, off := 0x8c, hi := 15, lo := 0 }
def WAY_TBL_INV_CMD_BUSY : Fld := { page := 0x61, off := 0x90, hi := 31, lo := 31, acc := .ro }
def WAY_TBL_INV_CMD_LINES : Fld := { page := 0x61, off := 0x90, hi := 15, lo := 0, acc := .wo }
def WAY_CT_CMD_BUSY : Fld := { page := 0x61, off := 0x94, hi := 31, lo := 31, acc := .ro }
def WAY_CT_CMD_RESULT : Fld := { page := 0x61, off := 0x94, hi := 30, lo := 28, acc := .ro }
def WAY_CT_CMD_CMD : Fld := { page := 0x61, off := 0x94, hi := 25, lo := 24, acc := .wo }
def WAY_CT_CMD_INDEX : Fld := { page := 0x61, off := 0x94, hi := 20, lo := 0, acc := .wo }
def WAY_CT_EXPIRY_VALID : Fld := { page := 0x61, off := 0x98, hi := 31, lo := 31, acc := .ro }
def WAY_CT_EXPIRY_INDEX : Fld := { page := 0x61, off := 0x98, hi := 20, lo := 0, acc := .ro }
def WAY_CT_HOT_HOT : Fld := { page := 0x61, off := 0x9c, hi := 16, lo := 0, acc := .ro }
def WAY_BR_CFG_AGE_S : Fld := { page := 0x62, off := 0x40, hi := 31, lo := 16, reset := fun _ _ => 0x12c }
def WAY_BR_CFG_LEARN_EN : Fld := { page := 0x62, off := 0x40, hi := 0, lo := 0, reset := fun _ _ => 1 }
def WAY_BR_KEY_LO_MAC : Fld := { page := 0x62, off := 0x44, hi := 31, lo := 0 }
def WAY_BR_KEY_HI_VLAN : Fld := { page := 0x62, off := 0x48, hi := 27, lo := 16 }
def WAY_BR_KEY_HI_MAC : Fld := { page := 0x62, off := 0x48, hi := 15, lo := 0 }
def WAY_BR_DATA_VALID : Fld := { page := 0x62, off := 0x4c, hi := 31, lo := 31 }
def WAY_BR_DATA_STATIC : Fld := { page := 0x62, off := 0x4c, hi := 30, lo := 30 }
def WAY_BR_DATA_DEST : Fld := { page := 0x62, off := 0x4c, hi := 16, lo := 0 }
def WAY_BR_CMD_BUSY : Fld := { page := 0x62, off := 0x50, hi := 31, lo := 31, acc := .ro }
def WAY_BR_CMD_RESULT : Fld := { page := 0x62, off := 0x50, hi := 30, lo := 28, acc := .ro }
def WAY_BR_CMD_CMD : Fld := { page := 0x62, off := 0x50, hi := 2, lo := 0, acc := .wo }
def WAY_BR_COUNT_ENTRIES : Fld := { page := 0x62, off := 0x54, hi := 16, lo := 0, acc := .ro }
def WAY_ETH_MAP_PVID : Fld := { page := 0x63, off := 0x40, hi := 27, lo := 16, stride := 0x4, count := 6, reset := fun _ _ => 1 }
def WAY_ETH_MAP_QBASE : Fld := { page := 0x63, off := 0x40, hi := 13, lo := 0, stride := 0x4, count := 6 }
def WAY_STA_IDX_STATION : Fld := { page := 0x63, off := 0x60, hi := 10, lo := 0 }
def WAY_STA_MAP_PVID : Fld := { page := 0x63, off := 0x64, hi := 27, lo := 16, count := 2048, reset := fun _ _ => 1 }
def WAY_STA_MAP_QBASE : Fld := { page := 0x63, off := 0x64, hi := 13, lo := 0, count := 2048 }
def WAY_BSS_IDX_BSS : Fld := { page := 0x63, off := 0x68, hi := 5, lo := 0 }
def WAY_BSS_MAP_QUEUE : Fld := { page := 0x63, off := 0x6c, hi := 13, lo := 0, count := 64 }
def WAY_VLAN_IDX_VLAN : Fld := { page := 0x63, off := 0x70, hi := 11, lo := 0 }
def WAY_VLAN_CFG_VALID : Fld := { page := 0x63, off := 0x74, hi := 31, lo := 31, count := 4096 }
def WAY_VLAN_CFG_TRAP : Fld := { page := 0x63, off := 0x74, hi := 30, lo := 30, count := 4096 }
def WAY_VLAN_CFG_LEARN : Fld := { page := 0x63, off := 0x74, hi := 29, lo := 29, count := 4096, reset := fun _ _ => 1 }
def WAY_VLAN_CFG_FLOOD : Fld := { page := 0x63, off := 0x74, hi := 25, lo := 16, count := 4096 }
def WAY_VLAN_CFG_TAGGED : Fld := { page := 0x63, off := 0x74, hi := 5, lo := 0, count := 4096 }
def WAY_FLOOD_IDX_MEMBER : Fld := { page := 0x63, off := 0x78, hi := 19, lo := 16 }
def WAY_FLOOD_IDX_GROUP : Fld := { page := 0x63, off := 0x78, hi := 9, lo := 0 }
def WAY_FLOOD_MEMBER_VALID : Fld := { page := 0x63, off := 0x7c, hi := 31, lo := 31, count := 16384 }
def WAY_FLOOD_MEMBER_DEST : Fld := { page := 0x63, off := 0x7c, hi := 16, lo := 0, count := 16384 }
def WAY_POL_KIND_EN : Fld := { page := 0x64, off := 0x40, hi := 31, lo := 31, stride := 0x4, count := 9 }
def WAY_POL_KIND_SHIFT : Fld := { page := 0x64, off := 0x40, hi := 17, lo := 16, stride := 0x4, count := 9 }
def WAY_POL_KIND_BASE : Fld := { page := 0x64, off := 0x40, hi := 12, lo := 0, stride := 0x4, count := 9 }
def WAY_POL_IDX_POLICER : Fld := { page := 0x64, off := 0x80, hi := 12, lo := 0 }
def WAY_POL_RATE_EN : Fld := { page := 0x64, off := 0x84, hi := 31, lo := 31, count := 8192 }
def WAY_POL_RATE_RATE : Fld := { page := 0x64, off := 0x84, hi := 23, lo := 0, count := 8192 }
def WAY_POL_BURST_BURST : Fld := { page := 0x64, off := 0x88, hi := 23, lo := 0, count := 8192 }
def WAY_POL_TOKENS_TOKENS : Fld := { page := 0x64, off := 0x8c, hi := 23, lo := 0, acc := .ro, count := 8192 }
def WAY_POL_PASS_COUNT : Fld := { page := 0x64, off := 0x90, hi := 31, lo := 0, acc := .w1c, count := 8192 }
def WAY_POLICER_DROP_COUNT : Fld := { page := 0x64, off := 0x94, hi := 31, lo := 0, acc := .w1c, count := 8192 }
def WAY_ACL_IDX_RULE : Fld := { page := 0x65, off := 0x40, hi := 11, lo := 0 }
def WAY_ACL_CMD_BUSY : Fld := { page := 0x65, off := 0x44, hi := 31, lo := 31, acc := .ro }
def WAY_ACL_CMD_CMD : Fld := { page := 0x65, off := 0x44, hi := 1, lo := 0, acc := .wo }
def WAY_ACL_KEY_KEY : Fld := { page := 0x65, off := 0x80, hi := 31, lo := 0, stride := 0x4, count := 12 }
def WAY_ACL_MASK_MASK : Fld := { page := 0x65, off := 0xc0, hi := 31, lo := 0, stride := 0x4, count := 12 }
def WAY_ACL_ACT0_ACTION : Fld := { page := 0x65, off := 0x100, hi := 31, lo := 30 }
def WAY_ACL_ACT0_SET_TC : Fld := { page := 0x65, off := 0x100, hi := 28, lo := 28 }
def WAY_ACL_ACT0_TC : Fld := { page := 0x65, off := 0x100, hi := 27, lo := 25 }
def WAY_ACL_ACT0_SET_DSCP : Fld := { page := 0x65, off := 0x100, hi := 24, lo := 24 }
def WAY_ACL_ACT0_DSCP : Fld := { page := 0x65, off := 0x100, hi := 23, lo := 18 }
def WAY_ACL_ACT0_MIRROR : Fld := { page := 0x65, off := 0x100, hi := 17, lo := 17 }
def WAY_ACL_ACT0_REDIRECT : Fld := { page := 0x65, off := 0x100, hi := 16, lo := 0 }
def WAY_ACL_ACT1_VALID : Fld := { page := 0x65, off := 0x104, hi := 31, lo := 31 }
def WAY_ACL_ACT1_MIRROR_Q : Fld := { page := 0x65, off := 0x104, hi := 13, lo := 0 }
def WAY_ACL_HITS_COUNT : Fld := { page := 0x65, off := 0x108, hi := 31, lo := 0, acc := .w1c, count := 4096 }
def WAY_KIND_QOS_TRUST : Fld := { page := 0x66, off := 0x40, hi := 31, lo := 30, stride := 0x4, count := 9, reset := fun _ _ => 3 }
def WAY_KIND_QOS_DEF_TC : Fld := { page := 0x66, off := 0x40, hi := 26, lo := 24, stride := 0x4, count := 9 }
def WAY_KIND_QOS_PVID : Fld := { page := 0x66, off := 0x40, hi := 11, lo := 0, stride := 0x4, count := 9, reset := fun _ _ => 1 }
def WAY_DSCP_TC_MAP : Fld := { page := 0x66, off := 0x80, hi := 23, lo := 0, stride := 0x4, count := 8, reset := fun _ i => i * 0x249249 }
def WAY_PCP_TC_TC : Fld := { page := 0x66, off := 0xa0, hi := 23, lo := 0, reset := fun _ _ => 0xfac688 }
def WAY_TC_PCP_PCP : Fld := { page := 0x66, off := 0xa4, hi := 23, lo := 0, reset := fun _ _ => 0xfac688 }
def WAY_TC_DSCP0_DSCP : Fld := { page := 0x66, off := 0xa8, hi := 29, lo := 0, reset := fun _ _ => 0x20610200 }
def WAY_TC_DSCP1_DSCP : Fld := { page := 0x66, off := 0xac, hi := 17, lo := 0, reset := fun _ _ => 0x38c28 }
def WAY_MARK_CFG_DSCP_ROUTED : Fld := { page := 0x66, off := 0xb0, hi := 1, lo := 1 }
def WAY_MARK_CFG_PCP : Fld := { page := 0x66, off := 0xb0, hi := 0, lo := 0, reset := fun _ _ => 1 }

/-- The fields of page 0 of WAY. -/
def fldsWay0 : List Fld :=
  [WAY_CFG_ACL_DEFAULT, WAY_CFG_CT_ALL, WAY_CFG_CT_EN, WAY_HASH_SEED_SEED, WAY_VXLAN_PORT_PORT, WAY_OUT_FLOWS, WAY_EXC_ROUTE_DROP, WAY_EXC_ROUTE_TASK, WAY_EXC_ROUTE_FLAG, WAY_RMAC_LO_ADDR, WAY_RMAC_HI_VALID, WAY_RMAC_HI_VLAN, WAY_RMAC_HI_ADDR, WAY_IN_COUNT, WAY_RET_COUNT, WAY_EXC_POSTED_COUNT, WAY_ENQ_COUNT, WAY_POL_DROP_COUNT, WAY_ACL_DROP_COUNT, WAY_ENQ_DROP_COUNT, WAY_DEST_DROP_COUNT, WAY_POISON_DROP_COUNT, WAY_TBL_ERR_DROP_COUNT, WAY_EXC_DROPPED_COUNT, WAY_EXC_REPEAT_COUNT, WAY_RET_DROP_COUNT, WAY_LEARN_FULL_COUNT, WAY_LEARN_MOVE_COUNT, WAY_FLOOD_COPIES_COUNT]

/-- The fields of page 1 of WAY. -/
def fldsWay1 : List Fld :=
  [WAY_LPM4_BASE_LO_BASE, WAY_LPM4_BASE_HI_BASE, WAY_LPM4_BLOCKS_BLOCKS, WAY_LPM6_BASE_LO_BASE, WAY_LPM6_BASE_HI_BASE, WAY_LPM6_BLOCKS_BLOCKS, WAY_NH_BASE_LO_BASE, WAY_NH_BASE_HI_BASE, WAY_NH_COUNT_COUNT, WAY_TUN_BASE_LO_BASE, WAY_TUN_BASE_HI_BASE, WAY_CT_BASE_LO_BASE, WAY_CT_BASE_HI_BASE, WAY_CT_CFG_CT_LOG2, WAY_CT_CFG_SCAN_S, WAY_CT_TIMEOUT_SEC, WAY_TBL_INV_LO_ADDR, WAY_TBL_INV_HI_ADDR, WAY_TBL_INV_CMD_BUSY, WAY_TBL_INV_CMD_LINES, WAY_CT_CMD_BUSY, WAY_CT_CMD_RESULT, WAY_CT_CMD_CMD, WAY_CT_CMD_INDEX, WAY_CT_EXPIRY_VALID, WAY_CT_EXPIRY_INDEX, WAY_CT_HOT_HOT]

/-- The fields of page 2 of WAY. -/
def fldsWay2 : List Fld :=
  [WAY_BR_CFG_AGE_S, WAY_BR_CFG_LEARN_EN, WAY_BR_KEY_LO_MAC, WAY_BR_KEY_HI_VLAN, WAY_BR_KEY_HI_MAC, WAY_BR_DATA_VALID, WAY_BR_DATA_STATIC, WAY_BR_DATA_DEST, WAY_BR_CMD_BUSY, WAY_BR_CMD_RESULT, WAY_BR_CMD_CMD, WAY_BR_COUNT_ENTRIES]

/-- The fields of page 3 of WAY. -/
def fldsWay3 : List Fld :=
  [WAY_ETH_MAP_PVID, WAY_ETH_MAP_QBASE, WAY_STA_IDX_STATION, WAY_STA_MAP_PVID, WAY_STA_MAP_QBASE, WAY_BSS_IDX_BSS, WAY_BSS_MAP_QUEUE, WAY_VLAN_IDX_VLAN, WAY_VLAN_CFG_VALID, WAY_VLAN_CFG_TRAP, WAY_VLAN_CFG_LEARN, WAY_VLAN_CFG_FLOOD, WAY_VLAN_CFG_TAGGED, WAY_FLOOD_IDX_MEMBER, WAY_FLOOD_IDX_GROUP, WAY_FLOOD_MEMBER_VALID, WAY_FLOOD_MEMBER_DEST]

/-- The fields of page 4 of WAY. -/
def fldsWay4 : List Fld :=
  [WAY_POL_KIND_EN, WAY_POL_KIND_SHIFT, WAY_POL_KIND_BASE, WAY_POL_IDX_POLICER, WAY_POL_RATE_EN, WAY_POL_RATE_RATE, WAY_POL_BURST_BURST, WAY_POL_TOKENS_TOKENS, WAY_POL_PASS_COUNT, WAY_POLICER_DROP_COUNT]

/-- The fields of page 5 of WAY. -/
def fldsWay5 : List Fld :=
  [WAY_ACL_IDX_RULE, WAY_ACL_CMD_BUSY, WAY_ACL_CMD_CMD, WAY_ACL_KEY_KEY, WAY_ACL_MASK_MASK, WAY_ACL_ACT0_ACTION, WAY_ACL_ACT0_SET_TC, WAY_ACL_ACT0_TC, WAY_ACL_ACT0_SET_DSCP, WAY_ACL_ACT0_DSCP, WAY_ACL_ACT0_MIRROR, WAY_ACL_ACT0_REDIRECT, WAY_ACL_ACT1_VALID, WAY_ACL_ACT1_MIRROR_Q, WAY_ACL_HITS_COUNT]

/-- The fields of page 6 of WAY. -/
def fldsWay6 : List Fld :=
  [WAY_KIND_QOS_TRUST, WAY_KIND_QOS_DEF_TC, WAY_KIND_QOS_PVID, WAY_DSCP_TC_MAP, WAY_PCP_TC_TC, WAY_TC_PCP_PCP, WAY_TC_DSCP0_DSCP, WAY_TC_DSCP1_DSCP, WAY_MARK_CFG_DSCP_ROUTED, WAY_MARK_CFG_PCP]

end Sys2Proof.Machine
end

