-- ==== Sys2Proof/Machine/RegsSerai.lean ====
section
/-! DEFINITION. The register fields of spec/04_serai.md: page, offset, bits, access code, reset value,
regular stride and count, one definition per field, from the register tables of that chapter. -/

namespace Sys2Proof.Machine

def SERAI_CFG_SCRUB_PERIOD : Fld := { page := 0x10, off := 0x40, hi := 23, lo := 16, reset := fun _ _ => 0xfa }
def SERAI_CFG_ECC_DETECT : Fld := { page := 0x10, off := 0x40, hi := 9, lo := 9 }
def SERAI_CFG_SCRUB_EN : Fld := { page := 0x10, off := 0x40, hi := 8, lo := 8, reset := fun _ _ => 1 }
def SERAI_CFG_HEADROOM : Fld := { page := 0x10, off := 0x40, hi := 1, lo := 0, reset := fun _ _ => 1 }
def SERAI_FREE_CELLS : Fld := { page := 0x10, off := 0x44, hi := 17, lo := 0, acc := .ro }
def SERAI_SHARED_FREE_CELLS : Fld := { page := 0x10, off := 0x48, hi := 17, lo := 0, acc := .ro }
def SERAI_CE_COUNT_COUNT : Fld := { page := 0x10, off := 0x4c, hi := 31, lo := 0, acc := .w1c }
def SERAI_UE_COUNT_COUNT : Fld := { page := 0x10, off := 0x50, hi := 31, lo := 0, acc := .w1c }
def SERAI_REF_OVF_COUNT : Fld := { page := 0x10, off := 0x64, hi := 31, lo := 0, acc := .w1c }
def SERAI_QUAR_COUNT : Fld := { page := 0x10, off := 0x54, hi := 30, lo := 24, acc := .ro }
def SERAI_QUAR_LAST : Fld := { page := 0x10, off := 0x54, hi := 16, lo := 0, acc := .ro }
def SERAI_QUAR_RELEASE_ALL : Fld := { page := 0x10, off := 0x58, hi := 31, lo := 31, acc := .wo }
def SERAI_QUAR_RELEASE_CELL : Fld := { page := 0x10, off := 0x58, hi := 16, lo := 0, acc := .wo }
def SERAI_CLASS_STATE_STATE : Fld := { page := 0x10, off := 0x5c, hi := 1, lo := 0, acc := .ro, pack := 2, count := 8 }
def SERAI_CLASS_APPLY_FAIL_CLASS : Fld := { page := 0x10, off := 0x60, hi := 10, lo := 8, acc := .ro }
def SERAI_CLASS_APPLY_REASON : Fld := { page := 0x10, off := 0x60, hi := 7, lo := 4, acc := .ro }
def SERAI_CLASS_APPLY_REJECTED : Fld := { page := 0x10, off := 0x60, hi := 2, lo := 2, acc := .ro }
def SERAI_CLASS_APPLY_APPLY : Fld := { page := 0x10, off := 0x60, hi := 0, lo := 0, acc := .wo }
def ALLOC_REQ_LENGTH : Fld := { page := 0x10, off := 0x80, hi := 17, lo := 0, acc := .wo, stride := 0x10, count := 8 }
def ALLOC_RESULT_DONE : Fld := { page := 0x10, off := 0x84, hi := 31, lo := 31, acc := .ro, stride := 0x10, count := 8 }
def ALLOC_RESULT_STATUS : Fld := { page := 0x10, off := 0x84, hi := 30, lo := 29, acc := .ro, stride := 0x10, count := 8 }
def ALLOC_RESULT_HEAD : Fld := { page := 0x10, off := 0x84, hi := 16, lo := 0, acc := .ro, stride := 0x10, count := 8 }
def ALLOC_NEXT_LAST : Fld := { page := 0x10, off := 0x88, hi := 31, lo := 31, acc := .ro, stride := 0x10, count := 8 }
def ALLOC_NEXT_CELL : Fld := { page := 0x10, off := 0x88, hi := 16, lo := 0, stride := 0x10, count := 8 }
def ALLOC_FREE_HEAD : Fld := { page := 0x10, off := 0x8c, hi := 16, lo := 0, acc := .wo, stride := 0x10, count := 8 }
def CLS_RESERVE_RESERVE : Fld := { page := 0x11, off := 0x40, hi := 17, lo := 0, stride := 0x20, count := 8, reset := fun _ i => [8192, 8192, 2048, 4096, 2048, 256, 1024, 2048].getD i 0 }
def CLS_LIMIT_ALPHA : Fld := { page := 0x11, off := 0x44, hi := 30, lo := 28, stride := 0x20, count := 8, reset := fun _ _ => 4 }
def CLS_LIMIT_LIMIT : Fld := { page := 0x11, off := 0x44, hi := 17, lo := 0, stride := 0x20, count := 8, reset := fun _ i => [65536, 65536, 32768, 32768, 16384, 1024, 4096, 16384].getD i 0 }
def CLS_HEADROOM_WARN_MARGIN : Fld := { page := 0x11, off := 0x48, hi := 31, lo := 16, stride := 0x20, count := 8, reset := fun _ i => [1024, 1024, 256, 256, 256, 64, 128, 256].getD i 0 }
def CLS_HEADROOM_HEADROOM : Fld := { page := 0x11, off := 0x48, hi := 15, lo := 0, stride := 0x20, count := 8, reset := fun _ i => [0, 2048, 0, 0, 0, 0, 0, 0].getD i 0 }
def CLS_OCC_OCC : Fld := { page := 0x11, off := 0x4c, hi := 17, lo := 0, acc := .ro, stride := 0x20, count := 8 }
def CLS_SHARED_USED_SUSED : Fld := { page := 0x11, off := 0x50, hi := 17, lo := 0, acc := .ro, stride := 0x20, count := 8 }
def CLS_HEAD_USED_HUSED : Fld := { page := 0x11, off := 0x54, hi := 15, lo := 0, acc := .ro, stride := 0x20, count := 8 }
def CLS_LIMIT_NOW_LIMIT_NOW : Fld := { page := 0x11, off := 0x58, hi := 17, lo := 0, acc := .ro, stride := 0x20, count := 8 }
def CLS_REFUSED_COUNT : Fld := { page := 0x11, off := 0x5c, hi := 31, lo := 0, acc := .w1c, stride := 0x20, count := 8 }
def SPILL_CFG_EN : Fld := { page := 0x12, off := 0x40, hi := 0, lo := 0 }
def SPILL_BASE_LO_BASE : Fld := { page := 0x12, off := 0x44, hi := 31, lo := 20 }
def SPILL_BASE_HI_BASE : Fld := { page := 0x12, off := 0x48, hi := 15, lo := 0 }
def SPILL_SIZE_SIZE : Fld := { page := 0x12, off := 0x4c, hi := 12, lo := 0, reset := fun _ _ => 0x10 }
def SPILL_HIGH_HIGH : Fld := { page := 0x12, off := 0x50, hi := 17, lo := 0, reset := fun _ _ => 0x1c000 }
def SPILL_LOW_LOW : Fld := { page := 0x12, off := 0x54, hi := 17, lo := 0, reset := fun _ _ => 0x18000 }
def SPILL_RETURN_RETURN_DEPTH : Fld := { page := 0x12, off := 0x58, hi := 7, lo := 0, reset := fun _ _ => 8 }
def SPILL_STATUS_REGION_FULL : Fld := { page := 0x12, off := 0x5c, hi := 2, lo := 2, acc := .ro }
def SPILL_STATUS_ACTIVE : Fld := { page := 0x12, off := 0x5c, hi := 1, lo := 1, acc := .ro }
def SPILL_STATUS_READY : Fld := { page := 0x12, off := 0x5c, hi := 0, lo := 0, acc := .ro }
def SPILL_SLOTS_FREE_SLOTS : Fld := { page := 0x12, off := 0x60, hi := 23, lo := 0, acc := .ro }
def SPILL_OUT_CARAVANS : Fld := { page := 0x12, off := 0x64, hi := 23, lo := 0, acc := .ro }
def SPILL_COUNT_OUT_COUNT : Fld := { page := 0x12, off := 0x68, hi := 31, lo := 0, acc := .w1c }
def SPILL_COUNT_RET_COUNT : Fld := { page := 0x12, off := 0x6c, hi := 31, lo := 0, acc := .w1c }
def SERAI_PORT_LIMIT_LIMIT : Fld := { page := 0x13, off := 0x40, hi := 15, lo := 0, stride := 0x4, count := 16, reset := fun _ i => if i = 12 then 0xC8 else 0 }

/-- The fields of page 0 of SERAI. -/
def fldsSerai0 : List Fld :=
  [SERAI_CFG_SCRUB_PERIOD, SERAI_CFG_ECC_DETECT, SERAI_CFG_SCRUB_EN, SERAI_CFG_HEADROOM, SERAI_FREE_CELLS, SERAI_SHARED_FREE_CELLS, SERAI_CE_COUNT_COUNT, SERAI_UE_COUNT_COUNT, SERAI_REF_OVF_COUNT, SERAI_QUAR_COUNT, SERAI_QUAR_LAST, SERAI_QUAR_RELEASE_ALL, SERAI_QUAR_RELEASE_CELL, SERAI_CLASS_STATE_STATE, SERAI_CLASS_APPLY_FAIL_CLASS, SERAI_CLASS_APPLY_REASON, SERAI_CLASS_APPLY_REJECTED, SERAI_CLASS_APPLY_APPLY, ALLOC_REQ_LENGTH, ALLOC_RESULT_DONE, ALLOC_RESULT_STATUS, ALLOC_RESULT_HEAD, ALLOC_NEXT_LAST, ALLOC_NEXT_CELL, ALLOC_FREE_HEAD]

/-- The fields of page 1 of SERAI. -/
def fldsSerai1 : List Fld :=
  [CLS_RESERVE_RESERVE, CLS_LIMIT_ALPHA, CLS_LIMIT_LIMIT, CLS_HEADROOM_WARN_MARGIN, CLS_HEADROOM_HEADROOM, CLS_OCC_OCC, CLS_SHARED_USED_SUSED, CLS_HEAD_USED_HUSED, CLS_LIMIT_NOW_LIMIT_NOW, CLS_REFUSED_COUNT]

/-- The fields of page 2 of SERAI. -/
def fldsSerai2 : List Fld :=
  [SPILL_CFG_EN, SPILL_BASE_LO_BASE, SPILL_BASE_HI_BASE, SPILL_SIZE_SIZE, SPILL_HIGH_HIGH, SPILL_LOW_LOW, SPILL_RETURN_RETURN_DEPTH, SPILL_STATUS_REGION_FULL, SPILL_STATUS_ACTIVE, SPILL_STATUS_READY, SPILL_SLOTS_FREE_SLOTS, SPILL_OUT_CARAVANS, SPILL_COUNT_OUT_COUNT, SPILL_COUNT_RET_COUNT]

/-- The fields of page 3 of SERAI. -/
def fldsSerai3 : List Fld :=
  [SERAI_PORT_LIMIT_LIMIT]

end Sys2Proof.Machine
end

