-- ==== Sys2Proof/Machine/Serai.lean ====
section
/-! DEFINITION. The Serai central store (spec/04_serai.md): admission, reference counts, transfers of charge, error
protection, scrubbing, quarantine, class configuration, and the allocation windows. Spill is in Spill.lean. -/

namespace Sys2Proof.Machine

open Sys2Proof

/-- First page of the SERAI block. -/
def pSerai : Nat := 0x10

/-- The number of cells (R128). -/
def cellCount : Nat := 131072

/-- The headroom H in bytes that an admission takes now (R129). -/
def headRoom (d : Dev) : Nat := 64 * d.rd SERAI_CFG_HEADROOM

/-- Cells that `n` bytes take behind a headroom of `h` bytes (R129, R144). -/
def cellsFor (h n : Nat) : Nat := (h + n + 255) / 256

/-- The applied values of class `c`. -/
def classCfg (d : Dev) (c : Nat) : ClassCfg := d.ser.live.getD c ⟨0, 0, 0, 0, 0⟩

/-- Cells charged to class `c` and what of them came from the pool, from headroom and from the reserve (R145). -/
def occOf (d : Dev) (c : Nat) : Nat := d.rd CLS_OCC_OCC 0 c

def susedOf (d : Dev) (c : Nat) : Nat := d.rd CLS_SHARED_USED_SUSED 0 c

def husedOf (d : Dev) (c : Nat) : Nat := d.rd CLS_HEAD_USED_HUSED 0 c

def rusedOf (d : Dev) (c : Nat) : Nat := occOf d c - susedOf d c - husedOf d c

/-- The eight owner classes (R144). -/
def classes : List Nat := [0, 1, 2, 3, 4, 5, 6, 7]

/-- The size S of the shared pool (R145). -/
def poolSize (d : Dev) : Int :=
  (cellCount : Int) - ((classes.map (fun c => (classCfg d c).reserve + (classCfg d c).headroom)).sum : Nat)
    - (d.ser.quar.length : Nat)

/-- F, the signed count of shared cells that no class has drawn (R145). -/
def freeShared (d : Dev) : Int := poolSize d - ((classes.map (susedOf d)).sum : Nat)

/-- Cells on the free list: neither in use nor quarantined. -/
def freeCells (d : Dev) : Nat := cellCount - d.ser.use.length - d.ser.quar.length

/-- The total occupancy of all classes. -/
def occTotal (d : Dev) : Nat := (classes.map (occOf d)).sum

/-- floor(α × x) for the code of α (R146). -/
def alphaTimes (code : Nat) (x : Int) : Int :=
  if 4 ≤ code then x * 2 ^ (code - 4) else x / 2 ^ (4 - code)

/-- LIMIT_NOW of class `c` (R150). -/
def limitNow (d : Dev) (c : Nat) : Nat :=
  let k := classCfg d c
  k.reserve + min (k.limit - k.reserve) (alphaTimes k.alpha (freeShared d)).toNat

/-- Class `c` is below its warn threshold. -/
def belowWarn (d : Dev) (c : Nat) : Bool := decide (occOf d c + (classCfg d c).warn < limitNow d c)

/-- The state that R150 gives class `c`. -/
def wantState (d : Dev) (c : Nat) : Nat :=
  if has d.ser.refusing c then 3
  else if has d.ser.throttled c then 2
  else if belowWarn d c then 0 else 1

/-! ### Flow control of the wired class (R723) -/

/-- Sends a PAUSE or PFC frame of port `n` and counts it. -/
def sendPause (n prio quanta : Nat) (d : Dev) : Dev :=
  count ETH_TX_PAUSE_COUNT n 0 (emit (.pauseFrame n prio quanta) d)

/-- The XOFF priorities in force at port `n`. -/
def xoffOf (d : Dev) (n : Nat) : List Nat := (tabGet d.eth n {}).xoff

/-- Sets the XOFF priorities in force at port `n`. -/
def setXoff (n : Nat) (l : List Nat) (d : Dev) : Dev :=
  { d with eth := tabMod d.eth n {} (fun e => { e with xoff := l }) }

/-- Port `n` sends XOFF for priority `prio` (8 for PAUSE), unless it is in force already. -/
def xoffSend (n prio : Nat) (d : Dev) : Dev :=
  if has (xoffOf d n) prio then d
  else sendPause n prio (d.rd ETH_PAUSE_QUANTA n) (setXoff n (xoffOf d n ++ [prio]) d)

/-- Port `n` sends XON for every priority it has paused. -/
def xonSend (n : Nat) (d : Dev) : Dev :=
  setXoff n [] ((xoffOf d n).foldl (fun x p => sendPause n p 0 x) d)

/-- The six MACs act on a change of class 1 from state `old` to `new`: PAUSE on entering Throttle or Refuse, XON on
falling to Warn or Normal. PFC names the priority of the frame that met Throttle, at its reception. -/
def ethFlow (old new : Nat) (d : Dev) : Dev :=
  (List.range 6).foldl (fun x n =>
    if !isActive x (0xC8 + n) then x
    else if 2 ≤ new then
      (if x.on ETH_CFG_PAUSE_EN n && !x.on ETH_CFG_PFC_EN n then xoffSend n 8 x else x)
    else if 2 ≤ old then xonSend n x
    else x) d

/-! ### Class states (R150) -/

/-- Class `c` takes the state R150 gives it and raises the cause of the state entered. -/
def settleClass (d : Dev) (c : Nat) : Dev :=
  let d1 := if has d.ser.throttled c && husedOf d c == 0 && belowWarn d c then
      { d with ser := { d.ser with throttled := d.ser.throttled.filter (· != c) } } else d
  let old := d1.rd SERAI_CLASS_STATE_STATE 0 c
  let new := wantState d1 c
  if old = new then d1
  else
    let d2 := d1.put SERAI_CLASS_STATE_STATE new 0 c
    let d3 := if new = 0 then d2 else raiseBit pSerai (2 + new) d2
    if c = 1 then ethFlow old new d3 else d3

/-- Every class takes its state. -/
def settle (d : Dev) : Dev := classes.foldl settleClass d

/-! ### Admission (R146) -/

/-- Where an admission's cells come from: the reserve, and the pool or the headroom. -/
inductive Grant where
  | reserve | pool | headroom
  deriving DecidableEq, Repr

/-- The part of `need` that the reserve of class `c` does not cover. -/
def beyondReserve (d : Dev) (c need : Nat) : Nat := need - min need ((classCfg d c).reserve - rusedOf d c)

/-- The decision of R146, none where the admission is refused. A drain refuses every admission (R172). -/
def admitTest (d : Dev) (c need : Nat) : Option Grant :=
  let k := classCfg d c
  let s := beyondReserve d c need
  if !isActive d pSerai || freeCells d < need then none
  else if s = 0 then some .reserve
  else if ((susedOf d c + s : Nat) : Int) ≤ min ((k.limit - k.reserve : Nat) : Int)
      (alphaTimes k.alpha (freeShared d - (s : Int))) then some .pool
  else if husedOf d c + s ≤ k.headroom then some .headroom
  else none

/-- The counts after a grant. -/
def chargeGrant (g : Grant) (c need s : Nat) (d : Dev) : Dev :=
  let d1 := (d.put CLS_OCC_OCC (occOf d c + need) 0 c)
  let d2 := match g with
    | .reserve => d1
    | .pool => d1.put CLS_SHARED_USED_SUSED (susedOf d c + s) 0 c
    | .headroom => d1.put CLS_HEAD_USED_HUSED (husedOf d c + s) 0 c
  { d2 with ser := { d2.ser with
      refusing := d2.ser.refusing.filter (· != c)
      throttled := if g = .headroom then addOnce d2.ser.throttled c else d2.ser.throttled } }

/-- A refused admission: counted, and the class enters Refuse (R150). -/
def refuseAdmit (c : Nat) (d : Dev) : Dev :=
  let d1 := count CLS_REFUSED_COUNT 0 c d
  settle { d1 with ser := { d1.ser with refusing := addOnce d1.ser.refusing c } }

/-- The free list in ascending order. -/
def freeList (d : Dev) : List Nat :=
  (List.range cellCount).filter (fun c => (tabFind d.ser.use c).isNone && !has d.ser.quar c)

/-- `n` free cells. Which of the free cells are taken is open: they follow an open place of the free list. -/
def pickCells (n : Nat) (d : Dev) : List Nat × Dev :=
  let l := freeList d
  let (k, d1) := draw d
  let i := k % (l.length + 1)
  ((l.drop i ++ l.take i).take n, d1)

/-- The cells `cs` become in use, charged to class `c`. -/
def useCells (c : Nat) (cs : List Nat) (d : Dev) : Dev :=
  { d with ser := { d.ser with use := cs.map (fun x => (x, c)) ++ d.ser.use } }

/-- Admits `need` cells for class `c`; the cells granted, none where it is refused. -/
def admitCells (c need : Nat) (d : Dev) : Option (List Nat) × Dev :=
  match admitTest d c need with
  | none => (none, refuseAdmit c d)
  | some g =>
    let (cs, d1) := pickCells need (chargeGrant g c need (beyondReserve d c need) d)
    (some cs, settle (useCells c cs d1))

/-- Admits a caravan of `size` bytes for class `c`; its head cell, none where the admission is refused. -/
def admitFrame (c size : Nat) (d : Dev) : Option Nat × Dev :=
  match admitCells c (cellsFor (headRoom d) size) d with
  | (none, d1) => (none, d1)
  | (some cs, d1) =>
    let h := cs.headD 0
    (some h, { d1 with ser := { d1.ser with
      caravans := tabSet d1.ser.caravans h { cells := cs, room := headRoom d } } })

/-! ### Return, reference counts and charge (R131, R132, R148, R149, R824) -/

/-- Takes `n` cells of charge from class `c`: hused, then sused, then rused (R148). -/
def uncharge (c n : Nat) (d : Dev) : Dev :=
  let h := min n (husedOf d c)
  let s := min (n - h) (susedOf d c)
  ((d.put CLS_HEAD_USED_HUSED (husedOf d c - h) 0 c).put CLS_SHARED_USED_SUSED (susedOf d c - s) 0 c).put
    CLS_OCC_OCC (occOf d c - n) 0 c

/-- Adds `n` cells of charge to class `c` by transfer: what fits in the unused reserve, the rest to sused (R824). -/
def charge (c n : Nat) (d : Dev) : Dev :=
  let s := n - min n ((classCfg d c).reserve - rusedOf d c)
  (d.put CLS_SHARED_USED_SUSED (susedOf d c + s) 0 c).put CLS_OCC_OCC (occOf d c + n) 0 c

/-- One cell returns to the free list; a cell not in use is ignored and captured (R132). -/
def freeCell (d : Dev) (x : Nat) : Dev :=
  match tabFind d.ser.use x with
  | none => fault0 pSerai 0x43 1 x d
  | some c => uncharge c 1 { d with ser := { d.ser with use := tabDel d.ser.use x } }

/-- Cells return to the free list. -/
def freeCellsOf (l : List Nat) (d : Dev) : Dev := settle (l.foldl freeCell d)

/-- The caravan with head cell `h`. -/
def caravanAt (d : Dev) (h : Nat) : Option Caravan := tabFind d.ser.caravans h

/-- All cells of the caravan return to the free list, and the slots of its spilled tail to the region (R131, R185). -/
def freeCaravan (h : Nat) (d : Dev) : Dev :=
  match caravanAt d h with
  | none => d
  | some k =>
    let d1 := match k.spill with
      | none => d
      | some f =>
        ({ d with ser := { d.ser with slotFrees := d.ser.slotFrees ++ [f] } }.put SPILL_SLOTS_FREE_SLOTS
          (d.rd SPILL_SLOTS_FREE_SLOTS + f.2)).put SPILL_OUT_CARAVANS (d.rd SPILL_OUT_CARAVANS - 1)
    let d2 := if k.spill.isSome then d1.clr SPILL_STATUS_REGION_FULL else d1
    let d3 := if !d2.on SPILL_CFG_EN && !d2.on SPILL_OUT_CARAVANS then d2.clr SPILL_STATUS_READY else d2
    freeCellsOf k.cells { d3 with
      ser := { d3.ser with caravans := tabDel d3.ser.caravans h }
      q := { d3.q with tags := tabDel d3.q.tags h }
      way := { d3.way with saved := tabDel d3.way.saved h }
      outr := { d3.outr with relays := tabDel d3.outr.relays h } }

/-- Subtracts 1 from the reference count of the caravan with head `h`; at zero its cells are freed (R131). -/
def refDown (h : Nat) (d : Dev) : Dev :=
  match caravanAt d h with
  | none => fault0 pSerai 0x43 1 h d
  | some k =>
    if k.refs ≤ 1 then freeCaravan h d
    else { d with ser := { d.ser with caravans := tabSet d.ser.caravans h { k with refs := k.refs - 1 } } }

/-- A further enqueue adds 1 to the count, unless it would pass 65,535: then it is refused and counted (R131). -/
def refUp (h : Nat) (d : Dev) : Bool × Dev :=
  match caravanAt d h with
  | none => (true, d)
  | some k =>
    if 65535 ≤ k.refs then (false, count SERAI_REF_OVF_COUNT 0 0 d)
    else (true, { d with ser := { d.ser with caravans := tabSet d.ser.caravans h { k with refs := k.refs + 1 } } })

/-- Moves the charge of one cell in use to class `b` (R824). -/
def moveCell (b : Nat) (d : Dev) (x : Nat) : Dev :=
  match tabFind d.ser.use x with
  | none => d
  | some a => charge b 1 (uncharge a 1 { d with ser := { d.ser with use := tabSet d.ser.use x b } })

/-- The charge of a caravan moves to class `b`: no cell moves and it is never refused (R149). -/
def moveCharge (h b : Nat) (d : Dev) : Dev :=
  match caravanAt d h with
  | none => d
  | some k => settle (k.cells.foldl (moveCell b) d)

/-- The caravan keeps the cells that `len` bytes take and returns the rest (R148). -/
def trimCaravan (h len : Nat) (d : Dev) : Dev :=
  match caravanAt d h with
  | none => d
  | some k =>
    let n := max 1 (cellsFor k.room len)
    freeCellsOf (k.cells.drop n)
      { d with ser := { d.ser with caravans := tabSet d.ser.caravans h { k with cells := k.cells.take n } } }

/-- The physical address of byte `i` of the caravan `k` (R129). -/
def caravanByte (k : Caravan) (i : Nat) : Nat :=
  seraiBase + 256 * k.cells.getD ((k.room + i) / 256) 0 + (k.room + i) % 256

/-- `n` bytes of the caravan with head `h`, from byte `i`. -/
def readFrame (d : Dev) (m : Memory) (h i n : Nat) : Bytes :=
  match caravanAt d h with
  | none => []
  | some k => (List.range n).map (fun j => memGet m (caravanByte k (i + j)))

/-- Stores bytes into the caravan `k` from byte `i`. -/
def storeFrame (k : Caravan) : Memory → Nat → Bytes → Memory
  | m, _, [] => m
  | m, i, b :: bs => storeFrame k (memPut m (caravanByte k i) b) (i + 1) bs

/-- Stores the bytes of a frame into the caravan with head `h`. -/
def writeFrame (d : Dev) (h : Nat) (bs : Bytes) (m : Memory) : Memory :=
  match caravanAt d h with
  | none => m
  | some k => storeFrame k m 0 bs

/-- The words, numbered cell × 8 + word, that bytes `i` to `i + n − 1` of the caravan with head `h` lie in. -/
def frameWords (d : Dev) (h i n : Nat) : List Nat :=
  match caravanAt d h with
  | none => []
  | some k => (List.range n).map (fun j => (caravanByte k (i + j) - seraiBase) / 32)

/-- Some of bytes `i` to `i + n − 1` of the caravan lies in a poisoned word (R139). -/
def framePoisoned (d : Dev) (h i n : Nat) : Bool :=
  (frameWords d h i n).any (fun w => has d.ser.poison w)

/-- A write of whole words by an ingress edge clears the poison of the words it fills (R138). -/
def clearPoison (ws : List Nat) (d : Dev) : Dev :=
  { d with ser := { d.ser with poison := d.ser.poison.filter (fun w => !has ws w) } }

/-! ### Error protection (R136–R138) -/

/-- Multiplication by α = 0x02 in GF(2^8) with x^8 + x^4 + x^3 + x^2 + 1. -/
def gfTwice (a : Nat) : Nat := if 128 ≤ a then (2 * a) ^^^ 0x11D else 2 * a

/-- α^j. -/
def gfAlpha : Nat → Nat
  | 0 => 1
  | j + 1 => gfTwice (gfAlpha j)

/-- Multiplication by the bits of `b`, lowest first, in GF(2^8). -/
def gfMulBits : Nat → Nat → Nat → Nat
  | 0, _, _ => 0
  | n + 1, a, b => (if b % 2 = 1 then a else 0) ^^^ gfMulBits n (gfTwice a) (b / 2)

/-- Multiplication in GF(2^8). -/
def gfMul (a b : Nat) : Nat := gfMulBits 8 a b

/-- The syndromes S0 and S1 of a word with the given symbols in error. -/
def syndromes (errs : List SymErr) : Nat × Nat :=
  (errs.foldl (fun x e => x ^^^ e.err.toNat) 0,
   errs.foldl (fun x e => x ^^^ gfMul e.err.toNat (gfAlpha e.pos)) 0)

/-- What a read of a word finds: no error, a correctable word with the position and value that the syndromes name, or
an uncorrectable word. -/
inductive WordRead where
  | clean
  | corrected (pos val : Nat)
  | bad
  deriving DecidableEq, Repr

/-- The decoding of R136 in the mode of SERAI_CFG.ECC_DETECT. -/
def decodeWord (detect : Bool) (errs : List SymErr) : WordRead :=
  let s := syndromes errs
  if s.1 = 0 ∧ s.2 = 0 then .clean
  else if detect || s.1 == 0 then .bad
  else match (List.range 34).find? (fun j => gfMul s.1 (gfAlpha j) == s.2) with
    | some j => .corrected j s.1
    | none => .bad

/-- The error `v` added to the symbol at position `pos` of a word's 32 data bytes; the check symbols are not data. -/
def addSym (bs : Bytes) (pos v : Nat) : Bytes :=
  if 2 ≤ pos then bs.set (pos - 2) (bs.getD (pos - 2) 0 ^^^ BitVec.ofNat 8 v) else bs

/-- Marks word `w` poisoned. -/
def setPoison (w : Nat) (d : Dev) : Dev :=
  { d with ser := { d.ser with poison := addOnce d.ser.poison w } }

/-- A read of word `w` that finds `errs`, by `master` with KIND `kind`: corrected and written back (R137), or poisoned
(R138). -/
def readWord (w : Nat) (errs : List SymErr) (master kind : Nat) (d : Dev) (m : Memory) : Dev × Memory :=
  let a := seraiBase + 32 * w
  let raw := errs.foldl (fun bs e => addSym bs e.pos e.err.toNat) (memRead m a 32)
  match decodeWord (d.on SERAI_CFG_ECC_DETECT) errs with
  | .clean => (d, m)
  | .corrected j v =>
    (report ⟨pSerai, 0x40, 0, kind, master, a⟩ (count SERAI_CE_COUNT_COUNT 0 0 d), memWrite m a (addSym raw j v))
  | .bad =>
    (report ⟨pSerai, 0x41, 1, kind, master, a⟩ (count SERAI_UE_COUNT_COUNT 0 0 (setPoison w d)), memWrite m a raw)

/-- A write of word `w`: the bytes that `mask` names, merged with the word where the mask is not full (R134). A whole
write clears the poison bit; a partial one never does. -/
def writeWord (w : Nat) (data : Bytes) (mask : List Bool) (errs : List SymErr) (master : Nat) (d : Dev) (m : Memory) :
    Dev × Memory :=
  let a := seraiBase + 32 * w
  if mask.all id then (clearPoison [w] d, memWrite m a data)
  else
    let r := readWord w errs master 1 d m
    let old := memRead r.2 a 32
    (r.1, memWrite r.2 a ((List.range 32).map (fun i => if mask.getD i false then data.getD i 0 else old.getD i 0)))

/-- The microsecond of the time base that elapsed ticks stand in (R135). -/
def portUsNow (d : Dev) : Nat := d.tb.elapsed / 500

/-- Port `p` may complete a transfer in this microsecond. -/
def portRoom (d : Dev) (p : Nat) : Bool :=
  let l := d.rd SERAI_PORT_LIMIT_LIMIT 0 p
  l == 0 || d.ser.portUs != portUsNow d || decide (tabGet d.ser.portUsed p 0 < l)

/-- Counts one transfer of port `p` in the present microsecond. -/
def portCount (p : Nat) (d : Dev) : Dev :=
  let used := if d.ser.portUs = portUsNow d then d.ser.portUsed else []
  { d with ser := { d.ser with portUs := portUsNow d, portUsed := tabMod used p 0 (· + 1) } }

/-- Completes a transfer of 64 bytes (R134). -/
def portRun (j : PortJob) (d : Dev) (m : Memory) : Dev × Memory :=
  let w := j.off / 64 * 2
  let d0 := portCount j.port d
  if j.write then
    let r := if (j.mask.take 32).any id then writeWord w (j.data.take 32) (j.mask.take 32) j.errs j.master d0 m else (d0, m)
    if ((j.mask.drop 32).take 32).any id then
      writeWord (w + 1) ((j.data.drop 32).take 32) ((j.mask.drop 32).take 32) j.errs2 j.master r.1 r.2 else r
  else
    let r := readWord w j.errs j.master 0 d0 m
    let r2 := readWord (w + 1) j.errs2 j.master 0 r.1 r.2
    ({ r2.1 with sh := { r2.1.sh with
        readData := memRead r2.2 (seraiBase + 32 * w) 64
        readPoison := has r2.1.ser.poison w || has r2.1.ser.poison (w + 1) } }, r2.2)

/-- Waiting transfers complete while their ports have room, in order (R135). -/
def portDrain : List PortJob → Dev → Memory → List PortJob × Dev × Memory
  | [], d, m => ([], d, m)
  | j :: js, d, m =>
    if portRoom d j.port then
      let r := portRun j d m
      portDrain js r.1 r.2
    else
      let r := portDrain js d m
      (j :: r.1, r.2.1, r.2.2)

/-! ### Quarantine (R141–R143) -/

/-- An uncorrectable word in free cell `x`: the cell moves to quarantine, or, quarantine being full, stays free and
code 0x46 is captured (R141, R142). -/
def quarantine (x : Nat) (d : Dev) : Dev :=
  if 64 ≤ d.ser.quar.length then fault0 pSerai 0x46 2 x d
  else
    settle (raiseBit pSerai 8 ({ d with ser := { d.ser with quar := d.ser.quar ++ [x] } }.put SERAI_QUAR_LAST x))

/-! ### Meanings -/

/-- R146: the admission of a frame of `size` bytes for class `cls`. -/
def execCellAdmit (cls size : Nat) (s : State) : Host.Outcome State Fault Refusal :=
  upd s (fun d =>
    let r := admitFrame cls size d
    { r.2 with ser := { r.2.ser with admitted := r.1 } })

/-- R134, R135: a transfer at a port, or its wait for the port's limit. -/
def execSeraiTransfer (port m : Nat) (write : Bool) (off : Nat) (data : List Byte) (mask : List Bool)
    (errs errs2 : List SymErr) (s : State) : Host.Outcome State Fault Refusal :=
  updMem s (fun d mem =>
    let j : PortJob := ⟨port, m, write, off, data, mask, errs, errs2⟩
    if portRoom d port then portRun j d mem
    else ({ d with ser := { d.ser with portWait := d.ser.portWait ++ [j] } }, mem))

/-- The register of window `win` answers only core `win` (R175); any other master is captured with code 0x45. -/
def windowWrite (m win off : Nat) (kind : Nat) (f : Dev → Dev) (d : Dev) : Dev :=
  if m = win ∧ win < 8 then f d
  else report ⟨pSerai, 0x45, 0, kind, m, regAddr pSerai (0x80 + 0x10 * win + off)⟩ d

/-- R132: a write of ALLOC_FREE. -/
def allocFree (m win v : Nat) (d : Dev) : Dev :=
  windowWrite m win 0xC 1 (fun x =>
    let h := v % 2 ^ 17
    if (tabFind x.ser.use h).isNone then
      report ⟨pSerai, 0x43, 1, 1, m, h⟩ x
    else if (caravanAt x h).isNone then report ⟨pSerai, 0x47, 0, 1, m, h⟩ x
    else refDown h x) d

def execAllocFree (m win v : Nat) (s : State) : Host.Outcome State Fault Refusal :=
  upd s (cmdWrite pSerai (0x8C + 0x10 * win) m (allocFree m win v))

/-- R175: a write of ALLOC_REQ admits LENGTH bytes for class 3. -/
def allocReq (m win v : Nat) (d : Dev) : Dev :=
  windowWrite m win 0 1 (fun x =>
    let len := v % 2 ^ 18
    if len = 0 then
      (x.put ALLOC_RESULT_DONE 1 0 win).put ALLOC_RESULT_STATUS 2 0 win
    else
      let r := admitFrame 3 len x
      match r.1 with
      | none => (r.2.put ALLOC_RESULT_DONE 1 0 win).put ALLOC_RESULT_STATUS 2 0 win
      | some h =>
        ((r.2.put ALLOC_RESULT_DONE 1 0 win).put ALLOC_RESULT_STATUS
          (if r.2.rd SERAI_CLASS_STATE_STATE 0 3 = 2 then 1 else 0) 0 win).put ALLOC_RESULT_HEAD h 0 win) d

def execAllocReq (m win v : Nat) (s : State) : Host.Outcome State Fault Refusal :=
  upd s (cmdWrite pSerai (0x80 + 0x10 * win) m (allocReq m win v))

/-- The successor of cell `x` in the chain `l`: none past the last, no answer where `l` does not hold `x`. -/
def succIn (x : Nat) : List Nat → Option (Option Nat)
  | [] => none
  | a :: l => if a = x then some l.head? else succIn x l

/-- R175: a write of ALLOC_NEXT. The successor of the last cell, and of a cell in no chain, is open. -/
def allocNext (m win v : Nat) (d : Dev) : Dev :=
  windowWrite m win 8 1 (fun x =>
    match x.ser.caravans.findSome? (fun e => succIn (v % 2 ^ 17) e.2.cells) with
    | some (some n) => (x.put ALLOC_NEXT_CELL n 0 win).put ALLOC_NEXT_LAST 0 0 win
    | some none =>
      let r := draw x
      (r.2.put ALLOC_NEXT_CELL r.1 0 win).put ALLOC_NEXT_LAST 1 0 win
    | none =>
      let r := draw x
      let r2 := draw r.2
      (r2.2.put ALLOC_NEXT_CELL r.1 0 win).put ALLOC_NEXT_LAST r2.1 0 win) d

def execAllocNext (m win v : Nat) (s : State) : Host.Outcome State Fault Refusal :=
  upd s (cmdWrite pSerai (0x88 + 0x10 * win) m (allocNext m win v))

/-- R140: the scrubber reads its next word and applies R137, R138, R141 and R142 with KIND 0b11. -/
def execScrubRead (errs : List SymErr) (s : State) : Host.Outcome State Fault Refusal :=
  updMem s (fun d m =>
    if isActive d pSerai && d.on SERAI_CFG_SCRUB_EN then
      let w := d.ser.scrubPos
      let r := readWord w errs 0 3 d m
      let d1 := if decodeWord (d.on SERAI_CFG_ECC_DETECT) errs = .bad ∧ (tabFind d.ser.use (w / 8)).isNone
          ∧ !has d.ser.quar (w / 8) then quarantine (w / 8) r.1 else r.1
      ({ d1 with ser := { d1.ser with scrubPos := (w + 1) % 1048576 } }, r.2)
    else (d, m))

/-- R141: quarantined cells return to the free list; a cell not in quarantine is ignored. -/
def quarRelease (v : Nat) (d : Dev) : Dev :=
  settle { d with ser := { d.ser with
    quar := if v.testBit 31 then [] else d.ser.quar.filter (· != v % 2 ^ 17) } }

def execQuarRelease (m v : Nat) (s : State) : Host.Outcome State Fault Refusal :=
  upd s (cmdWrite pSerai 0x058 m (quarRelease v))

/-- The staged values of class `c` (R152). -/
def stagedCfg (d : Dev) (c : Nat) : ClassCfg :=
  ⟨d.rd CLS_RESERVE_RESERVE 0 c, d.rd CLS_LIMIT_LIMIT 0 c, d.rd CLS_LIMIT_ALPHA 0 c,
   d.rd CLS_HEADROOM_HEADROOM 0 c, d.rd CLS_HEADROOM_WARN_MARGIN 0 c⟩

/-- The reason for which R152 refuses the staged values, and the class it names, none where all conditions hold. -/
def applyRefusal (d : Dev) : Option (Nat × Option Nat) :=
  if 131008 < (classes.map (fun c => (stagedCfg d c).reserve + (stagedCfg d c).headroom)).sum then some (1, none)
  else match classes.find? (fun c => decide ((stagedCfg d c).limit < (stagedCfg d c).reserve)) with
    | some c => some (2, some c)
    | none =>
      if (stagedCfg d 4).reserve < 1025 then some (3, some 4)
      else if (stagedCfg d 7).reserve < 1024 then some (4, some 7)
      else none

/-- R152: a write of SERAI_CLASS_APPLY. -/
def classApply (v : Nat) (d : Dev) : Dev :=
  if v.testBit 0 then
    match applyRefusal d with
    | some (reason, cls) =>
      let r := match cls with
        | some c => (c, d)
        | none => draw d
      ((r.2.put SERAI_CLASS_APPLY_REJECTED 1).put SERAI_CLASS_APPLY_REASON reason).put SERAI_CLASS_APPLY_FAIL_CLASS r.1
    | none =>
      settle { d.put SERAI_CLASS_APPLY_REJECTED 0 with
        ser := { d.ser with live := classes.map (stagedCfg d) } }
  else d

def execClassApply (m v : Nat) (s : State) : Host.Outcome State Fault Refusal :=
  upd s (cmdWrite pSerai 0x060 m (classApply v))

end Sys2Proof.Machine
end

