-- ==== Sys2Proof/Machine/Manifests.lean ====
section
/-! DEFINITION. Manifests and the queue manager (spec/05_manifests.md R177–R190). -/

namespace Sys2Proof.Machine

open Sys2Proof

/-- First page of QMGR. -/
def pQmgr : Nat := 0x18

/-! ### The forms of a manifest (R177–R182) -/

/-- The eight words of a manifest (R177). -/
def manifestWords (x : Manifest) : List Nat :=
  [x.head % 2 ^ 17 + 2 ^ 17 * (x.tc % 8) + 2 ^ 24 * (x.exc % 256),
   x.len % 2 ^ 18 + 2 ^ 18 * (x.queue % 2 ^ 14),
   x.flow % 2 ^ 16 + 2 ^ 16 * (x.ciphRef % 2 ^ 13) + 2 ^ 29 * (x.ciphOp % 8),
   x.flags % 2 ^ 16 + 2 ^ 16 * (x.src % 2 ^ 16),
   x.stampNs % 2 ^ 32, x.stampS % 2 ^ 32, x.timeNs % 2 ^ 32, x.timeS % 2 ^ 32]

/-- The 32 bytes of a manifest, little-endian (R10, R177). -/
def manifestBytes (x : Manifest) : Bytes := (manifestWords x).flatMap (toBytes 4)

/-- Word `i` of a run of little-endian words. -/
def wordAt (b : Bytes) (i : Nat) : Nat := ofBytes ((b.drop (4 * i)).take 4)

/-- The manifest that 32 bytes spell (R177). -/
def manifestOf (b : Bytes) : Manifest :=
  let w := wordAt b
  { head := bitsOf (w 0) 16 0, tc := bitsOf (w 0) 19 17, exc := bitsOf (w 0) 31 24
    len := bitsOf (w 1) 17 0, queue := bitsOf (w 1) 31 18
    flow := bitsOf (w 2) 15 0, ciphRef := bitsOf (w 2) 28 16, ciphOp := bitsOf (w 2) 31 29
    flags := bitsOf (w 3) 15 0, src := bitsOf (w 3) 31 16
    stampNs := w 4, stampS := w 5, timeNs := w 6, timeS := w 7 }

/-- The bits of FLAGS (R178). -/
def fStampValid : Nat := 0
def fBypass : Nat := 1
def fTsReq : Nat := 2
def fPreemptible : Nat := 3
def fDropEligible : Nat := 4
def fMcast : Nat := 5
def fSpilled : Nat := 8
def fCipherDone : Nat := 11
def fLate : Nat := 12
def fFromTask : Nat := 13
def fWidened : Nat := 14

/-- A manifest with flag `b` made `v`. -/
def setFlag (x : Manifest) (b : Nat) (v : Bool) : Manifest := { x with flags := putBit x.flags b v }

/-- Flag `b` of a manifest. -/
def flagOf (x : Manifest) (b : Nat) : Bool := x.flags.testBit b

/-- TIME_KIND: 0 none, 1 launch time, 2 deadline. -/
def timeKind (x : Manifest) : Nat := bitsOf x.flags 10 9

/-- The source kind and index (R179). -/
def srcKind (x : Manifest) : Nat := bitsOf x.src 15 12
def srcIndex (x : Manifest) : Nat := bitsOf x.src 11 0

/-- The nanoseconds of a short value `v` extended against total nanoseconds `t`: the unique instant congruent to `v`
modulo 2^32 in [t − 2^31, t + 2^31) (R525). -/
def extendShort (t v : Nat) : Nat :=
  let base := t + 2 ^ 31
  let low := base - (base - v % 2 ^ 32) % 2 ^ 32
  if t < 2 ^ 31 ∧ base < v % 2 ^ 32 then v % 2 ^ 32 else low

/-- The manifest of a short manifest's 16 bytes, widened at total nanoseconds `t` for the source `src` (R180, R181). -/
def widen (b : Bytes) (src t : Nat) : Manifest :=
  let w := wordAt b
  let n := extendShort t (w 2)
  { head := bitsOf (w 0) 16 0, tc := bitsOf (w 0) 19 17, len := bitsOf (w 1) 17 0, queue := bitsOf (w 1) 31 18
    flow := bitsOf (w 3) 15 0, flags := setBit (bitsOf (w 3) 23 16) fWidened, src := src
    stampNs := n % 1000000000, stampS := n / 1000000000 % 2 ^ 32 }

/-- The 16 bytes of a manifest narrowed into a compact entry (R180, R182). -/
def narrow (x : Manifest) : Bytes :=
  [x.head % 2 ^ 17 + 2 ^ 17 * (x.tc % 8), x.len % 2 ^ 18 + 2 ^ 18 * (x.queue % 2 ^ 14),
   (x.stampS * 1000000000 + x.stampNs) % 2 ^ 32, x.flow % 2 ^ 16 + 2 ^ 16 * (x.flags % 256)].flatMap (toBytes 4)

/-! ### The queues -/

/-- States of a queue (R184). -/
def qDisabled : Nat := 0
def qEnabled : Nat := 1
def qPaused : Nat := 2
def qFlushing : Nat := 3

/-- The state of queue `q`. -/
def qState (d : Dev) (q : Nat) : Nat := d.rd QMGR_Q_STATE_STATE 0 q

/-- The manifests on queue `q`, head first. -/
def qList (d : Dev) (q : Nat) : List Manifest := tabGet d.q.lists q []

/-- Manifests of queue `q` that a flush or disable is still removing. -/
def qRemoving (d : Dev) (q : Nat) : List Manifest := tabGet d.q.removing q []

/-- Sets the manifests on queue `q`. -/
def setQ (q : Nat) (l : List Manifest) (d : Dev) : Dev :=
  { d with q := { d.q with
    lists := if l.isEmpty then tabDel d.q.lists q else tabSet d.q.lists q l
    filled := if l.isEmpty then tabDel d.q.filled q
      else if (qList d q).isEmpty then tabSet d.q.filled q (nowTotal d) else d.q.filled } }

/-- Sets the manifests that a removal of queue `q` still holds. -/
def setRemoving (q : Nat) (l : List Manifest) (d : Dev) : Dev :=
  { d with q := { d.q with removing := if l.isEmpty then tabDel d.q.removing q else tabSet d.q.removing q l } }

/-- Free entries of the manifest store. -/
def storeFree (d : Dev) : Nat :=
  65536 - (d.q.lists.map (fun e => e.2.length)).sum - (d.q.removing.map (fun e => e.2.length)).sum

/-- DEPTH_LIMIT of queue `q`; 0 acts as 1. -/
def depthLimit (d : Dev) (q : Nat) : Nat := max 1 (d.rd QMGR_Q_LIMIT_DEPTH_LIMIT 0 q)

/-- Every queue that is not DISABLED. -/
def liveQueues (d : Dev) : List Nat :=
  d.regs.filterMap (fun e =>
    if e.1.reg = (QMGR_Q_STATE_STATE.key 0 0).reg ∧ e.2 ≠ 0 then some e.1.idx else none)

/-- OWNER_KIND and OWNER_INDEX of queue `q`. -/
def ownerKind (d : Dev) (q : Nat) : Nat := d.rd QMGR_Q_CFG_OWNER_KIND 0 q
def ownerRaw (d : Dev) (q : Nat) : Nat := d.rd QMGR_Q_CFG_OWNER_INDEX 0 q

/-- The part of OWNER_INDEX that names the owner of a kind (R183). -/
def ownerPart (kind idx : Nat) : Nat :=
  match kind with
  | 1 => bitsOf idx 14 0
  | 2 => bitsOf idx 6 0
  | 3 => bitsOf idx 9 0
  | 4 => bitsOf idx 3 0
  | 5 => bitsOf idx 5 0
  | 6 => bitsOf idx 7 0
  | _ => 0

/-- The owner that queue `q` names, without the bits its kind ignores. -/
def ownerIndex (d : Dev) (q : Nat) : Nat := ownerPart (ownerKind d q) (ownerRaw d q)

/-- Stations in the table of the variant (R349). -/
def stationCount (v : Variant) : Nat := match v with
  | .nv9720 => 1024
  | _ => 2048

/-- The owner is one that R183 and R184 allow on this variant. -/
def ownerValid (v : Variant) (kind idx : Nat) : Bool :=
  match kind with
  | 1 => decide (idx / 16 < stationCount v) && decide (idx % 16 ≤ 8)
  | 2 => decide (idx / 16 ≤ (if v = .nv9720 then 3 else 5)) && decide (idx % 16 < 8)
  | 3 => v != .nv9720
  | 4 => true
  | 5 => true
  | 6 => decide (idx ≤ 47)
  | _ => false

/-- Another queue that is not DISABLED has the owner of queue `q`, where R183 forbids it. -/
def ownerTaken (d : Dev) (q : Nat) : Bool :=
  has [1, 2, 3, 4, 6] (ownerKind d q) &&
  (liveQueues d).any (fun r => r != q && ownerKind d r == ownerKind d q && ownerIndex d r == ownerIndex d q)

/-- R188: the three cases of an invalid manifest. -/
def manifestBad (x : Manifest) : Bool :=
  x.len == 0 || timeKind x == 3 || decide (5 ≤ x.ciphOp) || (timeKind x != 0 && decide (1000000000 ≤ x.timeNs))

/-- R186: why a valid manifest is refused on its queue. -/
def enqRefused (d : Dev) (reserveUse : Bool) (q : Nat) : Bool :=
  qState d q == qDisabled || qState d q == qFlushing || decide (depthLimit d q ≤ (qList d q).length) ||
  (if reserveUse || ownerKind d q == 4 then storeFree d == 0
   else decide (storeFree d ≤ d.rd QMGR_STORE_RSV_RESERVE))

/-- Puts a manifest at the tail of its queue: counted, and STORE_LOW raised where the free entries fall to
QMGR_STORE_RSV. -/
def qAppend (x : Manifest) (d : Dev) : Dev :=
  let before := storeFree d
  let d1 := count QMGR_Q_ENQ_COUNT 0 x.queue (setQ x.queue (qList d x.queue ++ [x]) d)
  if d.rd QMGR_STORE_RSV_RESERVE < before ∧ storeFree d1 ≤ d.rd QMGR_STORE_RSV_RESERVE then raiseBit pQmgr 3 d1 else d1

/-- An enqueue of `x` on its queue (R186, R188, R131): whether it is accepted. `reserveUse` for a manifest that a
Drover task returns; `further` for a caravan that another enqueue already counts. -/
def tryEnqueue (x : Manifest) (reserveUse further : Bool) (d : Dev) : Bool × Dev :=
  if manifestBad x then
    (false, raiseBit pQmgr 4 (fault0 pQmgr 0x40 0 x.queue (count QMGR_BAD_COUNT 0 0 d)))
  else if enqRefused d reserveUse x.queue then (false, count QMGR_Q_DROP_COUNT 0 x.queue d)
  else if further then
    let r := refUp x.head d
    if r.1 then (true, qAppend x r.2) else (false, r.2)
  else (true, qAppend x d)

/-- Ring `n` beyond its registers. -/
def ringOf (d : Dev) (n : Nat) : Ring := tabGet d.q.rings n {}

/-- Changes what ring `n` holds beyond its registers. -/
def ringMod (n : Nat) (f : Ring → Ring) (d : Dev) : Dev :=
  { d with q := { d.q with rings := tabMod d.q.rings n {} f } }

/-- The egress or the drop of a frame that TX entry `head` of a ring waits for: STATUS and stamp (R199). -/
def ringResult (x : Manifest) (status ns s : Nat) (d : Dev) : Dev :=
  if srcKind x = 4 && flagOf x fTsReq then
    ringMod (srcIndex x) (fun r => { r with
      waits := r.waits.map (fun w =>
        if w.head = x.head ∧ w.result = none then { w with result := some (status, ns, s) } else w) }) d
  else d

/-- The frame of `x` is dropped: a descriptor that waits for its egress completes with STATUS 0x02 (R199). -/
def frameDropped (x : Manifest) (d : Dev) : Dev := ringResult x 2 0 0 d

/-- Where a unit counts a copy that it drops (R187). -/
def countEnqDrop (u : EnqUnit) (d : Dev) : Dev :=
  match u with
  | .waystation => count WAY_ENQ_DROP_COUNT 0 0 d
  | .cipher => count CIPH_MAN_DROP_COUNT 0 0 d
  | .outrider => count OM_ENQ_DROP_COUNT 0 0 d
  | .convoy => count CVY_REFUSED_COUNT 0 0 d
  | .hostRing => d
  | .drover => d
  | .core => d

/-- A unit drops its copy: counted, and 1 taken from the reference count (R187); a copy that the refused count
would have added is not taken off. -/
def dropCopy (u : EnqUnit) (x : Manifest) (further : Bool) (d : Dev) : Dev :=
  let d1 := countEnqDrop u d
  if further then d1 else refDown x.head (if u = .hostRing then d1 else frameDropped x d1)

/-- An enqueue with the action of R187 on a refusal. A Drover return keeps the count and reports; a host ring's retry
is its own operation. -/
def enqueueFrom (u : EnqUnit) (x : Manifest) (further : Bool) (d : Dev) : Bool × Dev :=
  let r := tryEnqueue x (u == .drover) further d
  if r.1 then r
  else match u with
    | .drover => r
    | _ => (false, dropCopy u x further r.2)

/-- Takes the head of queue `q`. -/
def dequeue (q : Nat) (d : Dev) : Option Manifest × Dev :=
  match qList d q with
  | [] => (none, d)
  | x :: l => (some x, setQ q l d)

/-- Changes what the traffic manager holds beyond its registers. -/
def tmMod (f : TmUnit → TmUnit) (d : Dev) : Dev := { d with tm := f d.tm }

/-- The manifests that decisions have handed to output `o`, oldest first. -/
def handedTo (d : Dev) (o : Nat) : List Manifest := tabGet d.tm.handed o []

/-- Sets what stands before output `o`. -/
def setHanded (o : Nat) (l : List Manifest) (d : Dev) : Dev :=
  tmMod (fun t => { t with handed := if l.isEmpty then tabDel t.handed o else tabSet t.handed o l }) d

/-- Puts a manifest before output `o`. -/
def handTo (o : Nat) (x : Manifest) (d : Dev) : Dev := setHanded o (handedTo d o ++ [x]) d

/-- Takes the oldest manifest that stands before output `o` and satisfies `p`. -/
def takeHanded (o : Nat) (p : Manifest → Bool) (d : Dev) : Option Manifest × Dev :=
  match (handedTo d o).find? p with
  | none => (none, d)
  | some x => (some x, setHanded o (dropFirst p (handedTo d o)) d)

/-- Takes every reference of the manifests that a removal dropped (R185). -/
def dropAll (q : Nat) (l : List Manifest) (d : Dev) : Dev :=
  l.foldl (fun e x => count QMGR_Q_DROP_COUNT 0 q (refDown x.head (frameDropped x e))) d

/-! ### QMGR_Q_CMD (R184, R185, R210, R820) -/

/-- Sets RESULT of queue `q`. -/
def setQResult (q r : Nat) (d : Dev) : Dev := d.put QMGR_Q_CMD_RESULT r 0 q

/-- ENABLE of queue `q`. -/
def qEnableEff (q : Nat) (d : Dev) : Dev :=
  if qState d q ≠ qDisabled ∨ !ownerValid d.variant (ownerKind d q) (ownerIndex d q) then setQResult q 1 d
  else if ownerTaken d q then setQResult q 2 d
  else setQResult q 0 (d.put QMGR_Q_STATE_STATE qEnabled 0 q)

/-- PAUSE of queue `q`. -/
def qPauseEff (q : Nat) (d : Dev) : Dev :=
  if qState d q = qEnabled then setQResult q 0 (d.put QMGR_Q_STATE_STATE qPaused 0 q) else setQResult q 1 d

/-- RESUME of queue `q`. -/
def qResumeEff (q : Nat) (d : Dev) : Dev :=
  if qState d q = qPaused then setQResult q 0 (d.put QMGR_Q_STATE_STATE qEnabled 0 q) else setQResult q 1 d

/-- The manifests on queue `q` when the command is accepted are to be removed; BUSY holds until they are (R185). -/
def startRemoval (q : Nat) (d : Dev) : Dev :=
  setRemoving q (qRemoving d q ++ qList d q) (setQ q [] (d.put QMGR_Q_CMD_BUSY 1 0 q))

/-- FLUSH of queue `q`. -/
def qFlushEff (q : Nat) (d : Dev) : Dev :=
  if qState d q = qEnabled ∨ qState d q = qPaused then setQResult q 0 (startRemoval q d) else setQResult q 1 d

/-- DISABLE of queue `q`. -/
def qDisableEff (q : Nat) (d : Dev) : Dev :=
  if qState d q = qEnabled ∨ qState d q = qPaused then
    setQResult q 0 (startRemoval q (d.put QMGR_Q_STATE_STATE qFlushing 0 q))
  else setQResult q 1 d

/-- The removal of queue `q`'s manifests ends: BUSY clears, and a FLUSHING queue ends DISABLED (R185). -/
def removalDone (q : Nat) (d : Dev) : Dev :=
  let d1 := dropAll q (qRemoving d q) (setRemoving q [] d)
  let d2 := d1.put QMGR_Q_CMD_BUSY 0 0 q
  if qState d2 q = qFlushing then d2.put QMGR_Q_STATE_STATE qDisabled 0 q else d2

/-- The queue that QMGR_Q_IDX names (R210). -/
def qSelected (d : Dev) : Nat := d.rd QMGR_Q_IDX_QUEUE

/-- A write of QMGR_Q_CMD with a command `f`: discarded with code 0x41 while BUSY, refused while QMGR is not Active. -/
def qCommand (m : Nat) (f : Nat → Dev → Dev) (d : Dev) : Dev :=
  let q := qSelected d
  if d.on QMGR_Q_CMD_BUSY 0 q then refuseWrite pQmgr 0x41 m (regAddr pQmgr 0x060) d
  else if !isActive d pQmgr then setQResult q 1 d
  else f q d

/-- A write of QMGR_Q_CMD by its CMD code; 0 starts nothing, and an undefined code is refused (R820). -/
def qCmdWrite (m v : Nat) (d : Dev) : Dev :=
  match v % 8 with
  | 0 => d
  | 1 => qCommand m qEnableEff d
  | 2 => qCommand m qPauseEff d
  | 3 => qCommand m qResumeEff d
  | 4 => qCommand m qFlushEff d
  | 5 => qCommand m qDisableEff d
  | _ => qCommand m (fun q => setQResult q 1) d

/-- A QMGR drain disables every queue (R185). -/
def qmgrDrain (d : Dev) : Dev :=
  (liveQueues d).foldl (fun e q =>
    startRemoval q (e.put QMGR_Q_STATE_STATE qFlushing 0 q)) d

/-- Every removal under way ends at once: at the end of a drain and at a soft reset. -/
def qmgrEmpty (d : Dev) : Dev := (liveQueues d).foldl (fun e q => removalDone q e) d

/-! ### Meanings -/

/-- R186: a unit enqueues a manifest. -/
def execEnqueue (u : EnqUnit) (x : Manifest) (further : Bool) (s : State) : Host.Outcome State Fault Refusal :=
  upd s (fun d => (enqueueFrom u x further d).2)

def execQEnable (m : Nat) (s : State) : Host.Outcome State Fault Refusal :=
  upd s (cmdWrite pQmgr 0x060 m (qCommand m qEnableEff))

def execQPause (m : Nat) (s : State) : Host.Outcome State Fault Refusal :=
  upd s (cmdWrite pQmgr 0x060 m (qCommand m qPauseEff))

def execQResume (m : Nat) (s : State) : Host.Outcome State Fault Refusal :=
  upd s (cmdWrite pQmgr 0x060 m (qCommand m qResumeEff))

def execQFlush (m : Nat) (s : State) : Host.Outcome State Fault Refusal :=
  upd s (cmdWrite pQmgr 0x060 m (qCommand m qFlushEff))

def execQDisable (m : Nat) (s : State) : Host.Outcome State Fault Refusal :=
  upd s (cmdWrite pQmgr 0x060 m (qCommand m qDisableEff))

/-- R185: the removal of queue `q`'s manifests ends. -/
def execQRemovalDone (q : Nat) (s : State) : Host.Outcome State Fault Refusal :=
  upd s (fun d => if d.on QMGR_Q_CMD_BUSY 0 q then removalDone q d else d)

end Sys2Proof.Machine
end

