-- ==== Sys2Proof/Machine/Rings.lean ====
section
/-! DEFINITION. Host rings (spec/05_manifests.md R191–R209). -/

namespace Sys2Proof.Machine

open Sys2Proof

/-- First page of HOSTRING, and the pages of ring `n`'s registers and of its indices. -/
def pRing : Nat := 0x20
def pRingRegs (n : Nat) : Nat := 0x21 + n / 16
def pRingIdx : Nat := 0x25

/-- Offset of register `o` of ring `n` on its page. -/
def ringOff (n o : Nat) : Nat := 0x100 + 0x40 * (n % 16) + o

/-- Indices are 32-bit counts. -/
def idxMod : Nat := 2 ^ 32

/-- `a − b` of two free-running indices. -/
def idxSub (a b : Nat) : Nat := (a + idxMod - b % idxMod) % idxMod

def swIdx (d : Dev) (n : Nat) : Nat := d.rd HR_SW_IDX_SW_IDX 0 n
def hwIdx (d : Dev) (n : Nat) : Nat := d.rd HR_HW_IDX_HW_IDX 0 n
def ringSize (d : Dev) (n : Nat) : Nat := 2 ^ d.rd HR_CFG_LOG2SIZE 0 n
def ringMaster (d : Dev) (n : Nat) : Nat := d.rd HR_CFG_MASTER 0 n
def ringIsTx (d : Dev) (n : Nat) : Bool := d.rd HR_CFG_DIR 0 n == 0
def ringIsBuffer (d : Dev) (n : Nat) : Bool := d.rd HR_CFG_KIND 0 n == 1
def ringCompact (d : Dev) (n : Nat) : Bool := d.on HR_CFG_COMPACT 0 n
def ringActive (d : Dev) (n : Nat) : Bool := d.on HR_STATUS_ACTIVE 0 n && isActive d pRing

/-- Bytes of an entry. -/
def entryBytes (d : Dev) (n : Nat) : Nat := if ringCompact d n then 16 else 32

/-- BASE of ring `n`. -/
def ringBase (d : Dev) (n : Nat) : Nat := d.rd HR_BASE_LO_BASE 0 n + 2 ^ 32 * d.rd HR_BASE_HI_BASE 0 n

/-- The physical address of entry `i` (R192, R193). -/
def entryAddr (d : Dev) (n i : Nat) : Nat :=
  (if d.on HR_CFG_LOC 0 n then ringBase d n else seraiBase + 256 * bitsOf (ringBase d n) 16 0)
    + entryBytes d n * (i % ringSize d n)

/-- The first cell and the number of cells that a Serai ring claims (R193). -/
def ringFirstCell (d : Dev) (n : Nat) : Nat := bitsOf (ringBase d n) 16 0
def ringCells (d : Dev) (n : Nat) : Nat := (ringSize d n * entryBytes d n + 255) / 256

/-- Entries of ring `n` that the device owns (R191). -/
def ownedByDevice (d : Dev) (n : Nat) : Nat :=
  if ringIsBuffer d n || ringIsTx d n then idxSub (swIdx d n) (hwIdx d n)
  else ringSize d n - idxSub (hwIdx d n) (swIdx d n)

/-! ### Events and delivery (R206–R209) -/

/-- Sets an error of ring `n` and raises RING_ERROR. -/
def ringError (n code : Nat) (d : Dev) : Dev := raiseBit pRing 4 (d.put HR_STATUS_ERROR code 0 n)

/-- A buffer access of ring `n` failed (STATUS 0x04). -/
def bufferFailed (n a : Nat) (write : Bool) (d : Dev) : Dev :=
  ringError n 4 (report ⟨pRing, 0x42, 0, if write then 1 else 0, ringMaster d n, a⟩ d)

/-- A write of `bs` at `a` in the address space of ring `n`'s master (R196). -/
def masterWrite (n a : Nat) (bs : Bytes) (d : Dev) (m : Memory) : Dev × Memory :=
  if ringMaster d n = 17 then (emit (.hostWrite a bs) d, m)
  else
    let r := unitWrite (ringMaster d n) a bs d m
    (r.2.1, r.2.2)

/-- Posts flag `flag` to task `task`, or holds the edge of ring `n` while the event-post queue is full (R52, R208). -/
def ringPost (n : Nat) (d : Dev) : Dev :=
  if postRoom d then
    pushPost { task := d.rd HR_ROUTE_TASK 0 n, flag := d.rd HR_ROUTE_FLAG 0 n, item := none } d
  else { d with sh := { d.sh with heldLines := addOnce d.sh.heldLines (1024 + n) } }

/-- The interrupt of ring `n` along HR_ROUTE (R208). -/
def ringInterrupt (n : Nat) (d : Dev) : Dev :=
  match d.rd HR_ROUTE_KIND 0 n with
  | 0 => raiseBit pRing 3 (d.put HR_EVENT_PEND_RING (setBit (d.rd HR_EVENT_PEND_RING 0 (n / 32)) (n % 32)) 0 (n / 32))
  | 1 => msixFire (d.rd HR_ROUTE_VECTOR 0 n) d
  | 2 => ringPost n d
  | _ => d

/-- Firing: write-back when enabled, interrupt, PENDING cleared, disarmed (R206). -/
def ringFire (n : Nat) (d : Dev) (m : Memory) : Dev × Memory :=
  let r := if d.on HR_WB_LO_WB_EN 0 n then
      masterWrite n (4 * d.rd HR_WB_LO_ADDR 0 n + 2 ^ 32 * d.rd HR_WB_HI_ADDR 0 n) (toBytes 4 (hwIdx d n)) d m
    else (d, m)
  (ringMod n (fun x => { x with firstEvent := none })
    (((ringInterrupt n r.1).put HR_STATUS_PENDING 0 0 n).put HR_STATUS_ARMED 0 0 n), r.2)

/-- PENDING meets a threshold: the packet count, or the time since the first event counted in it. -/
def thresholdMet (d : Dev) (n : Nat) : Bool :=
  let p := d.rd HR_STATUS_PENDING 0 n
  let t := d.rd HR_MOD_TIME_THRESH 0 n
  decide (max 1 (d.rd HR_MOD_PKT_THRESH 0 n) ≤ p) ||
  (decide (0 < p) && decide (0 < t) && match (ringOf d n).firstEvent with
    | some f => decide (f + 500 * t ≤ d.tb.elapsed)
    | none => false)

/-- An armed ring fires where a threshold is met. -/
def fireIfMet (n : Nat) (d : Dev) (m : Memory) : Dev × Memory :=
  if d.on HR_STATUS_ARMED 0 n && thresholdMet d n then ringFire n d m else (d, m)

/-- HW_IDX of ring `n` advances by `k` entries, each an event (R206). -/
def advance (n k : Nat) (d : Dev) : Dev :=
  if k = 0 then d
  else
    let d1 := bump HR_COUNT_COUNT 0 n k (d.put HR_HW_IDX_HW_IDX ((hwIdx d n + k) % idxMod) 0 n)
    let d2 := ringMod n (fun x => { x with firstEvent := x.firstEvent.orElse (fun _ => some d1.tb.elapsed) }) d1
    satPut HR_STATUS_PENDING 0 n k d2

/-! ### Enable, claim and disable (R191–R193, R204, R205) -/

/-- R191: the combination of KIND, DIR, MASTER and COMPACT is allowed. -/
def ringComboOk (d : Dev) (n : Nat) : Bool :=
  let k := d.rd HR_CFG_KIND 0 n
  let m := ringMaster d n
  ((k == 0 && decide (m < 8)) || (k == 1 && (m == 17 || decide (m < 8)))) &&
  (!ringCompact d n || (feat d pRing 2 7 && k == 0))

/-- R192: the limits of a ring of master 17. -/
def ringHostOk (d : Dev) (n : Nat) : Bool :=
  ringMaster d n != 17 || (!d.on HR_CFG_LOC 0 n && decide (d.rd HR_CFG_LOG2SIZE 0 n ≤ 14))

/-- A ring that is enabled starts: a Serai ring claims its cells, a DRAM ring becomes active. -/
def ringStart (n : Nat) (d : Dev) : Dev :=
  if d.on HR_CFG_LOC 0 n then d.put HR_STATUS_ACTIVE 1 0 n
  else ringMod n (fun x => { x with claiming := true }) d

/-- HR_CFG.EN of ring `n` goes to 1 (R204, R205). -/
def ringEnable (n : Nat) (d : Dev) : Dev :=
  if d.on HR_CFG_EN 0 n then d
  else if !ringComboOk d n then ringError n 3 d
  else if !ringHostOk d n then ringError n 5 d
  else
    let d1 := ((((((d.put HR_CFG_EN 1 0 n).put HR_STATUS_ERROR 0 0 n).put HR_SW_IDX_SW_IDX 0 0 n).put
      HR_HW_IDX_HW_IDX 0 0 n).put HR_STATUS_PENDING 0 0 n).put HR_STATUS_ARMED 1 0 n)
    let d2 := ringMod n (fun _ => {}) d1
    if isActive d2 pRing then ringStart n d2 else d2

/-- The claim of ring `n` fails. -/
def claimFailed (n code : Nat) (d : Dev) : Dev :=
  ringError n code (fault0 pRing 0x41 0 n (ringMod n (fun _ => {}) (d.put HR_CFG_EN 0 0 n)))

/-- The owner class of a Serai ring's cells (R193). -/
def ringClass (d : Dev) (n : Nat) : Nat := if ringMaster d n = 17 then 2 else 3

/-- The cell claim of ring `n` completes or fails (R193). -/
def ringClaim (n : Nat) (d : Dev) : Dev :=
  let cells := (List.range (ringCells d n)).map (ringFirstCell d n + ·)
  let c := ringClass d n
  if cells.any (fun x => decide (cellCount ≤ x) || (tabFind d.ser.use x).isSome || has d.ser.quar x) then
    claimFailed n 1 d
  else match admitTest d c cells.length with
    | none => claimFailed n 2 (refuseAdmit c d)
    | some g =>
      let d1 := settle (useCells c cells (chargeGrant g c cells.length (beyondReserve d c cells.length) d))
      (ringMod n (fun x => { x with claiming := false, claimed := cells }) d1).put HR_STATUS_ACTIVE 1 0 n

/-- The bytes of a completed TX descriptor: DONE and STATUS, and the stamp in TIME where it was requested (R196). -/
def txCompletion (old : Bytes) (tsReq : Bool) (r : Nat × Nat × Nat) : Bytes :=
  let w3 := setBit (wordAt old 3) 31
  let time := if tsReq && r.1 != 2 && r.1 != 3 && r.1 != 4 && r.1 != 5 then toBytes 4 r.2.1 ++ toBytes 4 r.2.2
    else (old.drop 16).take 8
  old.take 12 ++ toBytes 4 w3 ++ time ++ toBytes 1 r.1 ++ old.drop 25

/-- Writes the completion of a descriptor, or the stamp of a manifest entry (R199, R201). -/
def writeCompletion (n : Nat) (w : TxWait) (r : Nat × Nat × Nat) (d : Dev) (m : Memory) : Dev × Memory :=
  let a := entryAddr d n w.idx
  if ringIsBuffer d n then
    let old := unitRead (ringMaster d n) a 32 d m
    let x := unitWrite (ringMaster d n) a (txCompletion old.1 w.tsReq r) old.2.2 m
    (x.2.1, x.2.2)
  else if w.tsReq && (r.1 == 0 || r.1 == 1) then
    let sz := entryBytes d n
    let old := unitRead (ringMaster d n) a sz d m
    let new := if ringCompact d n then
        old.1.take 8 ++ toBytes 4 ((r.2.2 * 1000000000 + r.2.1) % 2 ^ 32) ++ (old.1.drop 12).take 2 ++
          toBytes 1 (setBit (bitsOf (wordAt old.1 3) 23 16) fStampValid) ++ old.1.drop 15
      else
        old.1.take 12 ++ toBytes 4 (setBit (wordAt old.1 3) fStampValid) ++ toBytes 4 r.2.1 ++ toBytes 4 r.2.2 ++
          old.1.drop 24
    let x := unitWrite (ringMaster d n) a new old.2.2 m
    (x.2.1, x.2.2)
  else (d, m)

/-- The contiguous run of completed entries at the front of the waiting ones. -/
def doneRun : List TxWait → Nat
  | [] => 0
  | w :: l => if w.done then doneRun l + 1 else 0

/-- HW_IDX passes the contiguous run of completed entries (R199). -/
def passDone (n : Nat) (d : Dev) : Dev :=
  let k := doneRun (ringOf d n).waits
  advance n k (ringMod n (fun x => { x with waits := x.waits.drop k }) d)

/-- Entry `idx` of ring `n` completes, its result being known. -/
def txComplete (n idx : Nat) (d : Dev) (m : Memory) : Dev × Memory :=
  match (ringOf d n).waits.find? (fun w => w.idx == idx && !w.done) with
  | none => (d, m)
  | some w => match w.result with
    | none => (d, m)
    | some r =>
      let x := writeCompletion n w r d m
      (passDone n (ringMod n (fun y => { y with
        waits := y.waits.map (fun v => if v.idx = idx then { v with done := true } else v) }) x.1), x.2)

/-- The drain of ring `n`: the entry in progress finishes, its caravan is freed, the claimed cells return and the ring
is off with its indices as they were (R193, R204, R205). -/
def ringStop (n : Nat) (d : Dev) (m : Memory) : Dev × Memory :=
  let r := ringOf d n
  let x := match r.retry with
    | none => (d, m)
    | some y => writeCompletion n ⟨r.retryIdx, y.head, false, none, false⟩ (3, 0, 0) (refDown y.head d) m
  let d2 := freeCellsOf r.claimed (ringMod n (fun _ => {}) x.1)
  ((d2.put HR_CFG_EN 0 0 n).put HR_STATUS_ACTIVE 0 0 n, x.2)

/-- HR_CFG.EN of ring `n` goes to 0. -/
def ringDisable (n : Nat) (d : Dev) (m : Memory) : Dev × Memory :=
  if d.on HR_CFG_EN 0 n then ringStop n d m else (d, m)

/-! ### Doorbells (R194, R195, R203) -/

/-- R194: the new SW_IDX neither moves backward nor gives software's side more than the ring size. -/
def doorbellOk (d : Dev) (n v : Nat) : Bool :=
  if ringIsBuffer d n || ringIsTx d n then
    decide (idxSub (swIdx d n) (hwIdx d n) ≤ idxSub v (hwIdx d n)) && decide (idxSub v (hwIdx d n) ≤ ringSize d n)
  else decide (idxSub (hwIdx d n) v ≤ idxSub (hwIdx d n) (swIdx d n))

/-- The caravans of the `k` entries from index `i` lose 1 each (R203). -/
def freePassed (n : Nat) : Nat → Nat → Dev → Memory → Dev
  | 0, _, d, _ => d
  | k + 1, i, d, m =>
    let e := unitRead (ringMaster d n) (entryAddr d n i) 4 d m
    freePassed n k ((i + 1) % idxMod) (refDown (bitsOf (wordAt e.1 0) 16 0) e.2.2) m

/-- A write of HR_SW_IDX of ring `n` by master `m`. -/
def doorbell (m n v : Nat) (d : Dev) (mem : Memory) : Dev :=
  let v' := v % idxMod
  if !doorbellOk d n v' then refuseWrite pRing 0x43 m (regAddr pRingIdx (0x100 + 8 * n)) d
  else
    let d1 := d.put HR_SW_IDX_SW_IDX v' 0 n
    if !ringIsTx d n && !ringIsBuffer d n && d.on HR_CFG_AUTO_FREE 0 n && ringActive d n then
      freePassed n (idxSub v' (swIdx d n)) (swIdx d n) d1 mem
    else d1

/-! ### TX rings (R197–R202) -/

/-- The entry that the engine takes next, if it may take one: the ring is an active TX ring with an entry of its own, no
enqueue is being retried, and the inbound side is open (R823). -/
def txNext (d : Dev) (n : Nat) : Option Nat :=
  let r := ringOf d n
  if ringActive d n && ringIsTx d n && r.retry.isNone && !d.rst.inboundClosed && r.next != swIdx d n then some r.next
  else none

/-- Records entry `i` of ring `n` as taken, with its result where it is known. -/
def txTaken (n i head : Nat) (ts : Bool) (res : Option (Nat × Nat × Nat)) (d : Dev) : Dev :=
  ringMod n (fun r => { r with next := (i + 1) % idxMod, waits := r.waits ++ [⟨i, head, ts, res, false⟩] }) d

/-- Hands a manifest to the Waystation. -/
def toWaystation (x : Manifest) (d : Dev) : Dev := { d with q := { d.q with toWay := d.q.toWay ++ [x] } }

/-- The ring hands on a manifest: to the Waystation, or to its queue when BYPASS is set; a refused enqueue is retried
with FULL_WAIT = 1 and else dropped with STATUS 0x03 (R187, R197). `res` is the result without TS_REQ. -/
def ringHandOn (n i : Nat) (x : Manifest) (d : Dev) : Dev :=
  let res := if flagOf x fTsReq then none else some (0, 0, 0)
  if flagOf x fBypass then
    let r := tryEnqueue x false false d
    if r.1 then txTaken n i x.head (flagOf x fTsReq) res r.2
    else if d.on HR_CFG_FULL_WAIT 0 n then ringMod n (fun y => { y with retry := some x, retryIdx := i }) r.2
    else txTaken n i x.head (flagOf x fTsReq) (some (3, 0, 0)) (refDown x.head r.2)
  else txTaken n i x.head (flagOf x fTsReq) res (toWaystation x d)

/-- SRC of ring `n` (R179). -/
def ringSrc (n : Nat) : Nat := 0x4000 + n

/-- The manifest of a TX descriptor whose frame lies in the caravan with head `h` (R196, R197). -/
def txManifest (n h : Nat) (e : Bytes) : Manifest :=
  let w := wordAt e
  let launch := (w 3).testBit 25
  { head := h, tc := bitsOf (w 3) 18 16, len := bitsOf (w 2) 17 0
    queue := if (w 3).testBit 26 then bitsOf (w 2) 31 18 else 0
    flow := bitsOf (w 3) 15 0
    flags := putBit (putBit (if launch then 2 ^ 9 else 0) fTsReq ((w 3).testBit 24)) fBypass ((w 3).testBit 26)
    src := ringSrc n
    timeNs := if launch then w 4 else 0, timeS := if launch then w 5 else 0 }

/-- The bytes of a TX descriptor's buffer, none where the access fails. -/
def txBuffer (n a len : Nat) (host : Option Bytes) (d : Dev) (m : Memory) : Option Bytes × Dev :=
  if ringMaster d n = 17 then
    (match host with
     | some b => if len ≤ b.length then some (b.take len) else none
     | none => none, d)
  else
    let r := unitRead (ringMaster d n) a len d m
    (if r.2.1 then some r.1 else none, r.2.2)

/-- The engine takes TX descriptor `i` of ring `n` (R197). A refused admission leaves it on the ring (R154). -/
def txDescriptor (n i : Nat) (host : Option Bytes) (d : Dev) (m : Memory) : Dev × Memory :=
  let e := unitRead (ringMaster d n) (entryAddr d n i) 32 d m
  let len := bitsOf (wordAt e.1 2) 17 0
  let ts := (wordAt e.1 3).testBit 24
  if len = 0 then (txTaken n i 0 ts (some (5, 0, 0)) e.2.2, m)
  else
    let r := admitFrame 2 len e.2.2
    match r.1 with
    | none => (r.2, m)
    | some h =>
      let a := ofBytes (e.1.take 8)
      let b := txBuffer n a len host r.2 m
      match b.1 with
      | none => (txTaken n i 0 ts (some (4, 0, 0)) (bufferFailed n a false (refDown h b.2)), m)
      | some bs =>
        let words := frameWords b.2 h 0 len
        (ringHandOn n i (txManifest n h e.1) (clearPoison words b.2), writeFrame b.2 h bs m)

/-- The engine takes TX manifest-ring entry `i` of ring `n` (R202). -/
def txManifestEntry (n i : Nat) (d : Dev) (m : Memory) : Dev × Memory :=
  let e := unitRead (ringMaster d n) (entryAddr d n i) (entryBytes d n) d m
  let x := if ringCompact d n then widen e.1 (ringSrc n) (nowTotal d) else manifestOf e.1
  let d1 := ringHandOn n i x (moveCharge x.head 3 e.2.2)
  txComplete n i d1 m

/-! ### RX rings (R200, R203) -/

/-- Fresh bytes that the spec leaves open. -/
def drawBytes : Nat → Dev → Bytes × Dev
  | 0, d => ([], d)
  | k + 1, d =>
    let r := draw d
    let rest := drawBytes k r.2
    (BitVec.ofNat 8 r.1 :: rest.1, rest.2)

/-- A descriptor that the engine fills with `cnt` bytes of the frame of `x` (R196, R200). -/
def rxCompletion (old : Bytes) (x : Manifest) (q cnt status : Nat) (more : Bool) : Bytes :=
  old.take 8 ++ toBytes 4 (cnt % 2 ^ 18 + 2 ^ 18 * (q % 2 ^ 14)) ++
  toBytes 4 (putBit (setBit ((x.flow % 2 ^ 16 + 2 ^ 16 * (x.tc % 8)) + (wordAt old 3 / 2 ^ 19 % 2 ^ 8) * 2 ^ 19) 31)
    27 more) ++
  toBytes 4 x.stampNs ++ toBytes 4 x.stampS ++ toBytes 1 status ++ toBytes 1 x.exc ++ toBytes 2 x.src ++ old.drop 28

/-- Fills posted descriptors from index `i` with the bytes of a frame from byte `pos`; `fuel` descriptors are owned by
the device. The number of descriptors filled. -/
def rxFill (n q : Nat) (x : Manifest) (hostOk poisoned : Bool) :
    Nat → Nat → Nat → Dev → Memory → Nat × Dev × Memory
  | 0, _, _, d, m => (0, d, m)
  | k + 1, i, pos, d, m =>
    let ma := ringMaster d n
    let e := unitRead ma (entryAddr d n i) 32 d m
    let size := bitsOf (wordAt e.1 2) 17 0
    let cnt := min size (x.len - pos)
    let a := ofBytes (e.1.take 8)
    let data := if poisoned then drawBytes cnt e.2.2 else (readFrame e.2.2 m x.head pos cnt, e.2.2)
    let w := if ma = 17 then (hostOk, if hostOk then emit (.hostWrite a data.1) data.2 else data.2, m)
      else if cnt = 0 then (true, data.2, m) else unitWrite ma a data.1 data.2 m
    let last := x.len ≤ pos + cnt || k == 0
    let status := if !w.1 then 4 else if poisoned then 6 else 0
    let d1 := if w.1 then w.2.1 else bufferFailed n a true w.2.1
    let c := unitWrite ma (entryAddr d n i) (rxCompletion e.1 x q cnt status (!last)) d1 w.2.2
    if last then (1, c.2.1, c.2.2)
    else
      let r := rxFill n q x hostOk poisoned k ((i + 1) % idxMod) (pos + cnt) c.2.1 c.2.2
      (r.1 + 1, r.2.1, r.2.2)

/-- A frame is delivered into posted buffers of ring `n`. -/
def rxBuffer (n : Nat) (x : Manifest) (hostOk : Bool) (d : Dev) (m : Memory) : Dev × Memory :=
  let e := unitRead (ringMaster d n) (entryAddr d n (hwIdx d n)) 32 d m
  let bad := framePoisoned d x.head 0 x.len
  let r := rxFill n x.queue x hostOk bad (ownedByDevice d n) (hwIdx d n) 0 e.2.2 m
  (advance n r.1 (refDown x.head r.2.1), r.2.2)

/-- A manifest is written into the next free entry of ring `n` (R182, R203). -/
def rxManifest (n : Nat) (x : Manifest) (d : Dev) (m : Memory) : Dev × Memory :=
  let w := unitWrite (ringMaster d n) (entryAddr d n (hwIdx d n))
    (if ringCompact d n then narrow x else manifestBytes x) d m
  (advance n 1 w.2.1, w.2.2)

/-- Ring `n` can be served with a frame of `len` bytes: enough posted descriptors, judged by the size of the head one,
or a free entry (R200, R203). -/
def ringRoom (d : Dev) (m : Memory) (n len : Nat) : Bool :=
  let owned := ownedByDevice d n
  ringActive d n && !ringIsTx d n && decide (0 < owned) &&
  (!ringIsBuffer d n ||
    (let size := bitsOf (wordAt (unitRead (ringMaster d n) (entryAddr d n (hwIdx d n)) 32 d m).1 2) 17 0
     size != 0 && decide (len ≤ owned * size)))

/-- The head caravan of a queue is spilled: the queue is not eligible for service (R161). -/
def headSpilled (d : Dev) (x : Manifest) : Bool :=
  match caravanAt d x.head with
  | some k => k.spill.isSome
  | none => false

/-- The manifest `x` is for ring `n`, whose queue it left. -/
def forRing (d : Dev) (n : Nat) (x : Manifest) : Bool := ownerKind d x.queue == 5 && ownerIndex d x.queue == n

/-- The oldest manifest that the traffic manager has handed on for ring `n` is delivered. -/
def rxDeliver (n : Nat) (hostOk : Bool) (d : Dev) (m : Memory) : Dev × Memory :=
  let r := takeHanded 10 (forRing d n) d
  match r.1 with
  | none => (d, m)
  | some x =>
    if !ringRoom d m n x.len then (d, m)
    else if ringIsBuffer d n then rxBuffer n x hostOk r.2 m
    else rxManifest n x r.2 m

/-! ### The block as a whole -/

/-- The rings that are enabled. -/
def enabledRings (d : Dev) : List Nat := (List.range 64).filter (fun n => d.on HR_CFG_EN 0 n)

/-- HOSTRING becomes Active: every enabled ring starts. -/
def ringsStart (d : Dev) : Dev :=
  (enabledRings d).foldl (fun e n => if e.on HR_STATUS_ACTIVE 0 n then e else ringStart n e) d

/-- HOSTRING drains, or its soft reset completes the drain: every ring drains (R204). -/
def ringsStop (d : Dev) (m : Memory) : Dev × Memory :=
  (enabledRings d).foldl (fun e n => ringStop n e.1 e.2) (d, m)

/-! ### Meanings -/

/-- The access of master `m` to ring `n`, checked at the host-ring target as well (R63, R65). -/
def ringGuard (m n : Nat) (f : Dev → Memory → Dev × Memory) (d : Dev) (mem : Memory) : Dev × Memory :=
  if customsGrant d .rings n n m .write then f d mem else (customsRefuse .rings m .write n d, mem)

/-- A write to a ring register at `o` of ring `n`, its effect able to store to memory. -/
def ringWrite (m n page off : Nat) (f : Dev → Memory → Dev × Memory) (s : State) :
    Host.Outcome State Fault Refusal :=
  updMem s (fun d mem =>
    if n < 64 then cmdWriteMem page off m (ringGuard m n f) d mem else (d, mem))

def execRingEnable (m n : Nat) (s : State) : Host.Outcome State Fault Refusal :=
  ringWrite m n (pRingRegs n) (ringOff n 0) (fun d mem => (ringEnable n d, mem)) s

/-- R193: the claim of ring `n` completes. -/
def execRingClaimDone (n : Nat) (s : State) : Host.Outcome State Fault Refusal :=
  upd s (fun d => if (ringOf d n).claiming && isActive d pRing then ringClaim n d else d)

def execRingDisable (m n : Nat) (s : State) : Host.Outcome State Fault Refusal :=
  ringWrite m n (pRingRegs n) (ringOff n 0) (ringDisable n) s

def execHrDoorbell (m n v : Nat) (s : State) : Host.Outcome State Fault Refusal :=
  ringWrite m n pRingIdx (0x100 + 8 * n) (fun d mem => (doorbell m n v d mem, mem)) s

def execTxDescProcess (n : Nat) (host : Option (List Byte)) (s : State) : Host.Outcome State Fault Refusal :=
  updMem s (fun d m => match txNext d n with
    | some i => if ringIsBuffer d n then txDescriptor n i host d m else (d, m)
    | none => (d, m))

/-- The retry of a refused BYPASS enqueue with the same caravan. -/
def execRingEnqueueRetry (n : Nat) (s : State) : Host.Outcome State Fault Refusal :=
  updMem s (fun d m =>
    let r := ringOf d n
    match r.retry with
    | none => (d, m)
    | some x =>
      let d1 := ringHandOn n r.retryIdx x (ringMod n (fun y => { y with retry := none }) d)
      if ringIsBuffer d n then (d1, m) else txComplete n r.retryIdx d1 m)

def execTxDescComplete (n idx : Nat) (s : State) : Host.Outcome State Fault Refusal :=
  updMem s (txComplete n idx)

def execTxManifestEntry (n : Nat) (s : State) : Host.Outcome State Fault Refusal :=
  updMem s (fun d m => match txNext d n with
    | some i => if ringIsBuffer d n then (d, m) else txManifestEntry n i d m
    | none => (d, m))

def execRxRingDeliver (n : Nat) (hostOk : Bool) (s : State) : Host.Outcome State Fault Refusal :=
  updMem s (rxDeliver n hostOk)

def execRingFire (n : Nat) (s : State) : Host.Outcome State Fault Refusal :=
  updMem s (fireIfMet n)

/-- R207: a write of HR_ARM. -/
def ringArm (n v : Nat) (d : Dev) (m : Memory) : Dev × Memory :=
  if v.testBit 0 then fireIfMet n (d.put HR_STATUS_ARMED 1 0 n) m else (d, m)

def execHrArm (m n v : Nat) (s : State) : Host.Outcome State Fault Refusal :=
  ringWrite m n (pRingRegs n) (ringOff n 0x20) (ringArm n v) s

end Sys2Proof.Machine
end

