-- ==== Sys2Proof/Machine/WayParse.lean ====
section
/-! DEFINITION. The Waystation's parser (spec/11_waystation.md R442), and the edits of headers that its stages make. -/

namespace Sys2Proof.Machine

open Sys2Proof

/-- Big-endian number of `n` bytes at offset `o` of a frame. -/
def be (f : Bytes) (o n : Nat) : Nat := ofBytesBE ((f.drop o).take n)

/-- The bytes `bs` written over `f` at offset `o`. -/
def splice (f : Bytes) (o : Nat) (bs : Bytes) : Bytes := f.take o ++ bs ++ f.drop (o + bs.length)

/-- A MAC address at offset `o`, octet 0 in bits 7:0. -/
def macAt (f : Bytes) (o : Nat) : Nat := ofBytes ((f.drop o).take 6)

/-- A group MAC address: broadcast or multicast. -/
def isGroup (mac : Nat) : Bool := mac % 2 == 1

/-- 01-80-C2-00-00-00 to 01-80-C2-00-00-0F. -/
def isControl (mac : Nat) : Bool := mac % 2 ^ 40 == 0xC28001 && decide (mac / 2 ^ 40 < 16)

/-- What the network layer of a frame is. -/
inductive L3 where
  | other | v4 | v6 | arp
  deriving DecidableEq, Repr

/-- How parsing ends: whole, beyond the header window, or malformed. -/
inductive ParseEnd where
  | ok | depth | malformed
  deriving DecidableEq, Repr

/-- The tunnels that stage 2 knows, in the codes of R445. -/
structure TunHdr where
  kind : Nat
  id : Nat
  /-- the length of the outer headers through the VXLAN or GRE header -/
  len : Nat
  deriving DecidableEq, Repr

/-- A parsed frame. -/
structure Hdr where
  dst : Nat := 0
  src : Nat := 0
  /-- the outermost tag's TCI -/
  tci : Option Nat := none
  etype : Nat := 0
  l3 : Nat := 14
  kind : L3 := .other
  proto : Nat := 0
  sip : Bytes := []
  dip : Bytes := []
  dscp : Nat := 0
  ttl : Nat := 0
  /-- length of the IP packet -/
  ipLen : Nat := 0
  /-- IPv4 options or an IPv6 hop-by-hop header are present -/
  options : Bool := false
  frag : Bool := false
  l4 : Nat := 0
  sport : Nat := 0
  dport : Nat := 0
  tcpFlags : Nat := 0
  icmp : Nat := 0
  spi : Nat := 0
  tun : Option TunHdr := none
  stop : ParseEnd := .ok
  deriving DecidableEq, Repr

/-- An IPv4 address left-aligned and zero-filled to 16 bytes (R455). -/
def v4Key (b : Bytes) : Bytes := b ++ List.replicate 12 0

/-- The transport layer at offset `o` of a window of `w` bytes. -/
def parseL4 (f : Bytes) (w o vxlanPort : Nat) (deep : Bool) (h : Hdr) : Hdr :=
  let need := fun (n : Nat) (g : Hdr) => if w < o + n then { h with stop := .depth } else g
  if h.proto = 6 then
    need 20 (
      let doff := be f (o + 12) 1 / 16
      let g := { h with l4 := o, sport := be f o 2, dport := be f (o + 2) 2, tcpFlags := be f (o + 13) 1 }
      if doff < 5 then { h with stop := .malformed }
      else if w < o + 4 * doff then { h with stop := .depth } else g)
  else if h.proto = 17 then
    need 8 (
      let g := { h with l4 := o, sport := be f o 2, dport := be f (o + 2) 2 }
      if deep && g.dport == vxlanPort then
        (if w < o + 16 then { h with stop := .depth }
         else { g with tun := some ⟨0, be f (o + 12) 3, o + 16⟩ })
      else g)
  else if h.proto = 1 || h.proto = 58 then
    need 8 (
      let t := be f o 1
      let id := if t = 0 || t = 8 || t = 128 || t = 129 then be f (o + 4) 2 else 0
      { h with l4 := o, icmp := t, sport := id, dport := id })
  else if h.proto = 50 then
    need 8 { h with l4 := o, spi := be f o 4, tun := if deep then some ⟨2, be f o 4, o + 8⟩ else none }
  else if h.proto = 47 then
    need 4 (
      let fl := be f o 2
      let csum := if fl.testBit 15 then 4 else 0
      let key := if fl.testBit 13 then 4 else 0
      let seq := if fl.testBit 12 then 4 else 0
      if !deep then { h with l4 := o }
      else if w < o + 4 + csum + key + seq then { h with stop := .depth }
      else { h with
        l4 := o
        tun := if key = 4 then some ⟨1, be f (o + 4 + csum) 4, o + 4 + csum + key + seq⟩ else none })
  else h

/-- The IPv6 extension headers from offset `o`: hop-by-hop, routing, fragment and destination options, at most four. -/
def parseExt (f : Bytes) (w : Nat) : Nat → Nat → Hdr → Nat × Hdr
  | 0, o, h => (o, h)
  | k + 1, o, h =>
    if h.proto = 0 || h.proto = 43 || h.proto = 60 || h.proto = 44 then
      if w < o + 8 then (o, { h with stop := .depth })
      else
        let len := if h.proto = 44 then 8 else 8 * (be f (o + 1) 1 + 1)
        if w < o + len then (o, { h with stop := .depth })
        else parseExt f w k (o + len)
          { h with
            proto := be f o 1
            options := h.options || h.proto == 0
            frag := h.frag || h.proto == 44 }
    else (o, h)

/-- Parses the network layer of a frame of `len` bytes whose window is `f`. -/
def parseL3 (f : Bytes) (len vxlanPort : Nat) (deep : Bool) (h : Hdr) : Hdr :=
  let w := f.length
  let o := h.l3
  if h.etype = 0x0800 then
    if w < o + 20 then { h with stop := .depth }
    else
      let ver := be f o 1 / 16
      let ihl := be f o 1 % 16
      let tot := be f (o + 2) 2
      let fr := be f (o + 6) 2
      if ver ≠ 4 || ihl < 5 || len < o + tot then { h with stop := .malformed }
      else if w < o + 4 * ihl then { h with stop := .depth }
      else
        let g := { h with
          kind := .v4, proto := be f (o + 9) 1, sip := v4Key ((f.drop (o + 12)).take 4)
          dip := v4Key ((f.drop (o + 16)).take 4), dscp := be f (o + 1) 1 / 4, ttl := be f (o + 8) 1, ipLen := tot
          options := decide (5 < ihl), frag := fr.testBit 13 || fr % 8192 != 0 }
        if fr % 8192 ≠ 0 then g else parseL4 f w (o + 4 * ihl) vxlanPort deep g
  else if h.etype = 0x86DD then
    if w < o + 40 then { h with stop := .depth }
    else
      let plen := be f (o + 4) 2
      if len < o + 40 + plen then { h with stop := .malformed }
      else
        let g := { h with
          kind := .v6, proto := be f (o + 6) 1, sip := (f.drop (o + 8)).take 16, dip := (f.drop (o + 24)).take 16
          dscp := be f o 2 / 64 % 64, ttl := be f (o + 7) 1, ipLen := 40 + plen }
        let r := parseExt f w 4 (o + 40) g
        if r.2.stop ≠ .ok || r.2.frag then r.2 else parseL4 f w r.1 vxlanPort deep r.2
  else if h.etype = 0x0806 then
    if w < o + 28 then { h with stop := .depth } else { h with kind := .arp }
  else h

/-- Parses a frame of `len` bytes from its first 128 (R442); `deep` where tunnels are parsed to their own headers. A
malformed frame, or one whose headers end beyond the window, is as a non-IP frame. -/
def parse (f : Bytes) (len vxlanPort : Nat) (deep : Bool) : Hdr :=
  let w := f.length
  let h0 : Hdr := { dst := macAt f 0, src := macAt f 6, etype := be f 12 2 }
  if w < 14 then { h0 with stop := .depth }
  else
    let tagged := h0.etype == 0x8100 || h0.etype == 0x88A8
    if tagged && decide (w < 18) then { h0 with stop := .depth }
    else
      let h1 := if tagged then { h0 with tci := some (be f 14 2), etype := be f 16 2, l3 := 18 } else h0
      let second := h0.etype == 0x88A8 && h1.etype == 0x8100
      if second && decide (w < 22) then { h1 with stop := .depth }
      else
        let h2 := if second then { h1 with etype := be f 20 2, l3 := 22 } else h1
        let h3 := parseL3 f len vxlanPort deep h2
        if h3.stop = .ok then h3 else { h2 with kind := .other, stop := h3.stop }

/-- The 40-byte key of R455. -/
def connKey (h : Hdr) (sport dport : Nat) : Bytes :=
  [BitVec.ofNat 8 h.proto, if h.kind = .v6 then 1 else 0, 0, 0] ++ h.sip ++ h.dip ++ toBE 2 sport ++ toBE 2 dport

/-- The frame is IP. -/
def isIp (h : Hdr) : Bool := h.kind == .v4 || h.kind == .v6

/-! ### Edits of the header window -/

/-- One's complement sum of the 16-bit words of `b`, folded to 16 bits. -/
def fold16 (v : Nat) : Nat :=
  let a := v % 65536 + v / 65536
  let b := a % 65536 + a / 65536
  b % 65536 + b / 65536

/-- The incremental update of a checksum for a change of its bytes from `old` to `new` (RFC 1624, equation 3). -/
def csumUpdate (c : Nat) (old new : Nat) : Nat := 65535 - fold16 ((65535 - c) + (65535 - old) + new)

/-- The checksum at offset `co` of `f` for a change of the 16-bit word at `o` to `v`. -/
def setWord (f : Bytes) (o v : Nat) (csums : List Nat) : Bytes :=
  let old := be f o 2
  csums.foldl (fun g co => splice g co (toBE 2 (csumUpdate (be g co 2) old v))) (splice f o (toBE 2 v))

/-- The checksum of an IPv4 header of `n` bytes at offset `o`, its own field taken as zero. -/
def ipv4Csum (f : Bytes) (o n : Nat) : Nat :=
  let words := (List.range (n / 2)).map (fun i => if i = 5 then 0 else be f (o + 2 * i) 2)
  65535 - fold16 words.sum

/-- Writes DSCP into the IP header of `h`. -/
def setDscp (f : Bytes) (h : Hdr) (v : Nat) : Bytes :=
  match h.kind with
  | .v4 => setWord f h.l3 (be f h.l3 2 / 256 * 256 + 4 * v + be f (h.l3 + 1) 1 % 4) [h.l3 + 10]
  | .v6 => splice f h.l3 (toBE 2 (be f h.l3 2 / 4096 * 4096 + 64 * v + be f h.l3 2 % 64))
  | _ => f

/-- Decrements the TTL or hop limit. -/
def decTtl (f : Bytes) (h : Hdr) : Bytes :=
  match h.kind with
  | .v4 => setWord f (h.l3 + 8) (be f (h.l3 + 8) 2 - 256) [h.l3 + 10]
  | .v6 => splice f (h.l3 + 7) (toBE 1 (h.ttl - 1))
  | _ => f

/-- The offset of the transport checksum, if the frame carries one that covers its addresses and ports. -/
def l4Csum (f : Bytes) (h : Hdr) : List Nat :=
  if h.proto = 6 then [h.l4 + 16]
  else if h.proto = 17 then (if be f (h.l4 + 6) 2 = 0 then [] else [h.l4 + 6])
  else []

/-- R456: rewrites the IPv4 source (`isSrc`) or destination address, and the port or ICMP identifier. -/
def natRewrite (f : Bytes) (h : Hdr) (isSrc : Bool) (addr port : Nat) : Bytes :=
  let ao := h.l3 + (if isSrc then 12 else 16)
  let cs := (h.l3 + 10) :: l4Csum f h
  let f1 := setWord (setWord f ao (addr / 65536) cs) (ao + 2) (addr % 65536) cs
  if h.proto = 6 || h.proto = 17 then setWord f1 (h.l4 + (if isSrc then 0 else 2)) port (l4Csum f h)
  else if h.proto = 1 then setWord f1 (h.l4 + 4) port [h.l4 + 2]
  else f1

/-- The outer header of a VXLAN or GRE tunnel with its IP lengths and IPv4 checksum for a frame of `inner` bytes; for
VXLAN also the UDP length, source port and zero checksum (R465). -/
def fillTemplate (t : Bytes) (v6 vxlan : Bool) (inner flow : Nat) : Bytes :=
  let tot := t.length + inner
  let l3 := if be t 12 2 = 0x8100 || be t 12 2 = 0x88A8 then 18 else 14
  let ipHdr := if v6 then 40 else 4 * (be t l3 1 % 16)
  let t1 := if v6 then splice t (l3 + 4) (toBE 2 (tot - l3 - 40)) else splice t (l3 + 2) (toBE 2 (tot - l3))
  let u := l3 + ipHdr
  let t2 := if vxlan then
      splice (splice (splice t1 u (toBE 2 (49152 + flow % 16384))) (u + 4) (toBE 2 (tot - u))) (u + 6) (toBE 2 0)
    else t1
  if v6 then t2 else splice t2 (l3 + 10) (toBE 2 (ipv4Csum t2 l3 ipHdr))

end Sys2Proof.Machine
end

