-- ==== Sys2Proof/Machine/WayTables.lean ====
section
/-! DEFINITION. The tables of the Waystation (spec/11_waystation.md): the DRAM tables and their cache, the hot store of
connections, the bridge table, policers and ACL rules. -/

namespace Sys2Proof.Machine

open Sys2Proof

/-- First page of WAY. -/
def pWay : Nat := 0x60

/-- WAY works with its full stage set (R435). -/
def wayFull (d : Dev) : Bool := feat d pWay 2 0

/-- Changes what the Waystation holds beyond its registers. -/
def wayMod (f : WayUnit → WayUnit) (d : Dev) : Dev := { d with way := f d.way }

/-! ### The cache (R472–R474) -/

/-- An answer of a table read: the bytes, or the address of a line to fetch first. -/
inductive Tbl (α : Type) where
  | hit (a : α)
  | miss (line : Nat)

/-- The line at address `l` as the cache gives it. A cached line that DRAM has changed since may have been evicted: which
of the two a lookup sees is open until an invalidation (R473). -/
def cacheLine (l : Nat) (d : Dev) (m : Memory) : Tbl Bytes × Dev :=
  match tabFind d.way.cache l with
  | none => (.miss l, d)
  | some b =>
    if b = memRead m l 64 then (.hit b, d)
    else
      let r := drawBit d
      if r.1 then (.hit b, r.2) else (.miss l, wayMod (fun w => { w with cache := tabDel w.cache l }) r.2)

/-- `n` bytes at `a` of a table, `n` at most 128, read through the cache. -/
def tblRead (a n : Nat) (d : Dev) (m : Memory) : Tbl Bytes × Dev :=
  let first := a / 64
  let cnt := (a + n - 1) / 64 + 1 - first
  let r := (List.range cnt).foldl (fun (s : Tbl Bytes × Dev) i =>
    match s.1 with
    | .miss l => (.miss l, s.2)
    | .hit b =>
      let x := cacheLine (64 * (first + i)) s.2 m
      match x.1 with
      | .hit c => (.hit (b ++ c), x.2)
      | .miss l => (.miss l, x.2)) (.hit [], d)
  match r.1 with
  | .hit b => (.hit ((b.drop (a % 64)).take n), r.2)
  | .miss l => (.miss l, r.2)

/-- A base register pair: bits 31:12 and 47:32 of an address. -/
def tblBase (d : Dev) (lo hi : Fld) : Nat := 4096 * d.rd lo + 2 ^ 32 * d.rd hi

/-- A 32-bit little-endian table word at `a`. -/
def tblWord (a : Nat) (d : Dev) (m : Memory) : Tbl Nat × Dev :=
  let r := tblRead a 4 d m
  (match r.1 with
   | .hit b => .hit (ofBytes b)
   | .miss l => .miss l, r.2)

/-! ### Longest prefix match (R459) -/

/-- How a walk ends: a next-hop index, a miss, or a malformed walk. -/
inductive Walk where
  | nh (i : Nat)
  | miss
  | malformed
  deriving DecidableEq, Repr

/-- The walk below a root entry `e`, `i` bits of the `nbits`-bit address having been used. -/
def walkFrom (base blocks nbits addr : Nat) (m : Memory) : Nat → Nat → Nat → Dev → Tbl Walk × Dev
  | 0, _, _, d => (.hit .malformed, d)
  | fuel + 1, e, i, d =>
    if e.testBit 31 then
      if nbits ≤ i || blocks ≤ e % 2 ^ 24 then (.hit .malformed, d)
      else
        let idx := addr / 2 ^ (nbits - i - 8) % 256
        let r := tblWord (base + 262144 + 1024 * (e % 2 ^ 24) + 4 * idx) d m
        match r.1 with
        | .miss l => (.miss l, r.2)
        | .hit w => walkFrom base blocks nbits addr m fuel w (i + 8) r.2
    else if e.testBit 30 then (.hit (.nh (e % 65536)), d)
    else (.hit .miss, d)

/-- The walk of an address of 32 or 128 bits. -/
def lpmWalk (v6 : Bool) (addr : Nat) (d : Dev) (m : Memory) : Tbl Walk × Dev :=
  let base := if v6 then tblBase d WAY_LPM6_BASE_LO_BASE WAY_LPM6_BASE_HI_BASE
    else tblBase d WAY_LPM4_BASE_LO_BASE WAY_LPM4_BASE_HI_BASE
  let blocks := if v6 then d.rd WAY_LPM6_BLOCKS_BLOCKS else d.rd WAY_LPM4_BLOCKS_BLOCKS
  let nbits := if v6 then 128 else 32
  let r := tblWord (base + 4 * (addr / 2 ^ (nbits - 16) % 65536)) d m
  match r.1 with
  | .miss l => (.miss l, r.2)
  | .hit e => walkFrom base blocks nbits addr m 16 e 16 r.2

/-- The destination address of a frame as a number. -/
def dipNum (h : Hdr) : Nat := if h.kind = .v6 then ofBytesBE h.dip else ofBytesBE (h.dip.take 4)

/-! ### Next hops and tunnels (R445, R461) -/

/-- Entry `n` of the next-hop table; none at or beyond WAY_NH_COUNT. -/
def nextHop (n : Nat) (d : Dev) (m : Memory) : Tbl (Option Bytes) × Dev :=
  if d.rd WAY_NH_COUNT_COUNT ≤ n then (.hit none, d)
  else
    let r := tblRead (tblBase d WAY_NH_BASE_LO_BASE WAY_NH_BASE_HI_BASE + 32 * n) 32 d m
    (match r.1 with
     | .hit b => .hit (some b)
     | .miss l => .miss l, r.2)

/-- Tunnel entry `i`. -/
def tunnelEntry (i : Nat) (d : Dev) (m : Memory) : Tbl Bytes × Dev :=
  tblRead (tblBase d WAY_TUN_BASE_LO_BASE WAY_TUN_BASE_HI_BASE + 128 * (i % 4096)) 128 d m

/-- Fields of a tunnel entry. -/
def tunW0 (t : Bytes) : Nat := wordAt t 0
def tunKind (t : Bytes) : Nat := bitsOf (tunW0 t) 27 26
def tunLen (t : Bytes) : Nat := min 80 (bitsOf (wordAt t 10) 6 0)

/-! ### Connections (R454–R458) -/

/-- The address of connection entry `e`. -/
def ctAddr (d : Dev) (e : Nat) : Nat := tblBase d WAY_CT_BASE_LO_BASE WAY_CT_BASE_HI_BASE + 64 * e

/-- CT_LOG2, the values outside 10–19 acting as the nearer end. -/
def ctLog2 (d : Dev) : Nat := max 10 (min 19 (d.rd WAY_CT_CFG_CT_LOG2))

/-- Connection entry `e` from the hot store or its DRAM line. -/
def ctEntry (e : Nat) (d : Dev) (m : Memory) : Tbl Bytes × Dev :=
  match tabFind d.way.hot e with
  | some b => (.hit b, d)
  | none => tblRead (ctAddr d e) 64 d m

/-- The VALID entry of a bucket for a key, with its index. -/
def ctFind (bucket : Nat) (key : Bytes) (v6 : Bool) (d : Dev) (m : Memory) : Tbl (Option (Nat × Bytes)) × Dev :=
  (List.range 4).foldl (fun (s : Tbl (Option (Nat × Bytes)) × Dev) i =>
    match s.1 with
    | .hit none =>
      let e := 4 * bucket + i
      let r := ctEntry e s.2 m
      (match r.1 with
       | .miss l => .miss l
       | .hit b =>
         let w := wordAt b 0
         let k := [BitVec.ofNat 8 (bitsOf w 23 16), if v6 then (1 : Byte) else 0, 0, 0] ++ (b.drop 8).take 32 ++
           toBE 2 (bitsOf (wordAt b 10) 31 16) ++ toBE 2 (bitsOf (wordAt b 10) 15 0)
         if w.testBit 31 && (w.testBit 30 == v6) && k == key then .hit (some (e, b)) else .hit none, r.2)
    | _ => s) (.hit none, d)

/-- The time base in ms, modulo 2^32 (R455). -/
def nowMs (d : Dev) : Nat := nowTotal d / 1000000 % 2 ^ 32

/-- A connection entry with word `i` made `v`. -/
def setEntryWord (b : Bytes) (i v : Nat) : Bytes := splice b (4 * i) (toBytes 4 v)

/-- The hot store's write-back of entry `e` to DRAM: TOCLS, FLAGS_SEEN, LAST_SEEN, PACKETS and BYTES (R457). -/
def ctWriteBack (e : Nat) (b : Bytes) (d : Dev) (m : Memory) : Dev × Memory :=
  let a := ctAddr d e
  let r := unitRead 9 a 64 d m
  let old := r.1
  let w0 := wordAt old 0 / 2 ^ 28 * 2 ^ 28 + bitsOf (wordAt b 0) 27 26 * 2 ^ 26 +
    bitsOf (wordAt old 0) 25 16 * 2 ^ 16 + bitsOf (wordAt b 0) 15 8 * 256 + bitsOf (wordAt old 0) 7 0
  let new := splice (setEntryWord old 0 w0) 0x34 ((b.drop 0x34).take 12)
  let x := unitWrite 9 a new r.2.2 m
  let l := a / 64 * 64
  (wayMod (fun w => { w with cache := tabDel w.cache l }) x.2.1, x.2.2)

/-- Entry `e` becomes `b` in the hot store; a full store evicts one entry, which one being open. -/
def ctHold (e : Nat) (b : Bytes) (d : Dev) (m : Memory) : Dev × Memory :=
  if (tabFind d.way.hot e).isSome || d.way.hot.length < 32768 then
    (wayMod (fun w => { w with hot := tabSet w.hot e b }) d, m)
  else
    let r := draw d
    match d.way.hot[r.1 % max 1 d.way.hot.length]? with
    | none => (r.2, m)
    | some v =>
      let x := ctWriteBack v.1 v.2 r.2 m
      (wayMod (fun w => { w with hot := tabSet (tabDel w.hot v.1) e b }) x.1, x.2)

/-- Writes word 0 of entry `e` in DRAM, its line leaving the cache and its copy the hot store. -/
def ctSetWord0 (e v : Nat) (d : Dev) (m : Memory) : Dev × Memory :=
  let x := unitWrite 9 (ctAddr d e) (toBytes 4 v) d m
  (wayMod (fun w => { w with cache := tabDel w.cache (ctAddr d e / 64 * 64), hot := tabDel w.hot e }) x.2.1, x.2.2)

/-! ### The bridge table (R452, R453) -/

/-- The bucket of a key. -/
def brBucket (d : Dev) (vlan mac : Nat) : Nat :=
  crc32 (d.rd WAY_HASH_SEED_SEED) (toBytes 2 vlan ++ toBytes 6 mac) % 16384

def brList (d : Dev) (b : Nat) : List BrEntry := tabGet d.way.bridge b []

def setBr (b : Nat) (l : List BrEntry) (d : Dev) : Dev :=
  wayMod (fun w => { w with bridge := if l.isEmpty then tabDel w.bridge b else tabSet w.bridge b l }) d

/-- The bridge entry of a key. -/
def brFind (d : Dev) (vlan mac : Nat) : Option BrEntry :=
  (brList d (brBucket d vlan mac)).find? (fun e => e.vlan == vlan && e.mac == mac)

/-- The number of valid entries. -/
def brCount (d : Dev) : Nat := (d.way.bridge.map (fun e => e.2.length)).sum

/-- R453: a source is learned. -/
def brLearn (vlan mac dest : Nat) (d : Dev) : Dev :=
  let b := brBucket d vlan mac
  let l := brList d b
  match brFind d vlan mac with
  | some e =>
    if e.static then d
    else
      let d1 := setBr b (l.map (fun x => if x.vlan = vlan ∧ x.mac = mac then
        { x with dest := dest, used := d.tb.elapsed } else x)) d
      if e.dest = dest then d1 else count WAY_LEARN_MOVE_COUNT 0 0 d1
  | none =>
    if 4 ≤ l.length then raiseBit pWay 4 (count WAY_LEARN_FULL_COUNT 0 0 d)
    else setBr b (l ++ [⟨vlan, mac, dest, false, d.tb.elapsed⟩]) d

/-- The key of the bridge command registers. -/
def brKey (d : Dev) : Nat × Nat :=
  (d.rd WAY_BR_KEY_HI_VLAN, d.rd WAY_BR_KEY_LO_MAC + 2 ^ 32 * d.rd WAY_BR_KEY_HI_MAC)

/-- LOOKUP of the key into WAY_BR_DATA. -/
def brLookup (d : Dev) : Dev :=
  let k := brKey d
  match brFind d k.1 k.2 with
  | some e => (((d.put WAY_BR_DATA_VALID 1).put WAY_BR_DATA_STATIC (if e.static then 1 else 0)).put
      WAY_BR_DATA_DEST e.dest).put WAY_BR_CMD_RESULT 0
  | none => (d.put WAY_BR_DATA_VALID 0).put WAY_BR_CMD_RESULT 1

/-- INSERT of the key with WAY_BR_DATA; a key already present is replaced. -/
def brInsert (d : Dev) : Dev :=
  let k := brKey d
  let b := brBucket d k.1 k.2
  let rest := (brList d b).filter (fun e => !(e.vlan == k.1 && e.mac == k.2))
  if 4 ≤ rest.length then d.put WAY_BR_CMD_RESULT 2
  else (setBr b (rest ++ [⟨k.1, k.2, d.rd WAY_BR_DATA_DEST, d.on WAY_BR_DATA_STATIC, d.tb.elapsed⟩]) d).put
    WAY_BR_CMD_RESULT 0

/-- DELETE of the key. -/
def brDelete (d : Dev) : Dev :=
  let k := brKey d
  let b := brBucket d k.1 k.2
  match brFind d k.1 k.2 with
  | none => d.put WAY_BR_CMD_RESULT 1
  | some _ => (setBr b ((brList d b).filter (fun e => !(e.vlan == k.1 && e.mac == k.2))) d).put WAY_BR_CMD_RESULT 0

/-- Every entry that `keep` does not hold leaves the table. -/
def brKeep (keep : BrEntry → Bool) (d : Dev) : Dev :=
  wayMod (fun w => { w with bridge := (w.bridge.map (fun e => (e.1, e.2.filter keep))).filter (fun e => !e.2.isEmpty) }) d

/-- R453: the scan of dynamic entries unused as a source for AGE_S seconds. -/
def brAge (d : Dev) : Dev :=
  let limit := 500000000 * max 1 (d.rd WAY_BR_CFG_AGE_S)
  brKeep (fun e => e.static || decide (d.tb.elapsed - e.used < limit)) d

/-! ### Policers (R449, R450) -/

/-- One byte in the units of a policer's count. -/
def polUnit : Nat := 1000000

/-- Policer `i` after the credit of the time since its last update. -/
def polCredit (now : Nat) (p : Policer) : Policer :=
  let dt := match p.last with
    | some l => now - l
    | none => 0
  { p with tokens := min (p.burst * polUnit) (p.tokens + p.rate * dt), last := some now }

/-- Stores policer `i` and its count in WAY_POL_TOKENS. -/
def setPolicer (i : Nat) (p : Policer) (d : Dev) : Dev :=
  (wayMod (fun w => { w with policers := tabSet w.policers i p }) d).put WAY_POL_TOKENS_TOKENS (p.tokens / polUnit) 0 i

/-- The policer of a manifest (R449), none where none applies. -/
def policerOf (d : Dev) (x : Manifest) : Option (Nat × Policer) :=
  let k := srcKind x
  if 8 < k || !d.on WAY_POL_KIND_EN 0 k then none
  else
    let sh := d.rd WAY_POL_KIND_SHIFT 0 k
    let i := d.rd WAY_POL_KIND_BASE 0 k + srcIndex x * 2 ^ sh + x.tc % 2 ^ sh
    if 8192 ≤ i then none
    else match tabFind d.way.policers i with
      | some p => if p.en then some (i, p) else none
      | none => none

/-- R450: whether a manifest conforms, and the policer after it. -/
def police (x : Manifest) (d : Dev) : Bool × Dev :=
  match policerOf d x with
  | none => (true, d)
  | some (i, p) =>
    let q := polCredit (nowTotal d) p
    if x.len * polUnit ≤ q.tokens then
      (true, count WAY_POL_PASS_COUNT 0 i (setPolicer i { q with tokens := q.tokens - x.len * polUnit } d))
    else (false, count WAY_POLICER_DROP_COUNT 0 i (setPolicer i q d))

/-- R450: a write of WAY_POL_BURST to the selected policer. -/
def polBurst (v : Nat) (d : Dev) : Dev :=
  let i := d.rd WAY_POL_IDX_POLICER
  let b := v % 2 ^ 24
  setPolicer i ⟨d.on WAY_POL_RATE_EN 0 i, d.rd WAY_POL_RATE_RATE 0 i, b, b * polUnit, some (nowTotal d)⟩
    (d.put WAY_POL_BURST_BURST b 0 i)

/-- R450: after a backward step every policer counts Δt as zero at its first update. -/
def policersBack (d : Dev) : Dev :=
  wayMod (fun w => { w with policers := w.policers.map (fun e => (e.1, { e.2 with last := none })) }) d

/-! ### ACL rules (R463) -/

/-- A key matches a rule in all 384 bits. -/
def aclMatch (key : List Nat) (r : AclRule) : Bool :=
  r.act1.testBit 31 && (List.range 12).all (fun i =>
    (key.getD i 0 &&& r.mask.getD i 0) == (r.key.getD i 0 &&& r.mask.getD i 0))

/-- The lowest-index VALID matching rule. -/
def aclFind (d : Dev) (key : List Nat) : Option (Nat × AclRule) :=
  (d.way.acl.filter (fun e => aclMatch key e.2)).foldl (fun best e => match best with
    | none => some e
    | some b => if e.1 < b.1 then some e else some b) none

/-- WRITE of the staged rule. -/
def aclWrite (d : Dev) : Dev :=
  let r : AclRule := {
    key := (List.range 12).map (fun i => d.rd WAY_ACL_KEY_KEY 0 i)
    mask := (List.range 12).map (fun i => d.rd WAY_ACL_MASK_MASK 0 i)
    act0 := 2 ^ 30 * d.rd WAY_ACL_ACT0_ACTION + 2 ^ 28 * d.rd WAY_ACL_ACT0_SET_TC + 2 ^ 25 * d.rd WAY_ACL_ACT0_TC +
      2 ^ 24 * d.rd WAY_ACL_ACT0_SET_DSCP + 2 ^ 18 * d.rd WAY_ACL_ACT0_DSCP + 2 ^ 17 * d.rd WAY_ACL_ACT0_MIRROR +
      d.rd WAY_ACL_ACT0_REDIRECT
    act1 := 2 ^ 31 * d.rd WAY_ACL_ACT1_VALID + d.rd WAY_ACL_ACT1_MIRROR_Q }
  wayMod (fun w => { w with acl := tabSet w.acl (d.rd WAY_ACL_IDX_RULE) r }) d

/-- READ of the rule into staging. A rule never written is all zero. -/
def aclRead (d : Dev) : Dev :=
  let r := tabGet d.way.acl (d.rd WAY_ACL_IDX_RULE) ⟨[], [], 0, 0⟩
  let d1 := (List.range 12).foldl (fun e i =>
    (e.put WAY_ACL_KEY_KEY (r.key.getD i 0) 0 i).put WAY_ACL_MASK_MASK (r.mask.getD i 0) 0 i) d
  ((((((((d1.put WAY_ACL_ACT0_ACTION (bitsOf r.act0 31 30)).put WAY_ACL_ACT0_SET_TC (bitsOf r.act0 28 28)).put
    WAY_ACL_ACT0_TC (bitsOf r.act0 27 25)).put WAY_ACL_ACT0_SET_DSCP (bitsOf r.act0 24 24)).put
    WAY_ACL_ACT0_DSCP (bitsOf r.act0 23 18)).put WAY_ACL_ACT0_MIRROR (bitsOf r.act0 17 17)).put
    WAY_ACL_ACT0_REDIRECT (bitsOf r.act0 16 0)).put WAY_ACL_ACT1_VALID (bitsOf r.act1 31 31)).put
    WAY_ACL_ACT1_MIRROR_Q (bitsOf r.act1 13 0)

end Sys2Proof.Machine
end

