-- ==== Sys2Proof/Machine/Way.lean ====
section
/-! DEFINITION. The nine stages of the Waystation, its exceptions and its commands (spec/11_waystation.md). -/

namespace Sys2Proof.Machine

open Sys2Proof

/-! ### Destinations (R460) -/

def destKind (x : Nat) : Nat := bitsOf x 16 14
def destIndex (x : Nat) : Nat := bitsOf x 13 0
def kQueue : Nat := 0
def kEth : Nat := 1
def kSta : Nat := 2
def kBss : Nat := 3
def kFlood : Nat := 4
def kRouter : Nat := 5
def kException : Nat := 6
def kDrop : Nat := 7

/-! ### Stages -/

/-- How a stage leaves a manifest: on to the next stage, with a reason raised, dropped and counted, waiting for a table
line, or gone to where it belongs. -/
inductive StageEnd where
  | go (c : WayCtx)
  | exc (r : Nat) (c : WayCtx)
  | drop
  | park (line : Nat)
  | gone

/-- What a stage answers. -/
abbrev StageAns := StageEnd × Dev × Memory

/-- The header window (R439). -/
def windowOf (c : WayCtx) (d : Dev) (m : Memory) : Bytes := readFrame d m c.x.head 0 (min 128 c.x.len)

/-- The frame of `c` as its stages see it. -/
def hdrOf (c : WayCtx) (d : Dev) (m : Memory) : Hdr :=
  let h := parse (windowOf c d m) c.x.len (d.rd WAY_VXLAN_PORT_PORT) (wayFull d)
  if c.plain then { h with kind := .other, tun := none, stop := .ok } else h

/-- Moves the start offset by −`n` (growth) or the given removal (R439). -/
def moveFront (h : Nat) (f : Nat → Nat) (d : Dev) : Dev :=
  match caravanAt d h with
  | none => d
  | some k => { d with ser := { d.ser with caravans := tabSet d.ser.caravans h { k with room := f k.room } } }

/-- The start offset of the caravan with head `h`. -/
def roomOf (d : Dev) (h : Nat) : Nat := match caravanAt d h with
  | none => 0
  | some k => k.room

/-- The PVID of a source (R442). -/
def pvidOf (d : Dev) (x : Manifest) : Nat :=
  let k := srcKind x
  if k = 3 then d.rd WAY_ETH_MAP_PVID 0 (srcIndex x)
  else if k < 3 then d.rd WAY_STA_MAP_PVID 0 (srcIndex x)
  else d.rd WAY_KIND_QOS_PVID 0 k

/-- TC of a frame (R443): `pcp` of the removed tag. -/
def tcOf (d : Dev) (x : Manifest) (pcp : Option Nat) (h : Hdr) : Nat :=
  let k := srcKind x
  let dflt := d.rd WAY_KIND_QOS_DEF_TC 0 k
  match d.rd WAY_KIND_QOS_TRUST 0 k with
  | 0 => dflt
  | 1 => (match pcp with
    | some p => bitsOf (d.rd WAY_PCP_TC_TC 0 p) 2 0
    | none => dflt)
  | 2 => if isIp h then d.rd WAY_DSCP_TC_MAP 0 h.dscp % 8 else dflt
  | _ => x.tc

/-- FLOW of a frame (R444). -/
def flowOf (d : Dev) (x : Manifest) (h : Hdr) : Nat :=
  let bytes :=
    if isIp h then
      (if h.proto = 50 then connKey h (h.spi / 65536) (h.spi % 65536) else connKey h h.sport h.dport)
    else toBytes 2 x.src ++ toBE 2 h.etype ++ toBytes 6 h.dst ++ toBytes 6 h.src
  crc32 (d.rd WAY_HASH_SEED_SEED) bytes % 65536

/-- Removes the outermost tag: the addresses move by 4 bytes (R439, R442). -/
def stripTag (x : Manifest) (d : Dev) (m : Memory) : Manifest × Dev × Memory :=
  let macs := readFrame d m x.head 0 12
  let d1 := moveFront x.head (· + 4) d
  ({ x with len := x.len - 4 }, d1, writeFrame d1 x.head macs m)

/-- Manifests posted and not yet reported back, by FLOW (R470). -/
def flowCount (d : Dev) (f : Nat) : Nat := tabGet d.way.flows f 0

/-- Sets the count of a flow. -/
def setFlow (f n : Nat) (d : Dev) : Dev :=
  wayMod (fun w => { w with flows := if n = 0 then tabDel w.flows f else tabSet w.flows f n }) d

/-- Stage 1: parse and classify. -/
def stage1 (c : WayCtx) (d : Dev) (m : Memory) : StageAns :=
  let c0 := { c with plain := c.plain || c.cont == 0x11 || c.cont == 0x12 }
  let h := hdrOf c0 d m
  let strip := !c.seen && match h.tci with
    | some t => t % 4096 != 0
    | none => false
  let tci := h.tci.getD 0
  let r := if strip then stripTag c0.x d m else (c0.x, d, m)
  let pcp := if strip then some (tci / 8192) else c.pcp
  let vlan := if c.seen then c.vlan else if strip then tci % 4096 else pvidOf d c.x
  let x := { r.1 with tc := tcOf d c.x pcp h, flow := flowOf d c.x h }
  let c1 := { c0 with x := x, pcp := pcp, vlan := vlan, seen := true }
  let e : StageEnd :=
    if isControl h.dst && c.cont != 0x14 then .exc 0x14 c1
    else if h.stop = .malformed then .exc 0x11 c1
    else if h.stop = .depth then .exc 0x12 c1
    else if !flagOf x fFromTask && flowCount d x.flow != 0 then .exc 0x15 c1
    else .go c1
  (e, r.2)

/-- Whether a routed address is the device's own: its longest prefix match names a LOCAL next hop (R446). -/
def ownAddress (h : Hdr) (d : Dev) (m : Memory) : Tbl Bool × Dev :=
  let r := lpmWalk (h.kind == .v6) (dipNum h) d m
  match r.1 with
  | .miss l => (.miss l, r.2)
  | .hit (.nh i) =>
    let e := nextHop i r.2 m
    (match e.1 with
     | .miss l => .miss l
     | .hit (some b) => .hit ((wordAt b 0).testBit 31 && bitsOf (wordAt b 0) 30 28 == 2)
     | .hit none => .hit false, e.2)
  | .hit _ => (.hit false, r.2)

/-- The tunnel entry `t` terminates the frame (R446). -/
def terminates (t : Bytes) (u : TunHdr) (h : Hdr) : Bool :=
  let w := tunW0 t
  w.testBit 31 && w.testBit 30 && tunKind t == u.kind &&
  (if u.kind = 0 then wordAt t 1 % 2 ^ 24 == u.id else wordAt t 1 == u.id) &&
  (t.drop 8).take 16 == h.dip && (!(wordAt t 10).testBit 16 || (t.drop 0x18).take 16 == h.sip)

/-- Stage 2's work on a frame that terminates at entry `t`. -/
def terminate (t : Bytes) (u : TunHdr) (c : WayCtx) (d : Dev) (m : Memory) : StageAns :=
  let vlan := tunW0 t % 4096
  if u.kind = 2 then
    let x := { c.x with ciphOp := 4, ciphRef := bitsOf (tunW0 t) 25 13 }
    (.gone, { d with q := { d.q with toCiph := d.q.toCiph ++ [(x, vlan)] } }, m)
  else if 255 < roomOf d c.x.head + u.len then (.exc 0x23 c, d, m)
  else
    let d1 := moveFront c.x.head (· + u.len) d
    let c1 := { c with x := { c.x with len := c.x.len - u.len }, vlan := vlan, seen := true, pcp := none, plain := false }
    let h := hdrOf c1 d1 m
    let c2 := { c1 with x := { c1.x with flow := flowOf d1 c1.x h } }
    ((if h.stop = .malformed then .exc 0x11 c2 else if h.stop = .depth then .exc 0x12 c2 else .go c2), d1, m)

/-- Stage 2: tunnel termination. -/
def stage2 (c : WayCtx) (d : Dev) (m : Memory) : StageAns :=
  let h := hdrOf c d m
  match h.tun with
  | none => (.go c, d, m)
  | some u =>
    if !wayFull d || !dramReady d 0 || c.cont == 0x21 then (.go c, d, m)
    else
      let o := ownAddress h d m
      match o.1 with
      | .miss l => (.park l, o.2, m)
      | .hit false => (.go c, o.2, m)
      | .hit true =>
        let t := tunnelEntry u.id o.2 m
        match t.1 with
        | .miss l => (.park l, t.2, m)
        | .hit b => if terminates b u h then terminate b u c t.2 m else (.exc 0x21 c, t.2, m)

/-- Stage 3: ingress policer. -/
def stage3 (c : WayCtx) (d : Dev) (m : Memory) : StageAns :=
  let r := police c.x d
  if r.1 then (.go c, r.2, m) else (.drop, count WAY_POL_DROP_COUNT 0 0 r.2, m)

/-- The source is one that is learned, with its DEST (R453). -/
def learnDest (x : Manifest) : Option Nat :=
  if srcKind x = 3 then some (kEth * 16384 + srcIndex x)
  else if srcKind x < 3 && srcIndex x != 0xFFF then some (kSta * 16384 + srcIndex x)
  else none

/-- The destination MAC is a router MAC of the frame's VLAN (R451). -/
def routerMac (d : Dev) (vlan mac : Nat) : Bool :=
  (List.range 16).any (fun k => d.on WAY_RMAC_HI_VALID 0 k &&
    (d.rd WAY_RMAC_HI_VLAN 0 k == 0 || d.rd WAY_RMAC_HI_VLAN 0 k == vlan) &&
    d.rd WAY_RMAC_LO_ADDR 0 k + 2 ^ 32 * d.rd WAY_RMAC_HI_ADDR 0 k == mac)

/-- The frame is one that CONTROL_TRAP covers: ARP, or ICMPv6 of types 133–137. -/
def trapFrame (h : Hdr) : Bool :=
  h.kind == .arp || (h.kind == .v6 && h.proto == 58 && decide (133 ≤ h.icmp) && decide (h.icmp ≤ 137))

/-- The flood group of a VLAN as a DEST. -/
def floodDest (d : Dev) (vlan : Nat) : Nat := kFlood * 16384 + d.rd WAY_VLAN_CFG_FLOOD 0 vlan

/-- Stage 4: bridge. -/
def stage4 (c : WayCtx) (d : Dev) (m : Memory) : StageAns :=
  let h := hdrOf c d m
  let rmac := routerMac d c.vlan h.dst
  if !d.on WAY_VLAN_CFG_VALID 0 c.vlan then (.exc 0x42 c, d, m)
  else if trapFrame h && d.on WAY_VLAN_CFG_TRAP 0 c.vlan && (rmac || isGroup h.dst) && c.cont != 0x43 then
    (.exc 0x43 c, d, m)
  else
    let d1 := match learnDest c.x with
      | some t => if d.on WAY_BR_CFG_LEARN_EN && d.on WAY_VLAN_CFG_LEARN 0 c.vlan then brLearn c.vlan h.src t d else d
      | none => d
    if rmac then (.go { c with routed := true }, d1, m)
    else
      let flood : StageAns := (.go { c with routed := false, dest := floodDest d1 c.vlan }, d1, m)
      match (if isGroup h.dst then none else brFind d1 c.vlan h.dst) with
      | none => flood
      | some e =>
        if destKind e.dest = kRouter then (.go { c with routed := true }, d1, m)
        else if destKind e.dest = kException then (if c.cont = 0x41 then flood else (.exc 0x41 c, d1, m))
        else if destKind e.dest = kDrop then (.drop, count WAY_DEST_DROP_COUNT 0 0 d1, m)
        else (.go { c with routed := false, dest := e.dest }, d1, m)

/-- How stage 5 covers a frame: not at all, by a reason, or with the ports of its key (R454). -/
inductive CtCover where
  | skip
  | raises (r : Nat)
  | key (sport dport : Nat)

/-- R454. -/
def ctCover (d : Dev) (h : Hdr) : CtCover :=
  let echo := (h.proto == 1 && (h.icmp == 0 || h.icmp == 8)) || (h.proto == 58 && (h.icmp == 128 || h.icmp == 129))
  if h.frag then .raises 0x53
  else if h.proto = 6 || h.proto = 17 then .key h.sport h.dport
  else if h.proto = 1 || h.proto = 58 then (if echo then .key h.sport h.dport else .raises 0x54)
  else if d.on WAY_CFG_CT_ALL then .key 0 0
  else .skip

/-- A hit entry after the frame: LAST_SEEN, PACKETS, BYTES, FLAGS_SEEN, and TOCLS 3 on FIN or RST (R456). -/
def ctUpdated (b : Bytes) (d : Dev) (h : Hdr) (len : Nat) (fin : Bool) : Bytes :=
  let w := wordAt b 0
  let w1 := (w ||| 256 * (if h.proto = 6 then h.tcpFlags % 256 else 0)) ||| (if fin then 3 * 2 ^ 26 else 0)
  setEntryWord (setEntryWord (setEntryWord (setEntryWord b 0 w1) 13 (nowMs d)) 14 ((wordAt b 14 + 1) % 2 ^ 32)) 15
    ((wordAt b 15 + len) % 2 ^ 32)

/-- R456: the rewrite of a hit entry. -/
def ctNat (b : Bytes) (c : WayCtx) (h : Hdr) (d : Dev) (m : Memory) : Memory :=
  let w := wordAt b 0
  if h.kind ≠ .v4 then m
  else
    let addr := be b 0x2C 4
    let port := wordAt b 12 % 65536
    let f := windowOf c d m
    let f1 := if w.testBit 25 then natRewrite f h true addr port else f
    let f2 := if w.testBit 24 then natRewrite f1 h false addr port else f1
    if w.testBit 25 || w.testBit 24 then writeFrame d c.x.head f2 m else m

/-- Stage 5's work on a hit of entry `e`. -/
def ctHit (e : Nat) (b : Bytes) (c : WayCtx) (h : Hdr) (d : Dev) (m : Memory) : StageAns :=
  let fin := h.proto = 6 && (h.tcpFlags.testBit 0 || h.tcpFlags.testBit 2)
  let peer := wordAt b 1 % 2 ^ 21
  let p := if fin && peer != e then ctEntry peer d m else (.hit [], d)
  match p.1 with
  | .miss l => (.park l, p.2, m)
  | .hit pb =>
    let b1 := ctUpdated b p.2 h c.x.len fin
    let x1 := ctHold e b1 p.2 m
    let x2 := if pb.isEmpty then x1
      else ctHold peer (setEntryWord pb 0 (wordAt pb 0 ||| 3 * 2 ^ 26)) x1.1 x1.2
    if (wordAt b 0).testBit 29 && c.cont != 0x52 then (.exc 0x52 c, x2)
    else (.go c, x2.1, ctNat b c h x2.1 x2.2)

/-- Stage 5: connection tracking and NAT. -/
def stage5 (c : WayCtx) (d : Dev) (m : Memory) : StageAns :=
  let h := hdrOf c d m
  if !c.routed || !isIp h || !d.on WAY_CFG_CT_EN || !wayFull d then (.go c, d, m)
  else match ctCover d h with
    | .skip => (.go c, d, m)
    | .raises r => if c.cont = r then (.go c, d, m) else (.exc r c, d, m)
    | .key sp dp =>
      if !dramReady d 0 then (.exc 0x51 c, d, m)
      else
        let key := connKey h sp dp
        let bucket := crc32 (d.rd WAY_HASH_SEED_SEED) key % 2 ^ ctLog2 d
        let r := ctFind bucket key (h.kind == .v6) d m
        match r.1 with
        | .miss l => (.park l, r.2, m)
        | .hit none => (.exc 0x51 c, r.2, m)
        | .hit (some (e, b)) => ctHit e b c h r.2 m

/-- Fields of a next-hop entry (R461). -/
def nhKind (b : Bytes) : Nat := bitsOf (wordAt b 0) 30 28
def nhValid (b : Bytes) : Bool := (wordAt b 0).testBit 31
def nhDest (b : Bytes) : Nat := bitsOf (wordAt b 1) 16 0

/-- How a next hop resolves (R462): an entry to forward by, a reason, or a drop. -/
inductive Resolve where
  | fwd (b : Bytes)
  | raises (r : Nat)
  | drop

/-- The next hop of index `i` for `flow`; a member of an ECMP entry must forward. -/
def resolveNh (i flow : Nat) (d : Dev) (m : Memory) : Tbl Resolve × Dev :=
  let r := nextHop i d m
  match r.1 with
  | .miss l => (.miss l, r.2)
  | .hit none => (.hit (.raises 0x66), r.2)
  | .hit (some b) =>
    if !nhValid b then (.hit (.raises 0x66), r.2)
    else match nhKind b with
      | 0 => (.hit (.fwd b), r.2)
      | 1 =>
        let e := nextHop (wordAt b 0 % 65536 + flow % (bitsOf (wordAt b 0) 19 16 + 1)) r.2 m
        (match e.1 with
         | .miss l => .miss l
         | .hit none => .hit (.raises 0x66)
         | .hit (some g) => if nhValid g && (nhKind g == 0 || nhKind g == 5) then .hit (.fwd g) else .hit (.raises 0x66),
         e.2)
      | 2 => (.hit (.raises 0x65), r.2)
      | 4 => (.hit .drop, r.2)
      | 5 => (.hit (.fwd b), r.2)
      | _ => (.hit (.raises 0x66), r.2)

/-- The checks of R462 on a frame that is forwarded, in the order of the text. -/
def routeCheck (b : Bytes) (h : Hdr) (cont : Nat) : Option Nat :=
  if h.options && cont != 0x64 then some 0x64
  else if decide (h.ttl ≤ 1) && cont != 0x62 then some 0x62
  else if decide (wordAt b 2 / 65536 < h.ipLen) && cont != 0x63 then some 0x63
  else none

/-- R462: the rewrite of a forwarded frame. `tun` is the tunnel entry of a TUNNEL next hop. -/
def routeFrame (b : Bytes) (tun : Option Bytes) (c : WayCtx) (h : Hdr) (d : Dev) (m : Memory) : StageAns :=
  let f := windowOf c d m
  let f1 := if h.ttl ≤ 1 then f else decTtl f h
  let f2 := splice f1 0 ((b.drop 0x0C).take 12)
  let w := wordAt b 2
  let dest := match tun with
    | some t => wordAt t 11 % 2 ^ 17
    | none => nhDest b
  (.go { c with dest := dest, tunnel := tun, tag := if w.testBit 12 then some (w % 4096) else none }, d,
    writeFrame d c.x.head f2 m)

/-- Stage 6's work on the entry `b` that forwards the frame. -/
def routeBy (b : Bytes) (c : WayCtx) (h : Hdr) (d : Dev) (m : Memory) : StageAns :=
  if nhKind b = 5 then
    let t := tunnelEntry (wordAt b 0 % 4096) d m
    match t.1 with
    | .miss l => (.park l, t.2, m)
    | .hit e =>
      if !((tunW0 e).testBit 31 && (tunW0 e).testBit 29) || tunKind e == 3 then (.exc 0x66 c, t.2, m)
      else match routeCheck b h c.cont with
        | some r => (.exc r c, t.2, m)
        | none => routeFrame b (some e) c h t.2 m
  else if kBss < destKind (nhDest b) then (.exc 0x66 c, d, m)
  else match routeCheck b h c.cont with
    | some r => (.exc r c, d, m)
    | none => routeFrame b none c h d m

/-- Stage 6: route. -/
def stage6 (c : WayCtx) (d : Dev) (m : Memory) : StageAns :=
  let h := hdrOf c d m
  if !c.routed then (.go c, d, m)
  else if !isIp h || (h.kind == .v6 && !wayFull d) || !dramReady d 0 then (.exc 0x61 c, d, m)
  else
    let r := lpmWalk (h.kind == .v6) (dipNum h) d m
    match r.1 with
    | .miss l => (.park l, r.2, m)
    | .hit .malformed => (.drop, fault0 pWay 0x42 0 0 r.2, m)
    | .hit .miss => (.exc 0x61 c, r.2, m)
    | .hit (.nh i) =>
      let n := resolveNh i c.x.flow r.2 m
      match n.1 with
      | .miss l => (.park l, n.2, m)
      | .hit .drop => (.drop, count WAY_DEST_DROP_COUNT 0 0 n.2, m)
      | .hit (.raises e) => (.exc e c, n.2, m)
      | .hit (.fwd b) => routeBy b c h n.2 m

/-- The key of R463. -/
def aclKey (c : WayCtx) (h : Hdr) : List Nat :=
  let ip := fun (b : Bytes) => (List.range 4).map (fun i => be b (4 * i) 4)
  let a := if isIp h then h else { h with proto := 0, dscp := 0, sport := 0, dport := 0, tcpFlags := 0, frag := false }
  let ports := h.proto == 6 || h.proto == 17
  let z := List.replicate 16 (0 : Byte)
  [c.x.src % 65536 * 2 ^ 16 + c.vlan % 4096 * 16 + c.x.tc % 8 * 2 + b2n c.routed,
   a.etype * 2 ^ 16 + a.proto * 256 + a.dscp * 4 + 2 * b2n (h.kind == .v6) + b2n a.frag] ++
  ip (if isIp h then h.sip else z) ++ ip (if isIp h then h.dip else z) ++
  [if ports then a.sport * 65536 + a.dport else 0, a.tcpFlags % 256 * 2 ^ 24 + c.dest * 128]

/-- Stage 7: ACL. -/
def stage7 (c : WayCtx) (d : Dev) (m : Memory) : StageAns :=
  let h := hdrOf c d m
  let dropped : Dev → StageAns := fun e => (.drop, count WAY_ACL_DROP_COUNT 0 0 e, m)
  match aclFind d (aclKey c h) with
  | none => if d.on WAY_CFG_ACL_DEFAULT then dropped d else (.go c, d, m)
  | some (i, r) =>
    let d1 := count WAY_ACL_HITS_COUNT 0 i d
    let a := r.act0 / 2 ^ 30
    if a = 1 then dropped d1
    else
      let c1 := { c with
        x := if r.act0.testBit 28 then { c.x with tc := bitsOf r.act0 27 25 } else c.x
        dscp := if r.act0.testBit 24 then some (bitsOf r.act0 23 18) else none
        mirror := if r.act0.testBit 17 then some (r.act1 % 16384) else none }
      if a = 2 then (if c.cont = 0x71 then (.go c1, d1, m) else (.exc 0x71 c1, d1, m))
      else if a = 3 then (.go { c1 with dest := r.act0 % 2 ^ 17 }, d1, m)
      else (.go c1, d1, m)

/-- Stage 8: marking of the DSCP (R464). -/
def stage8 (c : WayCtx) (d : Dev) (m : Memory) : StageAns :=
  let h := hdrOf c d m
  let t := c.x.tc % 8
  let v := match c.dscp with
    | some v => some v
    | none =>
      if c.routed && d.on WAY_MARK_CFG_DSCP_ROUTED then
        some (if t < 5 then d.rd WAY_TC_DSCP0_DSCP 0 t else d.rd WAY_TC_DSCP1_DSCP 0 (t - 5))
      else none
  match v with
  | none => (.go c, d, m)
  | some v =>
    if isIp h then (.go c, d, writeFrame d c.x.head (setDscp (windowOf c d m) h v) m) else (.go c, d, m)

/-- A copy: its queue, the Ethernet port it leaves by, if any, and whether it is a member of a flood. -/
structure Copy where
  queue : Nat
  port : Option Nat
  flood : Bool

/-- The copy of a destination that names one queue (R467). -/
def copyOf (d : Dev) (tc : Nat) (flood : Bool) (dest : Nat) : Option Copy :=
  let i := destIndex dest
  match destKind dest with
  | 0 => some ⟨i, none, flood⟩
  | 1 => some ⟨(d.rd WAY_ETH_MAP_QBASE 0 i + tc) % 16384, some i, flood⟩
  | 2 => some ⟨(d.rd WAY_STA_MAP_QBASE 0 i + tc) % 16384, none, flood⟩
  | 3 => some ⟨d.rd WAY_BSS_MAP_QUEUE 0 i, none, flood⟩
  | _ => none

/-- The copies of a destination (R467); `learned` is the DEST learned for the frame's source. -/
def copiesOf (d : Dev) (tc dest : Nat) (learned : Option Nat) : List Copy :=
  if destKind dest = kFlood then
    (List.range 16).filterMap (fun k =>
      let i := destIndex dest % 1024 * 16 + k
      let t := d.rd WAY_FLOOD_MEMBER_DEST 0 i
      if d.on WAY_FLOOD_MEMBER_VALID 0 i && learned != some t then copyOf d tc true t else none)
  else (copyOf d tc false dest).toList

/-- A copy carries a tag with the VLAN given (R466). -/
def copyTag (d : Dev) (c : WayCtx) (k : Copy) : Option Nat :=
  if c.routed then c.tag
  else match k.port with
    | some p => if (d.rd WAY_VLAN_CFG_TAGGED 0 c.vlan).testBit p then some c.vlan else none
    | none => none

/-- PCP of an emitted tag (R464). -/
def tagPcp (d : Dev) (c : WayCtx) : Nat :=
  if d.on WAY_MARK_CFG_PCP then d.rd WAY_TC_PCP_PCP 0 (c.x.tc % 8) % 8 else c.pcp.getD 0

/-- Writes a tag behind the addresses of a frame: the front grows by 4 bytes. -/
def addTag (x : Manifest) (vlan pcp : Nat) (d : Dev) (m : Memory) : Manifest × Dev × Memory :=
  let macs := readFrame d m x.head 0 12
  let d1 := moveFront x.head (· - 4) d
  ({ x with len := x.len + 4 }, d1,
    writeFrame d1 x.head (macs ++ [0x81, 0x00] ++ toBE 2 (pcp % 8 * 8192 + vlan % 4096)) m)

/-- Stage 9's encapsulation of R465; none where R466 raises HEADROOM. `more` bytes of a tag follow. -/
def encapsulate (c : WayCtx) (more : Nat) (d : Dev) (m : Memory) : Option (WayCtx × Dev × Memory) :=
  let fits := fun (n : Nat) => decide (n + more ≤ roomOf d c.x.head) && decide (c.x.len + n + more ≤ 262143)
  let plainEnd := if more = 0 || fits 0 then some (c, d, m) else none
  match c.tunnel with
  | none => plainEnd
  | some t =>
    if !wayFull d then plainEnd
    else if tunKind t = 2 then
      (if more = 0 || fits 0 then
        some ({ c with x := { c.x with ciphOp := 3, ciphRef := bitsOf (tunW0 t) 25 13 } }, d, m)
      else none)
    else if !fits (tunLen t) then none
    else
      let bs := fillTemplate ((t.drop 0x30).take (tunLen t)) ((tunW0 t).testBit 28) (tunKind t == 0) c.x.len c.x.flow
      let d1 := moveFront c.x.head (· - tunLen t) d
      some ({ c with x := { c.x with len := c.x.len + tunLen t } }, d1, writeFrame d1 c.x.head bs m)

/-- One copy goes to its queue, or to the cipher engine with QUEUE written; `used` when an earlier copy holds the
caravan's first count. The state of the fold: whether the count is used, and the device. -/
def sendCopy (x : Manifest) (many : Bool) (s : Bool × Dev) (k : Copy) : Bool × Dev :=
  let y := setFlag { x with queue := k.queue } fMcast (many || flagOf x fMcast)
  let counted := fun (e : Dev) =>
    let e1 := count WAY_ENQ_COUNT 0 0 e
    if k.flood then count WAY_FLOOD_COPIES_COUNT 0 0 e1 else e1
  if x.ciphOp = 1 ∨ x.ciphOp = 3 then
    let r := if s.1 then refUp x.head s.2 else (true, s.2)
    if r.1 then (true, { r.2 with q := { r.2.q with toCiph := r.2.q.toCiph ++ [(y, 0)] } })
    else (s.1, countEnqDrop .waystation r.2)
  else
    let r := tryEnqueue y false s.1 s.2
    if r.1 then (true, counted r.2) else (s.1, countEnqDrop .waystation r.2)

/-- Every copy of a frame (R467); a frame of which no copy is accepted loses its count (R187). -/
def sendAll (x : Manifest) (ks : List Copy) (d : Dev) : Dev :=
  let r := ks.foldl (sendCopy x (decide (1 < ks.length))) (false, d)
  if r.1 then r.2 else refDown x.head (frameDropped x r.2)

/-- Stage 9: encapsulate and enqueue. -/
def stage9 (c : WayCtx) (d : Dev) (m : Memory) : StageAns :=
  let h := hdrOf c d m
  let learned := (brFind d c.vlan h.src).map (·.dest)
  let ks := copiesOf d (c.x.tc % 8) c.dest learned
  if kFlood < destKind c.dest && c.mirror.isNone then (.drop, count WAY_DEST_DROP_COUNT 0 0 d, m)
  else
    let tags := ks.map (copyTag d c)
    let whole := !ks.isEmpty && tags.all (·.isSome)
    let more := if tags.any (·.isSome) then 4 else 0
    match encapsulate c more d m with
    | none => (.exc 0x91 c, d, m)
    | some (c1, d1, m1) =>
      let v := (tags.findSome? id).getD 0
      let r := if whole then addTag c1.x v (tagPcp d c) d1 m1 else (c1.x, d1, m1)
      let ports := ks.filterMap (fun k => if (copyTag d c k).isSome then k.port else none)
      let d2 := if !whole && more == 4 then
          { r.2.1 with q := { r.2.1.q with
            tags := tabSet r.2.1.q.tags c.x.head (v, tagPcp d c, ports.foldl setBit 0) } }
        else r.2.1
      let mir := match c.mirror with
        | some q => [(⟨q, none, false⟩ : Copy)]
        | none => []
      (.gone, sendAll { r.1 with exc := 0 } (ks ++ mir) d2, r.2.2)

/-- Stage `s`. -/
def runStage (s : Nat) (c : WayCtx) (d : Dev) (m : Memory) : StageAns :=
  if s = 1 && srcKind c.x = 5 then (.exc 0x13 c, d, m)
  else if framePoisoned d c.x.head 0 (min 128 c.x.len) then
    (.drop, fault0 pWay 0x43 1 0 (count WAY_POISON_DROP_COUNT 0 0 d), m)
  else match s with
    | 1 => stage1 c d m
    | 2 => stage2 c d m
    | 3 => stage3 c d m
    | 4 => stage4 c d m
    | 5 => stage5 c d m
    | 6 => stage6 c d m
    | 7 => stage7 c d m
    | 8 => stage8 c d m
    | _ => stage9 c d m

/-- A dropped manifest: 1 is taken from its caravan's count. -/
def wayDrop (x : Manifest) (d : Dev) : Dev := refDown x.head (frameDropped x d)

/-- An earlier manifest of the same FLOW waits in the pipeline (R471). -/
def flowParked (d : Dev) (f : Nat) : Bool := d.way.parked.any (fun w => w.ctx.x.flow == f)

/-- Puts a manifest among those that wait. -/
def wayPark (w : WayWait) (d : Dev) : Dev := wayMod (fun u => { u with parked := u.parked ++ [w] }) d

/-- Runs a manifest from stage `s` until it leaves the pipeline or waits. -/
def runFrom : Nat → Nat → WayCtx → Dev → Memory → Dev × Memory
  | 0, _, _, d, m => (d, m)
  | fuel + 1, s, c, d, m =>
    if 1 < s && flowParked d c.x.flow then (wayPark ⟨c, s, none⟩ d, m)
    else
      let r := runStage s c d m
      match r.1 with
      | .go c1 => runFrom fuel (s + 1) c1 r.2.1 r.2.2
      | .exc e c1 =>
        (wayMod (fun u => { u with excs := u.excs ++ [⟨{ c1 with x := { c1.x with exc := e } }, e / 16⟩] }) r.2.1, r.2.2)
      | .drop => (wayDrop c.x r.2.1, r.2.2)
      | .park l => (wayPark ⟨c, s, some l⟩ r.2.1, r.2.2)
      | .gone => r.2

/-- Runs a manifest from stage `s`. -/
def runPipe (s : Nat) (c : WayCtx) (d : Dev) (m : Memory) : Dev × Memory := runFrom 10 s c d m

/-! ### Entry -/

/-- The reasons of R468. -/
def excCodes : List Nat :=
  [0x11, 0x12, 0x13, 0x14, 0x15, 0x21, 0x22, 0x23, 0x41, 0x42, 0x43, 0x51, 0x52, 0x53, 0x54, 0x61, 0x62, 0x63, 0x64, 0x65,
   0x66, 0x71, 0x91]

/-- Distinct table lines that are being fetched. -/
def fetchLines (d : Dev) : List Nat :=
  d.way.parked.foldl (fun l w => match w.line with
    | some a => addOnce l a
    | none => l) []

/-- A job ring of the Waystation holds its 256 jobs (R593). -/
def cipherFull (d : Dev) : Bool :=
  [0, 1, 2, 3].any (fun r => decide (256 ≤ (d.q.toCiph.filter (fun e => e.1.flow % 4 == r)).length))

/-- R437: the oldest manifest from an edge or engine enters. The input stalls behind an exception that waits (R469), at
512 outstanding fetches (R436), behind a full cipher ring (R593), and behind returned manifests (R438). A frame that a
radio passes to software is an exception from the start. -/
def wayIn (d : Dev) (m : Memory) : Dev × Memory :=
  match d.q.toWay with
  | [] => (d, m)
  | x :: rest =>
    if !isActive d pWay || !d.way.excs.isEmpty || !d.q.toWayTask.isEmpty || decide (512 ≤ (fetchLines d).length)
        || cipherFull d then (d, m)
    else
      let d1 := count WAY_IN_COUNT 0 0 { d with q := { d.q with toWay := rest } }
      let c := if flagOf x fCipherDone then { tabGet d.way.saved x.head { x := x } with x := x } else { x := x }
      let d2 := wayMod (fun w => { w with saved := tabDel w.saved x.head }) d1
      if x.exc = 0x22 then (wayMod (fun w => { w with excs := w.excs ++ [⟨c, 2⟩] }) d2, m)
      else if x.exc ≠ 0 ∧ srcKind x < 3 then (wayMod (fun w => { w with excs := w.excs ++ [⟨c, 1⟩] }) d2, m)
      else runPipe 1 c d2 m

/-- R438: the oldest returned manifest re-enters. -/
def wayReturn (d : Dev) (m : Memory) : Dev × Memory :=
  match d.q.toWayTask with
  | [] => (d, m)
  | y :: rest =>
    if isActive d pWay && !d.way.excs.isEmpty then (d, m)
    else
      let d1 := { d with q := { d.q with toWayTask := rest } }
      if !isActive d pWay then (wayDrop y (count WAY_RET_DROP_COUNT 0 0 d1), m)
      else if y.exc ≠ 0 && !has excCodes y.exc then (wayDrop y (count WAY_RET_DROP_COUNT 0 0 d1), m)
      else
        let x := setFlag { y with exc := 0 } fFromTask true
        let c := match tabFind d.way.saved y.head with
          | some k => { k with x := x, cont := y.exc }
          | none => { x := x, cont := y.exc, vlan := pvidOf d x }
        let s := if y.exc = 0 then 1 else if y.exc = 0x22 then 3
          else if (tabFind d.way.saved y.head).isNone && decide (5 ≤ y.exc / 16) then 4 else y.exc / 16
        runPipe s c (wayMod (fun w => { w with saved := tabDel w.saved y.head }) (count WAY_RET_COUNT 0 0 d1)) m

/-- R469: the oldest manifest that has raised a reason is posted, or dropped. -/
def wayExcPost (d : Dev) : Dev :=
  match d.way.excs with
  | [] => d
  | e :: rest =>
    let x := e.ctx.x
    let d1 := if e.ctx.cont = x.exc then count WAY_EXC_REPEAT_COUNT 0 0 d else d
    if d.on WAY_EXC_ROUTE_DROP 0 (e.stage - 1) then
      wayDrop x (count WAY_EXC_DROPPED_COUNT 0 0 (wayMod (fun w => { w with excs := rest }) d1))
    else if !postRoom d then d
    else
      let d2 := moveCharge x.head 3 (wayMod (fun w => { w with excs := rest, saved := tabSet w.saved x.head e.ctx }) d1)
      setFlow x.flow (flowCount d2 x.flow + 1) (count WAY_EXC_POSTED_COUNT 0 0
        (pushPost ⟨d.rd WAY_EXC_ROUTE_TASK 0 (e.stage - 1), d.rd WAY_EXC_ROUTE_FLAG 0 (e.stage - 1), some x⟩ d2))

/-- Runs one waiting manifest again, if it can go on: `bad` is a line whose fetch failed. -/
def resumeOne (line : Nat) (bad : Bool) (s : Dev × Memory) (w : WayWait) : Dev × Memory :=
  let ready := match w.line with
    | none => !flowParked s.1 w.ctx.x.flow
    | some l => l == line
  if !ready then (wayPark w s.1, s.2)
  else if bad && w.line == some line then
    (wayDrop w.ctx.x (count WAY_TBL_ERR_DROP_COUNT 0 0 s.1), s.2)
  else runPipe w.stage w.ctx s.1 s.2

/-- R436, R472, R474: the fetch of the line at `line` completes; the manifests that wait for it, and those behind them,
go on in their order. -/
def fetchDone (line : Nat) (bad : Bool) (d : Dev) (m : Memory) : Dev × Memory :=
  if !has (fetchLines d) line then (d, m)
  else
    let poisoned := bad || poisonedAt d line 64
    let r := unitRead 9 line 64 d m
    let d1 := if poisoned then raiseBit pWay 5 (fault0 pWay 0x41 1 line r.2.2)
      else wayMod (fun w => { w with cache := tabSet w.cache line r.1 }) r.2.2
    d.way.parked.foldl (resumeOne line poisoned) (wayMod (fun w => { w with parked := [] }) d1, m)

/-! ### Connection scan and commands -/

/-- Connection entry `e` from the hot store or DRAM, as the scan reads it. -/
def ctRead (e : Nat) (d : Dev) (m : Memory) : Bytes × Dev :=
  match tabFind d.way.hot e with
  | some b => (b, d)
  | none =>
    let r := unitRead 9 (ctAddr d e) 64 d m
    (r.1, r.2.2)

/-- Milliseconds since LAST_SEEN of an entry, modulo 2^32. -/
def sinceSeen (d : Dev) (b : Bytes) : Nat := (nowMs d + 2 ^ 32 - wordAt b 13) % 2 ^ 32

/-- VALID of entry `e` cleared: its counts are kept, its hot copy is discarded. -/
def ctClear (e : Nat) (d : Dev) (m : Memory) : Dev × Memory :=
  let r := unitRead 9 (ctAddr d e) 64 d m
  ctSetWord0 e (clearBit (wordAt r.1 0) 31) r.2.2 m

/-- R457: the scan visits its next entry. -/
def ctScan (d : Dev) (m : Memory) : Dev × Memory :=
  if !isActive d pWay || !wayFull d || !dramReady d 0 then (d, m)
  else
    let total := 4 * 2 ^ ctLog2 d
    let e := d.way.scanPos % total
    let d0 := wayMod (fun w => { w with scanPos := (e + 1) % total }) d
    let r := ctRead e d0 m
    let w := wordAt r.1 0
    if !w.testBit 31 || w.testBit 28 then (r.2, m)
    else
      let peer := wordAt r.1 1 % 2 ^ 21
      let p := ctRead peer r.2 m
      let age := min (sinceSeen d r.1) (sinceSeen d p.1)
      if age < 1000 * d.rd WAY_CT_TIMEOUT_SEC 0 (bitsOf w 27 26) || 512 ≤ d.way.expiry.length then (p.2, m)
      else
        let x := ctClear e p.2 m
        let y := ctClear peer x.1 x.2
        (raiseBit pWay 3 (wayMod (fun u => { u with expiry := u.expiry ++ [e] }) y.1), y.2)

/-- R457: the hot store writes entry `e` back while it holds it. -/
def ctHotBack (e : Nat) (d : Dev) (m : Memory) : Dev × Memory :=
  match tabFind d.way.hot e with
  | none => (d, m)
  | some b => ctWriteBack e b d m

/-- R457: a read of WAY_CT_EXPIRY pops the oldest index. -/
def ctExpiryPop (d : Dev) : Dev :=
  match d.way.expiry with
  | [] => answer 0 d
  | e :: rest =>
    let d1 := answer (2 ^ 31 + e) (wayMod (fun w => { w with expiry := rest }) d)
    if rest.isEmpty then lowerBit pWay 3 d1 else d1

/-- WAY_CT_CMD is refused: RESULT 1 and code 0x40. -/
def ctRefuse (m : Nat) (d : Dev) : Dev :=
  refuseWrite pWay 0x40 m (regAddr (pWay + 1) 0x094) (d.put WAY_CT_CMD_RESULT 1)

/-- R458: INSERT or DELETE of entry `e`. -/
def ctCommand (ins : Bool) (mst e : Nat) (d : Dev) (m : Memory) : Dev × Memory :=
  if 4 * 2 ^ ctLog2 d ≤ e then (ctRefuse mst d, m)
  else
    let r := unitRead 9 (ctAddr d e) 64 d m
    let w := wordAt r.1 0
    if ins && w.testBit 31 then (ctRefuse mst r.2.2, m)
    else
      let x := ctSetWord0 e (if ins then setBit w 31 else clearBit w 31) r.2.2 m
      (x.1.put WAY_CT_CMD_RESULT 0, x.2)

/-- A write of WAY_CT_CMD by its CMD code (R820). -/
def ctCmdWrite (mst v : Nat) (d : Dev) (m : Memory) : Dev × Memory :=
  match bitsOf v 25 24 with
  | 0 => (d, m)
  | 1 => ctCommand true mst (bitsOf v 20 0) d m
  | 2 => ctCommand false mst (bitsOf v 20 0) d m
  | _ => (ctRefuse mst d, m)

/-- R453: FLUSH_DYNAMIC. -/
def brFlush (d : Dev) : Dev := (brKeep (·.static) d).put WAY_BR_CMD_RESULT 0

/-- A write of WAY_BR_CMD by its CMD code (R820). -/
def brCmdWrite (m v : Nat) (d : Dev) : Dev :=
  match v % 8 with
  | 0 => d
  | 1 => brLookup d
  | 2 => brInsert d
  | 3 => brDelete d
  | 4 => brFlush d
  | _ => refuseWrite pWay 0x40 m (regAddr (pWay + 2) 0x050) (d.put WAY_BR_CMD_RESULT 3)

/-- R473: the lines named leave the cache. -/
def tblInv (lines : Nat) (d : Dev) : Dev :=
  let first := 64 * d.rd WAY_TBL_INV_LO_ADDR + 2 ^ 32 * d.rd WAY_TBL_INV_HI_ADDR
  let n := lines % 65536
  wayMod (fun w => { w with cache :=
    if n = 0 then [] else w.cache.filter (fun e => !(decide (first ≤ e.1) && decide (e.1 < first + 64 * n))) }) d

/-- A write of WAY_ACL_CMD by its CMD code (R820). -/
def aclCmdWrite (m v : Nat) (d : Dev) : Dev :=
  match v % 4 with
  | 0 => d
  | 1 => aclWrite d
  | 2 => aclRead d
  | _ => refuseWrite pWay 0x40 m (regAddr (pWay + 5) 0x044) d

/-- R470, R469: a task's report of a manifest takes 1 from its flow's count. -/
def flowReport (f : Nat) (d : Dev) : Dev := setFlow f (flowCount d f - 1) d

/-- R476: starting clears every flow count. -/
def wayStart (d : Dev) : Dev := wayMod (fun w => { w with flows := [] }) d

/-- R476: what a soft reset of WAY empties beside its registers. -/
def waySoftReset (d : Dev) : Dev :=
  wayMod (fun w => { w with bridge := [], hot := [], expiry := [], policers := [], acl := [], scanPos := 0 }) d

/-! ### Meanings -/

def execWayManifestIn (s : State) : Host.Outcome State Fault Refusal := updMem s wayIn

def execWayTableFetchDone (line : Nat) (bad : Bool) (s : State) : Host.Outcome State Fault Refusal :=
  updMem s (fetchDone line bad)

def execWayReturn (s : State) : Host.Outcome State Fault Refusal := updMem s wayReturn

def execWayExcPost (s : State) : Host.Outcome State Fault Refusal := upd s wayExcPost

def execBrAgeScan (s : State) : Host.Outcome State Fault Refusal :=
  upd s (fun d => if isActive d pWay then brAge d else d)

def execCtScan (s : State) : Host.Outcome State Fault Refusal := updMem s ctScan

def execCtHotWriteback (e : Nat) (s : State) : Host.Outcome State Fault Refusal := updMem s (ctHotBack e)

def execCtExpiryPop (m : Nat) (s : State) : Host.Outcome State Fault Refusal :=
  upd s (cmdRead (pWay + 1) 0x098 m ctExpiryPop)

def execCtInsert (m e : Nat) (s : State) : Host.Outcome State Fault Refusal :=
  updMem s (cmdWriteMem (pWay + 1) 0x094 m (ctCommand true m e))

def execCtDelete (m e : Nat) (s : State) : Host.Outcome State Fault Refusal :=
  updMem s (cmdWriteMem (pWay + 1) 0x094 m (ctCommand false m e))

def execBrLookup (m : Nat) (s : State) : Host.Outcome State Fault Refusal :=
  upd s (cmdWrite (pWay + 2) 0x050 m brLookup)

def execBrInsert (m : Nat) (s : State) : Host.Outcome State Fault Refusal :=
  upd s (cmdWrite (pWay + 2) 0x050 m brInsert)

def execBrDelete (m : Nat) (s : State) : Host.Outcome State Fault Refusal :=
  upd s (cmdWrite (pWay + 2) 0x050 m brDelete)

def execBrFlushDynamic (m : Nat) (s : State) : Host.Outcome State Fault Refusal :=
  upd s (cmdWrite (pWay + 2) 0x050 m brFlush)

def execTblInv (m lines : Nat) (s : State) : Host.Outcome State Fault Refusal :=
  upd s (cmdWrite (pWay + 1) 0x090 m (tblInv lines))

def execAclWrite (m : Nat) (s : State) : Host.Outcome State Fault Refusal :=
  upd s (cmdWrite (pWay + 5) 0x044 m aclWrite)

def execAclRead (m : Nat) (s : State) : Host.Outcome State Fault Refusal :=
  upd s (cmdWrite (pWay + 5) 0x044 m aclRead)

def execPolBurstWrite (m v : Nat) (s : State) : Host.Outcome State Fault Refusal :=
  upd s (cmdWrite (pWay + 4) 0x088 m (polBurst v))

end Sys2Proof.Machine
end

