-- ==== Sys2Proof/Machine/Cipher.lean ====
section
/-! DEFINITION. The key store, the context records, the job rings and the manifest path of the cipher engine
(spec/15_cipher.md). The algorithms stand in Crypto.lean. -/

namespace Sys2Proof.Machine

open Sys2Proof

/-- First pages of CIPH and KEY. -/
def pCiph : Nat := 0x88
def pKey : Nat := 0x8C

/-- Changes what the cipher engine holds beyond its registers. -/
def ciphMod (f : CiphUnit → CiphUnit) (d : Dev) : Dev := { d with ciph := f d.ciph }

/-! ### Accesses in a master's address space -/

/-- `n` bytes at `a` in the address space of master `m`: for master 17 what the host's memory answers; none where the
access is blocked or not answered. -/
def spaceRead (m a n : Nat) (host : Option Bytes) (d : Dev) (mem : Memory) : Option Bytes × Dev :=
  if m = 17 then
    (match host with
     | some b => if n ≤ b.length then some (b.take n) else none
     | none => none, d)
  else
    let r := unitRead m a n d mem
    (if r.2.1 then some r.1 else none, r.2.2)

/-- Stores `bs` at `a` in the address space of master `m`; whether it is granted. -/
def spaceWrite (m a : Nat) (bs : Bytes) (d : Dev) (mem : Memory) : Bool × Dev × Memory :=
  if m = 17 then (true, emit (.hostWrite a bs) d, mem) else unitWrite m a bs d mem

/-! ### Slots (R583, R603) -/

/-- The bits of USAGE. -/
def uEnc : Nat := 0
def uDec : Nat := 1
def uWrap : Nat := 2
def uUnwrap : Nat := 3
def uDerive : Nat := 4
def uExport : Nat := 5

/-- The key material of slot `s`, 64 bytes. -/
def keyMaterial (d : Dev) (s : Nat) : Bytes := tabGet d.ciph.keys s (List.replicate 64 0)

/-- Key length in bytes of a LEN code. -/
def lenBytes (code : Nat) : Nat := if code = 3 then 64 else 16 + 8 * code

/-- The key of slot `s`. -/
def slotKey (d : Dev) (s : Nat) : Bytes := (keyMaterial d s).take (lenBytes (d.rd KEY_ATTR_LEN 0 s))

/-- Slot `s` is VALID, not ERASING, and has usage `u` (R583). -/
def slotOk (d : Dev) (s u : Nat) : Bool :=
  d.on KEY_ATTR_VALID 0 s && !d.on KEY_ATTR_ERASING 0 s && (d.rd KEY_ATTR_USAGE 0 s).testBit u

/-- The next PN of slot `s`. -/
def pnOf (d : Dev) (s : Nat) : Nat := d.rd KEY_PN_LO_PN 0 s + 2 ^ 32 * d.rd KEY_PN_HI_PN 0 s

/-- The limit of the PN of slot `s`, and its rekey threshold. -/
def pnLimit (d : Dev) (s : Nat) : Nat := if d.on KEY_ATTR_PN32 0 s then 2 ^ 32 - 1 else 2 ^ 48 - 1
def pnRekey (d : Dev) (s : Nat) : Nat :=
  (d.rd KEY_REKEY_LO_PN + 2 ^ 32 * d.rd KEY_REKEY_HI_PN) / (if d.on KEY_ATTR_PN32 0 s then 2 ^ 16 else 1)

/-- Stores the next PN of slot `s`. -/
def putPn (s v : Nat) (d : Dev) : Dev := (d.put KEY_PN_LO_PN v 0 s).put KEY_PN_HI_PN (v / 2 ^ 32) 0 s

/-- The next PN of slot `s` rises to `v`: REKEY where it reaches the threshold, EXHAUSTED where it reaches the limit. -/
def raisePn (s v : Nat) (d : Dev) : Dev :=
  let old := pnOf d s
  let d1 := putPn s v d
  let d2 := if old < pnRekey d s ∧ pnRekey d s ≤ v then
      raiseBit pKey 3 ((d1.put KEY_ATTR_REKEY_F 1 0 s).put KEY_REKEY_LAST_SLOT s) else d1
  if old < pnLimit d s ∧ pnLimit d s ≤ v then raiseBit pKey 4 (d2.put KEY_ATTR_EXHAUSTED 1 0 s) else d2

/-- No PN can be drawn from slot `s`. -/
def pnSpent (d : Dev) (s : Nat) : Bool := d.on KEY_ATTR_EXHAUSTED 0 s || decide (pnLimit d s ≤ pnOf d s)

/-- Draws a PN from slot `s`, none where it is EXHAUSTED. -/
def drawPn (s : Nat) (d : Dev) : Option Nat × Dev :=
  if pnSpent d s then (none, d) else (some (pnOf d s), raisePn s (pnOf d s + 1) d)

/-- R603: a write of KEY_PN of slot `s`: raising only. -/
def pnWrite (m s v : Nat) (d : Dev) : Dev :=
  if v % 2 ^ 48 < pnOf d s then refuseWrite pKey 0x42 m (regAddr pKey 0x048) d else raisePn s (v % 2 ^ 48) d

/-! ### Blobs (R586–R588) -/

/-- The nonce of a wrapping with PN `pn`. -/
def wrapNonce (pn : Nat) : Bytes := [0, 0, 0, 0] ++ toBE 8 pn

/-- A blob of a 16-byte header and 64 bytes of material, wrapped with `key` and PN `pn`. -/
def wrapBlob (key hdr material : Bytes) (pn : Nat) : Bytes :=
  let r := gcmSeal key (wrapNonce pn) hdr material
  hdr ++ wrapNonce pn ++ [0, 0, 0, 0] ++ r.1 ++ r.2 ++ List.replicate 16 0

/-- A header of R587 has a wrong VERSION or KIND, a zero field that is not zero, or a root key that master `m` may not
load. -/
def blobMalformed (m : Nat) (b : Bytes) : Bool :=
  let w := wordAt b
  w 0 % 2 ^ 16 != 0x0101 || bitsOf (w 0) 31 27 != 0 || bitsOf (w 2) 31 16 != 0 || w 3 != 0 || w 7 != 0 ||
  (b.drop 0x70).any (· != 0) || ((w 0).testBit 26 && m != 16)

/-- The 16-byte header of slot `s` with its present PN. -/
def slotHeader (d : Dev) (s : Nat) : Bytes :=
  let w0 := 0x0101 + 2 ^ 16 * d.rd KEY_ATTR_USAGE 0 s + 2 ^ 22 * d.rd KEY_ATTR_LEN 0 s +
    2 ^ 24 * d.rd KEY_ATTR_PN32 0 s + 2 ^ 25 * d.rd KEY_ATTR_DPA 0 s + 2 ^ 26 * d.rd KEY_ATTR_ROOT 0 s
  toBytes 4 w0 ++ toBytes 8 (pnOf d s) ++ toBytes 4 0

/-! ### Key commands -/

/-- The slot that KEY_IDX names, and the wrapping or root slot beside it. -/
def keySel (d : Dev) : Nat := d.rd KEY_IDX_SLOT
def wrapSel (d : Dev) : Nat := d.rd KEY_WRAP_SLOT_SLOT 0 (keySel d)
def blobAddr (d : Dev) : Nat := d.rd KEY_BLOB_LO_ADDR + 2 ^ 32 * d.rd KEY_BLOB_HI_ADDR
def outAddr (d : Dev) : Nat := d.rd KEY_OUT_LO_ADDR + 2 ^ 32 * d.rd KEY_OUT_HI_ADDR

/-- A key command on slot `s` ends with RESULT `r`. -/
def keyEnd (s r : Nat) (d : Dev) : Dev := raiseBit pKey 6 (d.put KEY_CMD_RESULT r 0 s)

/-- A key command is refused with RESULT `r` and code `c`. -/
def keyRefuse (m s r c : Nat) (d : Dev) : Dev := keyEnd s r (refuseWrite pKey c m (regAddr pKey 0x050) d)

/-- A key command is refused where the spec names no RESULT: the value is open. -/
def keyRefuseOpen (m s : Nat) (d : Dev) : Dev :=
  let r := draw d
  keyRefuse m s r.1 0x40 r.2

/-- A key command of master `m` on the selected slot: its rights (R585), the reserved slots (R584, `own` for the commands
that write the slot), and the block's state. -/
def keyCommand (m : Nat) (own : Bool) (f : Nat → Dev → Memory → Dev × Memory) (d : Dev) (mem : Memory) : Dev × Memory :=
  let s := keySel d
  if !customsGrant d .keyStore s s m .write then (customsRefuse .keyStore m .write s d, mem)
  else if own && decide (s < 16) && m != 16 then (keyRefuse m s 2 0x40 d, mem)
  else if !isActive d pKey then (keyRefuseOpen m s d, mem)
  else f s d mem

/-- The attributes and PN of a header enter slot `s` with the material. -/
def installKey (s : Nat) (hdr material : Bytes) (d : Dev) : Dev :=
  let w := wordAt hdr
  let d1 := ciphMod (fun c => { c with keys := tabSet c.keys s (padTo 64 (material.take 64)) }) d
  let d2 := ((((((d1.put KEY_ATTR_VALID 1 0 s).put KEY_ATTR_ROOT (bitsOf (w 0) 26 26) 0 s).put KEY_ATTR_EXHAUSTED 0 0 s).put
    KEY_ATTR_DPA (bitsOf (w 0) 25 25) 0 s).put KEY_ATTR_PN32 (bitsOf (w 0) 24 24) 0 s).put
    KEY_ATTR_LEN (bitsOf (w 0) 23 22) 0 s).put KEY_ATTR_USAGE (bitsOf (w 0) 21 16) 0 s
  putPn s (w 1 + 2 ^ 32 * (w 2 % 2 ^ 16)) (d2.put KEY_ATTR_GEN (d2.rd KEY_ATTR_GEN 0 s + 1) 0 s)

/-- LOAD (R587). -/
def keyLoadEff (m : Nat) (host : Option Bytes) (s : Nat) (d : Dev) (mem : Memory) : Dev × Memory :=
  let w := wrapSel d
  if d.on KEY_ATTR_ERASING 0 s || !slotOk d w uUnwrap || d.rd KEY_ATTR_LEN 0 w != 2 then (keyRefuse m s 3 0x40 d, mem)
  else
    let r := spaceRead m (blobAddr d) 128 host d mem
    let b := r.1.getD (List.replicate 128 0)
    if blobMalformed m b then (keyRefuse m s 4 0x40 r.2, mem)
    else match gcmOpen (slotKey d w) ((b.drop 0x10).take 12) (b.take 16) ((b.drop 0x20).take 64) ((b.drop 0x60).take 16) with
      | none => (keyRefuse m s 5 0x41 r.2, mem)
      | some k => (keyEnd s 0 (installKey s (b.take 16) k (r.2.put KEY_ATTR_REKEY_F 0 0 s)), mem)

/-- Wraps a header and material with slot `w` to KEY_OUT and ends the command; refused where `w` cannot wrap (R588). -/
def keyWrap (m s : Nat) (hdr material : Bytes) (d : Dev) (mem : Memory) : Dev × Memory :=
  let w := wrapSel d
  if !slotOk d w uWrap || d.rd KEY_ATTR_LEN 0 w != 2 then (keyRefuse m s 3 0x40 d, mem)
  else
    let r := drawPn w d
    match r.1 with
    | none => (keyRefuse m s 3 0x40 d, mem)
    | some pn =>
      let x := spaceWrite m (outAddr d) (wrapBlob (slotKey d w) hdr material pn) r.2 mem
      (keyEnd s 0 x.2.1, x.2.2)

/-- EXPORT (R588). -/
def keyExportEff (m s : Nat) (d : Dev) (mem : Memory) : Dev × Memory :=
  if !slotOk d s uExport then (keyRefuse m s 3 0x40 d, mem)
  else keyWrap m s (slotHeader d s) (keyMaterial d s) d mem

/-- SEAL (R588). Input that the master cannot read is taken as zeros, as a blocked read returns them. -/
def keySealEff (m : Nat) (host : Option Bytes) (s : Nat) (d : Dev) (mem : Memory) : Dev × Memory :=
  if !d.on KEY_CFG_CLEAR_SEAL_EN then (keyRefuseOpen m s d, mem)
  else
    let r := spaceRead m (blobAddr d) 80 host d mem
    let b := r.1.getD (List.replicate 80 0)
    keyWrap m s (b.take 16) (b.drop 16) r.2 mem

/-- KEY_LABEL0–3 as 16 bytes. -/
def keyLabel (d : Dev) : Bytes := [0, 1, 2, 3].flatMap (fun i => toBytes 4 (d.rd KEY_LABEL_LABEL 0 i))

/-- DERIVE (R591): the derived attributes are LEN and USAGE; the others are 0. -/
def keyDeriveEff (m s : Nat) (d : Dev) (mem : Memory) : Dev × Memory :=
  let w := wrapSel d
  let len := d.rd KEY_DERIVE_ATTR_LEN
  if !feat d pKey 3 3 then (keyRefuseOpen m s d, mem)
  else if d.on KEY_ATTR_ERASING 0 s || !slotOk d w uDerive || d.rd KEY_ATTR_LEN 0 w != 2 then (keyRefuse m s 3 0x40 d, mem)
  else
    let hdr := toBytes 4 (2 ^ 16 * (d.rd KEY_DERIVE_ATTR_USAGE % 4) + 2 ^ 22 * len) ++ toBytes 8 1 ++ toBytes 4 0
    (keyEnd s 0 (installKey s hdr (kdf (slotKey d w) (keyLabel d) (8 * lenBytes len)) d), mem)

/-- ERASE (R607). -/
def keyEraseEff (s : Nat) (d : Dev) (mem : Memory) : Dev × Memory :=
  ((((d.put KEY_ATTR_ERASING 1 0 s).put KEY_CMD_ERASE_DONE 0 0 s).put KEY_CMD_RESULT 0 0 s).put KEY_CMD_BUSY 1 0 s, mem)

/-- A job that the engine has taken is bound to slot `s`. -/
def slotBound (d : Dev) (s : Nat) : Bool := d.ciph.jobs.any (fun e => e.2.any (fun j => has j.slots s))

/-- Slot `s` is zeroised and its GEN counts up. -/
def zeroiseSlot (s : Nat) (d : Dev) : Dev :=
  let d1 := ciphMod (fun c => { c with keys := tabDel c.keys s }) d
  let d2 := putPn s 0 d1
  ((d2.put KEY_ATTR_GEN (d2.rd KEY_ATTR_GEN 0 s + 1) 0 s).put KEY_ATTR_VALID 0 0 s).put KEY_ATTR_ERASING 0 0 s

/-- The end of an erasure, once no job bound to the slot is left (R607). -/
def eraseEnd (s : Nat) (d : Dev) : Dev :=
  if !d.on KEY_ATTR_ERASING 0 s || slotBound d s then d
  else raise pKey (2 ^ 5 + 2 ^ 6) (((zeroiseSlot s d).put KEY_CMD_ERASE_DONE 1 0 s).put KEY_CMD_BUSY 0 0 s)

/-! ### Context records (R592) -/

/-- What context `c` holds. -/
def ctxOf (d : Dev) (c : Nat) : CiphCtx := tabGet d.ciph.ctxs c {}
def ctxMod (c : Nat) (f : CiphCtx → CiphCtx) (d : Dev) : Dev :=
  ciphMod (fun u => { u with ctxs := tabMod u.ctxs c {} f }) d

/-- Fields of a context's words. -/
def ctxW (d : Dev) (c i : Nat) : Nat := (ctxOf d c).words.getD i 0
def wAlg (w0 : Nat) : Nat := bitsOf w0 23 16
def wKey (w0 : Nat) : Nat := bitsOf w0 12 0
def wTag (w0 : Nat) : Nat := if bitsOf w0 28 24 = 0 then 16 else bitsOf w0 28 24
def ctxAlg (d : Dev) (c : Nat) : Nat := wAlg (ctxW d c 0)
def ctxKey (d : Dev) (c : Nat) : Nat := wKey (ctxW d c 0)
def ctxValid (d : Dev) (c : Nat) : Bool := (ctxW d c 0).testBit 31
def ctxDerived (d : Dev) (c : Nat) : Bool := (ctxW d c 0).testBit 15

/-- The runtime fields of context `c` become empty. -/
def ctxEmpty (c : Nat) (d : Dev) : Dev :=
  ((((d.put CIPH_CTX_SEQ_SAVE_SEQ 0 0 c).put CIPH_CTX_SECT_LO_SECTOR 0 0 c).put CIPH_CTX_SECT_HI_EMPTY 1 0 c).put
    CIPH_CTX_SECT_HI_SECTOR 0 0 c).put CIPH_CTX_REPLAY_TOP 0 0 c

/-- ALG is one of R580's table. -/
def algKnown (a : Nat) : Bool :=
  (decide (1 ≤ a) && decide (a ≤ 8)) || (decide (0x10 ≤ a) && decide (a ≤ 0x19)) || has [0x20, 0x21, 0x30] a

/-- TAG_LEN is allowed for ALG (R581). -/
def tagAllowed (alg t : Nat) : Bool :=
  match alg with
  | 3 => decide (4 ≤ t) && decide (t ≤ 16) && t % 2 == 0
  | 4 => decide (12 ≤ t) && decide (t ≤ 16)
  | 5 => decide (12 ≤ t) && decide (t ≤ 16)
  | 8 => t == 16
  | _ => true

/-- Word `i` of the staging of context `c`. -/
def stagedWord (d : Dev) (c i : Nat) : Nat := d.rd CIPH_CTX_W_WORD 0 (8 * c + i)

/-- WRITE: installs the record from staging, or is refused with RESULT 0b001 and code 0x40. -/
def ctxWriteEff (m : Nat) (d : Dev) : Dev :=
  let c := d.rd CIPH_CTX_IDX_CTX
  let w0 := stagedWord d c 0
  let no := fun (e : Dev) => (refuseWrite pCiph 0x40 m (regAddr (pCiph + 1) 0x064) e).put CIPH_CTX_CMD_RESULT 1 0 c
  if !customsGrant d .contexts c c m .write then no (customsRefuse .contexts m .write c d)
  else if !customsGrant d .keyStore (wKey w0) (wKey w0) m .read then no (customsRefuse .keyStore m .read (wKey w0) d)
  else if !algKnown (wAlg w0) || (wAlg w0 == 7 && !govern d pCiph 3 4) || (w0.testBit 15 && !govern d pCiph 3 3) ||
      !tagAllowed (wAlg w0) (wTag w0) then no d
  else ctxMod c (fun _ => { words := (List.range 8).map (stagedWord d c) })
    ((ctxEmpty c d).put CIPH_CTX_CMD_RESULT 0 0 c)

/-- READ: copies the record into staging. -/
def ctxReadEff (m : Nat) (d : Dev) : Dev :=
  let c := d.rd CIPH_CTX_IDX_CTX
  if !customsGrant d .contexts c c m .read then
    (customsRefuse .contexts m .read c d).put CIPH_CTX_CMD_RESULT 1 0 c
  else (List.range 8).foldl (fun e i => e.put CIPH_CTX_W_WORD (ctxW d c i) 0 (8 * c + i))
    (d.put CIPH_CTX_CMD_RESULT 0 0 c)

/-- INVALIDATE: clears the record. -/
def ctxInvalidateEff (m : Nat) (d : Dev) : Dev :=
  let c := d.rd CIPH_CTX_IDX_CTX
  if !customsGrant d .contexts c c m .write then
    (customsRefuse .contexts m .write c d).put CIPH_CTX_CMD_RESULT 1 0 c
  else ciphMod (fun u => { u with ctxs := tabDel u.ctxs c }) ((ctxEmpty c d).put CIPH_CTX_CMD_RESULT 0 0 c)

/-! ### Algorithms as a job runs them (R604) -/

/-- The running state of a message: the counter or chaining block, the accumulator, the counts of AAD and message bytes,
and a hash state. -/
structure CiphWork where
  ctr : Bytes := List.replicate 16 0
  acc : Bytes := List.replicate 16 0
  aadN : Nat := 0
  msgN : Nat := 0
  hash : Bytes := []

/-- SHA-2 and SHA-3 codes: word size, digest bits, rate. -/
def algHash (a : Nat) : Bool := decide (0x10 ≤ a) && decide (a ≤ 0x19)
def shaWord (a : Nat) : Nat := if a ≤ 0x11 then 32 else 64
def digestBits (a : Nat) : Nat := [224, 256, 384, 512].getD (a % 4) 0
def sha3Rate (a : Nat) : Nat := [144, 136, 104, 72, 168, 136].getD (a - 0x14) 136

/-- Algorithms with AAD and a tag, and those whose nonce the engine forms. -/
def algAead (a : Nat) : Bool := has [3, 4, 8] a
def algNonce (a : Nat) : Bool := has [3, 4, 5, 8] a

/-- The block of an algorithm in bytes (R604). -/
def algBlock (a : Nat) : Nat :=
  if a = 8 then 64
  else if a = 0x10 ∨ a = 0x11 then 64
  else if a = 0x12 ∨ a = 0x13 then 128
  else if 0x14 ≤ a ∧ a ≤ 0x19 then sha3Rate a
  else 16

/-- Key lengths that R580 gives an algorithm, as LEN codes. -/
def keyLenOk (alg len : Nat) : Bool :=
  if alg = 7 then decide (2 ≤ len)
  else if alg = 8 then len == 2
  else if has [0x20, 0x21, 0x30] alg then len == 0 || len == 2
  else decide (len ≤ 2)

/-- OP is one that ALG has on a software ring. -/
def opAllowed (alg op : Nat) : Bool :=
  match op with
  | 1 => has [1, 2, 3, 4, 7, 8] alg
  | 2 => has [1, 2, 3, 4, 7, 8] alg
  | 3 => alg == 5 || alg == 6
  | 4 => alg == 5 || alg == 6
  | 5 => algHash alg
  | _ => false

/-- The start of a message: the nonce or IV, the AAD, the tag length and, for CCM, the message length `q`. -/
def workBegin (alg : Nat) (key iv aad : Bytes) (t q : Nat) : CiphWork :=
  let ks := roundKeys key
  match alg with
  | 3 => { ctr := 2 :: iv.take 12 ++ toBE 3 1, acc := ccmBegin ks (ccmB0 t aad.length q (iv.take 12)) aad, aadN := aad.length }
  | 4 => { ctr := iv.take 12 ++ toBE 4 2, acc := toBE 16 (ghash (gcmH ks) 0 aad), aadN := aad.length }
  | 5 => { ctr := iv.take 12 ++ toBE 4 1 }
  | 6 => {}
  | 8 => { ctr := toBytes 4 1 ++ iv.take 12, acc := toBytes 32 (polyRun (polyKey key (iv.take 12)).1 0 aad), aadN := aad.length }
  | a =>
    if a = 0x10 ∨ a = 0x11 ∨ a = 0x12 ∨ a = 0x13 then
      { hash := (shaInit (digestBits a)).flatMap (toBE (shaWord a / 8)) }
    else if algHash a then { hash := List.replicate 200 0 }
    else { ctr := iv }

/-- The words or lanes of a hash state. -/
def hashWords (alg : Nat) (h : Bytes) : List Nat :=
  if alg < 0x14 then (blocks (shaWord alg / 8) h).map ofBytesBE else (blocks 8 h).map ofBytes

/-- More of a message: the output and the state after it. `du` is the data unit of XTS. -/
def workFeed (alg : Nat) (key : Bytes) (enc : Bool) (du : Nat) (b : Bytes) (w : CiphWork) : Bytes × CiphWork :=
  let ks := roundKeys key
  let n := (b.length + 15) / 16
  match alg with
  | 1 =>
    let o := if enc then cbcEnc ks w.ctr (blocks 16 b) else cbcDec ks w.ctr (blocks 16 b)
    (o.flatMap id, { w with ctr := if enc then o.getLastD w.ctr else (blocks 16 b).getLastD w.ctr, msgN := w.msgN + b.length })
  | 2 => (ctrRun ks 16 w.ctr b, { w with ctr := addCounter 16 n w.ctr, msgN := w.msgN + b.length })
  | 3 =>
    let o := ctrRun ks 3 w.ctr b
    (o, { w with ctr := addCounter 3 n w.ctr, acc := cbcMac ks (w.acc.take 16) (padBlock 16 (if enc then b else o))
                 msgN := w.msgN + b.length })
  | 4 =>
    let o := ctrRun ks 4 w.ctr b
    (o, { w with ctr := addCounter 4 n w.ctr
                 acc := toBE 16 (ghash (gcmH ks) (ofBytesBE (w.acc.take 16)) (if enc then o else b))
                 msgN := w.msgN + b.length })
  | 5 => ([], { w with acc := toBE 16 (ghash (gcmH ks) (ofBytesBE (w.acc.take 16)) b), aadN := w.aadN + b.length })
  | 6 => ([], { w with acc := cbcMac ks (w.acc.take 16) b, msgN := w.msgN + b.length })
  | 7 =>
    let h := key.length / 2
    (xtsUnits enc (roundKeys (key.take h)) (roundKeys (key.drop h)) (ofBytes w.ctr) (blocks du b),
      { w with ctr := toBytes 16 (ofBytes w.ctr + b.length / du), msgN := w.msgN + b.length })
  | 8 =>
    let o := chachaBlocks key w.ctr (blocks 64 b)
    (o, { w with ctr := chachaAdd ((b.length + 63) / 64) w.ctr
                 acc := toBytes 32 (polyRun (polyKey key (w.ctr.drop 4)).1 (ofBytes w.acc) (if enc then o else b))
                 msgN := w.msgN + b.length })
  | a =>
    if a < 0x14 then
      ([], { w with hash := (shaFeed (shaWord a) (hashWords a w.hash) b).flatMap (toBE (shaWord a / 8)), msgN := w.msgN + b.length })
    else ([], { w with hash := (keccakFeed (sha3Rate a) (hashWords a w.hash) b).flatMap (toBytes 8), msgN := w.msgN + b.length })

/-- The tag of a message, 16 bytes. -/
def workTag (alg : Nat) (key : Bytes) (w : CiphWork) : Bytes :=
  let ks := roundKeys key
  match alg with
  | 3 => xorBytes (w.acc.take 16) (aesEnc ks (w.ctr.take 13 ++ toBE 3 0))
  | 8 => polyTag key (w.ctr.drop 4) (ofBytes w.acc) w.aadN w.msgN
  | _ => gcmTag ks (w.ctr.take 12) (ofBytesBE (w.acc.take 16)) w.aadN w.msgN

/-- The digest of a message whose rest is `b`; `n` bytes of a SHAKE. -/
def workDigest (alg n : Nat) (b : Bytes) (w : CiphWork) : Bytes :=
  if alg < 0x14 then shaEnd (shaWord alg) (digestBits alg) (w.msgN + b.length) (hashWords alg w.hash) b
  else if alg < 0x18 then keccakEnd (sha3Rate alg) 0x06 (digestBits alg / 8) (hashWords alg w.hash) b
  else keccakEnd (sha3Rate alg) 0x1F n (hashWords alg w.hash) b

/-! ### Saved state (R605) -/

/-- Bytes 0x20–0xFF of a state blob. -/
def workBytes (alg pn : Nat) (w : CiphWork) : Bytes :=
  padTo 224 (if algHash alg then padTo 208 w.hash ++ toBytes 8 (8 * w.msgN)
    else w.ctr ++ padTo 32 w.acc ++ toBytes 8 w.aadN ++ toBytes 8 w.msgN ++ toBytes 8 pn)

/-- The running state that bytes 0x20–0xFF spell, and its PN. -/
def workOf (alg : Nat) (b : Bytes) : CiphWork × Nat :=
  if algHash alg then
    ({ hash := b.take (if alg < 0x14 then shaWord alg else 200), msgN := ofBytes ((b.drop 208).take 8) / 8 }, 0)
  else
    ({ ctr := b.take 16, acc := (b.drop 16).take 32, aadN := ofBytes ((b.drop 48).take 8), msgN := ofBytes ((b.drop 56).take 8) },
     ofBytes ((b.drop 64).take 8))

/-- Fields of a job descriptor (R595). -/
def dOp (b : Bytes) : Nat := bitsOf (wordAt b 0) 3 0
def dPart (b : Bytes) : Nat := bitsOf (wordAt b 0) 10 8
def dCheck (b : Bytes) : Bool := (wordAt b 0).testBit 11
def dInCar (b : Bytes) : Bool := (wordAt b 0).testBit 12
def dOutCar (b : Bytes) : Bool := (wordAt b 0).testBit 13
def dWrapped (b : Bytes) : Bool := (wordAt b 0).testBit 14
def dIrq (b : Bytes) : Bool := (wordAt b 0).testBit 15
def dCtx (b : Bytes) : Nat := bitsOf (wordAt b 0) 28 16
def dLen (b : Bytes) : Nat := bitsOf (wordAt b 1) 17 0
def dAad (b : Bytes) : Nat := bitsOf (wordAt b 1) 25 18
def dIn (b : Bytes) : Nat := ofBytes ((b.drop 8).take 8)
def dOut (b : Bytes) : Nat := ofBytes ((b.drop 16).take 8)
def dState (b : Bytes) : Nat := ofBytes ((b.drop 24).take 8)
def dIv (b : Bytes) : Bytes := (b.drop 32).take 16

/-- The first 32 bytes of a state blob of context `c`, with SAVE_SEQ `seq` and `n` bytes processed. -/
def stateHeader (d : Dev) (wrapped : Bool) (c master gen seq n : Nat) : Bytes :=
  toBytes 4 (0x01 + (if wrapped then 0x100 else 0)) ++ toBytes 4 (c + 2 ^ 16 * master) ++
  toBytes 4 (gen + 2 ^ 16 * ctxKey d c) ++ toBytes 4 (d.rd CIPH_BOOT_EPOCH_EPOCH) ++ toBytes 4 seq ++
  toBytes 4 (ctxAlg d c) ++ toBytes 8 n

/-- A clear blob lies in the save region. -/
def inSaveRegion (d : Dev) (a : Nat) : Bool :=
  let lo := seraiBase + 256 * d.rd CIPH_SAVE_BASE_CELL
  decide (lo ≤ a) && decide (a + 256 ≤ lo + 256 * d.rd CIPH_SAVE_CELLS_COUNT)

/-- Bytes 0x00–0xFF of the saved state that a job restores, or the STATUS of the access or of the tag. -/
def readState (b : Bytes) (master : Nat) (host : Option Bytes) (d : Dev) (mem : Memory) : (Nat × Bytes) × Dev :=
  if dWrapped b then
    let r := spaceRead master (dState b) 288 host d mem
    match r.1 with
    | none => ((0x0A, []), r.2)
    | some s =>
      match gcmOpen (slotKey d 1) ((s.drop 0x20).take 12) (s.take 32) ((s.drop 0x30).take 224) ((s.drop 0x110).take 16) with
      | none => ((0x01, []), r.2)
      | some c => ((0, s.take 32 ++ c), r.2)
  else if !inSaveRegion d (dState b) then ((0x0A, []), d)
  else
    let r := unitRead 15 (dState b) 256 d mem
    (if r.2.1 then (0, r.1) else (0x0A, []), r.2.2)

/-- The checks of R605's table on a restored blob; 0 where it is good. -/
def restoreStatus (d : Dev) (wrapped : Bool) (c master : Nat) (s : Bytes) : Nat :=
  let w := wordAt s
  if w 0 % 2 ^ 8 != 1 || bitsOf (w 0) 8 8 != (if wrapped then 1 else 0) then 0x06
  else if bitsOf (w 1) 12 0 != c || bitsOf (w 1) 21 16 != master then 0x06
  else if w 3 != d.rd CIPH_BOOT_EPOCH_EPOCH then 0x03
  else if bitsOf (w 2) 15 0 != d.rd KEY_ATTR_GEN 0 (bitsOf (w 2) 28 16) then 0x03
  else if w 4 != d.rd CIPH_CTX_SEQ_SAVE_SEQ 0 c then 0x0D
  else 0

/-! ### Software rings (R594) -/

def crMaster (d : Dev) (n : Nat) : Nat := d.rd CR_CFG_MASTER 0 n
def crSize (d : Dev) (n : Nat) : Nat := 2 ^ max 3 (min 12 (d.rd CR_CFG_LOG2SIZE 0 n))
def crAddr (d : Dev) (n i : Nat) : Nat :=
  let b := d.rd CR_BASE_LO_BASE 0 n + 2 ^ 32 * d.rd CR_BASE_HI_BASE 0 n
  (if d.on CR_CFG_LOC 0 n then b else seraiBase + 256 * (b % 2 ^ 17)) + 64 * (i % crSize d n)

/-- The jobs that the engine has taken from ring `r`, oldest first. -/
def jobsOf (d : Dev) (r : Nat) : List CiphJob := tabGet d.ciph.jobs r []
def setJobs (r : Nat) (l : List CiphJob) (d : Dev) : Dev :=
  ciphMod (fun u => { u with jobs := if l.isEmpty then tabDel u.jobs r else tabSet u.jobs r l }) d

/-- A doorbell of software ring `n` (R594). -/
def crDoorbellEff (m n v : Nat) (d : Dev) : Dev :=
  let sw := d.rd CR_SW_IDX_SW_IDX 0 n
  let hw := d.rd CR_HW_IDX_HW_IDX 0 n
  if idxSub sw hw ≤ idxSub v hw ∧ idxSub v hw ≤ crSize d n then d.put CR_SW_IDX_SW_IDX v 0 n
  else refuseWrite pCiph 0x41 m (regAddr (pCiph + 2) (0x04C + 0x20 * n)) d

/-- CR_CFG.EN of software ring `n`: its rising edge sets both indices to 0, as for host rings. -/
def crEnable (n : Nat) (v : Bool) (d : Dev) : Dev :=
  if v && !d.on CR_CFG_EN 0 n then ((d.put CR_CFG_EN 1 0 n).put CR_SW_IDX_SW_IDX 0 0 n).put CR_HW_IDX_HW_IDX 0 0 n
  else d.put CR_CFG_EN (b2n v) 0 n

/-- What a job on a key needs: its key bytes and the slot it binds, or the STATUS (R583, R590). -/
def jobKey (d : Dev) (c op : Nat) : Nat × Bytes × List Nat :=
  let alg := ctxAlg d c
  let s := ctxKey d c
  let making := op == 1 || op == 3
  if algHash alg then (0, [], [s])
  else if ctxDerived d c then
    let len := bitsOf (ctxW d c 2) 29 28
    if !feat d pCiph 3 3 || !slotOk d s uDerive || d.rd KEY_ATTR_LEN 0 s != 2 || (making && (algNonce alg || alg == 0x30)) ||
        !keyLenOk alg len then (0x05, [], [])
    else (0, kdf (slotKey d s) ([4, 5, 6, 7].flatMap (fun i => toBytes 4 (ctxW d c i))) (8 * lenBytes len), [s])
  else if !slotOk d s (if making then uEnc else uDec) || !keyLenOk alg (d.rd KEY_ATTR_LEN 0 s) then (0x05, [], [])
  else (0, slotKey d s, [s])

/-- Some cell of the caravan refuses master `m` an access of kind `k`. -/
def carRefused (d : Dev) (m : Nat) (k : AccKind) (h : Nat) : Bool :=
  match caravanAt d h with
  | none => true
  | some c => !c.cells.all (fun x => customsGrant d .serai x x m k)

/-- The input of a job: its bytes, or STATUS 0x0A or 0x09 (R596, R139). -/
def jobInput (b : Bytes) (master : Nat) (host : Option Bytes) (d : Dev) (mem : Memory) : (Nat × Bytes) × Dev :=
  if dInCar b then
    let h := dIn b % 2 ^ 17
    if (caravanAt d h).isNone then ((0x0A, []), d)
    else if carRefused d master .read h then ((0x0A, []), customsRefuse .serai master .read (seraiBase + 256 * h) d)
    else if framePoisoned d h 0 (dLen b) then ((0x09, []), report ⟨pCiph, 0x42, 1, 0, master, seraiBase + 256 * h⟩ d)
    else ((0, readFrame d mem h 0 (dLen b)), d)
  else
    let r := spaceRead master (dIn b) (dLen b) host d mem
    match r.1 with
    | none => ((0x0A, []), r.2)
    | some x =>
      if master != 17 && poisonedAt d (dIn b) (dLen b) then ((0x09, []), report ⟨pCiph, 0x42, 1, 0, master, dIn b⟩ r.2)
      else ((0, x), r.2)

/-- How a job's LENGTH divides: AAD, message, and tag bytes. -/
structure JobParts where
  aad : Nat
  msg : Nat
  tag : Nat
  bad : Bool

def partsOf (alg t du : Nat) (b : Bytes) : JobParts :=
  let whole := dPart b == 0
  let first := whole || dPart b == 1
  let last := whole || dPart b == 3
  let aad := if first && algAead alg then dAad b else 0
  let tag := if last && ((dOp b == 2 && algAead alg) || dOp b == 4) then t else 0
  let msg := dLen b - aad - tag
  { aad := aad, msg := msg, tag := tag
    bad := dLen b == 0 || decide (dLen b < aad + tag) || (!last && msg % algBlock alg != 0) ||
      (alg == 7 && msg % du != 0) || (alg == 1 && msg % 16 != 0) ||
      (alg ≥ 0x18 && algHash alg && last && (wordAt b 8 == 0 || decide (4096 < wordAt b 8))) }

/-- The length of a job's output (R595). Before the tag is verified no plaintext of an authenticated message leaves. -/
def outLen (alg t : Nat) (b : Bytes) (p : JobParts) : Nat :=
  let last := dPart b == 0 || dPart b == 3
  match dOp b with
  | 1 => p.msg + (if last && algAead alg then t else 0)
  | 2 => if algAead alg && !last then 0 else p.msg
  | 3 => if last then t else 0
  | 5 => if !last then 0 else if alg ≥ 0x18 then wordAt b 8 else digestBits alg / 8
  | _ => 0

/-- The job's work on its input: STATUS, output, and the running state after it. -/
def jobRun (alg t du : Nat) (key : Bytes) (b inp : Bytes) (p : JobParts) (w : CiphWork) : Nat × Bytes × CiphWork :=
  let last := dPart b == 0 || dPart b == 3
  let msg := (inp.drop p.aad).take p.msg
  let given := inp.drop (p.aad + p.msg)
  if dOp b = 5 then
    (if last then (0, workDigest alg (wordAt b 8) msg w, w)
     else let r := workFeed alg key true du msg w; (0, [], r.2))
  else if alg = 6 && last then
    let g := (cmacEnd (roundKeys key) (w.acc.take 16) msg).take t
    (if dOp b = 3 then (0, g, w) else if g = given then (0, [], w) else (1, [], w))
  else
    let r := workFeed alg key (dOp b == 1) du msg w
    if !last then (0, if dOp b = 2 && algAead alg then [] else r.1, r.2)
    else if algAead alg || alg == 5 then
      let g := (workTag alg key r.2).take t
      match dOp b with
      | 1 => (0, r.1 ++ g, r.2)
      | 3 => (0, g, r.2)
      | 2 => if g = given then (0, r.1, r.2) else (1, [], r.2)
      | _ => if g = given then (0, [], r.2) else (1, [], r.2)
    else (0, r.1, r.2)

/-- The first checks of a job: STATUS 0 where it may go on (R596). -/
def jobCheck (b : Bytes) (master : Nat) (d : Dev) : Nat × Dev :=
  let c := dCtx b
  if dOp b = 0 || 5 < dOp b || 3 < dPart b then (0x0F, d)
  else if !customsGrant d .contexts c c master .read then (0x0A, customsRefuse .contexts master .read c d)
  else if !ctxValid d c || !opAllowed (ctxAlg d c) (dOp b) then (0x06, d)
  else (0, d)

/-- XTS bytes of a data unit. -/
def ctxDu (d : Dev) (c : Nat) : Nat := 512 * 2 ^ bitsOf (ctxW d c 2) 31 30

/-- The nonce that the engine forms from the SALT of context `c` and a PN (R581). -/
def formNonce (d : Dev) (c pn : Nat) : Bytes := toBytes 4 (ctxW d c 1) ++ toBE 8 pn

/-- Whether CHECK refuses the first sector of an XTS job (R582). -/
def tweakRepeat (d : Dev) (c : Nat) (b : Bytes) : Bool :=
  dCheck b && match (ctxOf d c).last with
    | none => false
    | some l => decide (ofBytes (dIv b) ≤ l)

/-- The two halves of an XTS key are equal. -/
def xtsHalvesEqual (key : Bytes) : Bool := key.take (key.length / 2) == key.drop (key.length / 2)

/-- A job of ring `r` is taken, ended already with a STATUS. -/
def jobTaken (r : Nat) (j : CiphJob) (d : Dev) : Dev := setJobs r (jobsOf d r ++ [j]) d

/-- The running state at the start of a job: restored, or begun with a PN where the engine forms the nonce. Answers the
STATUS, the state, its PN, and whether the PN was drawn now. -/
def jobBegin (b : Bytes) (key : Bytes) (p : JobParts) (inp st : Bytes) (d : Dev) : (Nat × CiphWork × Nat × Bool) × Dev :=
  let c := dCtx b
  let alg := ctxAlg d c
  let t := wTag (ctxW d c 0)
  if dPart b = 2 ∨ dPart b = 3 then
    let w := workOf alg (st.drop 32)
    ((0, w.1, w.2, false), d)
  else
    -- the length that CCM's first block carries is open for a message in parts
    let q := if alg = 3 ∧ dPart b = 1 then draw d else (p.msg, d)
    if algNonce alg && (dOp b == 1 || dOp b == 3) then
      let r := drawPn (ctxKey d c) q.2
      match r.1 with
      | none => ((0x04, {}, 0, false), q.2)
      | some pn => ((0, workBegin alg key (formNonce d c pn) (inp.take p.aad) t q.1, pn, true), r.2)
    else ((0, workBegin alg key (dIv b) (inp.take p.aad) t q.1, 0, false), q.2)

/-- The checks of a job that need its key, its context and its saved state; STATUS, key and restored blob. -/
def jobPrepare (b : Bytes) (master : Nat) (hostState : Option Bytes) (d : Dev) (mem : Memory) :
    (Nat × Bytes × List Nat × Bytes) × Dev :=
  let c := dCtx b
  let alg := ctxAlg d c
  let k := jobKey d c (dOp b)
  let p := partsOf alg (wTag (ctxW d c 0)) (ctxDu d c) b
  let saves := dPart b == 1 || dPart b == 2
  let slots := if dPart b ≠ 0 && dWrapped b then k.2.2 ++ [1] else k.2.2
  if k.1 ≠ 0 then ((k.1, [], [], []), d)
  else if dPart b ≠ 0 && dWrapped b && (!slotOk d 1 uWrap && !slotOk d 1 uUnwrap) then ((0x05, [], [], []), d)
  else if alg = 7 && xtsHalvesEqual k.2.1 then ((0x05, [], [], []), d)
  else if p.bad then ((0x08, [], [], []), d)
  else if 262143 < outLen alg (wTag (ctxW d c 0)) b p then ((0x0C, [], [], []), d)
  else if saves && !dWrapped b && !inSaveRegion d (dState b) then ((0x0A, [], [], []), d)
  else if saves && dWrapped b && pnSpent d 1 then ((0x04, [], [], []), d)
  else if alg = 7 && (dPart b == 0 || dPart b == 1) && tweakRepeat d c b then ((0x07, [], [], []), d)
  else if dPart b = 2 ∨ dPart b = 3 then
    let r := readState b master hostState d mem
    let s := if r.1.1 ≠ 0 then r.1.1 else restoreStatus d (dWrapped b) c master r.1.2
    ((s, k.2.1, slots, r.1.2), r.2)
  else ((0, k.2.1, slots, []), d)

/-- The rest of a job's start, its input read and its output admitted: PN, work and result. -/
def jobFinishStart (r at_ master : Nat) (b key : Bytes) (slots : List Nat) (st inp : Bytes) (head : Option Nat) (d : Dev) : Dev :=
  let c := dCtx b
  let alg := ctxAlg d c
  let t := wTag (ctxW d c 0)
  let p := partsOf alg t (ctxDu d c) b
  let g := jobBegin b key p inp st d
  let j : CiphJob := { at_ := at_, master := master, desc := b, ctx := c, slots := slots, outHead := head }
  if g.1.1 ≠ 0 then jobTaken r { j with status := g.1.1 } g.2
  else
    let x := jobRun alg t (ctxDu d c) key b inp p g.1.2.1
    let saves := dPart b == 1 || dPart b == 2
    jobTaken r { j with
      status := x.1, out := x.2.1, pn := if g.1.2.2.2 then g.1.2.2.1 else 0
      save := if saves then
          some (toBytes 8 (x.2.2.aadN + x.2.2.msgN) ++ toBytes 2 (d.rd KEY_ATTR_GEN 0 (ctxKey d c)) ++
            workBytes alg g.1.2.2.1 x.2.2) else none
      sector := if alg = 7 then some (ofBytes x.2.2.ctr - 1) else none } g.2

/-- R594, R595, R606: the engine takes the next job of software ring `n`. An output caravan that is not admitted leaves
the job at the head of its ring (R154, R168). -/
def crStart (n : Nat) (host hostState : Option Bytes) (d : Dev) (mem : Memory) : Dev :=
  let r := 8 + n
  let next := (d.rd CR_HW_IDX_HW_IDX 0 n + (jobsOf d r).length) % idxMod
  if !isActive d pCiph || !d.on CR_CFG_EN 0 n || next == d.rd CR_SW_IDX_SW_IDX 0 n then d
  else
    let m := crMaster d n
    let a := crAddr d n next
    let e := unitRead m a 64 d mem
    let b := e.1
    let j : CiphJob := { at_ := a, master := m, desc := b, ctx := dCtx b }
    let k := jobCheck b m e.2.2
    if !e.2.1 then jobTaken r { j with status := 0x0A } e.2.2
    else if k.1 ≠ 0 then jobTaken r { j with status := k.1 } k.2
    else
      let q := jobPrepare b m hostState k.2 mem
      if q.1.1 ≠ 0 then jobTaken r { j with status := q.1.1 } q.2
      else
        let i := jobInput b m host q.2 mem
        if i.1.1 ≠ 0 then jobTaken r { j with status := i.1.1 } i.2
        else
          let c := dCtx b
          let o := outLen (ctxAlg d c) (wTag (ctxW d c 0)) b (partsOf (ctxAlg d c) (wTag (ctxW d c 0)) (ctxDu d c) b)
          if dOutCar b && o != 0 then
            let x := admitFrame (if m = 17 then 2 else 3) o i.2
            match x.1 with
            | none => x.2
            | some h => jobFinishStart r a m b q.1.2.1 q.1.2.2.1 q.1.2.2.2 i.1.2 (some h) x.2
          else jobFinishStart r a m b q.1.2.1 q.1.2.2.1 q.1.2.2.2 i.1.2 none i.2

/-- Delivers the completion of ring `n` on CR_ROUTE (R208, R597). -/
def crDeliver (n : Nat) (d : Dev) : Dev :=
  let v := d.rd CR_ROUTE_ROUTE 0 n
  match v / 2 ^ 30 with
  | 0 => raiseBit pCiph 3 d
  | 1 => msixFire (v % 64) d
  | 2 =>
    if postRoom d then pushPost { task := bitsOf v 27 16, flag := bitsOf v 12 8, item := none } d
    else { d with sh := { d.sh with heldLines := addOnce d.sh.heldLines (2048 + n) } }
  | _ => d

/-- Saves the state of a job's message (R604, R605); STATUS 0 where it is stored. -/
def saveState (j : CiphJob) (s : Bytes) (d : Dev) (mem : Memory) : Nat × Dev × Memory :=
  let seq := (d.rd CIPH_CTX_SEQ_SAVE_SEQ 0 j.ctx + 1) % 2 ^ 32
  let wrapped := dWrapped j.desc
  let hdr := stateHeader d wrapped j.ctx j.master (ofBytes ((s.drop 8).take 2)) seq (ofBytes (s.take 8))
  let body := s.drop 10
  if wrapped then
    let r := drawPn 1 d
    match r.1 with
    | none => (0x04, d, mem)
    | some pn =>
      let g := gcmSeal (slotKey d 1) (wrapNonce pn) hdr body
      let x := spaceWrite j.master (dState j.desc) (hdr ++ wrapNonce pn ++ [0, 0, 0, 0] ++ g.1 ++ g.2) r.2 mem
      if x.1 then (0, x.2.1.put CIPH_CTX_SEQ_SAVE_SEQ seq 0 j.ctx, x.2.2) else (0x0A, x.2.1, x.2.2)
  else
    let x := unitWrite 15 (dState j.desc) (hdr ++ body) d mem
    if x.1 then (0, x.2.1.put CIPH_CTX_SEQ_SAVE_SEQ seq 0 j.ctx, x.2.2) else (0x0A, x.2.1, x.2.2)

/-- Writes the output of a job (R595); STATUS 0 where it is stored. -/
def writeOutput (j : CiphJob) (d : Dev) (mem : Memory) : Nat × Dev × Memory :=
  if j.out.isEmpty then (0, d, mem)
  else match j.outHead with
    | some h => (0, clearPoison (frameWords d h 0 j.out.length) d, writeFrame d h j.out mem)
    | none =>
      let x := spaceWrite j.master (dOut j.desc) j.out d mem
      (if x.1 then 0 else 0x0A, x.2.1, x.2.2)

/-- LAST_SECTOR of context `c` (R582). -/
def putSector (c s : Nat) (d : Dev) : Dev :=
  ctxMod c (fun x => { x with last := some s })
    (((d.put CIPH_CTX_SECT_LO_SECTOR s 0 c).put CIPH_CTX_SECT_HI_SECTOR (s / 2 ^ 32) 0 c).put CIPH_CTX_SECT_HI_EMPTY 0 0 c)

/-- The class to which the caravan with head `h` is charged. -/
def classOf (d : Dev) (h : Nat) : Option Nat := tabFind d.ser.use h

/-- The caravans of a finished job: its output takes the class of its input, which is freed (R149, R168). -/
def settleCaravans (j : CiphJob) (d : Dev) : Dev :=
  match j.outHead with
  | none => d
  | some h =>
    if dInCar j.desc then
      let i := dIn j.desc % 2 ^ 17
      let d1 := match classOf d i with
        | some c => moveCharge h c d
        | none => d
      refDown i d1
    else d

/-- R595–R597: the oldest job of software ring `n` completes. -/
def crComplete (n : Nat) (d : Dev) (mem : Memory) : Dev × Memory :=
  match jobsOf d (8 + n) with
  | [] => (d, mem)
  | j :: rest =>
    let d0 := setJobs (8 + n) rest d
    let o := if j.status = 0 then writeOutput j d0 mem else (j.status, d0, mem)
    let s := match (if o.1 = 0 then j.save else none) with
      | some b => saveState j b o.2.1 o.2.2
      | none => o
    let d1 := if s.1 = 0 then (match j.sector with
      | some x => putSector j.ctx x s.2.1
      | none => s.2.1) else if s.1 = 1 then count CIPH_AUTH_FAIL_COUNT 0 0 s.2.1 else s.2.1
    let d2 := settleCaravans j d1
    let w := match j.outHead with
      | some h => unitWrite j.master (j.at_ + 0x10) (toBytes 8 h) d2 s.2.2
      | none => (true, d2, s.2.2)
    let w2 := unitWrite j.master (j.at_ + 0x30)
      (toBytes 1 s.1 ++ (j.desc.drop 0x31).take 3 ++ toBytes 4 (if s.1 = 0 then j.out.length else 0) ++ toBytes 8 j.pn) w.2.1 w.2.2
    let d3 := count CIPH_JOBS_COUNT 0 0
      (w2.2.1.put CR_HW_IDX_HW_IDX (d.rd CR_HW_IDX_HW_IDX 0 n + 1) 0 n)
    (if dIrq j.desc then crDeliver n d3 else d3, w2.2.2)

/-! ### The manifest path (R598–R600) -/

/-- A manifest is dropped on the cipher path: counted, and 1 taken from its reference count. -/
def manDrop (x : Manifest) (d : Dev) : Dev :=
  raiseBit pCiph 4 (count CIPH_MAN_DROP_COUNT 0 0 (refDown x.head (frameDropped x d)))

/-- The ESP packet in front of which the template stands: header, IV, ciphertext and ICV for the frame `f`. -/
def espSeal (key salt : Bytes) (spi pn : Nat) (f : Bytes) : Bytes :=
  let ip := f.drop 14
  let pad := (4 - (ip.length + 2) % 4) % 4
  let plain := ip ++ (List.range pad).map (fun i => BitVec.ofNat 8 (i + 1)) ++
    [BitVec.ofNat 8 pad, if (be f 14 1) / 16 = 6 then 41 else 4]
  let hdr := toBE 4 spi ++ toBE 4 pn
  let r := gcmSeal key (salt ++ toBE 8 pn) hdr plain
  hdr ++ toBE 8 pn ++ r.1 ++ r.2

/-- The outer headers of tunnel entry `t` for `n` bytes of ESP, with protocol 50 (R599). -/
def espOuter (t : Bytes) (n : Nat) : Bytes :=
  let tpl := (t.drop 0x30).take (tunLen t)
  let v6 := (tunW0 t).testBit 28
  let l3 := if be tpl 12 2 = 0x8100 || be tpl 12 2 = 0x88A8 then 18 else 14
  fillTemplate (splice tpl (l3 + (if v6 then 6 else 9)) [50]) v6 false n 0

/-- The output of an ESP encryption fits the cells of the input caravan, with its start moved to `o` (R598). -/
def fitsInPlace (d : Dev) (h : Nat) (o : Int) (n : Nat) : Bool :=
  match caravanAt d h with
  | none => false
  | some k => decide (0 ≤ o) && decide (o ≤ 255) && decide (o.toNat + n ≤ 256 * k.cells.length)

/-- A manifest job ends before it started: an encryption drops its manifest at its pass, a decryption returns it. -/
def passFailed (r : Nat) (x : Manifest) (vlan status : Nat) (opening : Bool) (d : Dev) : Dev :=
  jobTaken r { status := status, pass := some { x := x, vlan := vlan, opening := opening } } d

/-- The manifest job that ring `r` takes next, out of those handed over. -/
def passNext (d : Dev) (r : Nat) : Option (Manifest × Nat) := d.q.toCiph.find? (fun e => e.1.flow % 4 == r)
def passRemove (r : Nat) (d : Dev) : Dev :=
  { d with q := { d.q with toCiph := dropFirst (fun e => e.1.flow % 4 == r) d.q.toCiph } }

/-- ESP encryption of the manifest `x` starts (R599); an output not admitted leaves it at the head of its ring. -/
def espStart (r : Nat) (x : Manifest) (d : Dev) (mem : Memory) : Dev :=
  let c := x.ciphRef
  let k := jobKey d c 1
  let s := ctxKey d c
  let d0 := passRemove r d
  let bad := fun (st : Nat) (e : Dev) => passFailed r x 0 st false e
  if k.1 ≠ 0 || !d.on KEY_ATTR_PN32 0 s then bad 0x05 d0
  else if framePoisoned d x.head 0 x.len then bad 0x09 (report ⟨pCiph, 0x42, 1, 0, 15, x.head⟩ d0)
  else if x.len ≤ 14 then bad 0x08 d0
  else if pnSpent d s then bad 0x04 d0
  else
    let tun := unitRead 15 (tblBase d WAY_TUN_BASE_LO_BASE WAY_TUN_BASE_HI_BASE + 128 * (ctxW d c 2 % 4096)) 128 d0 mem
    if !tun.2.1 then bad 0x0A tun.2.2
    else
      let f := readFrame d mem x.head 0 x.len
      let t := tun.1
      let n := tunLen t + 16 + ((x.len - 14 + 2 + 3) / 4 * 4) + 16
      let place := x.ciphOp = 1 && fitsInPlace d x.head ((roomOf d x.head : Int) + 14 - (tunLen t + 16 : Nat)) n
      if 262143 < n then bad 0x0C tun.2.2
      else
        let a := if place then (some none, tun.2.2) else
          let y := admitFrame 4 (x.len + 104) tun.2.2
          (y.1.map some, y.2)
        match a.1 with
        | none => { a.2 with q := { a.2.q with toCiph := d.q.toCiph } }
        | some head =>
          let p := drawPn s a.2
          let pn := p.1.getD 0
          let body := espSeal k.2.1 (toBytes 4 (ctxW d c 1)) (wordAt t 1) pn f
          jobTaken r { ctx := c, slots := k.2.2, pn := pn, outHead := head, out := espOuter t body.length ++ body
                       pass := some { x := x, vlan := 0, opening := false } } p.2

/-- ESP decryption of the manifest `x` starts (R600). -/
def espOpen (r : Nat) (x : Manifest) (vlan : Nat) (d : Dev) (mem : Memory) : Dev :=
  let c := x.ciphRef
  let k := jobKey d c 2
  let d0 := passRemove r d
  let bad := fun (st : Nat) (e : Dev) => passFailed r x vlan st true e
  if k.1 ≠ 0 then bad 0x05 d0
  else if framePoisoned d x.head 0 x.len then bad 0x09 (report ⟨pCiph, 0x42, 1, 0, 15, x.head⟩ d0)
  else
    let f := readFrame d mem x.head 0 x.len
    let h := parse (f.take 128) x.len (d.rd WAY_VXLAN_PORT_PORT) true
    let pkt := (f.take (min x.len (h.l3 + h.ipLen))).drop h.l4
    if h.proto ≠ 50 || pkt.length < 34 then bad 0x0B d0
    else
      let ct := (pkt.drop 16).take (pkt.length - 32)
      let place := x.ciphOp = 2 && fitsInPlace d x.head ((roomOf d x.head + h.l4 + 2 : Nat) : Int) (14 + ct.length)
      let a := if place then (some none, d0) else
        let y := admitFrame 4 x.len d0
        (y.1.map some, y.2)
      match a.1 with
      | none => { a.2 with q := { a.2.q with toCiph := d.q.toCiph } }
      | some head =>
        match gcmOpen k.2.1 (toBytes 4 (ctxW d c 1) ++ (pkt.drop 8).take 8) (pkt.take 8) ct (pkt.drop (pkt.length - 16)) with
        | none => jobTaken r { ctx := c, slots := k.2.2, status := 1, outHead := head
                               pass := some { x := x, vlan := vlan, opening := true } } a.2
        | some inner => jobTaken r { ctx := c, slots := k.2.2, outHead := head
                                     pass := some ⟨x, vlan, true, be pkt 4 4, inner⟩ } a.2

/-- Ring `r` below 4 takes its next manifest; one whose context does not hold ALG 0x30 is dropped (R598). -/
def passStart (r : Nat) (d : Dev) (mem : Memory) : Dev :=
  if !isActive d pCiph then d
  else match passNext d r with
    | none => d
    | some e =>
      if !ctxValid d e.1.ciphRef || ctxAlg d e.1.ciphRef != 0x30 then manDrop e.1 (passRemove r d)
      else if e.1.ciphOp = 1 ∨ e.1.ciphOp = 3 then espStart r e.1 d mem
      else espOpen r e.1 e.2 d mem

/-- The output of a pass enters its caravan: the new one, trimmed, charged to the class of the input, which is freed, or
the input's own with its start at `o`. Answers the head. -/
def passWrite (x : Manifest) (head : Option Nat) (o : Nat) (bs : Bytes) (d : Dev) (mem : Memory) : Nat × Dev × Memory :=
  match head with
  | none =>
    let d1 := moveFront x.head (fun _ => o) d
    (x.head, d1, writeFrame d1 x.head bs mem)
  | some h =>
    let d1 := trimCaravan h bs.length (clearPoison (frameWords d h 0 bs.length) d)
    let d2 := match classOf d1 x.head with
      | some c => moveCharge h c d1
      | none => d1
    (h, refDown x.head d2, writeFrame d2 h bs mem)

/-- Bytes that stand before the IP packet in the output `o` of an encryption: the template, the ESP header and the IV. -/
def espFront (x : Manifest) (o : Bytes) : Nat := o.length - ((x.len - 14 + 2 + 3) / 4 * 4) - 16

/-- An encryption pass ends: CIPHER_DONE, HEAD and LENGTH, and the manifest on its queue, or dropped (R598). -/
def espDone (j : CiphJob) (x : Manifest) (d : Dev) (mem : Memory) : Dev × Memory :=
  if j.status ≠ 0 then (manDrop x d, mem)
  else
    let w := passWrite x j.outHead (roomOf d x.head + 14 - espFront x j.out) j.out d mem
    let y := setFlag { x with head := w.1, len := j.out.length } fCipherDone true
    let e := tryEnqueue y false false w.2.1
    (if e.1 then e.2 else manDrop y e.2, w.2.2)

/-- The window of RFC 4303 accepts `seq`: the window after it, none where it is old or a repeat, or 0. -/
def replayStep (top map seq : Nat) : Option (Nat × Nat) :=
  if seq = 0 then none
  else if top < seq then
    some (seq, ((map * 2 ^ min 64 (seq - top)) % 2 ^ 64) ||| 1)
  else if 64 ≤ top - seq ∨ map.testBit (top - seq) then none
  else some (top, map ||| 2 ^ (top - seq))

/-- The trailer of an opened packet: the packet without padding and its EtherType, none where padding or Next Header are
wrong. -/
def espTrailer (b : Bytes) : Option (Bytes × Nat) :=
  let n := b.length
  let pad := be b (n - 2) 1
  let nh := be b (n - 1) 1
  if n < pad + 2 || (nh != 4 && nh != 41) then none
  else if (b.drop (n - 2 - pad)).take pad = (List.range pad).map (fun i => BitVec.ofNat 8 (i + 1)) then
    some (b.take (n - 2 - pad), if nh = 4 then 0x0800 else 0x86DD)
  else none

/-- A decryption pass ends with an error: counted, and the manifest returns with CIPHER_FAIL (R448, R600). An output
caravan that was admitted for it is freed. -/
def openFailed (j : CiphJob) (x : Manifest) (vlan status : Nat) (d : Dev) : Dev :=
  let d1 := if status = 1 then count CIPH_AUTH_FAIL_COUNT 0 0 d else if status = 2 then count CIPH_REPLAY_COUNT 0 0 d else d
  let d2 := match j.outHead with
    | some h => refDown h d1
    | none => d1
  let y := setFlag { x with exc := 0x22 } fCipherDone true
  toWaystation y (wayMod (fun w => { w with saved := tabSet w.saved y.head { x := y, seen := true, vlan := vlan } }) d2)

/-- A decryption pass ends (R600): the window, the trailer, and the inner packet behind a new Ethernet header. -/
def openDone (j : CiphJob) (p : CiphPass) (d : Dev) (mem : Memory) : Dev × Memory :=
  if j.status ≠ 0 then (openFailed j p.x p.vlan j.status d, mem)
  else match replayStep (d.rd CIPH_CTX_REPLAY_TOP 0 j.ctx) (ctxOf d j.ctx).map p.seq with
    | none => (openFailed j p.x p.vlan 2 d, mem)
    | some win =>
      let d1 := ctxMod j.ctx (fun c => { c with map := win.2 }) (d.put CIPH_CTX_REPLAY_TOP win.1 0 j.ctx)
      match espTrailer p.inner with
      | none => (openFailed j p.x p.vlan 0x0B d1, mem)
      | some t =>
        let bs := toBytes 6 (d.rd WAY_RMAC_LO_ADDR 0 0 + 2 ^ 32 * d.rd WAY_RMAC_HI_ADDR 0 0) ++ List.replicate 6 0 ++
          toBE 2 t.2 ++ t.1
        let h := parse ((readFrame d mem p.x.head 0 (min 128 p.x.len))) p.x.len (d.rd WAY_VXLAN_PORT_PORT) true
        let w := passWrite p.x j.outHead (roomOf d p.x.head + h.l4 + 2) bs d1 mem
        let y := setFlag { p.x with head := w.1, len := bs.length, ciphOp := 0 } fCipherDone true
        (toWaystation y (wayMod (fun v => { v with
          saved := tabSet v.saved y.head { x := y, seen := true, vlan := p.vlan } }) w.2.1), w.2.2)

/-- R598: the oldest manifest job of ring `r` completes. -/
def passComplete (r : Nat) (d : Dev) (mem : Memory) : Dev × Memory :=
  match jobsOf d r with
  | [] => (d, mem)
  | j :: rest =>
    let d0 := count CIPH_JOBS_COUNT 0 0 (setJobs r rest d)
    match j.pass with
    | none => (d0, mem)
    | some p => if p.opening then openDone j p d0 mem else espDone j p.x d0 mem

/-! ### Drains and soft resets (R611, R612) -/

/-- A drain ends each queued job of rings 0–3 with ABORTED: its manifest is dropped. -/
def ciphDrain (d : Dev) : Dev :=
  d.q.toCiph.foldl (fun e x => manDrop x.1 e) { d with q := { d.q with toCiph := [] } }

/-- A soft reset of CIPH clears every context record and empties every internal ring. -/
def ciphSoftReset (d : Dev) : Dev :=
  let d1 := ciphDrain d
  let d2 := d1.ciph.jobs.foldl (fun e x => x.2.foldl (fun f j =>
    let g := match j.outHead with
      | some h => refDown h f
      | none => f
    match j.pass with
    | some p => refDown p.x.head g
    | none => g) e) d1
  ciphMod (fun c => { c with ctxs := [], jobs := [] }) d2

/-- A soft reset of KEY zeroises slots 16–8,191 and counts their GEN up. -/
def keySoftReset (d : Dev) : Dev := (List.range 8192).foldl (fun e s => if s < 16 then e else zeroiseSlot s e) d

/-! ### Meanings -/

/-- A write of KEY_CMD by master `m`. -/
def keyCmd (m : Nat) (own : Bool) (f : Nat → Dev → Memory → Dev × Memory) (d : Dev) (mem : Memory) : Dev × Memory :=
  cmdWriteMem pKey 0x050 m (keyCommand m own f) d mem

def execKeyLoad (m : Nat) (host : Option (List Byte)) (s : State) : Host.Outcome State Fault Refusal :=
  updMem s (keyCmd m true (keyLoadEff m host))

def execKeySeal (m : Nat) (host : Option (List Byte)) (s : State) : Host.Outcome State Fault Refusal :=
  updMem s (keyCmd m false (keySealEff m host))

def execKeyExport (m : Nat) (s : State) : Host.Outcome State Fault Refusal := updMem s (keyCmd m false (keyExportEff m))

def execKeyDerive (m : Nat) (s : State) : Host.Outcome State Fault Refusal := updMem s (keyCmd m true (keyDeriveEff m))

def execKeyErase (m : Nat) (s : State) : Host.Outcome State Fault Refusal := updMem s (keyCmd m true keyEraseEff)

def execKeyEraseDone (slot : Nat) (s : State) : Host.Outcome State Fault Refusal := upd s (eraseEnd slot)

def execKeyPnWrite (m pn : Nat) (s : State) : Host.Outcome State Fault Refusal :=
  upd s (cmdWrite pKey 0x048 m (fun d => pnWrite m (keySel d) pn d))

def execCtxWrite (m : Nat) (s : State) : Host.Outcome State Fault Refusal :=
  upd s (cmdWrite (pCiph + 1) 0x064 m (ctxWriteEff m))

def execCtxRead (m : Nat) (s : State) : Host.Outcome State Fault Refusal :=
  upd s (cmdWrite (pCiph + 1) 0x064 m (ctxReadEff m))

def execCtxInvalidate (m : Nat) (s : State) : Host.Outcome State Fault Refusal :=
  upd s (cmdWrite (pCiph + 1) 0x064 m (ctxInvalidateEff m))

def execCrDoorbell (m n v : Nat) (s : State) : Host.Outcome State Fault Refusal :=
  upd s (cmdWrite (pCiph + 2) (0x04C + 0x20 * n) m (crDoorbellEff m n v))

def execCiphJobStart (r : Nat) (host hostState : Option (List Byte)) (s : State) : Host.Outcome State Fault Refusal :=
  upd s (fun d =>
    if r < 4 then passStart r d s.mem
    else if 8 ≤ r ∧ r < 16 then crStart (r - 8) host hostState d s.mem
    else d)

def execCiphJobComplete (r : Nat) (s : State) : Host.Outcome State Fault Refusal :=
  updMem s (fun d m => if 8 ≤ r ∧ r < 16 then crComplete (r - 8) d m else (d, m))

def execCiphManifestPass (r : Nat) (s : State) : Host.Outcome State Fault Refusal :=
  updMem s (fun d m => if r < 4 then passComplete r d m else (d, m))

end Sys2Proof.Machine
end

