-- ==== Sys2Proof/Machine/RegsDrover.lean ====
section
/-! DEFINITION. The register fields of spec/17_drover.md: page, offset, bits, access code, reset value,
regular stride and count, one definition per field, from the register tables of that chapter. -/

namespace Sys2Proof.Machine

def DRV_CFG_SLOT_DEPTH : Fld := { page := 0x98, off := 0x40, hi := 1, lo := 0, reset := fun _ _ => 2 }
def DRV_POST_FREE_ENT_FREE : Fld := { page := 0x98, off := 0x44, hi := 10, lo := 0, acc := .ro, reset := fun _ _ => 0x400 }
def DRV_ITEM_HELD_HELD : Fld := { page := 0x98, off := 0x48, hi := 15, lo := 0, acc := .ro }
def DRV_DISPATCH_COUNT : Fld := { page := 0x98, off := 0x80, hi := 31, lo := 0, acc := .w1c }
def DRV_PREEMPT_COUNT : Fld := { page := 0x98, off := 0x84, hi := 31, lo := 0, acc := .w1c }
def DRV_POST_FREE_COUNT : Fld := { page := 0x98, off := 0x88, hi := 31, lo := 0, acc := .w1c }
def DRV_ITEM_DROP_COUNT : Fld := { page := 0x98, off := 0x8c, hi := 31, lo := 0, acc := .w1c }
def DRV_TIMER_LATE_COUNT : Fld := { page := 0x98, off := 0x90, hi := 31, lo := 0, acc := .w1c }
def DRV_ORPHAN_COUNT : Fld := { page := 0x98, off := 0x94, hi := 31, lo := 0, acc := .w1c }
def DRV_TASK_IDX_TASK : Fld := { page := 0x99, off := 0x40, hi := 11, lo := 0 }
def DRV_TASK_CMD_BUSY : Fld := { page := 0x99, off := 0x44, hi := 31, lo := 31, acc := .ro, count := 4096 }
def DRV_TASK_CMD_RESULT : Fld := { page := 0x99, off := 0x44, hi := 30, lo := 28, acc := .ro, count := 4096 }
def DRV_TASK_CMD_CMD : Fld := { page := 0x99, off := 0x44, hi := 2, lo := 0, acc := .wo, count := 4096 }
def DRV_TASK_W0_STATE : Fld := { page := 0x99, off := 0x48, hi := 31, lo := 29, acc := .ro, count := 4096 }
def DRV_TASK_W0_CANCEL_PENDING : Fld := { page := 0x99, off := 0x48, hi := 28, lo := 28, acc := .ro, count := 4096 }
def DRV_TASK_W0_ORPHANED : Fld := { page := 0x99, off := 0x48, hi := 27, lo := 27, acc := .w1c, count := 4096 }
def DRV_TASK_W0_CORE : Fld := { page := 0x99, off := 0x48, hi := 26, lo := 24, acc := .ro, count := 4096 }
def DRV_TASK_W0_MODE : Fld := { page := 0x99, off := 0x48, hi := 20, lo := 20, count := 4096 }
def DRV_TASK_W0_PRIO : Fld := { page := 0x99, off := 0x48, hi := 19, lo := 16, count := 4096 }
def DRV_TASK_W0_AFFINITY : Fld := { page := 0x99, off := 0x48, hi := 7, lo := 0, count := 4096, reset := fun _ _ => 0xff }
def DRV_TASK_MASK_MASK : Fld := { page := 0x99, off := 0x4c, hi := 31, lo := 0, count := 4096 }
def DRV_TASK_FLAGS_FLAGS : Fld := { page := 0x99, off := 0x50, hi := 31, lo := 0, acc := .ro, count := 4096 }
def DRV_TASK_SET_SET : Fld := { page := 0x99, off := 0x54, hi := 31, lo := 0, acc := .w1s, count := 4096 }
def DRV_TASK_CLR_CLR : Fld := { page := 0x99, off := 0x58, hi := 31, lo := 0, acc := .wo, count := 4096 }
def DRV_TASK_ITEMS_IN_SERVICE : Fld := { page := 0x99, off := 0x5c, hi := 31, lo := 31, acc := .ro, count := 4096 }
def DRV_TASK_ITEMS_COUNT : Fld := { page := 0x99, off := 0x5c, hi := 15, lo := 0, acc := .ro, count := 4096 }
def DRV_CUR_VALID : Fld := { page := 0x9a, off := 0x40, hi := 31, lo := 31, acc := .ro, stride := 0x40, count := 8 }
def DRV_CUR_TASK : Fld := { page := 0x9a, off := 0x40, hi := 11, lo := 0, acc := .ro, stride := 0x40, count := 8 }
def DRV_EVENTS_EVENTS : Fld := { page := 0x9a, off := 0x44, hi := 31, lo := 0, acc := .ro, stride := 0x40, count := 8 }
def DRV_CMD_MASK : Fld := { page := 0x9a, off := 0x48, hi := 31, lo := 0, acc := .wo, stride := 0x40, count := 8 }
def DRV_CMD_HI_MODE : Fld := { page := 0x9a, off := 0x4c, hi := 4, lo := 4, acc := .wo, stride := 0x40, count := 8 }
def DRV_CMD_HI_CMD : Fld := { page := 0x9a, off := 0x4c, hi := 1, lo := 0, acc := .wo, stride := 0x40, count := 8 }
def DRV_ITEM_VALID : Fld := { page := 0x9a, off := 0x50, hi := 31, lo := 31, acc := .ro, stride := 0x40, count := 8 }
def DRV_ITEM_FLOW : Fld := { page := 0x9a, off := 0x50, hi := 15, lo := 0, acc := .ro, stride := 0x40, count := 8 }
def DRV_MAN0_WORD : Fld := { page := 0x9a, off := 0x54, hi := 31, lo := 0, stride := 0x40, count := 8 }
def DRV_MAN1_WORD : Fld := { page := 0x9a, off := 0x58, hi := 31, lo := 0, stride := 0x40, count := 8 }
def DRV_MAN2_WORD : Fld := { page := 0x9a, off := 0x5c, hi := 31, lo := 0, stride := 0x40, count := 8 }
def DRV_MAN3_WORD : Fld := { page := 0x9a, off := 0x60, hi := 31, lo := 0, stride := 0x40, count := 8 }
def DRV_MAN4_WORD : Fld := { page := 0x9a, off := 0x64, hi := 31, lo := 0, stride := 0x40, count := 8 }
def DRV_MAN5_WORD : Fld := { page := 0x9a, off := 0x68, hi := 31, lo := 0, stride := 0x40, count := 8 }
def DRV_MAN6_WORD : Fld := { page := 0x9a, off := 0x6c, hi := 31, lo := 0, stride := 0x40, count := 8 }
def DRV_MAN7_WORD : Fld := { page := 0x9a, off := 0x70, hi := 31, lo := 0, stride := 0x40, count := 8 }
def DRV_DISPOSE_BUSY : Fld := { page := 0x9a, off := 0x74, hi := 31, lo := 31, acc := .ro, stride := 0x40, count := 8 }
def DRV_DISPOSE_RESULT : Fld := { page := 0x9a, off := 0x74, hi := 30, lo := 28, acc := .ro, stride := 0x40, count := 8 }
def DRV_DISPOSE_CMD : Fld := { page := 0x9a, off := 0x74, hi := 1, lo := 0, acc := .wo, stride := 0x40, count := 8 }
def DRV_SLOT_TAKE_VALID : Fld := { page := 0x9a, off := 0x78, hi := 31, lo := 31, acc := .ro, stride := 0x40, count := 8 }
def DRV_SLOT_TAKE_TASK : Fld := { page := 0x9a, off := 0x78, hi := 11, lo := 0, acc := .ro, stride := 0x40, count := 8 }
def DRV_TMR_IDX_TIMER : Fld := { page := 0x9b, off := 0x40, hi := 9, lo := 0 }
def DRV_TMR_CFG_EN : Fld := { page := 0x9b, off := 0x44, hi := 31, lo := 31, count := 1024 }
def DRV_TMR_CFG_TASK : Fld := { page := 0x9b, off := 0x44, hi := 27, lo := 16, count := 1024 }
def DRV_TMR_CFG_FLAG : Fld := { page := 0x9b, off := 0x44, hi := 12, lo := 8, count := 1024 }
def DRV_TMR_DUE_NS_NS : Fld := { page := 0x9b, off := 0x48, hi := 29, lo := 0, count := 1024 }
def DRV_TMR_DUE_S_LO_S : Fld := { page := 0x9b, off := 0x4c, hi := 31, lo := 0, count := 1024 }
def DRV_TMR_DUE_S_HI_S : Fld := { page := 0x9b, off := 0x50, hi := 15, lo := 0, count := 1024 }
def DRV_TMR_PERIOD_NS : Fld := { page := 0x9b, off := 0x54, hi := 31, lo := 0, count := 1024 }
def DRV_TMR_STATUS_ARMED : Fld := { page := 0x9b, off := 0x58, hi := 2, lo := 2, acc := .ro, count := 1024 }
def DRV_TMR_STATUS_LATE : Fld := { page := 0x9b, off := 0x58, hi := 1, lo := 1, acc := .w1c, count := 1024 }
def DRV_TMR_STATUS_FIRED : Fld := { page := 0x9b, off := 0x58, hi := 0, lo := 0, acc := .w1c, count := 1024 }
def DRV_LEDGER_CFG_EN : Fld := { page := 0x9c, off := 0x40, hi := 31, lo := 31 }
def DRV_LEDGER_CFG_KINDS : Fld := { page := 0x9c, off := 0x40, hi := 27, lo := 16, reset := fun _ _ => 0x7ff }
def DRV_LEDGER_CFG_LOG2SIZE : Fld := { page := 0x9c, off := 0x40, hi := 12, lo := 8, stat := true, reset := fun _ _ => 0xc }
def DRV_LEDGER_CFG_LOC : Fld := { page := 0x9c, off := 0x40, hi := 4, lo := 4, stat := true }
def DRV_LEDGER_CFG_MODE : Fld := { page := 0x9c, off := 0x40, hi := 0, lo := 0 }
def DRV_LEDGER_BASE_LO_BASE : Fld := { page := 0x9c, off := 0x44, hi := 31, lo := 0, stat := true }
def DRV_LEDGER_BASE_HI_BASE : Fld := { page := 0x9c, off := 0x48, hi := 15, lo := 0, stat := true }
def DRV_LEDGER_HW_IDX : Fld := { page := 0x9c, off := 0x4c, hi := 31, lo := 0, acc := .ro }
def DRV_LEDGER_SW_IDX : Fld := { page := 0x9c, off := 0x50, hi := 31, lo := 0 }
def DRV_LEDGER_LOST_COUNT : Fld := { page := 0x9c, off := 0x54, hi := 31, lo := 0, acc := .w1c }
def CORE_ENTRY_LO_ADDR : Fld := { page := 0xa0, span := 1, off := 0x40, hi := 31, lo := 0, stat := true }
def CORE_ENTRY_HI_ADDR : Fld := { page := 0xa0, span := 1, off := 0x44, hi := 15, lo := 0, stat := true }
def CORE_STATUS_GATED : Fld := { page := 0xa0, span := 1, off := 0x48, hi := 3, lo := 3, acc := .ro }
def CORE_STATUS_HALTED : Fld := { page := 0xa0, span := 1, off := 0x48, hi := 2, lo := 2, acc := .ro }
def CORE_STATUS_TASK : Fld := { page := 0xa0, span := 1, off := 0x48, hi := 1, lo := 1, acc := .ro }
def CORE_PWR_OFF_MODE : Fld := { page := 0xa0, span := 1, off := 0x4c, hi := 1, lo := 0 }
def CORE_DBG_HALTED : Fld := { page := 0xa0, span := 1, off := 0x50, hi := 2, lo := 2, acc := .ro }
def CORE_DBG_STEP : Fld := { page := 0xa0, span := 1, off := 0x50, hi := 1, lo := 1, acc := .w1s }
def CORE_DBG_HALT_REQ : Fld := { page := 0xa0, span := 1, off := 0x50, hi := 0, lo := 0 }
def CORE_CE_COUNT : Fld := { page := 0xa0, span := 1, off := 0x54, hi := 31, lo := 0, acc := .w1c }
def CORE_UE_COUNT : Fld := { page := 0xa0, span := 1, off := 0x58, hi := 31, lo := 0, acc := .w1c }

/-- The fields of page 0 of DROVER. -/
def fldsDrover0 : List Fld :=
  [DRV_CFG_SLOT_DEPTH, DRV_POST_FREE_ENT_FREE, DRV_ITEM_HELD_HELD, DRV_DISPATCH_COUNT, DRV_PREEMPT_COUNT, DRV_POST_FREE_COUNT, DRV_ITEM_DROP_COUNT, DRV_TIMER_LATE_COUNT, DRV_ORPHAN_COUNT]

/-- The fields of page 1 of DROVER. -/
def fldsDrover1 : List Fld :=
  [DRV_TASK_IDX_TASK, DRV_TASK_CMD_BUSY, DRV_TASK_CMD_RESULT, DRV_TASK_CMD_CMD, DRV_TASK_W0_STATE, DRV_TASK_W0_CANCEL_PENDING, DRV_TASK_W0_ORPHANED, DRV_TASK_W0_CORE, DRV_TASK_W0_MODE, DRV_TASK_W0_PRIO, DRV_TASK_W0_AFFINITY, DRV_TASK_MASK_MASK, DRV_TASK_FLAGS_FLAGS, DRV_TASK_SET_SET, DRV_TASK_CLR_CLR, DRV_TASK_ITEMS_IN_SERVICE, DRV_TASK_ITEMS_COUNT]

/-- The fields of page 2 of DROVER. -/
def fldsDrover2 : List Fld :=
  [DRV_CUR_VALID, DRV_CUR_TASK, DRV_EVENTS_EVENTS, DRV_CMD_MASK, DRV_CMD_HI_MODE, DRV_CMD_HI_CMD, DRV_ITEM_VALID, DRV_ITEM_FLOW, DRV_MAN0_WORD, DRV_MAN1_WORD, DRV_MAN2_WORD, DRV_MAN3_WORD, DRV_MAN4_WORD, DRV_MAN5_WORD, DRV_MAN6_WORD, DRV_MAN7_WORD, DRV_DISPOSE_BUSY, DRV_DISPOSE_RESULT, DRV_DISPOSE_CMD, DRV_SLOT_TAKE_VALID, DRV_SLOT_TAKE_TASK]

/-- The fields of page 3 of DROVER. -/
def fldsDrover3 : List Fld :=
  [DRV_TMR_IDX_TIMER, DRV_TMR_CFG_EN, DRV_TMR_CFG_TASK, DRV_TMR_CFG_FLAG, DRV_TMR_DUE_NS_NS, DRV_TMR_DUE_S_LO_S, DRV_TMR_DUE_S_HI_S, DRV_TMR_PERIOD_NS, DRV_TMR_STATUS_ARMED, DRV_TMR_STATUS_LATE, DRV_TMR_STATUS_FIRED]

/-- The fields of page 4 of DROVER. -/
def fldsDrover4 : List Fld :=
  [DRV_LEDGER_CFG_EN, DRV_LEDGER_CFG_KINDS, DRV_LEDGER_CFG_LOG2SIZE, DRV_LEDGER_CFG_LOC, DRV_LEDGER_CFG_MODE, DRV_LEDGER_BASE_LO_BASE, DRV_LEDGER_BASE_HI_BASE, DRV_LEDGER_HW_IDX, DRV_LEDGER_SW_IDX, DRV_LEDGER_LOST_COUNT]

/-- The fields of page 0 of CORE. -/
def fldsCore0 : List Fld :=
  [CORE_ENTRY_LO_ADDR, CORE_ENTRY_HI_ADDR, CORE_STATUS_GATED, CORE_STATUS_HALTED, CORE_STATUS_TASK, CORE_PWR_OFF_MODE, CORE_DBG_HALTED, CORE_DBG_STEP, CORE_DBG_HALT_REQ, CORE_CE_COUNT, CORE_UE_COUNT]

end Sys2Proof.Machine
end

