-- ==== Sys2Proof/Machine/Drover.lean ====
section
/-! DEFINITION. The Drover task scheduler (spec/17_drover.md): tasks, posts, dispatch, items, timers and the ledger. -/

namespace Sys2Proof.Machine

open Sys2Proof

/-- First page of CORE `n`. -/
def pCore (n : Nat) : Nat := 0xA0 + n

/-- Changes what the Drover holds beyond its registers. -/
def drvMod (f : DrvUnit → DrvUnit) (d : Dev) : Dev := { d with drv := f d.drv }

/-- R640: native mode; else prefetch-slot mode. -/
def drvNative (d : Dev) : Bool := feat d pDrover 3 0

/-! ### Tasks (R641, R642) -/

def tFREE : Nat := 0
def tIDLE : Nat := 1
def tWAITING : Nat := 2
def tREADY : Nat := 3
def tRUNNING : Nat := 4

def taskOf (d : Dev) (t : Nat) : DrvTask := tabGet d.drv.tasks t {}
def taskMod (t : Nat) (f : DrvTask → DrvTask) (d : Dev) : Dev :=
  drvMod (fun u => { u with tasks := tabMod u.tasks t {} f }) d
def taskState (d : Dev) (t : Nat) : Nat := d.rd DRV_TASK_W0_STATE 0 t
def setTaskState (t v : Nat) (d : Dev) : Dev := d.put DRV_TASK_W0_STATE v 0 t
def taskFlags (d : Dev) (t : Nat) : Nat := d.rd DRV_TASK_FLAGS_FLAGS 0 t
def setFlags (t v : Nat) (d : Dev) : Dev := d.put DRV_TASK_FLAGS_FLAGS v 0 t

/-- The task's condition holds (R642). -/
def condHolds (d : Dev) (t : Nat) : Bool :=
  let k := taskOf d t
  let hit := taskFlags d t &&& k.mask
  k.mask != 0 && (if k.all then hit == k.mask else hit != 0)

/-! ### The ledger (R660, R661) -/

def ledgerSize (d : Dev) : Nat := 2 ^ max 6 (min 20 (d.rd DRV_LEDGER_CFG_LOG2SIZE))
def ledgerBase (d : Dev) : Nat :=
  let b := d.rd DRV_LEDGER_BASE_LO_BASE + 2 ^ 32 * d.rd DRV_LEDGER_BASE_HI_BASE
  if d.on DRV_LEDGER_CFG_LOC then b else seraiBase + 256 * (b % 2 ^ 17)

/-- Records written and not consumed. -/
def ledgerUnread (d : Dev) : Nat := idxSub (d.rd DRV_LEDGER_HW_IDX) (d.rd DRV_LEDGER_SW_IDX)

/-- A record of KIND `k`: its core, task, words 4 to 6. -/
structure LedgerRec where
  kind : Nat
  core : Nat
  task : Nat
  w4 : Nat
  w5 : Nat := 0
  w6 : Nat := 0

/-- The 32 bytes of a record with SEQ `seq`. -/
def ledgerBytes (d : Dev) (r : LedgerRec) (seq : Nat) : Bytes :=
  [r.kind + 2 ^ 8 * (r.core % 8) + 2 ^ 12 * (taskOf d r.task).prio + 2 ^ 16 * r.task, seq, nowNs d, nowS d % 2 ^ 32,
   r.w4, r.w5, r.w6, 0].flatMap (toBytes 4)

/-- Counts a record that cannot be written. -/
def ledgerLose (d : Dev) : Dev := satPut DRV_LEDGER_LOST_COUNT 0 0 1 d

/-- Writes a record of an enabled kind, or counts it lost. -/
def ledger (r : LedgerRec) (x : DM) : DM :=
  let d := x.1
  if !d.on DRV_LEDGER_CFG_EN || !(d.rd DRV_LEDGER_CFG_KINDS).testBit (r.kind - 1) then x
  else
    let seq := d.drv.ledgerSeq
    let d1 := drvMod (fun u => { u with ledgerSeq := (u.ledgerSeq + 1) % 2 ^ 32 }) d
    if d.on DRV_LEDGER_CFG_MODE && decide (ledgerSize d ≤ ledgerUnread d) then (ledgerLose d1, x.2)
    else
      let hw := d.rd DRV_LEDGER_HW_IDX
      let w := unitWrite 8 (ledgerBase d + 32 * (hw % ledgerSize d)) (ledgerBytes d r seq) d1 x.2
      if !w.1 then (ledgerLose (fault0 pDrover 0x43 0 r.kind w.2.1), w.2.2)
      else
        let d2 := w.2.1.put DRV_LEDGER_HW_IDX (hw + 1)
        (if d2.on DRV_LEDGER_CFG_MODE && ledgerUnread d2 == ledgerSize d2 / 2 then raiseBit pDrover 4 d2 else d2, w.2.2)

/-- A record of a decision about task `t` with its FLAGS; `core` where the decision has one, else the field is open. -/
def ledgerTask (kind : Nat) (core : Option Nat) (t : Nat) (w5 w6 : Nat) (x : DM) : DM :=
  let r := match core with
    | some c => (c, x.1)
    | none => draw x.1
  ledger ⟨kind, r.1, t, taskFlags x.1 t, w5, w6⟩ (r.2, x.2)

/-! ### Ready lists (R644) -/

def readyAt (d : Dev) (p : Nat) : List Nat := tabGet d.drv.ready p []
def setReady (p : Nat) (l : List Nat) (d : Dev) : Dev := drvMod (fun u => { u with ready := tabSet u.ready p l }) d

/-- Task `t` leaves the ready lists. -/
def unready (t : Nat) (d : Dev) : Dev :=
  drvMod (fun u => { u with ready := u.ready.map (fun e => (e.1, e.2.filter (· != t))) }) d

/-- Task `t` becomes READY at the tail, or at the head, of its level. -/
def joinReady (t : Nat) (atHead : Bool) (d : Dev) : Dev :=
  let p := (taskOf d t).prio
  setReady p (if atHead then t :: readyAt d p else readyAt d p ++ [t]) (setTaskState t tREADY d)

/-- The task may run on core `n`. -/
def mayRun (d : Dev) (t n : Nat) : Bool := (taskOf d t).affinity.testBit n

/-- The head of the highest non-empty level among the tasks that may run on core `n`. -/
def nextFor (d : Dev) (n : Nat) : Option Nat :=
  (List.range 16).reverse.findSome? (fun p => (readyAt d p).find? (fun t => mayRun d t n))

/-! ### Dispatch (R649, R650, R652) -/

/-- Core `n` runs a task, and which. -/
def coreBusy (d : Dev) (n : Nat) : Bool := d.on DRV_CUR_VALID 0 n
def coreTask (d : Dev) (n : Nat) : Nat := d.rd DRV_CUR_TASK 0 n

/-- The Drover dispatches on core `n`. -/
def coreServes (d : Dev) (n : Nat) : Bool := decide (n < 8) && isActive d pDrover && isActive d (pCore n)

def slotOf (d : Dev) (n : Nat) : List Nat := tabGet d.drv.slots n []
def setSlot (n : Nat) (l : List Nat) (d : Dev) : Dev := drvMod (fun u => { u with slots := tabSet u.slots n l }) d
def slotDepth (d : Dev) : Nat := if d.rd DRV_CFG_SLOT_DEPTH = 0 then 4 else d.rd DRV_CFG_SLOT_DEPTH

/-- SLOT_READY of core `n` stands while it runs no task and its slot holds one. -/
def slotCause (n : Nat) (d : Dev) : Dev :=
  if !coreBusy d n && !(slotOf d n).isEmpty then
    (if (d.rd HDR_INT_RAW_RAW (pCore n)).testBit 5 then d else raiseBit (pCore n) 5 d)
  else lowerBit (pCore n) 5 d

/-- Task `t` runs on core `n`: its events are copied and cleared (R650), and DRV_CUR loaded. -/
def runTask (t n : Nat) (x : DM) : DM :=
  let d := x.1
  let ev := taskFlags d t &&& (taskOf d t).mask
  let d1 := setFlags t (andNot (taskFlags d t) ev) ((setTaskState t tRUNNING (unready t d)).put DRV_TASK_W0_CORE n 0 t)
  let d2 := ((d1.put DRV_CUR_VALID 1 0 n).put DRV_CUR_TASK t 0 n).put DRV_EVENTS_EVENTS ev 0 n
  let d3 := count DRV_DISPATCH_COUNT 0 0 (d2.put CORE_STATUS_TASK 1 n)
  ledger ⟨2, n, t, ev, 0, 0⟩ (d3, x.2)

/-- Dispatches task `t` on core `n` in native mode. -/
def dispatchOn (t n : Nat) (x : DM) : DM := onDev (raiseBit (pCore n) 3) (runTask t n x)

/-- Raises PREEMPT on core `n`, unless one is outstanding. -/
def preemptCore (n : Nat) (d : Dev) : Dev :=
  if has d.drv.preempts n then d
  else raiseBit (pCore n) 4 (drvMod (fun u => { u with preempts := n :: u.preempts }) d)

/-- The cores in order, the one on which task `t` last ran first. -/
def coresFor (d : Dev) (t : Nat) : List Nat :=
  let c := d.rd DRV_TASK_W0_CORE 0 t
  c :: (List.range 8).filter (· != c)

/-- The core among those that run a task of lower priority than `p` and have no PREEMPT outstanding which runs the
lowest, the lowest-numbered among equals. -/
def victim (d : Dev) (t : Nat) : Option Nat :=
  let p := fun n => (taskOf d (coreTask d n)).prio
  ((List.range 8).filter (fun n => coreServes d n && mayRun d t n && coreBusy d n && decide (p n < (taskOf d t).prio) &&
    !has d.drv.preempts n)).foldl (fun b n => match b with
      | none => some n
      | some k => if p n < p k then some n else some k) none

/-- Task `t` enters a slot of core `n`. -/
def fillWith (t n : Nat) (d : Dev) : Dev :=
  slotCause n (setSlot n (slotOf d n ++ [t]) ((setTaskState t tRUNNING (unready t d)).put DRV_TASK_W0_CORE n 0 t))

/-- The slot of core `n` takes the tasks it has room for. -/
def fillSlot : Nat → Nat → Dev → Dev
  | 0, _, d => d
  | k + 1, n, d =>
    if !coreServes d n || decide (slotDepth d ≤ (slotOf d n).length) then d
    else match nextFor d n with
      | none => d
      | some t => fillSlot k n (fillWith t n d)

/-- What follows when task `t` has become READY (R649, R652). -/
def placeReady (t : Nat) (x : DM) : DM :=
  let d := x.1
  if taskState d t ≠ tREADY then x
  else if drvNative d then
    match (coresFor d t).find? (fun n => coreServes d n && mayRun d t n && !coreBusy d n) with
    | some n => dispatchOn t n x
    | none => match victim d t with
      | some n => (preemptCore n d, x.2)
      | none => x
  else
    match (coresFor d t).find? (fun n => coreServes d n && mayRun d t n && decide ((slotOf d n).length < slotDepth d)) with
    | some n => (fillSlot 4 n d, x.2)
    | none => x

/-- Task `t` becomes READY, recorded. -/
def makeReady (t : Nat) (atHead : Bool) (x : DM) : DM := ledgerTask 1 none t 0 0 (joinReady t atHead x.1, x.2)

/-- A WAITING task whose condition holds becomes READY and is placed (R642, R649). -/
def wake (t : Nat) (x : DM) : DM :=
  if taskState x.1 t = tWAITING ∧ condHolds x.1 t then placeReady t (makeReady t false x) else x

/-- Sets flag bits `v` of task `t`, which is not FREE (R642). -/
def setTaskFlags (t v : Nat) (x : DM) : DM :=
  if taskState x.1 t = tFREE then x else wake t (setFlags t (taskFlags x.1 t ||| v) x.1, x.2)

/-- Core `n` has no task: it takes the next one, or its slot is filled. -/
def coreNext (n : Nat) (x : DM) : DM :=
  if !coreServes x.1 n then x
  else if drvNative x.1 then
    match nextFor x.1 n with
    | none => x
    | some t => dispatchOn t n x
  else (slotCause n (fillSlot 4 n x.1), x.2)

/-- Every core without a task takes one: at a start of DROVER or of a core. -/
def dispatchAll (x : DM) : DM :=
  (List.range 8).foldl (fun y n => if coreBusy y.1 n then y else coreNext n y) x

/-! ### Turns (R651) -/

/-- How a task ends its turn. -/
inductive TurnEnd where
  | wait (mask : Nat) (all : Bool)
  | yield
  | preempted

/-- Core `n` runs no task any more. -/
def leaveCore (n : Nat) (d : Dev) : Dev :=
  drvMod (fun u => { u with preempts := u.preempts.filter (· != n) })
    (((d.put DRV_CUR_VALID 0 0 n).put CORE_STATUS_TASK 0 n))

/-- The flags of the available items of a task. -/
def itemFlags (k : DrvTask) : Nat := k.items.foldl (fun v i => v ||| 2 ^ i.flag) 0

/-- The task `t` of core `n` ends its turn. -/
def endTurn (n : Nat) (e : TurnEnd) (x : DM) : DM :=
  let t := coreTask x.1 n
  let d := leaveCore n x.1
  if d.on DRV_TASK_W0_CANCEL_PENDING 0 t then
    coreNext n (setTaskState t tIDLE (d.put DRV_TASK_W0_CANCEL_PENDING 0 0 t), x.2)
  else match e with
    | .wait mask all =>
      let d1 := taskMod t (fun k => { k with mask := mask, all := all }) d
      let d2 := setFlags t (taskFlags d1 t ||| itemFlags (taskOf d1 t)) d1
      let y := ledgerTask 4 (some n) t 0 0 (d2, x.2)
      if condHolds y.1 t then placeReady t (coreNext n (makeReady t false y))
      else coreNext n (setTaskState t tWAITING y.1, y.2)
    | .yield =>
      placeReady t (coreNext n (makeReady t false (ledgerTask 5 (some n) t 0 0 (d, x.2))))
    | .preempted =>
      if drvNative d then
        let y := ledgerTask 3 (some n) t 0 0 (count DRV_PREEMPT_COUNT 0 0 d, x.2)
        placeReady t (coreNext n (makeReady t true y))
      else placeReady t (coreNext n (makeReady t false (ledgerTask 5 (some n) t 0 0 (d, x.2))))

/-- An access of master `m` to window `n`: only core `n`'s is answered. -/
def windowAccess (m n off kind : Nat) (f : DM → DM) (x : DM) : DM :=
  if m = n ∧ n < 8 then f x
  else
    let d := report ⟨pDrover, 0x40, 0, kind, m, regAddr (pDrover + 2) (off + 0x40 * n)⟩ x.1
    (if kind = 0 then answer 0 d else d, x.2)

/-- A write of DRV_CMD by core `n`. -/
def turnWrite (m n : Nat) (e : TurnEnd) : DM → DM :=
  windowAccess m n 0x048 1 (fun x =>
    if coreBusy x.1 n then endTurn n e x
    else (refuseWrite pDrover 0x40 m (regAddr (pDrover + 2) (0x04C + 0x40 * n)) x.1, x.2))

/-! ### Items (R653–R655) -/

/-- Tasks that are not FREE. -/
def liveTasks (d : Dev) : List Nat := d.drv.tasks.map (·.1)

/-- Items in the store: parked, available and in service. -/
def itemCount (d : Dev) : Nat :=
  d.drv.parked.length + (d.drv.tasks.map (fun e => e.2.items.length + b2n e.2.service.isSome)).sum

/-- An item of flow `f` is available or in service. -/
def flowTaken (d : Dev) (f : Nat) : Bool :=
  d.drv.tasks.any (fun e => e.2.items.any (fun i => i.flow == f) || (match e.2.service with
    | some i => i.flow == f
    | none => false))

/-- Disposes of an item as DISCARD: its count falls by 1, and the Waystation is told. -/
def discardItem (i : Item) (d : Dev) : Dev := flowReport i.flow (refDown i.x.head (frameDropped i.x d))

/-- The item becomes available to its task, and its flag is set. A FREE task's item is discarded (R646). -/
def offerItem (i : Item) (x : DM) : DM :=
  if taskState x.1 i.task = tFREE then (discardItem i (count DRV_POST_FREE_COUNT 0 0 x.1), x.2)
  else setTaskFlags i.task (2 ^ i.flag) (taskMod i.task (fun k => { k with items := k.items ++ [i] }) x.1, x.2)

/-- The flow `f` is released: the first item that waits for it becomes available. -/
def releaseFlow (f : Nat) : Nat → DM → DM
  | 0, x => x
  | n + 1, x =>
    if flowTaken x.1 f then x
    else match x.1.drv.parked.find? (fun i => i.flow == f) with
      | none => x
      | some i => releaseFlow f n (offerItem i
          (drvMod (fun u => { u with parked := dropFirst (fun j => j.flow == f) u.parked }) x.1, x.2))

/-- A post that carries an item is applied. -/
def postItem (i : Item) (x : DM) : DM :=
  if 32768 ≤ itemCount x.1 then
    let d1 := raiseBit pDrover 3 (fault0 pDrover 0x42 0 i.task (count DRV_ITEM_DROP_COUNT 0 0 x.1))
    setTaskFlags i.task (2 ^ i.flag) (ledgerTask 0xB none i.task i.flow 0 (discardItem i d1, x.2))
  else if flowTaken x.1 i.flow || x.1.drv.parked.any (fun j => j.flow == i.flow) then
    (drvMod (fun u => { u with parked := u.parked ++ [i] }) x.1, x.2)
  else offerItem i x

/-- A post is applied to its task (R645, R646). -/
def applyPost (p : Post) (x : DM) : DM :=
  if taskState x.1 p.task = tFREE then
    let d1 := count DRV_POST_FREE_COUNT 0 0 x.1
    (match p.item with
     | some y => discardItem ⟨y, p.task, p.flag, y.flow⟩ d1
     | none => d1, x.2)
  else match p.item with
    | some y => postItem ⟨y, p.task, p.flag, y.flow⟩ x
    | none => setTaskFlags p.task (2 ^ p.flag) x

/-- An edge that its source holds enters the event-post queue (R52): a line, a ring, or a cipher ring. -/
def postHeld (n : Nat) (d : Dev) : Dev :=
  if n < 1024 then pushPost ⟨d.rd INTR_ROUTE_DATA_TASK 0 n, d.rd INTR_ROUTE_DATA_TARGET 0 n % 32, none⟩ d
  else if n < 2048 then pushPost ⟨d.rd HR_ROUTE_TASK 0 (n - 1024), d.rd HR_ROUTE_FLAG 0 (n - 1024), none⟩ d
  else let v := d.rd CR_ROUTE_ROUTE 0 (n - 2048); pushPost ⟨bitsOf v 27 16, bitsOf v 12 8, none⟩ d

/-- Held edges enter while the queue takes posts. -/
def drainHeld : List Nat → Dev → Dev
  | [], d => { d with sh := { d.sh with heldLines := [] } }
  | n :: l, d =>
    if postRoom d then drainHeld l (postHeld n d) else { d with sh := { d.sh with heldLines := n :: l } }

/-- The oldest post is applied, and held edges follow into the queue. -/
def takePost (x : DM) : DM :=
  match x.1.sh.posts with
  | [] => x
  | p :: rest =>
    let y := applyPost p ({ x.1 with sh := { x.1.sh with posts := rest } }, x.2)
    (drainHeld y.1.sh.heldLines y.1, y.2)

/-- The registers DRV_MAN0–7. -/
def manFields : List Fld :=
  [DRV_MAN0_WORD, DRV_MAN1_WORD, DRV_MAN2_WORD, DRV_MAN3_WORD, DRV_MAN4_WORD, DRV_MAN5_WORD, DRV_MAN6_WORD, DRV_MAN7_WORD]

/-- Loads a manifest into the window of core `n`. -/
def loadMan (n : Nat) (x : Manifest) (d : Dev) : Dev :=
  (manFields.zip (manifestWords x)).foldl (fun e p => e.put p.1 p.2 0 n) d

/-- The manifest in the window of core `n`. -/
def manOf (d : Dev) (n : Nat) : Manifest := manifestOf (manFields.flatMap (fun F => toBytes 4 (d.rd F 0 n)))

/-- The answer of DRV_ITEM with an item of flow `f`. -/
def itemAnswer (n : Nat) (i : Item) (d : Dev) : Dev :=
  answer (2 ^ 31 + i.flow % 2 ^ 16) (((loadMan n i.x d).put DRV_ITEM_VALID 1 0 n).put DRV_ITEM_FLOW i.flow 0 n)

/-- A read of DRV_ITEM by core `n` (R655). -/
def itemRead (n : Nat) (x : DM) : DM :=
  let d := x.1
  let t := coreTask d n
  let none' := (answer 0 ((d.put DRV_ITEM_VALID 0 0 n).put DRV_ITEM_FLOW 0 0 n), x.2)
  if !coreBusy d n then none'
  else match (taskOf d t).service with
    | some i => (itemAnswer n i d, x.2)
    | none => match (taskOf d t).items with
      | [] => none'
      | i :: rest =>
        ledgerTask 8 (some n) t i.flow 0
          (itemAnswer n i (taskMod t (fun k => { k with items := rest, service := some i }) d), x.2)

/-- A disposition of core `n`'s item `i` is accepted with the manifest `y` written back: BUSY reads 1 until it completes. -/
def disposeTaken (n cmd : Nat) (i : Item) (y : Manifest) (d : Dev) : Dev :=
  taskMod (coreTask d n) (fun k => { k with disposing := some (cmd, n), service := some { i with x := y } })
    (d.put DRV_DISPOSE_BUSY 1 0 n)

/-- The manifest that a task gives back: FROM_TASK set, SRC unchanged. -/
def givenBack (d : Dev) (n : Nat) (i : Item) : Manifest :=
  setFlag { manOf d n with src := i.x.src } fFromTask true

/-- A write of DRV_DISPOSE by core `n` with CMD `cmd` 1–3 (R655). -/
def disposeWrite (m n cmd : Nat) : DM → DM :=
  windowAccess m n 0x074 1 (fun x =>
    let d := x.1
    let k := taskOf d (coreTask d n)
    match (if coreBusy d n && k.disposing.isNone then k.service else none) with
    | none => (refuseWrite pDrover 0x41 m (regAddr (pDrover + 2) (0x074 + 0x40 * n)) d, x.2)
    | some i =>
      let y := givenBack d n i
      if cmd = 1 then
        (disposeTaken n 1 i y { (moveCharge y.head 3 d) with q := { (moveCharge y.head 3 d).q with
          toWayTask := d.q.toWayTask ++ [y] } }, x.2)
      else if cmd = 2 then
        let r := enqueueFrom .drover y false (moveCharge y.head 3 d)
        if r.1 then (disposeTaken n 2 i y r.2, x.2)
        else (r.2.put DRV_DISPOSE_RESULT (if manifestBad y then 3 else 2) 0 n, x.2)
      else (disposeTaken n 3 i y (refDown y.head (frameDropped y d)), x.2))

/-- The disposition of task `t`'s item completes; a RETURN only once the Waystation has taken it (R169). -/
def disposeEnd (t : Nat) (x : DM) : DM :=
  let k := taskOf x.1 t
  match k.disposing, k.service with
  | some (cmd, n), some i =>
    if cmd = 1 && x.1.q.toWayTask.any (fun y => y.head == i.x.head) then x
    else
      let d1 := taskMod t (fun z => { z with service := none, disposing := none }) x.1
      let d2 := flowReport i.flow ((d1.put DRV_DISPOSE_BUSY 0 0 n).put DRV_DISPOSE_RESULT 0 0 n)
      releaseFlow i.flow (d2.drv.parked.length + 1) (ledgerTask 9 (some n) t (i.flow + 2 ^ 16 * cmd) 0 (d2, x.2))
  | _, _ => x

/-! ### Task commands (R643, R647) -/

def taskSel (d : Dev) : Nat := d.rd DRV_TASK_IDX_TASK
def taskResult (t r : Nat) (d : Dev) : Dev := d.put DRV_TASK_CMD_RESULT r 0 t

/-- A command that the table does not list for the task's state. -/
def taskRefuse (m t : Nat) (d : Dev) : Dev :=
  refuseWrite pDrover 0x40 m (regAddr (pDrover + 1) 0x044) (taskResult t 1 d)

/-- The staged PRIO and AFFINITY enter task `t`. -/
def stagedPrio (t : Nat) (d : Dev) : Dev :=
  taskMod t (fun k => { k with prio := d.rd DRV_TASK_W0_PRIO 0 t, affinity := d.rd DRV_TASK_W0_AFFINITY 0 t }) d

/-- CANCEL of a RUNNING task: out of its slot, or CANCEL_PENDING with a PREEMPT in native mode. -/
def cancelRunning (t : Nat) (x : DM) : DM :=
  let d := x.1
  match (List.range 8).find? (fun n => has (slotOf d n) t) with
  | some n =>
    let y := (taskResult t 0 (setTaskState t tIDLE (setSlot n ((slotOf d n).filter (· != t)) d)), x.2)
    coreNextSlot n (ledger ⟨6, n, t, 0, 0, 0⟩ y)
  | none =>
    let c := d.rd DRV_TASK_W0_CORE 0 t
    let d1 := taskResult t 2 (d.put DRV_TASK_W0_CANCEL_PENDING 1 0 t)
    ledger ⟨6, c, t, 2, 0, 0⟩ (if drvNative d then preemptCore c d1 else d1, x.2)
where
  /-- The slot of core `n` is filled again. -/
  coreNextSlot (n : Nat) (x : DM) : DM := (slotCause n (fillSlot 4 n x.1), x.2)

/-- A write of DRV_TASK_CMD by master `m`. -/
def taskCmd (m v : Nat) (x : DM) : DM :=
  let d := x.1
  let t := taskSel d
  let s := taskState d t
  match v % 8 with
  | 0 => x
  | 1 =>
    if s = tFREE then
      (taskResult t 0 (setTaskState t tIDLE (setFlags t 0 (taskMod t (fun _ =>
        { prio := d.rd DRV_TASK_W0_PRIO 0 t, affinity := d.rd DRV_TASK_W0_AFFINITY 0 t, all := d.on DRV_TASK_W0_MODE 0 t }) d))), x.2)
    else (taskRefuse m t d, x.2)
  | 2 =>
    if s = tIDLE then
      let d1 := taskMod t (fun k => { k with mask := d.rd DRV_TASK_MASK_MASK 0 t, all := d.on DRV_TASK_W0_MODE 0 t }) d
      wake t (taskResult t 0 (setTaskState t tWAITING d1), x.2)
    else (taskRefuse m t d, x.2)
  | 3 =>
    if s = tFREE then (taskRefuse m t d, x.2)
    else if s = tRUNNING then cancelRunning t x
    else
      let r := draw (taskResult t 0 (setTaskState t tIDLE (unready t d)))
      ledger ⟨6, r.1, t, 0, 0, 0⟩ (r.2, x.2)
  | 4 =>
    let k := taskOf d t
    if s = tIDLE && k.items.isEmpty && k.service.isNone then
      (taskResult t 0 (setTaskState t tFREE (drvMod (fun u => { u with tasks := tabDel u.tasks t }) d)), x.2)
    else (taskRefuse m t d, x.2)
  | 5 =>
    if s = tFREE then (taskRefuse m t d, x.2)
    else
      let d1 := taskResult t 0 (stagedPrio t d)
      if s = tREADY then placeReady t (joinReady t false (unready t d1), x.2) else (d1, x.2)
  | _ => (taskRefuse m t d, x.2)

/-! ### Timers (R656–R659) -/

def timerMod (f : Tab Nat → Tab Nat) (d : Dev) : Dev := drvMod (fun u => { u with timers := f u.timers }) d

/-- The due instant of timer `n` in total nanoseconds, as its registers give it. -/
def dueOf (d : Dev) (n : Nat) : Nat :=
  (d.rd DRV_TMR_DUE_S_LO_S 0 n + 2 ^ 32 * d.rd DRV_TMR_DUE_S_HI_S 0 n) * 1000000000 + d.rd DRV_TMR_DUE_NS_NS 0 n

/-- The first instant due + k × period, k ≥ 0, that is after `now`. -/
def nextDue (due period now : Nat) : Nat := if now < due then due else due + ((now - due) / period + 1) * period

/-- Timer `n` fires: its flag, FIRED and the record; `next` is the instant it goes on with, if any. -/
def timerFires (n : Nat) (late : Bool) (next : Option Nat) (x : DM) : DM :=
  let t := x.1.rd DRV_TMR_CFG_TASK 0 n
  let d1 := x.1.put DRV_TMR_STATUS_FIRED 1 0 n
  let d2 := if late then count DRV_TIMER_LATE_COUNT 0 0 (d1.put DRV_TMR_STATUS_LATE 1 0 n) else d1
  let d3 := match next with
    | some v => timerMod (fun l => tabSet l n v) d2
    | none => (timerMod (fun l => tabDel l n) d2).put DRV_TMR_STATUS_ARMED 0 0 n
  ledgerTask 7 none t 0 n (setTaskFlags t (2 ^ d1.rd DRV_TMR_CFG_FLAG 0 n) (d3, x.2))

/-- The instant with which a periodic timer goes on after `now`. -/
def goesOn (d : Dev) (n due now : Nat) : Option Nat :=
  let p := d.rd DRV_TMR_PERIOD_NS 0 n
  if p = 0 then none else some (nextDue due p now)

/-- Timer `n` is armed with the registers as they stand (R657). -/
def timerArmEff (n : Nat) (x : DM) : DM :=
  let due := dueOf x.1 n
  let d1 := (timerMod (fun l => tabSet l n due) x.1).put DRV_TMR_STATUS_ARMED 1 0 n
  if due < nowTotal d1 ∧ isActive d1 pDrover then timerFires n true (goesOn d1 n due (nowTotal d1)) (d1, x.2) else (d1, x.2)

/-- Timer `n` is disarmed. -/
def timerDisarmEff (n : Nat) (d : Dev) : Dev := (timerMod (fun l => tabDel l n) d).put DRV_TMR_STATUS_ARMED 0 0 n

/-- A write of DRV_TMR_CFG: EN, TASK and FLAG. -/
def timerCfgWrite (v : Nat) (x : DM) : DM :=
  let n := x.1.rd DRV_TMR_IDX_TIMER
  let d := ((x.1.put DRV_TMR_CFG_EN (bitsOf v 31 31) 0 n).put DRV_TMR_CFG_TASK (bitsOf v 27 16) 0 n).put
    DRV_TMR_CFG_FLAG (bitsOf v 12 8) 0 n
  if v.testBit 31 then timerArmEff n (d, x.2) else (timerDisarmEff n d, x.2)

/-- The due instant of timer `n` has arrived (R656). -/
def timerDue (n : Nat) (x : DM) : DM :=
  match tabFind x.1.drv.timers n with
  | none => x
  | some due =>
    if nowTotal x.1 < due || !isActive x.1 pDrover then x
    else
      let p := x.1.rd DRV_TMR_PERIOD_NS 0 n
      timerFires n false (if p = 0 then none else some (due + p)) x

/-- A forward step of the time base from total nanoseconds `old` passed due instants: each such timer fires once with
LATE (R658), in the order of the timers. -/
def timersStep (old : Nat) (x : DM) : DM :=
  if nowTotal x.1 ≤ old || !isActive x.1 pDrover then x
  else (List.range 1024).foldl (fun y n => match tabFind y.1.drv.timers n with
    | some due => if old < due ∧ due ≤ nowTotal y.1 then timerFires n true (goesOn y.1 n due (nowTotal y.1)) y else y
    | none => y) x

/-! ### The ledger's enable (R660) -/

/-- DRV_LEDGER_CFG.EN goes to 1: a Serai ring claims its cells as R193 states; a claim that fails leaves EN at 0. -/
def ledgerEnable (d : Dev) : Dev :=
  if d.on DRV_LEDGER_CFG_EN then d
  else if d.on DRV_LEDGER_CFG_LOC then d.put DRV_LEDGER_CFG_EN 1
  else
    let n := (ledgerSize d * 32 + 255) / 256
    let cells := (List.range n).map (d.rd DRV_LEDGER_BASE_LO_BASE % 2 ^ 17 + ·)
    if cells.any (fun x => decide (cellCount ≤ x) || (tabFind d.ser.use x).isSome || has d.ser.quar x) then d
    else match admitTest d 3 n with
      | none => refuseAdmit 3 d
      | some g =>
        let d1 := settle (useCells 3 cells (chargeGrant g 3 n (beyondReserve d 3 n) d))
        (drvMod (fun u => { u with ledgerCells := cells }) d1).put DRV_LEDGER_CFG_EN 1

/-- EN goes to 0: the claimed cells return. -/
def ledgerDisable (d : Dev) : Dev :=
  drvMod (fun u => { u with ledgerCells := [] }) (freeCellsOf d.drv.ledgerCells (d.put DRV_LEDGER_CFG_EN 0))

/-! ### Cores that leave, drains and soft resets (R666, R673) -/

/-- Core `n` has left Active: its task is orphaned, and the tasks of its slot return to the heads of their levels, from
where the slots of other cores take them (R652). -/
def coreLeft (n : Nat) (x : DM) : DM :=
  let d := x.1
  let slot := slotOf d n
  let d1 := slot.reverse.foldl (fun e t => joinReady t true e) (setSlot n [] d)
  let refill := fun (e : Dev) => if slot.isEmpty then e else
    (List.range 8).foldl (fun f j => if coreServes f j then slotCause j (fillSlot 4 j f) else f) e
  if !coreBusy d1 n then (refill (slotCause n d1), x.2)
  else
    let t := coreTask d1 n
    let k := taskOf d1 t
    let d2 := (setTaskState t tIDLE (leaveCore n d1)).put DRV_TASK_W0_ORPHANED 1 0 t
    let d3 := taskMod t (fun z => { z with
      items := (match (if k.disposing.isNone then k.service else none) with
        | some i => i :: z.items
        | none => z.items)
      service := if k.disposing.isNone then none else z.service }) (d2.put DRV_TASK_W0_CANCEL_PENDING 0 0 t)
    ledgerTask 0xA (some n) t 0 0 (refill (slotCause n (raiseBit pDrover 5 (count DRV_ORPHAN_COUNT 0 0 d3))), x.2)

/-- Every item not in service is discarded. -/
def discardIdle (d : Dev) : Dev :=
  let d1 := d.drv.parked.foldl (fun e i => discardItem i e) (drvMod (fun u => { u with parked := [] }) d)
  d1.drv.tasks.foldl (fun e k => k.2.items.foldl (fun f i => discardItem i f)
    (taskMod k.1 (fun z => { z with items := [] }) e)) d1

/-- Every item in service is discarded. -/
def discardService (d : Dev) : Dev :=
  d.drv.tasks.foldl (fun e k => match k.2.service with
    | none => e
    | some i =>
      let e1 := taskMod k.1 (fun z => { z with service := none, disposing := none }) e
      match k.2.disposing with
      | some (_, n) => flowReport i.flow (e1.put DRV_DISPOSE_BUSY 0 0 n)
      | none => discardItem i e1) d

/-- A drain of DROVER begins: the posts that wait are applied, and every item not in service is discarded. -/
def droverDrain (x : DM) : DM :=
  let y := x.1.sh.posts.foldl (fun z p => applyPost p z) ({ x.1 with sh := { x.1.sh with posts := [] } }, x.2)
  (discardIdle y.1, y.2)

/-- A drain of DROVER ends: items still in service are discarded. -/
def droverDrainEnd (d : Dev) : Dev := discardService d

/-- A soft reset of DROVER: every task FREE, every timer disarmed, the item store empty. The posts that wait are gone
with it, their items discarded. -/
def droverSoftReset (d : Dev) : Dev :=
  let d1 := d.sh.posts.foldl (fun e p => match p.item with
    | some y => discardItem ⟨y, p.task, p.flag, y.flow⟩ e
    | none => e) { d with sh := { d.sh with posts := [] } }
  let d2 := ledgerDisable (discardService (discardIdle d1))
  (List.range 8).foldl (fun e n => e.put CORE_STATUS_TASK 0 n) { d2 with drv := {} }

/-! ### Meanings -/

/-- A write to a register of DROVER page `p` that may store to memory. -/
def drvWrite (p off m : Nat) (f : DM → DM) (s : State) : Host.Outcome State Fault Refusal :=
  updMem s (cmdWriteMem (pDrover + p) off m (fun d mem => f (d, mem)))

def execTaskCreate (m : Nat) (s : State) : Host.Outcome State Fault Refusal := drvWrite 1 0x044 m (taskCmd m 1) s
def execTaskStart (m : Nat) (s : State) : Host.Outcome State Fault Refusal := drvWrite 1 0x044 m (taskCmd m 2) s
def execTaskCancel (m : Nat) (s : State) : Host.Outcome State Fault Refusal := drvWrite 1 0x044 m (taskCmd m 3) s
def execTaskDelete (m : Nat) (s : State) : Host.Outcome State Fault Refusal := drvWrite 1 0x044 m (taskCmd m 4) s
def execTaskSetPrio (m : Nat) (s : State) : Host.Outcome State Fault Refusal := drvWrite 1 0x044 m (taskCmd m 5) s

/-- A write of DRV_TASK_SET. -/
def taskSetWrite (v : Nat) (x : DM) : DM := setTaskFlags (taskSel x.1) (v % 2 ^ 32) x

/-- A write of DRV_TASK_CLR. -/
def taskClrWrite (v : Nat) (d : Dev) : Dev :=
  let t := taskSel d
  if taskState d t = tFREE then d else setFlags t (andNot (taskFlags d t) (v % 2 ^ 32)) d

def execTaskFlagSet (m v : Nat) (s : State) : Host.Outcome State Fault Refusal := drvWrite 1 0x054 m (taskSetWrite v) s
def execTaskFlagClr (m v : Nat) (s : State) : Host.Outcome State Fault Refusal :=
  upd s (cmdWrite (pDrover + 1) 0x058 m (taskClrWrite v))

def execEventPost (s : State) : Host.Outcome State Fault Refusal :=
  updMem s (fun d m => if isActive d pDrover then takePost (d, m) else (d, m))

def execDrvWait (m n mask : Nat) (all : Bool) (s : State) : Host.Outcome State Fault Refusal :=
  drvWrite 2 (0x048 + 0x40 * n) m (turnWrite m n (.wait (mask % 2 ^ 32) all)) s
def execDrvYield (m n : Nat) (s : State) : Host.Outcome State Fault Refusal :=
  drvWrite 2 (0x048 + 0x40 * n) m (turnWrite m n .yield) s
def execDrvPreempted (m n : Nat) (s : State) : Host.Outcome State Fault Refusal :=
  drvWrite 2 (0x048 + 0x40 * n) m (turnWrite m n .preempted) s

/-- A read of DRV_SLOT_TAKE by core `n` (R652): the next task of its slot, once it runs none. -/
def slotTake (n : Nat) (x : DM) : DM :=
  match (if drvNative x.1 || coreBusy x.1 n || !coreServes x.1 n then [] else slotOf x.1 n) with
  | [] => (answer 0 ((x.1.put DRV_SLOT_TAKE_VALID 0 0 n).put DRV_SLOT_TAKE_TASK 0 0 n), x.2)
  | t :: rest =>
    let y := runTask t n (setSlot n rest x.1, x.2)
    let d := (y.1.put DRV_SLOT_TAKE_VALID 1 0 n).put DRV_SLOT_TAKE_TASK t 0 n
    (answer (2 ^ 31 + t) (slotCause n (fillSlot 4 n d)), y.2)

/-- A read of a window register whose read has an effect. -/
def drvRead (off m : Nat) (f : DM → DM) (s : State) : Host.Outcome State Fault Refusal :=
  updMem s (fun d mem =>
    if pageReadable d m (pDrover + 2) then f (d, mem) else (readLost (pDrover + 2) off m d, mem))

def execDrvSlotTake (m n : Nat) (s : State) : Host.Outcome State Fault Refusal :=
  drvRead (0x078 + 0x40 * n) m (windowAccess m n 0x078 0 (slotTake n)) s
def execDrvItemTake (m n : Nat) (s : State) : Host.Outcome State Fault Refusal :=
  drvRead (0x050 + 0x40 * n) m (windowAccess m n 0x050 0 (itemRead n)) s

def execDisposeReturn (m n : Nat) (s : State) : Host.Outcome State Fault Refusal :=
  drvWrite 2 (0x074 + 0x40 * n) m (disposeWrite m n 1) s
def execDisposeQueue (m n : Nat) (s : State) : Host.Outcome State Fault Refusal :=
  drvWrite 2 (0x074 + 0x40 * n) m (disposeWrite m n 2) s
def execDisposeDiscard (m n : Nat) (s : State) : Host.Outcome State Fault Refusal :=
  drvWrite 2 (0x074 + 0x40 * n) m (disposeWrite m n 3) s
def execDisposeDone (t : Nat) (s : State) : Host.Outcome State Fault Refusal :=
  updMem s (fun d m => disposeEnd t (d, m))

def execDrvTimerFire (n : Nat) (s : State) : Host.Outcome State Fault Refusal := updMem s (fun d m => timerDue n (d, m))
def execTimerArm (m v : Nat) (s : State) : Host.Outcome State Fault Refusal :=
  drvWrite 3 0x044 m (timerCfgWrite (setBit v 31)) s
def execTimerDisarm (m v : Nat) (s : State) : Host.Outcome State Fault Refusal :=
  drvWrite 3 0x044 m (timerCfgWrite (clearBit v 31)) s

end Sys2Proof.Machine
end

