-- ==== Sys2Proof/Machine/RegsBryn.lean ====
section
/-! DEFINITION. The register fields of spec/16_bryn.md: page, offset, bits, access code, reset value,
regular stride and count, one definition per field, from the register tables of that chapter. -/

namespace Sys2Proof.Machine

def BRYN_LC_REVOKED : Fld := { page := 0x90, off := 0x40, hi := 31, lo := 28, acc := .ro }
def BRYN_LC_VALID : Fld := { page := 0x90, off := 0x40, hi := 27, lo := 24, acc := .ro }
def BRYN_LC_SET_IN_USE : Fld := { page := 0x90, off := 0x40, hi := 18, lo := 16, acc := .ro, reset := fun _ _ => 7 }
def BRYN_LC_DEBUG_OPEN : Fld := { page := 0x90, off := 0x40, hi := 8, lo := 8, acc := .ro }
def BRYN_LC_STATE : Fld := { page := 0x90, off := 0x40, hi := 2, lo := 0, acc := .ro }
def BRYN_BOOT_STATUS_RECOV_FAIL : Fld := { page := 0x90, off := 0x44, hi := 23, lo := 16, acc := .ro }
def BRYN_BOOT_STATUS_BAK_FAIL : Fld := { page := 0x90, off := 0x44, hi := 15, lo := 8, acc := .ro }
def BRYN_BOOT_STATUS_PRI_FAIL : Fld := { page := 0x90, off := 0x44, hi := 7, lo := 0, acc := .ro }
def BRYN_CMD_KEY : Fld := { page := 0x90, off := 0x48, hi := 31, lo := 16, acc := .wo }
def BRYN_CMD_ARG : Fld := { page := 0x90, off := 0x48, hi := 15, lo := 8, acc := .wo }
def BRYN_CMD_CMD : Fld := { page := 0x90, off := 0x48, hi := 7, lo := 0, acc := .wo }
def BRYN_CMD_STATUS_BUSY : Fld := { page := 0x90, off := 0x4c, hi := 31, lo := 31, acc := .ro }
def BRYN_CMD_STATUS_RESULT : Fld := { page := 0x90, off := 0x4c, hi := 7, lo := 0, acc := .ro }
def BRYN_CMD_DATA_DATA : Fld := { page := 0x90, off := 0x50, hi := 31, lo := 0 }
def BRYN_BUF_LO_ADDR : Fld := { page := 0x90, off := 0x54, hi := 31, lo := 0 }
def BRYN_BUF_HI_ADDR : Fld := { page := 0x90, off := 0x58, hi := 15, lo := 0 }
def BRYN_MEAS_COUNT : Fld := { page := 0x90, off := 0x5c, hi := 4, lo := 0, acc := .ro, reset := fun _ _ => 1 }
def BRYN_RECOV_GO : Fld := { page := 0x90, off := 0x60, hi := 31, lo := 31, acc := .wo }
def BRYN_RECOV_LEN : Fld := { page := 0x90, off := 0x60, hi := 22, lo := 0, acc := .wo }
def BRYN_ARB_VALUE : Fld := { page := 0x90, off := 0x80, hi := 6, lo := 0, acc := .ro, stride := 0x4, count := 16 }
def BRYN_DEVID_ID : Fld := { page := 0x90, off := 0xc0, hi := 31, lo := 0, acc := .ro, stride := 0x4, count := 12 }
def BRYN_NONCE_NONCE : Fld := { page := 0x90, off := 0x100, hi := 31, lo := 0, acc := .ro, stride := 0x4, count := 8 }
def BRYN_OTP_IDX_WORD : Fld := { page := 0x91, off := 0x40, hi := 15, lo := 8 }
def BRYN_OTP_IDX_PAGE : Fld := { page := 0x91, off := 0x40, hi := 5, lo := 0 }
def BRYN_OTP_DATA_DATA : Fld := { page := 0x91, off := 0x44, hi := 31, lo := 0, acc := .ro }
def BRYN_OTP_CFG_CFG : Fld := { page := 0x91, off := 0x48, hi := 31, lo := 0, acc := .ro }

/-- The fields of page 0 of BRYN. -/
def fldsBryn0 : List Fld :=
  [BRYN_LC_REVOKED, BRYN_LC_VALID, BRYN_LC_SET_IN_USE, BRYN_LC_DEBUG_OPEN, BRYN_LC_STATE, BRYN_BOOT_STATUS_RECOV_FAIL, BRYN_BOOT_STATUS_BAK_FAIL, BRYN_BOOT_STATUS_PRI_FAIL, BRYN_CMD_KEY, BRYN_CMD_ARG, BRYN_CMD_CMD, BRYN_CMD_STATUS_BUSY, BRYN_CMD_STATUS_RESULT, BRYN_CMD_DATA_DATA, BRYN_BUF_LO_ADDR, BRYN_BUF_HI_ADDR, BRYN_MEAS_COUNT, BRYN_RECOV_GO, BRYN_RECOV_LEN, BRYN_ARB_VALUE, BRYN_DEVID_ID, BRYN_NONCE_NONCE]

/-- The fields of page 1 of BRYN. -/
def fldsBryn1 : List Fld :=
  [BRYN_OTP_IDX_WORD, BRYN_OTP_IDX_PAGE, BRYN_OTP_DATA_DATA, BRYN_OTP_CFG_CFG]

end Sys2Proof.Machine
end

