-- ==== Sys2Proof/Machine/Image.lean ====
section
/-! DEFINITION. Bryn's identity, and the checks of images and tokens (spec/16_bryn.md R617–R623). -/

namespace Sys2Proof.Machine

open Sys2Proof

/-! ### Lifecycle, owner sets and identity (R617–R619) -/

def lcBLANK : Nat := 0
def lcPROVISIONED : Nat := 1
def lcDEPLOYED : Nat := 2
def lcRMA : Nat := 3
def lcSCRAPPED : Nat := 4

/-- The lifecycle class of the derived keys: RMA has its own (R619). -/
def lcClass (d : Dev) : Nat := if d.bryn.lc = lcRMA then 1 else 0

/-- Owner set `i` is programmed and not revoked. -/
def setValid (d : Dev) (i : Nat) : Bool := decide (i < 4) && d.bryn.programmed.testBit i && !d.bryn.revoked.testBit i

/-- The debug port is open (R618, R635). -/
def portOpen (d : Dev) : Bool := if d.bryn.lc = lcDEPLOYED then d.bryn.opened else d.bryn.lc != lcSCRAPPED

/-- `b` as exactly `n` bytes. -/
def exactly (n : Nat) (b : Bytes) : Bytes := padTo n (b.take n)

/-- SHA-384 of a message. -/
def sha384 (b : Bytes) : Bytes :=
  let k := b.length / 128 * 128
  shaEnd 64 384 b.length (shaFeed 64 (shaInit 384) (b.take k)) (b.drop k)

/-- Both identity public keys, 1,984 bytes (R619). -/
def identityKeys (d : Dev) : Bytes := exactly 1984 (Config.identityPublic (lcClass d))

/-- BRYN_DEVID (R619). -/
def devId (d : Dev) : Bytes := sha384 (identityKeys d)

/-! ### The image header and its checks (R621–R623) -/

/-- Bytes of the header. -/
def headerBytes : Nat := 0x1800

/-- `n` bytes of `b` from byte `a`. -/
def slice (b : Bytes) (a n : Nat) : Bytes := (b.drop a).take n

/-- All of `b` is zero. -/
def allZero (b : Bytes) : Bool := b.all (· == 0)

def hdrWord (b : Bytes) (off : Nat) : Nat := ofBytes (slice b off 4)
def hdrKind (b : Bytes) : Nat := bitsOf (hdrWord b 4) 15 8
def hdrSigner (b : Bytes) : Nat := bitsOf (hdrWord b 4) 18 16
def hdrSvn (b : Bytes) : Nat := hdrWord b 8
def hdrArb (b : Bytes) : Nat := bitsOf (hdrWord b 0xC) 3 0
def hdrLen (b : Bytes) : Nat := hdrWord b 0x10
def hdrEntry (b : Bytes) : Nat := hdrWord b 0x14

/-- Kinds of R621. -/
def kBoot : Nat := 1
def kSecondary : Nat := 2
def kUnlock : Nat := 3
def kDebug : Nat := 5

def isToken (kind : Nat) : Bool := kind == kUnlock || kind == kDebug

/-- Step 2 of R623: MAGIC, VERSION and every zero field, the fields being those of the header's own KIND. -/
def headerFormed (b : Bytes) : Bool :=
  let w := hdrWord b 4
  hdrWord b 0 == 0x4E564259 && w % 256 == 1 && !w.testBit 19 && w / 2 ^ 22 == 0 && hdrWord b 0xC / 16 == 0 &&
  allZero (slice b 0x68 104) && allZero (slice b 0x15ED 531) &&
  (if isToken (hdrKind b) then allZero (slice b 0xD0 48) else allZero (slice b 0x18 80))

/-- Step 5 of R623: the SIGNER that the present state accepts (R618); an unlock token is Dravmund's (R637). -/
def signerOk (d : Dev) (b : Bytes) : Bool :=
  let s := hdrSigner b
  if hdrKind b = kUnlock then s == 7
  else if d.bryn.lc = lcBLANK ∨ d.bryn.lc = lcRMA then s == 7
  else if d.bryn.lc = lcSCRAPPED then false
  else decide (s < 4)

/-- Step 6: the key hash is that of the signer. -/
def keyHashOk (d : Dev) (b : Bytes) : Bool :=
  let h := sha384 (slice b 0x100 0x7C0)
  let s := hdrSigner b
  if s = 7 then h == exactly 48 Config.romKeyHash
  else setValid d s && h == exactly 48 (tabGet d.bryn.hashes s [])

/-- The open challenge as 32 bytes (R636). -/
def challengeBytes (d : Dev) : Option Bytes := d.bryn.nonce.map (fun l => l.flatMap (toBytes 4))

/-- Step 8: a token is bound to this device and to the open challenge. -/
def tokenBound (d : Dev) (b : Bytes) : Bool :=
  !isToken (hdrKind b) || (slice b 0x18 48 == devId d && some (slice b 0x48 32) == challengeBytes d)

/-- The FAIL code of R623 for an image or token on a path that expects KIND `kind`, 0 where it passes. `b` is what can be
read, none where the header cannot. -/
def imageFail (d : Dev) (kind : Nat) (b : Option Bytes) : Nat :=
  match b with
  | none => 1
  | some b =>
    if b.length < headerBytes then 1
    else if !headerFormed b then 2
    else if hdrKind b ≠ kind then 3
    else if !(if isToken kind then hdrLen b == 0 else decide (64 ≤ hdrLen b) && decide (hdrLen b ≤ 4194304)) then 4
    else if !signerOk d b then 5
    else if !keyHashOk d b then 6
    else if d.bryn.lc ≠ lcRMA ∧ hdrSvn b < tabGet d.bryn.arb (hdrArb b) 0 then 7
    else if !tokenBound d b then 0xB
    else if b.length < headerBytes + hdrLen b then 1
    else if !isToken kind && sha384 (slice b headerBytes (hdrLen b)) != slice b 0xD0 48 then 8
    else if !Config.ed25519Verify (slice b 0x100 32) (b.take 0x8C0) (slice b 0x8C0 64) then 9
    else if !Config.mlDsaVerify (slice b 0x120 1952) (b.take 0x8C0) (slice b 0x900 3309) then 0xA
    else 0

end Sys2Proof.Machine
end

