-- ==== Sys2Proof/Machine/RegsAir.lean ====
section
/-! DEFINITION. The register fields of spec/08_air_scheduler.md: page, offset, bits, access code, reset value,
regular stride and count, one definition per field, from the register tables of that chapter. -/

namespace Sys2Proof.Machine

def AIR_CFG_GUARD_US : Fld := { page := 0x48, off := 0x40, hi := 23, lo := 16, reset := fun _ _ => 0x10 }
def AIR_CFG_PROTECT : Fld := { page := 0x48, off := 0x40, hi := 5, lo := 4 }
def AIR_CFG_FILL_EN : Fld := { page := 0x48, off := 0x40, hi := 1, lo := 1, reset := fun _ _ => 1 }
def AIR_CFG_RELEASE_EMPTY : Fld := { page := 0x48, off := 0x40, hi := 0, lo := 0, reset := fun _ _ => 1 }
def AIR_GRID_CFG_PERIOD : Fld := { page := 0x48, off := 0x44, hi := 10, lo := 0, stat := true, reset := fun _ _ => 0x100 }
def AIR_GRID_BASE_NS_NS : Fld := { page := 0x48, off := 0x48, hi := 31, lo := 0, stat := true }
def AIR_GRID_BASE_S_LO_S : Fld := { page := 0x48, off := 0x4c, hi := 31, lo := 0, stat := true }
def AIR_GRID_BASE_S_HI_S : Fld := { page := 0x48, off := 0x50, hi := 15, lo := 0, stat := true }
def AIR_PERIOD_NOW_PERIOD : Fld := { page := 0x48, off := 0x54, hi := 31, lo := 0, acc := .ro }
def AIR_GRID_STATUS_STEP_HOLD : Fld := { page := 0x48, off := 0x58, hi := 17, lo := 17, acc := .ro }
def AIR_GRID_STATUS_RUNNING : Fld := { page := 0x48, off := 0x58, hi := 16, lo := 16, acc := .ro }
def AIR_GRID_STATUS_SLOT : Fld := { page := 0x48, off := 0x58, hi := 9, lo := 0, acc := .ro }
def AIR_BSRP_BSRP_MS : Fld := { page := 0x48, off := 0x5c, hi := 15, lo := 0, reset := fun _ _ => 0x14 }
def AIR_OCC_SERVED_COUNT : Fld := { page := 0x48, off := 0x80, hi := 31, lo := 0, acc := .w1c }
def AIR_OCC_RELEASED_COUNT : Fld := { page := 0x48, off := 0x84, hi := 31, lo := 0, acc := .w1c }
def AIR_OCC_SKIPPED_COUNT : Fld := { page := 0x48, off := 0x88, hi := 31, lo := 0, acc := .w1c }
def AIR_LATE_ACCESS_COUNT : Fld := { page := 0x48, off := 0x8c, hi := 31, lo := 0, acc := .w1c }
def AIR_STEERED_COUNT : Fld := { page := 0x48, off := 0x90, hi := 31, lo := 0, acc := .w1c }
def AIR_NSTR_SKIP_COUNT : Fld := { page := 0x48, off := 0x94, hi := 31, lo := 0, acc := .w1c }
def AIR_SLOT_SKIPPED_COUNT : Fld := { page := 0x48, off := 0x98, hi := 31, lo := 0, acc := .w1c }
def AIR_TWT_MISSED_COUNT : Fld := { page := 0x48, off := 0x9c, hi := 31, lo := 0, acc := .w1c }
def AIR_GATE_SKIP_COUNT : Fld := { page := 0x48, off := 0xa0, hi := 31, lo := 0, acc := .w1c }
def AIR_RES_IDX_ENTRY : Fld := { page := 0x49, off := 0x40, hi := 11, lo := 0 }
def AIR_RES_W_WORD : Fld := { page := 0x49, off := 0x44, hi := 31, lo := 0, stride := 0x4, count := 4, win := 4096 }
def AIR_RES_STAT_SKIPS : Fld := { page := 0x49, off := 0x54, hi := 31, lo := 16, acc := .ro, count := 4096 }
def AIR_RES_STAT_MISSED : Fld := { page := 0x49, off := 0x54, hi := 9, lo := 8, acc := .ro, count := 4096 }
def AIR_RES_STAT_HOME : Fld := { page := 0x49, off := 0x54, hi := 5, lo := 4, acc := .ro, count := 4096, reset := fun _ _ => 3 }
def AIR_RES_STAT_STATE : Fld := { page := 0x49, off := 0x54, hi := 1, lo := 0, acc := .ro, count := 4096 }
def AIR_RES_CMD_CLR_SKIPS : Fld := { page := 0x49, off := 0x58, hi := 1, lo := 1, acc := .wo }
def AIR_RES_CMD_RESUME : Fld := { page := 0x49, off := 0x58, hi := 0, lo := 0, acc := .wo }
def AIR_TBL_APPLY_APPLY : Fld := { page := 0x49, off := 0x60, hi := 0, lo := 0, acc := .wo }
def AIR_TBL_TIME_NS_NS : Fld := { page := 0x49, off := 0x64, hi := 31, lo := 0 }
def AIR_TBL_TIME_S_LO_S : Fld := { page := 0x49, off := 0x68, hi := 31, lo := 0 }
def AIR_TBL_TIME_S_HI_S : Fld := { page := 0x49, off := 0x6c, hi := 15, lo := 0 }
def AIR_TBL_STATUS_PENDING : Fld := { page := 0x49, off := 0x70, hi := 31, lo := 31, acc := .ro }
def AIR_TBL_STATUS_LATE : Fld := { page := 0x49, off := 0x70, hi := 30, lo := 30, acc := .ro }
def AIR_TBL_STATUS_REJECTED : Fld := { page := 0x49, off := 0x70, hi := 29, lo := 29, acc := .ro }
def AIR_TBL_STATUS_REASON : Fld := { page := 0x49, off := 0x70, hi := 27, lo := 24, acc := .ro }
def AIR_TBL_STATUS_ENTRY : Fld := { page := 0x49, off := 0x70, hi := 11, lo := 0, acc := .ro }
def AIR_TBL_EFFECT_PERIOD : Fld := { page := 0x49, off := 0x74, hi := 31, lo := 0, acc := .ro }
def AIR_TBL_STA_STATIONS : Fld := { page := 0x49, off := 0x78, hi := 9, lo := 0, acc := .ro }
def AIR_TBL_OCC_OCC : Fld := { page := 0x49, off := 0x7c, hi := 16, lo := 0, acc := .ro }
def AIR_GRP_IDX_GROUP : Fld := { page := 0x49, off := 0x80, hi := 7, lo := 0 }
def AIR_GRP_W_VALID_HI : Fld := { page := 0x49, off := 0x84, hi := 31, lo := 31, stride := 0x4, count := 4, win := 256 }
def AIR_GRP_W_MEMBER_HI : Fld := { page := 0x49, off := 0x84, hi := 26, lo := 16, stride := 0x4, count := 4, win := 256 }
def AIR_GRP_W_VALID_LO : Fld := { page := 0x49, off := 0x84, hi := 15, lo := 15, stride := 0x4, count := 4, win := 256 }
def AIR_GRP_W_MEMBER_LO : Fld := { page := 0x49, off := 0x84, hi := 10, lo := 0, stride := 0x4, count := 4, win := 256 }
def AIR_CVY_CFG_MOVE_MAX : Fld := { page := 0x4a, off := 0x40, hi := 31, lo := 24, reset := fun _ _ => 0x10 }
def AIR_CVY_CFG_NBR_MAX : Fld := { page := 0x4a, off := 0x40, hi := 21, lo := 16, reset := fun _ _ => 0x20 }
def AIR_CVY_CFG_NBR_RSSI : Fld := { page := 0x4a, off := 0x40, hi := 15, lo := 8, reset := fun _ _ => 0xb0 }
def AIR_CVY_CFG_AHEAD : Fld := { page := 0x4a, off := 0x40, hi := 6, lo := 4, stat := true, reset := fun _ _ => 2 }
def AIR_CVY_CFG_EN : Fld := { page := 0x4a, off := 0x40, hi := 0, lo := 0, stat := true }
def AIR_CVY_STATUS_MISMATCH : Fld := { page := 0x4a, off := 0x44, hi := 8, lo := 8, acc := .ro }
def AIR_CVY_STATUS_NBRS : Fld := { page := 0x4a, off := 0x44, hi := 5, lo := 0, acc := .ro }
def AIR_CVY_YIELD_COUNT : Fld := { page := 0x4a, off := 0x80, hi := 31, lo := 0, acc := .w1c }
def AIR_CVY_MOVED_COUNT : Fld := { page := 0x4a, off := 0x84, hi := 31, lo := 0, acc := .w1c }
def AIR_CVY_DROPPED_COUNT : Fld := { page := 0x4a, off := 0x88, hi := 31, lo := 0, acc := .w1c }
def AIR_CVY_LOST_COUNT : Fld := { page := 0x4a, off := 0x8c, hi := 31, lo := 0, acc := .w1c }
def AIR_CVY_NBR_VALID : Fld := { page := 0x4a, off := 0x100, hi := 31, lo := 31, acc := .ro, stride := 0x4, count := 32 }
def AIR_CVY_NBR_RSSI : Fld := { page := 0x4a, off := 0x100, hi := 23, lo := 16, acc := .ro, stride := 0x4, count := 32 }
def AIR_CVY_NBR_LINKS : Fld := { page := 0x4a, off := 0x100, hi := 14, lo := 12, acc := .ro, stride := 0x4, count := 32 }
def AIR_CVY_NBR_MEMBER : Fld := { page := 0x4a, off := 0x100, hi := 9, lo := 0, acc := .ro, stride := 0x4, count := 32 }
def AIR_L_RSV_SLOTS : Fld := { page := 0x4b, off := 0x40, hi := 10, lo := 0, acc := .ro, stride := 0x20, count := 3 }
def AIR_L_TRIG_COUNT : Fld := { page := 0x4b, off := 0x44, hi := 31, lo := 0, acc := .w1c, stride := 0x20, count := 3 }
def AIR_L_MU_COUNT : Fld := { page := 0x4b, off := 0x48, hi := 31, lo := 0, acc := .w1c, stride := 0x20, count := 3 }
def AIR_L_SU_COUNT : Fld := { page := 0x4b, off := 0x4c, hi := 31, lo := 0, acc := .w1c, stride := 0x20, count := 3 }

/-- The fields of page 0 of AIR. -/
def fldsAir0 : List Fld :=
  [AIR_CFG_GUARD_US, AIR_CFG_PROTECT, AIR_CFG_FILL_EN, AIR_CFG_RELEASE_EMPTY, AIR_GRID_CFG_PERIOD, AIR_GRID_BASE_NS_NS, AIR_GRID_BASE_S_LO_S, AIR_GRID_BASE_S_HI_S, AIR_PERIOD_NOW_PERIOD, AIR_GRID_STATUS_STEP_HOLD, AIR_GRID_STATUS_RUNNING, AIR_GRID_STATUS_SLOT, AIR_BSRP_BSRP_MS, AIR_OCC_SERVED_COUNT, AIR_OCC_RELEASED_COUNT, AIR_OCC_SKIPPED_COUNT, AIR_LATE_ACCESS_COUNT, AIR_STEERED_COUNT, AIR_NSTR_SKIP_COUNT, AIR_SLOT_SKIPPED_COUNT, AIR_TWT_MISSED_COUNT, AIR_GATE_SKIP_COUNT]

/-- The fields of page 1 of AIR. -/
def fldsAir1 : List Fld :=
  [AIR_RES_IDX_ENTRY, AIR_RES_W_WORD, AIR_RES_STAT_SKIPS, AIR_RES_STAT_MISSED, AIR_RES_STAT_HOME, AIR_RES_STAT_STATE, AIR_RES_CMD_CLR_SKIPS, AIR_RES_CMD_RESUME, AIR_TBL_APPLY_APPLY, AIR_TBL_TIME_NS_NS, AIR_TBL_TIME_S_LO_S, AIR_TBL_TIME_S_HI_S, AIR_TBL_STATUS_PENDING, AIR_TBL_STATUS_LATE, AIR_TBL_STATUS_REJECTED, AIR_TBL_STATUS_REASON, AIR_TBL_STATUS_ENTRY, AIR_TBL_EFFECT_PERIOD, AIR_TBL_STA_STATIONS, AIR_TBL_OCC_OCC, AIR_GRP_IDX_GROUP, AIR_GRP_W_VALID_HI, AIR_GRP_W_MEMBER_HI, AIR_GRP_W_VALID_LO, AIR_GRP_W_MEMBER_LO]

/-- The fields of page 2 of AIR. -/
def fldsAir2 : List Fld :=
  [AIR_CVY_CFG_MOVE_MAX, AIR_CVY_CFG_NBR_MAX, AIR_CVY_CFG_NBR_RSSI, AIR_CVY_CFG_AHEAD, AIR_CVY_CFG_EN, AIR_CVY_STATUS_MISMATCH, AIR_CVY_STATUS_NBRS, AIR_CVY_YIELD_COUNT, AIR_CVY_MOVED_COUNT, AIR_CVY_DROPPED_COUNT, AIR_CVY_LOST_COUNT, AIR_CVY_NBR_VALID, AIR_CVY_NBR_RSSI, AIR_CVY_NBR_LINKS, AIR_CVY_NBR_MEMBER]

/-- The fields of page 3 of AIR. -/
def fldsAir3 : List Fld :=
  [AIR_L_RSV_SLOTS, AIR_L_TRIG_COUNT, AIR_L_MU_COUNT, AIR_L_SU_COUNT]

end Sys2Proof.Machine
end

