-- ==== Sys2Proof/Machine/RegsMld.lean ====
section
/-! DEFINITION. The register fields of spec/07_multilink.md: page, offset, bits, access code, reset value,
regular stride and count, one definition per field, from the register tables of that chapter. -/

namespace Sys2Proof.Machine

def MLD_CFG_FORCE_NSTR : Fld := { page := 0x44, off := 0x40, hi := 31, lo := 31 }
def MLD_CFG_EMLSR_EN : Fld := { page := 0x44, off := 0x40, hi := 16, lo := 16, stat := true, reset := fun _ _ => 1 }
def MLD_CFG_REMOVE_TBTTS : Fld := { page := 0x44, off := 0x40, hi := 7, lo := 0, reset := fun _ _ => 0xa }
def MLD_ADDR_LO_ADDR : Fld := { page := 0x44, off := 0x44, hi := 31, lo := 0, stat := true }
def MLD_ADDR_HI_ADDR : Fld := { page := 0x44, off := 0x48, hi := 15, lo := 0, stat := true }
def MLD_PAIR_STATUS_BC_REASON : Fld := { page := 0x44, off := 0x4c, hi := 11, lo := 8, acc := .ro, reset := fun _ _ => 9 }
def MLD_PAIR_STATUS_BC : Fld := { page := 0x44, off := 0x4c, hi := 5, lo := 4, acc := .ro }
def MLD_PAIR_STATUS_AC : Fld := { page := 0x44, off := 0x4c, hi := 3, lo := 2, acc := .ro }
def MLD_PAIR_STATUS_AB : Fld := { page := 0x44, off := 0x4c, hi := 1, lo := 0, acc := .ro }
def MLD_STR_HOLD_HOLD : Fld := { page := 0x44, off := 0x50, hi := 15, lo := 0, reset := fun _ _ => 0x64 }
def MLD_MSD_TIMER_TIMER : Fld := { page := 0x44, off := 0x54, hi := 15, lo := 0, reset := fun _ _ => 0x156c }
def MLD_MSD_CFG_BLIND_US : Fld := { page := 0x44, off := 0x58, hi := 23, lo := 16, reset := fun _ _ => 0x48 }
def MLD_MSD_CFG_ED : Fld := { page := 0x44, off := 0x58, hi := 15, lo := 8, reset := fun _ _ => 0xb8 }
def MLD_MSD_CFG_MAX_TXOPS : Fld := { page := 0x44, off := 0x58, hi := 3, lo := 0, reset := fun _ _ => 1 }
def MLD_NSTR_DEFER_COUNT : Fld := { page := 0x44, off := 0x80, hi := 31, lo := 0, acc := .w1c }
def MLD_NSTR_RX_ABORT_COUNT : Fld := { page := 0x44, off := 0x84, hi := 31, lo := 0, acc := .w1c }
def MLD_MSD_START_COUNT : Fld := { page := 0x44, off := 0x88, hi := 31, lo := 0, acc := .w1c }
def MLD_EMLSR_SWITCH_COUNT : Fld := { page := 0x44, off := 0x8c, hi := 31, lo := 0, acc := .w1c }
def MLD_LINK_LOST_COUNT : Fld := { page := 0x44, off := 0x90, hi := 31, lo := 0, acc := .w1c }
def MLD_LINK_CFG_LINK_ID : Fld := { page := 0x45, off := 0x40, hi := 3, lo := 0, stat := true, stride := 0x10, count := 3, reset := fun _ i => i }
def MLD_LINK_CMD_BUSY : Fld := { page := 0x45, off := 0x44, hi := 31, lo := 31, acc := .ro, stride := 0x10, count := 3 }
def MLD_LINK_CMD_RESULT : Fld := { page := 0x45, off := 0x44, hi := 30, lo := 28, acc := .ro, stride := 0x10, count := 3 }
def MLD_LINK_CMD_CMD : Fld := { page := 0x45, off := 0x44, hi := 2, lo := 0, acc := .wo, stride := 0x10, count := 3 }
def MLD_LINK_STATUS_MSD : Fld := { page := 0x45, off := 0x48, hi := 17, lo := 17, acc := .ro, stride := 0x10, count := 3 }
def MLD_LINK_STATUS_BLIND : Fld := { page := 0x45, off := 0x48, hi := 16, lo := 16, acc := .ro, stride := 0x10, count := 3 }
def MLD_LINK_STATUS_TBTT_LEFT : Fld := { page := 0x45, off := 0x48, hi := 15, lo := 8, acc := .ro, stride := 0x10, count := 3 }
def MLD_LINK_STATUS_STATE : Fld := { page := 0x45, off := 0x48, hi := 2, lo := 0, acc := .ro, stride := 0x10, count := 3 }
def STRC_CFG_TRACK_TEMP : Fld := { page := 0x40, off := 0x40, hi := 23, lo := 16, reset := fun _ _ => 0xa }
def STRC_CFG_RESID_MARGIN : Fld := { page := 0x40, off := 0x40, hi := 15, lo := 8, reset := fun _ _ => 3 }
def STRC_CFG_DIGITAL_EN : Fld := { page := 0x40, off := 0x40, hi := 2, lo := 2, stat := true, reset := fun _ _ => 1 }
def STRC_CFG_ANALOG_EN : Fld := { page := 0x40, off := 0x40, hi := 1, lo := 1, stat := true, reset := fun _ _ => 1 }
def STRC_CFG_AUTO_RETRAIN : Fld := { page := 0x40, off := 0x40, hi := 0, lo := 0, reset := fun _ _ => 1 }
def STRC_CMD_TRAIN : Fld := { page := 0x40, off := 0x44, hi := 0, lo := 0, acc := .wo }
def STRC_STATUS_OVER_B : Fld := { page := 0x40, off := 0x48, hi := 31, lo := 24, acc := .ro }
def STRC_STATUS_OVER_C : Fld := { page := 0x40, off := 0x48, hi := 23, lo := 16, acc := .ro }
def STRC_STATUS_STEP : Fld := { page := 0x40, off := 0x48, hi := 11, lo := 8, acc := .ro }
def STRC_STATUS_DIR : Fld := { page := 0x40, off := 0x48, hi := 4, lo := 4, acc := .ro }
def STRC_STATUS_STATE : Fld := { page := 0x40, off := 0x48, hi := 2, lo := 0, acc := .ro }
def STRC_SEP_SEP : Fld := { page := 0x40, off := 0x4c, hi := 11, lo := 0, acc := .ro }
def STRC_TRAIN_TIME_TIME : Fld := { page := 0x40, off := 0x50, hi := 31, lo := 0, acc := .ro }
def STRC_RETRAIN_COUNT : Fld := { page := 0x40, off := 0x54, hi := 31, lo := 0, acc := .w1c }
def STRC_TRAIN_FAIL_COUNT : Fld := { page := 0x40, off := 0x58, hi := 31, lo := 0, acc := .w1c }
def STRC_RES_C_SUPP_D : Fld := { page := 0x41, off := 0x40, hi := 31, lo := 24, acc := .ro, stride := 0x8, count := 8 }
def STRC_RES_B_SUPP_D : Fld := { page := 0x42, off := 0x40, hi := 31, lo := 24, acc := .ro, stride := 0x8, count := 8 }
def STRC_RES_C_SUPP_A : Fld := { page := 0x41, off := 0x40, hi := 23, lo := 16, acc := .ro, stride := 0x8, count := 8 }
def STRC_RES_B_SUPP_A : Fld := { page := 0x42, off := 0x40, hi := 23, lo := 16, acc := .ro, stride := 0x8, count := 8 }
def STRC_RES_C_RESID : Fld := { page := 0x41, off := 0x40, hi := 15, lo := 0, acc := .ro, stride := 0x8, count := 8 }
def STRC_RES_B_RESID : Fld := { page := 0x42, off := 0x40, hi := 15, lo := 0, acc := .ro, stride := 0x8, count := 8 }
def STRC_LEAK_C_LEAK : Fld := { page := 0x41, off := 0x44, hi := 15, lo := 0, acc := .ro, stride := 0x8, count := 8 }
def STRC_LEAK_B_LEAK : Fld := { page := 0x42, off := 0x44, hi := 15, lo := 0, acc := .ro, stride := 0x8, count := 8 }
def STRC_CPL_B_PRESENT : Fld := { page := 0x43, off := 0x40, hi := 8, lo := 8, stat := true, stride := 0x4, count := 8, reset := fun _ _ => 1 }
def STRC_CPL_C_PRESENT : Fld := { page := 0x43, off := 0x60, hi := 8, lo := 8, stat := true, stride := 0x4, count := 8, reset := fun _ _ => 1 }
def STRC_CPL_B_COUPLING : Fld := { page := 0x43, off := 0x40, hi := 7, lo := 0, stat := true, stride := 0x4, count := 8, reset := fun _ _ => 0x14 }
def STRC_CPL_C_COUPLING : Fld := { page := 0x43, off := 0x60, hi := 7, lo := 0, stat := true, stride := 0x4, count := 8, reset := fun _ _ => 0x14 }

/-- The fields of page 0 of MLD. -/
def fldsMld0 : List Fld :=
  [MLD_CFG_FORCE_NSTR, MLD_CFG_EMLSR_EN, MLD_CFG_REMOVE_TBTTS, MLD_ADDR_LO_ADDR, MLD_ADDR_HI_ADDR, MLD_PAIR_STATUS_BC_REASON, MLD_PAIR_STATUS_BC, MLD_PAIR_STATUS_AC, MLD_PAIR_STATUS_AB, MLD_STR_HOLD_HOLD, MLD_MSD_TIMER_TIMER, MLD_MSD_CFG_BLIND_US, MLD_MSD_CFG_ED, MLD_MSD_CFG_MAX_TXOPS, MLD_NSTR_DEFER_COUNT, MLD_NSTR_RX_ABORT_COUNT, MLD_MSD_START_COUNT, MLD_EMLSR_SWITCH_COUNT, MLD_LINK_LOST_COUNT]

/-- The fields of page 1 of MLD. -/
def fldsMld1 : List Fld :=
  [MLD_LINK_CFG_LINK_ID, MLD_LINK_CMD_BUSY, MLD_LINK_CMD_RESULT, MLD_LINK_CMD_CMD, MLD_LINK_STATUS_MSD, MLD_LINK_STATUS_BLIND, MLD_LINK_STATUS_TBTT_LEFT, MLD_LINK_STATUS_STATE]

/-- The fields of page 0 of STRC. -/
def fldsStrc0 : List Fld :=
  [STRC_CFG_TRACK_TEMP, STRC_CFG_RESID_MARGIN, STRC_CFG_DIGITAL_EN, STRC_CFG_ANALOG_EN, STRC_CFG_AUTO_RETRAIN, STRC_CMD_TRAIN, STRC_STATUS_OVER_B, STRC_STATUS_OVER_C, STRC_STATUS_STEP, STRC_STATUS_DIR, STRC_STATUS_STATE, STRC_SEP_SEP, STRC_TRAIN_TIME_TIME, STRC_RETRAIN_COUNT, STRC_TRAIN_FAIL_COUNT]

/-- The fields of page 1 of STRC. -/
def fldsStrc1 : List Fld :=
  [STRC_RES_C_SUPP_D, STRC_RES_C_SUPP_A, STRC_RES_C_RESID, STRC_LEAK_C_LEAK]

/-- The fields of page 2 of STRC. -/
def fldsStrc2 : List Fld :=
  [STRC_RES_B_SUPP_D, STRC_RES_B_SUPP_A, STRC_RES_B_RESID, STRC_LEAK_B_LEAK]

/-- The fields of page 3 of STRC. -/
def fldsStrc3 : List Fld :=
  [STRC_CPL_B_PRESENT, STRC_CPL_C_PRESENT, STRC_CPL_B_COUPLING, STRC_CPL_C_COUPLING]

end Sys2Proof.Machine
end

