-- ==== Sys2Proof/Machine/RegsPackage.lean ====
section
/-! DEFINITION. The register fields of spec/21_package_electrical.md: page, offset, bits, access code, reset value,
regular stride and count, one definition per field, from the register tables of that chapter. -/

namespace Sys2Proof.Machine

def PMB_CFG_PAGE : Fld := { page := 0xe1, off := 0x40, hi := 23, lo := 16, stat := true, reset := fun _ _ => 0xff }
def PMB_CFG_PEC : Fld := { page := 0xe1, off := 0x40, hi := 12, lo := 12, stat := true }
def PMB_CFG_RATE : Fld := { page := 0xe1, off := 0x40, hi := 9, lo := 8, stat := true, reset := fun _ _ => 2 }
def PMB_CFG_ADDR : Fld := { page := 0xe1, off := 0x40, hi := 6, lo := 0, stat := true, reset := fun _ _ => 0x40 }
def PMB_STATUS_ALERT : Fld := { page := 0xe1, off := 0x44, hi := 11, lo := 11, acc := .ro }
def PMB_STATUS_BUSY : Fld := { page := 0xe1, off := 0x44, hi := 9, lo := 9, acc := .ro }
def PMB_STATUS_MODE_VALID : Fld := { page := 0xe1, off := 0x44, hi := 8, lo := 8, acc := .ro }
def PMB_STATUS_EXP : Fld := { page := 0xe1, off := 0x44, hi := 4, lo := 0, acc := .ro }
def PMB_XFER_GO : Fld := { page := 0xe1, off := 0x48, hi := 31, lo := 31, acc := .wo }
def PMB_XFER_RESULT : Fld := { page := 0xe1, off := 0x48, hi := 30, lo := 28, acc := .ro }
def PMB_XFER_SIZE : Fld := { page := 0xe1, off := 0x48, hi := 17, lo := 16, acc := .wo }
def PMB_XFER_READ : Fld := { page := 0xe1, off := 0x48, hi := 15, lo := 15, acc := .wo }
def PMB_XFER_CMD : Fld := { page := 0xe1, off := 0x48, hi := 7, lo := 0, acc := .wo }
def PMB_DATA_DATA : Fld := { page := 0xe1, off := 0x4c, hi := 15, lo := 0 }
def PMB_FAIL_COUNT : Fld := { page := 0xe1, off := 0x50, hi := 31, lo := 0, acc := .w1c }
def GPIO_OUT_OUT : Fld := { page := 0xe0, off := 0x40, hi := 31, lo := 0 }
def GPIO_OE_OE : Fld := { page := 0xe0, off := 0x44, hi := 31, lo := 0 }
def GPIO_IN_IN : Fld := { page := 0xe0, off := 0x48, hi := 31, lo := 0, acc := .ro }
def GPIO_SET_SET : Fld := { page := 0xe0, off := 0x4c, hi := 31, lo := 0, acc := .w1s }
def GPIO_CLR_CLR : Fld := { page := 0xe0, off := 0x50, hi := 31, lo := 0, acc := .wo }
def GPIO_PULL_EN_EN : Fld := { page := 0xe0, off := 0x54, hi := 31, lo := 0, reset := fun _ _ => 0xffffffff }
def GPIO_PULL_UP_UP : Fld := { page := 0xe0, off := 0x58, hi := 31, lo := 0 }
def GPIO_INT_EDGE_EDGE : Fld := { page := 0xe0, off := 0x5c, hi := 31, lo := 0 }
def GPIO_INT_POL_POL : Fld := { page := 0xe0, off := 0x60, hi := 31, lo := 0 }
def GPIO_INT_EN_EN : Fld := { page := 0xe0, off := 0x64, hi := 31, lo := 0 }
def GPIO_INT_F_F : Fld := { page := 0xe0, off := 0x68, hi := 31, lo := 0, acc := .w1c }
def SPI_CFG_SAMPLE : Fld := { page := 0xe2, off := 0x40, hi := 8, lo := 8, reset := fun _ _ => 1 }
def SPI_CFG_DIV : Fld := { page := 0xe2, off := 0x40, hi := 7, lo := 0, reset := fun _ _ => 4 }
def SPI_ADDR_ADDR : Fld := { page := 0xe2, off := 0x44, hi := 31, lo := 0 }
def SPI_CMD_GO : Fld := { page := 0xe2, off := 0x48, hi := 31, lo := 31, acc := .wo }
def SPI_CMD_WRITE : Fld := { page := 0xe2, off := 0x48, hi := 23, lo := 23, acc := .wo }
def SPI_CMD_LEN : Fld := { page := 0xe2, off := 0x48, hi := 22, lo := 16, acc := .wo }
def SPI_CMD_DUMMY : Fld := { page := 0xe2, off := 0x48, hi := 15, lo := 12, acc := .wo }
def SPI_CMD_ADDR : Fld := { page := 0xe2, off := 0x48, hi := 11, lo := 10, acc := .wo }
def SPI_CMD_LINES : Fld := { page := 0xe2, off := 0x48, hi := 9, lo := 8, acc := .wo }
def SPI_CMD_OPCODE : Fld := { page := 0xe2, off := 0x48, hi := 7, lo := 0, acc := .wo }
def SPI_STATUS_BUSY : Fld := { page := 0xe2, off := 0x4c, hi := 0, lo := 0, acc := .ro }
def SPI_BUF_DATA : Fld := { page := 0xe2, off := 0x80, hi := 31, lo := 0, stride := 0x4, count := 16 }
def UART_BAUD_DIV : Fld := { page := 0xe3, off := 0x40, hi := 19, lo := 4, reset := fun _ _ => 0x15 }
def UART_BAUD_FRAC : Fld := { page := 0xe3, off := 0x40, hi := 3, lo := 0, reset := fun _ _ => 0xb }
def UART_CFG_STOP2 : Fld := { page := 0xe3, off := 0x44, hi := 4, lo := 4 }
def UART_CFG_PARITY : Fld := { page := 0xe3, off := 0x44, hi := 3, lo := 2 }
def UART_CFG_BITS : Fld := { page := 0xe3, off := 0x44, hi := 1, lo := 0 }
def UART_TX_DATA : Fld := { page := 0xe3, off := 0x48, hi := 7, lo := 0, acc := .wo }
def UART_RX_VALID : Fld := { page := 0xe3, off := 0x4c, hi := 31, lo := 31, acc := .ro }
def UART_RX_FRAME : Fld := { page := 0xe3, off := 0x4c, hi := 10, lo := 10, acc := .ro }
def UART_RX_PARITY : Fld := { page := 0xe3, off := 0x4c, hi := 9, lo := 9, acc := .ro }
def UART_RX_BREAK : Fld := { page := 0xe3, off := 0x4c, hi := 8, lo := 8, acc := .ro }
def UART_RX_DATA : Fld := { page := 0xe3, off := 0x4c, hi := 7, lo := 0, acc := .ro }
def UART_STATUS_TX_LEVEL : Fld := { page := 0xe3, off := 0x50, hi := 22, lo := 16, acc := .ro }
def UART_STATUS_RX_LEVEL : Fld := { page := 0xe3, off := 0x50, hi := 6, lo := 0, acc := .ro }
def UART_OVR_COUNT : Fld := { page := 0xe3, off := 0x54, hi := 31, lo := 0, acc := .w1c }

/-- The fields of page 0 of PMB. -/
def fldsPmb0 : List Fld :=
  [PMB_CFG_PAGE, PMB_CFG_PEC, PMB_CFG_RATE, PMB_CFG_ADDR, PMB_STATUS_ALERT, PMB_STATUS_BUSY, PMB_STATUS_MODE_VALID, PMB_STATUS_EXP, PMB_XFER_GO, PMB_XFER_RESULT, PMB_XFER_SIZE, PMB_XFER_READ, PMB_XFER_CMD, PMB_DATA_DATA, PMB_FAIL_COUNT]

/-- The fields of page 0 of GPIO. -/
def fldsGpio0 : List Fld :=
  [GPIO_OUT_OUT, GPIO_OE_OE, GPIO_IN_IN, GPIO_SET_SET, GPIO_CLR_CLR, GPIO_PULL_EN_EN, GPIO_PULL_UP_UP, GPIO_INT_EDGE_EDGE, GPIO_INT_POL_POL, GPIO_INT_EN_EN, GPIO_INT_F_F]

/-- The fields of page 0 of SPI. -/
def fldsSpi0 : List Fld :=
  [SPI_CFG_SAMPLE, SPI_CFG_DIV, SPI_ADDR_ADDR, SPI_CMD_GO, SPI_CMD_WRITE, SPI_CMD_LEN, SPI_CMD_DUMMY, SPI_CMD_ADDR, SPI_CMD_LINES, SPI_CMD_OPCODE, SPI_STATUS_BUSY, SPI_BUF_DATA]

/-- The fields of page 0 of UART. -/
def fldsUart0 : List Fld :=
  [UART_BAUD_DIV, UART_BAUD_FRAC, UART_CFG_STOP2, UART_CFG_PARITY, UART_CFG_BITS, UART_TX_DATA, UART_RX_VALID, UART_RX_FRAME, UART_RX_PARITY, UART_RX_BREAK, UART_RX_DATA, UART_STATUS_TX_LEVEL, UART_STATUS_RX_LEVEL, UART_OVR_COUNT]

end Sys2Proof.Machine
end

