-- ==== Sys2Proof/Machine/RegsRadio.lean ====
section
/-! DEFINITION. The register fields of spec/06_radio_phy.md: page, offset, bits, access code, reset value,
regular stride and count, one definition per field, from the register tables of that chapter. -/

namespace Sys2Proof.Machine

def RADIO_CFG_CHAIN_MASK : Fld := { page := 0x30, span := 5, off := 0x40, hi := 7, lo := 0, stat := true, reset := fun n _ => if n = 0 then 15 else if n = 1 then 255 else 255 }
def RADIO_CHAN_CFG_CENTRE : Fld := { page := 0x30, span := 5, off := 0x44, hi := 31, lo := 24, reset := fun n _ => if n = 0 then 1 else if n = 1 then 36 else 5 }
def RADIO_CHAN_CFG_PRIMARY : Fld := { page := 0x30, span := 5, off := 0x44, hi := 23, lo := 16, reset := fun n _ => if n = 0 then 1 else if n = 1 then 36 else 5 }
def RADIO_CHAN_CFG_WIDTH : Fld := { page := 0x30, span := 5, off := 0x44, hi := 10, lo := 8 }
def RADIO_CHAN_PUNCT_PUNCT : Fld := { page := 0x30, span := 5, off := 0x48, hi := 15, lo := 0 }
def RADIO_CHAN_APPLY_APPLY : Fld := { page := 0x30, span := 5, off := 0x4c, hi := 0, lo := 0, acc := .wo }
def RADIO_CHAN_STATUS_BUSY : Fld := { page := 0x30, span := 5, off := 0x50, hi := 31, lo := 31, acc := .ro }
def RADIO_CHAN_STATUS_RESULT : Fld := { page := 0x30, span := 5, off := 0x50, hi := 30, lo := 28, acc := .ro }
def RADIO_CHAN_STATUS_SEG : Fld := { page := 0x30, span := 5, off := 0x50, hi := 17, lo := 16, acc := .ro }
def RADIO_CHAN_STATUS_LOCKED : Fld := { page := 0x30, span := 5, off := 0x50, hi := 8, lo := 8, acc := .ro }
def RADIO_CCA_CFG_ED_THRESH : Fld := { page := 0x30, span := 5, off := 0x54, hi := 15, lo := 8, reset := fun _ _ => 0xc2 }
def RADIO_CCA_CFG_PD_THRESH : Fld := { page := 0x30, span := 5, off := 0x54, hi := 7, lo := 0, reset := fun _ _ => 0xae }
def RADIO_CAPTURE_CFG_CAPTURE_IN_DATA : Fld := { page := 0x30, span := 5, off := 0x58, hi := 8, lo := 8, reset := fun n _ => if n = 0 then 1 else if n = 1 then 0 else 0 }
def RADIO_CAPTURE_CFG_CAPTURE_MARGIN : Fld := { page := 0x30, span := 5, off := 0x58, hi := 5, lo := 0, reset := fun _ _ => 0xa }
def RADIO_DETECT_CFG_FORMAT_EN : Fld := { page := 0x30, span := 5, off := 0x5c, hi := 5, lo := 0, reset := fun n _ => if n = 0 then 55 else if n = 1 then 62 else 50 }
def RADIO_RETUNE_FORCE_FORCE_US : Fld := { page := 0x30, span := 5, off := 0x60, hi := 15, lo := 0, reset := fun _ _ => 0x1770 }
def RADIO_NOISE_FLOOR_NF : Fld := { page := 0x30, span := 5, off := 0x64, hi := 15, lo := 0, acc := .ro }
def RADIO_RX_PPDU_COUNT : Fld := { page := 0x30, span := 5, off := 0x80, hi := 31, lo := 0, acc := .w1c }
def RADIO_HDR_FAIL_COUNT : Fld := { page := 0x30, span := 5, off := 0x84, hi := 31, lo := 0, acc := .w1c }
def RADIO_SHADOW_TAKEOVER_COUNT : Fld := { page := 0x30, span := 5, off := 0x88, hi := 31, lo := 0, acc := .w1c }
def RADIO_CAPTURE_ABORT_COUNT : Fld := { page := 0x30, span := 5, off := 0x8c, hi := 31, lo := 0, acc := .w1c }
def RADIO_CAPTURE_IGNORED_COUNT : Fld := { page := 0x30, span := 5, off := 0x90, hi := 31, lo := 0, acc := .w1c }
def RADIO_RX_LOST_COUNT : Fld := { page := 0x30, span := 5, off := 0x94, hi := 31, lo := 0, acc := .w1c }
def RADIO_RETUNE_ABORT_COUNT : Fld := { page := 0x30, span := 5, off := 0x98, hi := 31, lo := 0, acc := .w1c }
def RADIO_TX_PPDU_COUNT : Fld := { page := 0x30, span := 5, off := 0x9c, hi := 31, lo := 0, acc := .w1c }
def RADIO_CAL_CFG_TRACK_EN : Fld := { page := 0x31, span := 5, off := 0x40, hi := 16, lo := 16, reset := fun _ _ => 1 }
def RADIO_CAL_CFG_TEMP_DELTA : Fld := { page := 0x31, span := 5, off := 0x40, hi := 7, lo := 0, reset := fun _ _ => 0x14 }
def RADIO_CAL_STATUS_RUNNING : Fld := { page := 0x31, span := 5, off := 0x44, hi := 31, lo := 31, acc := .ro }
def RADIO_CAL_STATUS_STEP : Fld := { page := 0x31, span := 5, off := 0x44, hi := 19, lo := 16, acc := .ro }
def RADIO_CAL_STATUS_CHAIN : Fld := { page := 0x31, span := 5, off := 0x44, hi := 10, lo := 8, acc := .ro }
def RADIO_CAL_STATUS_SEG_DONE : Fld := { page := 0x31, span := 5, off := 0x44, hi := 2, lo := 0, acc := .ro }
def RADIO_FEM_MAP_TX : Fld := { page := 0x31, span := 5, off := 0x48, hi := 15, lo := 12, stat := true, reset := fun _ _ => 5 }
def RADIO_FEM_MAP_RX_BYP : Fld := { page := 0x31, span := 5, off := 0x48, hi := 11, lo := 8, stat := true, reset := fun _ _ => 8 }
def RADIO_FEM_MAP_RX : Fld := { page := 0x31, span := 5, off := 0x48, hi := 7, lo := 4, stat := true, reset := fun _ _ => 2 }
def RADIO_FEM_MAP_OFF : Fld := { page := 0x31, span := 5, off := 0x48, hi := 3, lo := 0, stat := true }
def RADIO_FEM_TIMING_RX_SETTLE : Fld := { page := 0x31, span := 5, off := 0x4c, hi := 23, lo := 16, stat := true, reset := fun _ _ => 0x14 }
def RADIO_FEM_TIMING_TX_LAG : Fld := { page := 0x31, span := 5, off := 0x4c, hi := 15, lo := 8, stat := true, reset := fun _ _ => 8 }
def RADIO_FEM_TIMING_TX_LEAD : Fld := { page := 0x31, span := 5, off := 0x4c, hi := 7, lo := 0, stat := true, reset := fun _ _ => 0x28 }
def RADIO_FEM_BYPASS_BYPASS_DBM : Fld := { page := 0x31, span := 5, off := 0x50, hi := 7, lo := 0, reset := fun _ _ => 0xdd }
def RADIO_STAMP_TX_LAT_LAT : Fld := { page := 0x31, span := 5, off := 0x80, hi := 15, lo := 0, acc := .ro, stride := 0x10, count := 8, reset := fun n i => Config.factory (1000 + 8 * n + i) % 65536 }
def RADIO_STAMP_RX_LAT_LAT : Fld := { page := 0x31, span := 5, off := 0x84, hi := 15, lo := 0, acc := .ro, stride := 0x10, count := 8, reset := fun n i => Config.factory (1100 + 8 * n + i) % 65536 }
def RADIO_FEM_TX_DELAY_DELAY : Fld := { page := 0x31, span := 5, off := 0x88, hi := 15, lo := 0, stride := 0x10, count := 8 }
def RADIO_FEM_RX_DELAY_DELAY : Fld := { page := 0x31, span := 5, off := 0x8c, hi := 15, lo := 0, stride := 0x10, count := 8 }
def RADIO_FIR_CTRL_APPLY : Fld := { page := 0x32, span := 5, off := 0x40, hi := 31, lo := 31, acc := .wo }
def RADIO_FIR_CTRL_PENDING : Fld := { page := 0x32, span := 5, off := 0x40, hi := 8, lo := 8, acc := .ro }
def RADIO_FIR_CTRL_BYPASS : Fld := { page := 0x32, span := 5, off := 0x40, hi := 4, lo := 4, reset := fun _ _ => 1 }
def RADIO_FIR_CTRL_ACTIVE_BANK : Fld := { page := 0x32, span := 5, off := 0x40, hi := 0, lo := 0, acc := .ro }
def RADIO_FIR_COEF_TAP_ODD : Fld := { page := 0x32, span := 5, off := 0x80, hi := 31, lo := 16, stride := 0x4, count := 32, reset := fun _ i => if i = 15 then 0x7FFF else 0 }
def RADIO_FIR_COEF_TAP_EVEN : Fld := { page := 0x32, span := 5, off := 0x80, hi := 15, lo := 0, stride := 0x4, count := 32 }
def RADIO_MASK_CTRL_APPLY : Fld := { page := 0x33, span := 5, off := 0x40, hi := 31, lo := 31, acc := .wo }
def RADIO_MASK_CTRL_REJECTED : Fld := { page := 0x33, span := 5, off := 0x40, hi := 9, lo := 9, acc := .ro }
def RADIO_MASK_CTRL_PENDING : Fld := { page := 0x33, span := 5, off := 0x40, hi := 8, lo := 8, acc := .ro }
def RADIO_MASK_CTRL_COUNT : Fld := { page := 0x33, span := 5, off := 0x40, hi := 5, lo := 0 }
def RADIO_MASK_PT_OFFSET : Fld := { page := 0x33, span := 5, off := 0x80, hi := 27, lo := 16, stride := 0x4, count := 32 }
def RADIO_MASK_PT_BACKOFF : Fld := { page := 0x33, span := 5, off := 0x80, hi := 7, lo := 0, stride := 0x4, count := 32 }
def RADIO_TXPWR_REG_CAP : Fld := { page := 0x33, span := 5, off := 0x100, hi := 31, lo := 24, reset := fun _ _ => 0x18 }
def RADIO_TXPWR_PWR_HI : Fld := { page := 0x33, span := 5, off := 0x100, hi := 23, lo := 16, reset := fun _ _ => 0xc }
def RADIO_TXPWR_PWR_MID : Fld := { page := 0x33, span := 5, off := 0x100, hi := 15, lo := 8, reset := fun _ _ => 0x10 }
def RADIO_TXPWR_PWR_LO : Fld := { page := 0x33, span := 5, off := 0x100, hi := 7, lo := 0, reset := fun _ _ => 0x18 }
def RADIO_FREQ_CFG_REF_SLEW : Fld := { page := 0x34, span := 5, off := 0x40, hi := 23, lo := 16, reset := fun _ _ => 5 }
def RADIO_FREQ_CFG_AVG_SHIFT : Fld := { page := 0x34, span := 5, off := 0x40, hi := 11, lo := 8, reset := fun _ _ => 3 }
def RADIO_FREQ_CFG_PRECORRECT : Fld := { page := 0x34, span := 5, off := 0x40, hi := 1, lo := 1, reset := fun _ _ => 1 }
def RADIO_FREQ_CFG_REF_TRACK : Fld := { page := 0x34, span := 5, off := 0x40, hi := 0, lo := 0, reset := fun _ _ => 1 }
def RADIO_FREQ_REF_CLAMP : Fld := { page := 0x34, span := 5, off := 0x44, hi := 31, lo := 31, acc := .ro }
def RADIO_FREQ_REF_HOLD : Fld := { page := 0x34, span := 5, off := 0x44, hi := 30, lo := 30, acc := .ro }
def RADIO_FREQ_REF_TRIM : Fld := { page := 0x34, span := 5, off := 0x44, hi := 15, lo := 0, acc := .ro }
def RADIO_STA_OFS_IDX_ENTRY : Fld := { page := 0x34, span := 5, off := 0x48, hi := 10, lo := 0 }
def RADIO_STA_OFS_DATA_VALID : Fld := { page := 0x34, span := 5, off := 0x4c, hi := 31, lo := 31, count := 2048 }
def RADIO_STA_OFS_DATA_COUNT : Fld := { page := 0x34, span := 5, off := 0x4c, hi := 23, lo := 16, acc := .ro, count := 2048 }
def RADIO_STA_OFS_DATA_OFFSET : Fld := { page := 0x34, span := 5, off := 0x4c, hi := 15, lo := 0, count := 2048 }
def RADIO_RADAR_CFG_THRESH : Fld := { page := 0x34, span := 5, off := 0x60, hi := 15, lo := 8, reset := fun _ _ => 0xbe }
def RADIO_RADAR_CFG_EN : Fld := { page := 0x34, span := 5, off := 0x60, hi := 0, lo := 0 }
def RADIO_RADAR_FIFO_VALID : Fld := { page := 0x34, span := 5, off := 0x64, hi := 31, lo := 31, acc := .ro }
def RADIO_RADAR_FIFO_WIDTH : Fld := { page := 0x34, span := 5, off := 0x64, hi := 27, lo := 16, acc := .ro }
def RADIO_RADAR_FIFO_POWER : Fld := { page := 0x34, span := 5, off := 0x64, hi := 15, lo := 8, acc := .ro }
def RADIO_RADAR_TIME_NS32 : Fld := { page := 0x34, span := 5, off := 0x68, hi := 31, lo := 0, acc := .ro }
def RADIO_RADAR_OVF_COUNT : Fld := { page := 0x34, span := 5, off := 0x6c, hi := 31, lo := 0, acc := .w1c }

/-- The fields of page 0 of RADIO. -/
def fldsRadio0 : List Fld :=
  [RADIO_CFG_CHAIN_MASK, RADIO_CHAN_CFG_CENTRE, RADIO_CHAN_CFG_PRIMARY, RADIO_CHAN_CFG_WIDTH, RADIO_CHAN_PUNCT_PUNCT, RADIO_CHAN_APPLY_APPLY, RADIO_CHAN_STATUS_BUSY, RADIO_CHAN_STATUS_RESULT, RADIO_CHAN_STATUS_SEG, RADIO_CHAN_STATUS_LOCKED, RADIO_CCA_CFG_ED_THRESH, RADIO_CCA_CFG_PD_THRESH, RADIO_CAPTURE_CFG_CAPTURE_IN_DATA, RADIO_CAPTURE_CFG_CAPTURE_MARGIN, RADIO_DETECT_CFG_FORMAT_EN, RADIO_RETUNE_FORCE_FORCE_US, RADIO_NOISE_FLOOR_NF, RADIO_RX_PPDU_COUNT, RADIO_HDR_FAIL_COUNT, RADIO_SHADOW_TAKEOVER_COUNT, RADIO_CAPTURE_ABORT_COUNT, RADIO_CAPTURE_IGNORED_COUNT, RADIO_RX_LOST_COUNT, RADIO_RETUNE_ABORT_COUNT, RADIO_TX_PPDU_COUNT]

/-- The fields of page 1 of RADIO. -/
def fldsRadio1 : List Fld :=
  [RADIO_CAL_CFG_TRACK_EN, RADIO_CAL_CFG_TEMP_DELTA, RADIO_CAL_STATUS_RUNNING, RADIO_CAL_STATUS_STEP, RADIO_CAL_STATUS_CHAIN, RADIO_CAL_STATUS_SEG_DONE, RADIO_FEM_MAP_TX, RADIO_FEM_MAP_RX_BYP, RADIO_FEM_MAP_RX, RADIO_FEM_MAP_OFF, RADIO_FEM_TIMING_RX_SETTLE, RADIO_FEM_TIMING_TX_LAG, RADIO_FEM_TIMING_TX_LEAD, RADIO_FEM_BYPASS_BYPASS_DBM, RADIO_STAMP_TX_LAT_LAT, RADIO_STAMP_RX_LAT_LAT, RADIO_FEM_TX_DELAY_DELAY, RADIO_FEM_RX_DELAY_DELAY]

/-- The fields of page 2 of RADIO. -/
def fldsRadio2 : List Fld :=
  [RADIO_FIR_CTRL_APPLY, RADIO_FIR_CTRL_PENDING, RADIO_FIR_CTRL_BYPASS, RADIO_FIR_CTRL_ACTIVE_BANK, RADIO_FIR_COEF_TAP_ODD, RADIO_FIR_COEF_TAP_EVEN]

/-- The fields of page 3 of RADIO. -/
def fldsRadio3 : List Fld :=
  [RADIO_MASK_CTRL_APPLY, RADIO_MASK_CTRL_REJECTED, RADIO_MASK_CTRL_PENDING, RADIO_MASK_CTRL_COUNT, RADIO_MASK_PT_OFFSET, RADIO_MASK_PT_BACKOFF, RADIO_TXPWR_REG_CAP, RADIO_TXPWR_PWR_HI, RADIO_TXPWR_PWR_MID, RADIO_TXPWR_PWR_LO]

/-- The fields of page 4 of RADIO. -/
def fldsRadio4 : List Fld :=
  [RADIO_FREQ_CFG_REF_SLEW, RADIO_FREQ_CFG_AVG_SHIFT, RADIO_FREQ_CFG_PRECORRECT, RADIO_FREQ_CFG_REF_TRACK, RADIO_FREQ_REF_CLAMP, RADIO_FREQ_REF_HOLD, RADIO_FREQ_REF_TRIM, RADIO_STA_OFS_IDX_ENTRY, RADIO_STA_OFS_DATA_VALID, RADIO_STA_OFS_DATA_COUNT, RADIO_STA_OFS_DATA_OFFSET, RADIO_RADAR_CFG_THRESH, RADIO_RADAR_CFG_EN, RADIO_RADAR_FIFO_VALID, RADIO_RADAR_FIFO_WIDTH, RADIO_RADAR_FIFO_POWER, RADIO_RADAR_TIME_NS32, RADIO_RADAR_OVF_COUNT]

end Sys2Proof.Machine
end

