-- ==== Sys2Proof/Machine/RegsSta.lean ====
section
/-! DEFINITION. The register fields of spec/09_stations.md: page, offset, bits, access code, reset value,
regular stride and count, one definition per field, from the register tables of that chapter. -/

namespace Sys2Proof.Machine

def STA_CFG_AUTO_REMOVE : Fld := { page := 0x50, off := 0x40, hi := 1, lo := 1 }
def STA_CFG_LEARN_PROBE : Fld := { page := 0x50, off := 0x40, hi := 0, lo := 0, reset := fun _ _ => 1 }
def STA_AGE_PROBE_AGE : Fld := { page := 0x50, off := 0x44, hi := 31, lo := 16, reset := fun _ _ => 0x3c }
def STA_AGE_IDLE_LIMIT : Fld := { page := 0x50, off := 0x44, hi := 15, lo := 0, reset := fun _ _ => 0x12c }
def STA_REORDER_TIMEOUT : Fld := { page := 0x50, off := 0x48, hi := 15, lo := 0, reset := fun _ _ => 0x2710 }
def STA_TX_CFG_FAIL_THRESH : Fld := { page := 0x50, off := 0x4c, hi := 31, lo := 24, reset := fun _ _ => 0x40 }
def STA_TX_CFG_LIFETIME : Fld := { page := 0x50, off := 0x4c, hi := 23, lo := 8, reset := fun _ _ => 0x64 }
def STA_TX_CFG_RETRY_LIMIT : Fld := { page := 0x50, off := 0x4c, hi := 7, lo := 0, reset := fun _ _ => 0xa }
def STA_EVT_VALID : Fld := { page := 0x50, off := 0x50, hi := 31, lo := 31, acc := .ro }
def STA_EVT_KIND : Fld := { page := 0x50, off := 0x50, hi := 27, lo := 24, acc := .ro }
def STA_EVT_STATION : Fld := { page := 0x50, off := 0x50, hi := 10, lo := 0, acc := .ro }
def STA_COUNT_ASSOC : Fld := { page := 0x50, off := 0x54, hi := 11, lo := 0, acc := .ro }
def STA_STORE_HELD : Fld := { page := 0x50, off := 0x58, hi := 15, lo := 0, acc := .ro }
def STA_UNKNOWN_LAST_LO_ADDR : Fld := { page := 0x50, off := 0x5c, hi := 31, lo := 0, acc := .ro }
def STA_UNKNOWN_LAST_HI_LINK : Fld := { page := 0x50, off := 0x60, hi := 17, lo := 16, acc := .ro }
def STA_UNKNOWN_LAST_HI_ADDR : Fld := { page := 0x50, off := 0x60, hi := 15, lo := 0, acc := .ro }
def STA_ASSOC_REFUSED_COUNT : Fld := { page := 0x50, off := 0x80, hi := 31, lo := 0, acc := .w1c }
def STA_UNKNOWN_TA_COUNT : Fld := { page := 0x50, off := 0x84, hi := 31, lo := 0, acc := .w1c }
def STA_PORT_CLOSED_COUNT : Fld := { page := 0x50, off := 0x88, hi := 31, lo := 0, acc := .w1c }
def STA_DUP_DISCARD_COUNT : Fld := { page := 0x50, off := 0x8c, hi := 31, lo := 0, acc := .w1c }
def STA_REORDER_TO_COUNT : Fld := { page := 0x50, off := 0x90, hi := 31, lo := 0, acc := .w1c }
def STA_REORDER_FULL_COUNT : Fld := { page := 0x50, off := 0x94, hi := 31, lo := 0, acc := .w1c }
def STA_TX_RETRY_DROP_COUNT : Fld := { page := 0x50, off := 0x98, hi := 31, lo := 0, acc := .w1c }
def STA_TX_LIFE_DROP_COUNT : Fld := { page := 0x50, off := 0x9c, hi := 31, lo := 0, acc := .w1c }
def STA_AGED_COUNT : Fld := { page := 0x50, off := 0xa0, hi := 31, lo := 0, acc := .w1c }
def STA_XFER_DROP_COUNT : Fld := { page := 0x50, off := 0xa4, hi := 31, lo := 0, acc := .w1c }
def STA_EVT_OVF_COUNT : Fld := { page := 0x50, off := 0xa8, hi := 31, lo := 0, acc := .w1c }
def STA_FCS_ERR_COUNT : Fld := { page := 0x50, off := 0xac, hi := 31, lo := 0, acc := .w1c, stride := 0x4, count := 3 }
def STA_IDX_ENTRY : Fld := { page := 0x51, off := 0x40, hi := 10, lo := 0 }
def STA_CMD_BUSY : Fld := { page := 0x51, off := 0x44, hi := 31, lo := 31, acc := .ro }
def STA_CMD_RESULT : Fld := { page := 0x51, off := 0x44, hi := 30, lo := 28, acc := .ro }
def STA_CMD_CMD : Fld := { page := 0x51, off := 0x44, hi := 3, lo := 0, acc := .wo }
def STA_W0_AID : Fld := { page := 0x51, off := 0x60, hi := 26, lo := 16, count := 2049 }
def STA_W0_BSS : Fld := { page := 0x51, off := 0x60, hi := 13, lo := 8, count := 2049 }
def STA_W0_LINKS : Fld := { page := 0x51, off := 0x60, hi := 7, lo := 5, count := 2049 }
def STA_W0_EMLSR : Fld := { page := 0x51, off := 0x60, hi := 4, lo := 4, count := 2049 }
def STA_W0_MLD : Fld := { page := 0x51, off := 0x60, hi := 3, lo := 3, count := 2049 }
def STA_W0_STATE : Fld := { page := 0x51, off := 0x60, hi := 2, lo := 0, acc := .ro, count := 2049 }
def STA_W1_ADDR : Fld := { page := 0x51, off := 0x64, hi := 31, lo := 0, count := 2049 }
def STA_W2_ADDR : Fld := { page := 0x51, off := 0x68, hi := 15, lo := 0, count := 2049 }
def STA_W3_TID_MAP : Fld := { page := 0x51, off := 0x6c, hi := 23, lo := 0, count := 2049, reset := fun _ _ => 0xffffff }
def STA_W4_MAX_MPDU : Fld := { page := 0x51, off := 0x70, hi := 29, lo := 16, count := 2049, reset := fun _ _ => 0xf1f }
def STA_W4_KEY_VALID : Fld := { page := 0x51, off := 0x70, hi := 13, lo := 13, count := 2049 }
def STA_W4_KEY_SLOT : Fld := { page := 0x51, off := 0x70, hi := 12, lo := 0, count := 2049 }
def STA_W5_EMLSR_TRANS : Fld := { page := 0x51, off := 0x74, hi := 31, lo := 24, count := 2049 }
def STA_W5_EMLSR_PAD : Fld := { page := 0x51, off := 0x74, hi := 23, lo := 16, count := 2049 }
def STA_W5_FORMATS : Fld := { page := 0x51, off := 0x74, hi := 10, lo := 7, count := 2049 }
def STA_W5_MAX_BW : Fld := { page := 0x51, off := 0x74, hi := 6, lo := 4, count := 2049 }
def STA_W5_NSS : Fld := { page := 0x51, off := 0x74, hi := 3, lo := 0, count := 2049, reset := fun _ _ => 1 }
def STA_W6_LISTEN : Fld := { page := 0x51, off := 0x78, hi := 31, lo := 16, count := 2049 }
def STA_W6_MAX_SP : Fld := { page := 0x51, off := 0x78, hi := 15, lo := 8, count := 2049 }
def STA_W6_TRIG_AC : Fld := { page := 0x51, off := 0x78, hi := 7, lo := 4, count := 2049 }
def STA_W6_DELIV_AC : Fld := { page := 0x51, off := 0x78, hi := 3, lo := 0, count := 2049 }
def STA_W7_IDLE_MS : Fld := { page := 0x51, off := 0x7c, hi := 31, lo := 0, acc := .ro, count := 2049 }
def STA_ATIME_NS_NS : Fld := { page := 0x51, off := 0x80, hi := 31, lo := 0, acc := .ro, count := 2049 }
def STA_ATIME_S_S : Fld := { page := 0x51, off := 0x84, hi := 31, lo := 0, acc := .ro, count := 2049 }
def L_ADDR_LO_ADDR : Fld := { page := 0x52, off := 0x40, hi := 31, lo := 0, stride := 0x10, count := 3, win := 2049 }
def L_ADDR_HI_RSSI : Fld := { page := 0x52, off := 0x44, hi := 31, lo := 24, acc := .ro, stride := 0x10, count := 3, win := 2049 }
def L_ADDR_HI_DOZE : Fld := { page := 0x52, off := 0x44, hi := 16, lo := 16, acc := .ro, stride := 0x10, count := 3, win := 2049 }
def L_ADDR_HI_ADDR : Fld := { page := 0x52, off := 0x44, hi := 15, lo := 0, stride := 0x10, count := 3, win := 2049 }
def L_RX_AGE_MS : Fld := { page := 0x52, off := 0x48, hi := 31, lo := 0, acc := .ro, stride := 0x10, count := 3, win := 2049 }
def L_FAIL_COUNT : Fld := { page := 0x52, off := 0x4c, hi := 15, lo := 0, acc := .ro, stride := 0x10, count := 3, win := 2049 }
def STA_TID_TID : Fld := { page := 0x53, off := 0x40, hi := 3, lo := 0 }
def BA_RX_EN : Fld := { page := 0x53, off := 0x44, hi := 31, lo := 31, count := 18441 }
def BA_RX_SSN : Fld := { page := 0x53, off := 0x44, hi := 27, lo := 16, count := 18441 }
def BA_RX_SIZE : Fld := { page := 0x53, off := 0x44, hi := 10, lo := 0, count := 18441, reset := fun _ _ => 0x40 }
def BA_RX_STATUS_WINSTART : Fld := { page := 0x53, off := 0x48, hi := 27, lo := 16, acc := .ro, count := 18441 }
def BA_RX_STATUS_HELD : Fld := { page := 0x53, off := 0x48, hi := 10, lo := 0, acc := .ro, count := 18441 }
def BA_TX_EN : Fld := { page := 0x53, off := 0x4c, hi := 31, lo := 31, count := 18441 }
def BA_TX_AMSDU : Fld := { page := 0x53, off := 0x4c, hi := 30, lo := 30, count := 18441 }
def BA_TX_SIZE : Fld := { page := 0x53, off := 0x4c, hi := 10, lo := 0, count := 18441, reset := fun _ _ => 0x40 }
def TX_SN_SN : Fld := { page := 0x53, off := 0x50, hi := 11, lo := 0, count := 18441 }
def RX_PN_LO_PN : Fld := { page := 0x53, off := 0x54, hi := 31, lo := 0, count := 18441 }
def RX_PN_HI_PN : Fld := { page := 0x53, off := 0x58, hi := 15, lo := 0, count := 18441 }
def STA_XFER_CFG_WRAP_SLOT : Fld := { page := 0x54, off := 0x40, hi := 12, lo := 0 }
def STA_XFER_HEAD_HEAD : Fld := { page := 0x54, off := 0x44, hi := 16, lo := 0 }
def STA_BSS_ADDR_LO_BSSID : Fld := { page := 0x55, off := 0x40, hi := 31, lo := 0, stat := true, stride := 0x10, count := 48 }
def STA_BSS_ADDR_HI_EN : Fld := { page := 0x55, off := 0x44, hi := 31, lo := 31, stride := 0x10, count := 48 }
def STA_BSS_ADDR_HI_MLD : Fld := { page := 0x55, off := 0x44, hi := 30, lo := 30, acc := .ro, stride := 0x10, count := 48 }
def STA_BSS_ADDR_HI_BSSID : Fld := { page := 0x55, off := 0x44, hi := 15, lo := 0, stat := true, stride := 0x10, count := 48 }
def STA_BSS_LIMIT_MAX_STA : Fld := { page := 0x55, off := 0x48, hi := 10, lo := 0, stride := 0x10, count := 48, reset := fun _ _ => 0x7d7 }
def STA_BSS_COUNT_STA : Fld := { page := 0x55, off := 0x4c, hi := 10, lo := 0, acc := .ro, stride := 0x10, count := 48 }

/-- The fields of page 0 of STA. -/
def fldsSta0 : List Fld :=
  [STA_CFG_AUTO_REMOVE, STA_CFG_LEARN_PROBE, STA_AGE_PROBE_AGE, STA_AGE_IDLE_LIMIT, STA_REORDER_TIMEOUT, STA_TX_CFG_FAIL_THRESH, STA_TX_CFG_LIFETIME, STA_TX_CFG_RETRY_LIMIT, STA_EVT_VALID, STA_EVT_KIND, STA_EVT_STATION, STA_COUNT_ASSOC, STA_STORE_HELD, STA_UNKNOWN_LAST_LO_ADDR, STA_UNKNOWN_LAST_HI_LINK, STA_UNKNOWN_LAST_HI_ADDR, STA_ASSOC_REFUSED_COUNT, STA_UNKNOWN_TA_COUNT, STA_PORT_CLOSED_COUNT, STA_DUP_DISCARD_COUNT, STA_REORDER_TO_COUNT, STA_REORDER_FULL_COUNT, STA_TX_RETRY_DROP_COUNT, STA_TX_LIFE_DROP_COUNT, STA_AGED_COUNT, STA_XFER_DROP_COUNT, STA_EVT_OVF_COUNT, STA_FCS_ERR_COUNT]

/-- The fields of page 1 of STA. -/
def fldsSta1 : List Fld :=
  [STA_IDX_ENTRY, STA_CMD_BUSY, STA_CMD_RESULT, STA_CMD_CMD, STA_W0_AID, STA_W0_BSS, STA_W0_LINKS, STA_W0_EMLSR, STA_W0_MLD, STA_W0_STATE, STA_W1_ADDR, STA_W2_ADDR, STA_W3_TID_MAP, STA_W4_MAX_MPDU, STA_W4_KEY_VALID, STA_W4_KEY_SLOT, STA_W5_EMLSR_TRANS, STA_W5_EMLSR_PAD, STA_W5_FORMATS, STA_W5_MAX_BW, STA_W5_NSS, STA_W6_LISTEN, STA_W6_MAX_SP, STA_W6_TRIG_AC, STA_W6_DELIV_AC, STA_W7_IDLE_MS, STA_ATIME_NS_NS, STA_ATIME_S_S]

/-- The fields of page 2 of STA. -/
def fldsSta2 : List Fld :=
  [L_ADDR_LO_ADDR, L_ADDR_HI_RSSI, L_ADDR_HI_DOZE, L_ADDR_HI_ADDR, L_RX_AGE_MS, L_FAIL_COUNT]

/-- The fields of page 3 of STA. -/
def fldsSta3 : List Fld :=
  [STA_TID_TID, BA_RX_EN, BA_RX_SSN, BA_RX_SIZE, BA_RX_STATUS_WINSTART, BA_RX_STATUS_HELD, BA_TX_EN, BA_TX_AMSDU, BA_TX_SIZE, TX_SN_SN, RX_PN_LO_PN, RX_PN_HI_PN]

/-- The fields of page 4 of STA. -/
def fldsSta4 : List Fld :=
  [STA_XFER_CFG_WRAP_SLOT, STA_XFER_HEAD_HEAD]

/-- The fields of page 5 of STA. -/
def fldsSta5 : List Fld :=
  [STA_BSS_ADDR_LO_BSSID, STA_BSS_ADDR_HI_EN, STA_BSS_ADDR_HI_MLD, STA_BSS_ADDR_HI_BSSID, STA_BSS_LIMIT_MAX_STA, STA_BSS_COUNT_STA]

end Sys2Proof.Machine
end

