-- ==== Sys2Proof/Machine/RegsTm.lean ====
section
/-! DEFINITION. The register fields of spec/12_traffic_manager.md: page, offset, bits, access code, reset value,
regular stride and count, one definition per field, from the register tables of that chapter. -/

namespace Sys2Proof.Machine

def TM_CFG_LAUNCH_MAX_MS : Fld := { page := 0x70, off := 0x40, hi := 15, lo := 0, reset := fun _ _ => 0x3e8 }
def TM_OUT_IDX_OUTPUT : Fld := { page := 0x70, off := 0x44, hi := 3, lo := 0 }
def TM_OUT_CFG_OVERHEAD : Fld := { page := 0x70, off := 0x48, hi := 29, lo := 24, count := 16, reset := fun _ i => if i < 6 then 0x18 else 0 }
def TM_OUT_CFG_LAUNCH_LEAD : Fld := { page := 0x70, off := 0x48, hi := 19, lo := 0, count := 16, reset := fun _ _ => 0x2710 }
def TM_OUT_RATE_MBPS : Fld := { page := 0x70, off := 0x4c, hi := 15, lo := 0, acc := .ro, count := 16 }
def TM_OUT_STATUS_PAUSED : Fld := { page := 0x70, off := 0x50, hi := 23, lo := 16, acc := .ro, count := 16 }
def TM_OUT_STATUS_BUSY : Fld := { page := 0x70, off := 0x50, hi := 0, lo := 0, acc := .ro, count := 16 }
def TM_DEQ_COUNT : Fld := { page := 0x70, off := 0x80, hi := 31, lo := 0, acc := .w1c, count := 16 }
def TM_LATE_SENT_COUNT : Fld := { page := 0x70, off := 0x84, hi := 31, lo := 0, acc := .w1c, count := 16 }
def TM_LATE_TOL_COUNT : Fld := { page := 0x70, off := 0x88, hi := 31, lo := 0, acc := .w1c, count := 16 }
def TM_DROP_LATE_COUNT : Fld := { page := 0x70, off := 0x8c, hi := 31, lo := 0, acc := .w1c, count := 16 }
def TM_DROP_DEADLINE_COUNT : Fld := { page := 0x70, off := 0x90, hi := 31, lo := 0, acc := .w1c, count := 16 }
def TM_DROP_FAR_COUNT : Fld := { page := 0x70, off := 0x94, hi := 31, lo := 0, acc := .w1c, count := 16 }
def TM_OVERSIZE_COUNT : Fld := { page := 0x70, off := 0x98, hi := 31, lo := 0, acc := .w1c, count := 16 }
def TM_DROP_POLICE_COUNT : Fld := { page := 0x70, off := 0x9c, hi := 31, lo := 0, acc := .w1c, count := 16 }
def TM_PREEMPT_COUNT : Fld := { page := 0x70, off := 0xa0, hi := 31, lo := 0, acc := .w1c, count := 16 }
def TM_LAUNCH_IGNORED_COUNT : Fld := { page := 0x70, off := 0xa4, hi := 31, lo := 0, acc := .w1c, count := 16 }
def TM_Q_IDX_QUEUE : Fld := { page := 0x71, off := 0x40, hi := 13, lo := 0 }
def TM_Q_PLACE_GROUP_OVR : Fld := { page := 0x71, off := 0x44, hi := 31, lo := 31, count := 16384 }
def TM_Q_PLACE_GROUP : Fld := { page := 0x71, off := 0x44, hi := 30, lo := 28, count := 16384 }
def TM_Q_PLACE_SHP_EN : Fld := { page := 0x71, off := 0x44, hi := 27, lo := 27, count := 16384 }
def TM_Q_PLACE_SHAPER : Fld := { page := 0x71, off := 0x44, hi := 11, lo := 0, count := 16384 }
def TM_Q_QUANTUM_QUANTUM : Fld := { page := 0x71, off := 0x48, hi := 16, lo := 0, count := 16384, reset := fun _ _ => 0x600 }
def TM_Q_DEFICIT_DEFICIT : Fld := { page := 0x71, off := 0x4c, hi := 18, lo := 0, acc := .ro, count := 16384 }
def TM_Q_STATUS_BLOCK : Fld := { page := 0x71, off := 0x50, hi := 2, lo := 0, acc := .ro, count := 16384, reset := fun _ _ => 6 }
def TM_GRP_IDX_OUTPUT : Fld := { page := 0x72, off := 0x40, hi := 7, lo := 4 }
def TM_GRP_IDX_GROUP : Fld := { page := 0x72, off := 0x40, hi := 2, lo := 0 }
def TM_GRP_CFG_STRICT : Fld := { page := 0x72, off := 0x44, hi := 31, lo := 31, count := 128, reset := fun _ _ => 1 }
def TM_GRP_CFG_PREEMPT : Fld := { page := 0x72, off := 0x44, hi := 30, lo := 30, count := 128 }
def TM_GRP_CFG_SHP_EN : Fld := { page := 0x72, off := 0x44, hi := 27, lo := 27, count := 128 }
def TM_GRP_CFG_SHAPER : Fld := { page := 0x72, off := 0x44, hi := 11, lo := 0, count := 128 }
def TM_GRP_QUANTUM_QUANTUM : Fld := { page := 0x72, off := 0x48, hi := 16, lo := 0, count := 128, reset := fun _ _ => 0x600 }
def TM_GRP_DEFICIT_DEFICIT : Fld := { page := 0x72, off := 0x4c, hi := 18, lo := 0, acc := .ro, count := 128 }
def TM_SHP_IDX_SHAPER : Fld := { page := 0x73, off := 0x40, hi := 11, lo := 0 }
def TM_SHP_CIR_CIR : Fld := { page := 0x73, off := 0x44, hi := 25, lo := 0, count := 4096 }
def TM_SHP_PIR_PIR : Fld := { page := 0x73, off := 0x48, hi := 25, lo := 0, count := 4096 }
def TM_SHP_CBS_CBS : Fld := { page := 0x73, off := 0x4c, hi := 23, lo := 0, count := 4096 }
def TM_SHP_PBS_PBS : Fld := { page := 0x73, off := 0x50, hi := 23, lo := 0, count := 4096 }
def TM_SHP_CFG_EN : Fld := { page := 0x73, off := 0x54, hi := 31, lo := 31, count := 4096 }
def TM_SHP_CFG_TOKEN_ON_CHANGE : Fld := { page := 0x73, off := 0x54, hi := 30, lo := 30, count := 4096 }
def TM_SHP_CFG_MODE : Fld := { page := 0x73, off := 0x54, hi := 29, lo := 28, count := 4096 }
def TM_SHP_CFG_ACTION : Fld := { page := 0x73, off := 0x54, hi := 27, lo := 27, count := 4096 }
def TM_SHP_CMD_BUSY : Fld := { page := 0x73, off := 0x58, hi := 31, lo := 31, acc := .ro, count := 4096 }
def TM_SHP_CMD_REJECTED : Fld := { page := 0x73, off := 0x58, hi := 30, lo := 30, acc := .ro, count := 4096 }
def TM_SHP_CMD_APPLY : Fld := { page := 0x73, off := 0x58, hi := 0, lo := 0, acc := .wo, count := 4096 }
def TM_SHP_C_C : Fld := { page := 0x73, off := 0x5c, hi := 24, lo := 0, acc := .ro, count := 4096 }
def TM_SHP_P_P : Fld := { page := 0x73, off := 0x60, hi := 24, lo := 0, acc := .ro, count := 4096 }
def TM_SHP_DROP_COUNT : Fld := { page := 0x73, off := 0x64, hi := 31, lo := 0, acc := .w1c, count := 4096 }
def GATE_IDX_LIST : Fld := { page := 0x7c, off := 0x40, hi := 3, lo := 0 }
def GATE_CFG_EN : Fld := { page := 0x7c, off := 0x44, hi := 31, lo := 31, count := 16 }
def GATE_CFG_INIT_STATES : Fld := { page := 0x7c, off := 0x44, hi := 23, lo := 16, count := 16, reset := fun _ _ => 0xff }
def GATE_CFG_GUARD_NS : Fld := { page := 0x7c, off := 0x44, hi := 15, lo := 0, count := 16, reset := fun _ _ => 0x40 }
def GATE_ADMIN_CYCLE_CYCLE : Fld := { page := 0x7c, off := 0x48, hi := 29, lo := 0, count := 16 }
def GATE_ADMIN_BASE_NS_NS : Fld := { page := 0x7c, off := 0x4c, hi := 29, lo := 0, count := 16 }
def GATE_ADMIN_BASE_S_LO_S : Fld := { page := 0x7c, off := 0x50, hi := 31, lo := 0, count := 16 }
def GATE_ADMIN_BASE_S_HI_S : Fld := { page := 0x7c, off := 0x54, hi := 15, lo := 0, count := 16 }
def GATE_ADMIN_COUNT_COUNT : Fld := { page := 0x7c, off := 0x58, hi := 10, lo := 0, count := 16 }
def GATE_LEAD_LEAD : Fld := { page := 0x7c, off := 0x5c, hi := 19, lo := 0, count := 16, reset := fun _ _ => 0x2710 }
def GATE_CMD_CANCEL : Fld := { page := 0x7c, off := 0x60, hi := 1, lo := 1, acc := .wo, count := 16 }
def GATE_CMD_COMMIT : Fld := { page := 0x7c, off := 0x60, hi := 0, lo := 0, acc := .wo, count := 16 }
def GATE_STATUS_PENDING : Fld := { page := 0x7c, off := 0x64, hi := 31, lo := 31, acc := .ro, count := 16 }
def GATE_STATUS_BASE_PAST : Fld := { page := 0x7c, off := 0x64, hi := 30, lo := 30, acc := .ro, count := 16 }
def GATE_STATUS_REJECTED : Fld := { page := 0x7c, off := 0x64, hi := 29, lo := 29, acc := .ro, count := 16 }
def GATE_STATUS_REASON : Fld := { page := 0x7c, off := 0x64, hi := 27, lo := 24, acc := .ro, count := 16 }
def GATE_STATUS_STATES : Fld := { page := 0x7c, off := 0x64, hi := 23, lo := 16, acc := .ro, count := 16, reset := fun _ _ => 0xff }
def GATE_STATUS_ENTRY : Fld := { page := 0x7c, off := 0x64, hi := 10, lo := 0, acc := .ro, count := 16 }
def GATE_START_NS_NS : Fld := { page := 0x7c, off := 0x68, hi := 29, lo := 0, acc := .ro, count := 16 }
def GATE_START_S_LO_S : Fld := { page := 0x7c, off := 0x6c, hi := 31, lo := 0, acc := .ro, count := 16 }
def GATE_START_S_HI_S : Fld := { page := 0x7c, off := 0x70, hi := 15, lo := 0, acc := .ro, count := 16 }
def GATE_OPER_CYCLE_CYCLE : Fld := { page := 0x7c, off := 0x74, hi := 29, lo := 0, acc := .ro, count := 16 }
def GATE_OPER_COUNT_COUNT : Fld := { page := 0x7c, off := 0x78, hi := 10, lo := 0, acc := .ro, count := 16 }
def GATE_TAKEOVERS_COUNT : Fld := { page := 0x7c, off := 0x80, hi := 31, lo := 0, acc := .w1c, count := 16 }
def GATE_BASE_PAST_N_COUNT : Fld := { page := 0x7c, off := 0x84, hi := 31, lo := 0, acc := .w1c, count := 16 }
def GATE_ENT_IDX_BANK : Fld := { page := 0x7d, off := 0x40, hi := 16, lo := 16 }
def GATE_ENT_IDX_ENTRY : Fld := { page := 0x7d, off := 0x40, hi := 9, lo := 0 }
def GATE_ENT_INTERVAL_INTERVAL : Fld := { page := 0x7d, off := 0x44, hi := 29, lo := 0, count := 32768 }
def GATE_ENT_OP_OP : Fld := { page := 0x7d, off := 0x48, hi := 10, lo := 8, count := 32768 }
def GATE_ENT_OP_STATES : Fld := { page := 0x7d, off := 0x48, hi := 7, lo := 0, count := 32768, reset := fun _ _ => 0xff }

/-- The fields of page 0 of TM. -/
def fldsTm0 : List Fld :=
  [TM_CFG_LAUNCH_MAX_MS, TM_OUT_IDX_OUTPUT, TM_OUT_CFG_OVERHEAD, TM_OUT_CFG_LAUNCH_LEAD, TM_OUT_RATE_MBPS, TM_OUT_STATUS_PAUSED, TM_OUT_STATUS_BUSY, TM_DEQ_COUNT, TM_LATE_SENT_COUNT, TM_LATE_TOL_COUNT, TM_DROP_LATE_COUNT, TM_DROP_DEADLINE_COUNT, TM_DROP_FAR_COUNT, TM_OVERSIZE_COUNT, TM_DROP_POLICE_COUNT, TM_PREEMPT_COUNT, TM_LAUNCH_IGNORED_COUNT]

/-- The fields of page 1 of TM. -/
def fldsTm1 : List Fld :=
  [TM_Q_IDX_QUEUE, TM_Q_PLACE_GROUP_OVR, TM_Q_PLACE_GROUP, TM_Q_PLACE_SHP_EN, TM_Q_PLACE_SHAPER, TM_Q_QUANTUM_QUANTUM, TM_Q_DEFICIT_DEFICIT, TM_Q_STATUS_BLOCK]

/-- The fields of page 2 of TM. -/
def fldsTm2 : List Fld :=
  [TM_GRP_IDX_OUTPUT, TM_GRP_IDX_GROUP, TM_GRP_CFG_STRICT, TM_GRP_CFG_PREEMPT, TM_GRP_CFG_SHP_EN, TM_GRP_CFG_SHAPER, TM_GRP_QUANTUM_QUANTUM, TM_GRP_DEFICIT_DEFICIT]

/-- The fields of page 3 of TM. -/
def fldsTm3 : List Fld :=
  [TM_SHP_IDX_SHAPER, TM_SHP_CIR_CIR, TM_SHP_PIR_PIR, TM_SHP_CBS_CBS, TM_SHP_PBS_PBS, TM_SHP_CFG_EN, TM_SHP_CFG_TOKEN_ON_CHANGE, TM_SHP_CFG_MODE, TM_SHP_CFG_ACTION, TM_SHP_CMD_BUSY, TM_SHP_CMD_REJECTED, TM_SHP_CMD_APPLY, TM_SHP_C_C, TM_SHP_P_P, TM_SHP_DROP_COUNT]

/-- The fields of page 0 of GATE. -/
def fldsGate0 : List Fld :=
  [GATE_IDX_LIST, GATE_CFG_EN, GATE_CFG_INIT_STATES, GATE_CFG_GUARD_NS, GATE_ADMIN_CYCLE_CYCLE, GATE_ADMIN_BASE_NS_NS, GATE_ADMIN_BASE_S_LO_S, GATE_ADMIN_BASE_S_HI_S, GATE_ADMIN_COUNT_COUNT, GATE_LEAD_LEAD, GATE_CMD_CANCEL, GATE_CMD_COMMIT, GATE_STATUS_PENDING, GATE_STATUS_BASE_PAST, GATE_STATUS_REJECTED, GATE_STATUS_REASON, GATE_STATUS_STATES, GATE_STATUS_ENTRY, GATE_START_NS_NS, GATE_START_S_LO_S, GATE_START_S_HI_S, GATE_OPER_CYCLE_CYCLE, GATE_OPER_COUNT_COUNT, GATE_TAKEOVERS_COUNT, GATE_BASE_PAST_N_COUNT]

/-- The fields of page 1 of GATE. -/
def fldsGate1 : List Fld :=
  [GATE_ENT_IDX_BANK, GATE_ENT_IDX_ENTRY, GATE_ENT_INTERVAL_INTERVAL, GATE_ENT_OP_OP, GATE_ENT_OP_STATES]

end Sys2Proof.Machine
end

