-- ==== Sys2Proof/Machine/RegTable.lean ====
section
/-! DEFINITION. The table of every register field, and which field a stored value belongs to. -/

namespace Sys2Proof.Machine

/-- The fields of every page beside its header, by the page of instance 0. -/
def pageTable : List (Nat × List Fld) :=
  [(0x0, fldsSys0Absent ++ fldsSys0), (0x1, fldsSysfeat0), (0x3, fldsIntr0), (0x4, fldsCustoms0),
   (0x5, fldsCustoms1), (0x6, fldsCustoms2), (0x7, fldsCustoms3), (0x8, fldsPace0),
   (0x10, fldsSerai0), (0x11, fldsSerai1), (0x12, fldsSerai2), (0x13, fldsSerai3),
   (0x18, fldsQmgr0), (0x20, fldsHostring0), (0x21, fldsHostring1), (0x25, fldsHostring5),
   (0x30, fldsRadio0), (0x31, fldsRadio1), (0x32, fldsRadio2), (0x33, fldsRadio3),
   (0x34, fldsRadio4), (0x40, fldsStrc0), (0x41, fldsStrc1), (0x42, fldsStrc2),
   (0x43, fldsStrc3), (0x44, fldsMld0), (0x45, fldsMld1), (0x48, fldsAir0),
   (0x49, fldsAir1), (0x4a, fldsAir2), (0x4b, fldsAir3), (0x50, fldsSta0),
   (0x51, fldsSta1), (0x52, fldsSta2), (0x53, fldsSta3), (0x54, fldsSta4),
   (0x55, fldsSta5), (0x58, fldsOutrphy0), (0x59, fldsOutrphy1), (0x5a, fldsOutrphy2),
   (0x5c, fldsOutrmac0), (0x5d, fldsOutrmac1), (0x5e, fldsOutrmac2), (0x60, fldsWay0),
   (0x61, fldsWay1), (0x62, fldsWay2), (0x63, fldsWay3), (0x64, fldsWay4),
   (0x65, fldsWay5), (0x66, fldsWay6), (0x70, fldsTm0), (0x71, fldsTm1),
   (0x72, fldsTm2), (0x73, fldsTm3), (0x7c, fldsGate0), (0x7d, fldsGate1),
   (0x80, fldsTime0), (0x81, fldsTime1), (0x82, fldsTime2), (0x83, fldsTime3),
   (0x84, fldsRtc0), (0x88, fldsCiph0), (0x89, fldsCiph1), (0x8a, fldsCiph2),
   (0x8c, fldsKey0), (0x8d, fldsKey1), (0x90, fldsBryn0), (0x91, fldsBryn1),
   (0x98, fldsDrover0), (0x99, fldsDrover1), (0x9a, fldsDrover2), (0x9b, fldsDrover3),
   (0x9c, fldsDrover4), (0xa0, fldsCore0), (0xb0, fldsDram0), (0xb1, fldsDram1),
   (0xb2, fldsDram2), (0xb3, fldsDram3), (0xc0, fldsLane0), (0xc8, fldsEth0),
   (0xce, fldsPcie0), (0xd0, fldsConvoy0), (0xd1, fldsConvoy1), (0xd2, fldsConvoy2),
   (0xd3, fldsConvoy3), (0xe0, fldsGpio0), (0xe1, fldsPmb0), (0xe2, fldsSpi0),
   (0xe3, fldsUart0), (0xf0, fldsDiag0)]

/-- The fields of the page whose instance 0 is `h`. -/
def pageFlds (h : Nat) : List Fld :=
  match pageTable.find? (fun e => e.1 == h) with
  | some e => e.2
  | none => []

/-- Every register field beside the page header. -/
def blockFlds : List Fld := pageTable.flatMap (·.2)

/-- The page of instance 0 that corresponds to page `p`; the four pages of the ring registers go by the first. -/
def homePage (p : Nat) : Nat :=
  if 0x21 ≤ p ∧ p < 0x25 then 0x21
  else if 0x30 ≤ p ∧ p < 0x3F then 0x30 + (p - 0x30) % 5
  else if 0xA0 ≤ p ∧ p < 0xA8 then 0xA0
  else if 0xB0 ≤ p ∧ p < 0xB8 then 0xB0 + (p - 0xB0) % 4
  else if 0xC0 ≤ p ∧ p < 0xC8 then 0xC0
  else if 0xC8 ≤ p ∧ p < 0xCE then 0xC8
  else p

/-- The instance of the family that page `p` belongs to. -/
def instOf (p : Nat) : Nat :=
  if 0x30 ≤ p ∧ p < 0x3F then (p - 0x30) / 5
  else if 0xA0 ≤ p ∧ p < 0xA8 then p - 0xA0
  else if 0xB0 ≤ p ∧ p < 0xB8 then (p - 0xB0) / 4
  else if 0xC0 ≤ p ∧ p < 0xC8 then p - 0xC0
  else if 0xC8 ≤ p ∧ p < 0xCE then p - 0xC8
  else 0

/-- Instances of the family whose instance 0 holds page `p`. -/
def famCount (p : Nat) : Nat :=
  if p < 0x40 then 3 else if p < 0xB0 then 8 else if p < 0xC0 then 2 else if p < 0xC8 then 8 else 6

/-- The instance of field `F` that lies on page `p`; a header field is its own page's. -/
def Fld.inst (F : Fld) (p : Nat) : Option Nat :=
  if F.span = 0 then (if p = F.page then some 0 else none)
  else if F.page = 0 then some p
  else if F.page ≤ p ∧ (p - F.page) % F.span = 0 ∧ (p - F.page) / F.span < famCount F.page then
    some ((p - F.page) / F.span)
  else none

/-- Field `F` is the one that a stored value belongs to. -/
def Fld.owns (F : Fld) (k : Key) : Bool :=
  F.off == k.reg % 4096 && F.lo == k.lo && (F.inst (k.reg / 4096)).isSome

/-- The field that a stored value belongs to. -/
def fieldOf (k : Key) : Option Fld :=
  if k.reg % 4096 < 0x40 then fldsHdr0.find? (fun F => F.owns k) else blockFlds.find? (fun F => F.owns k)

/-- A stored value that LOCK.CFG of its block holds locked (R45, R578). -/
def keyLocked (d : Dev) (k : Key) : Bool :=
  cfgLocked d (k.reg / 4096) &&
  (match fieldOf k with
    | some F => F.lockable || (F.page == 0x84 && F.off == 0x100 && decide (8 ≤ k.idx))
    | none => false)

/-- A stored value of a field with access RWS. -/
def keyRws (k : Key) : Bool :=
  match fieldOf k with
  | some F => F.acc == .rws
  | none => false

/-- The _LO registers that open a pair of R78, as page of instance 0, offset, stride and count; the _HI register follows
each. -/
def loRegs : List (Nat × Nat × Nat × Nat) :=
  [(0x4, 0x100, 0x30, 16), (0x4, 0x108, 0x30, 16), (0x4, 0x400, 0x30, 16), (0x4, 0x408, 0x30, 16), (0x5, 0x100, 0x30, 16), (0x5, 0x108, 0x30, 16),
   (0x5, 0x400, 0x30, 16), (0x5, 0x408, 0x30, 16), (0x6, 0x100, 0x30, 16), (0x6, 0x108, 0x30, 16), (0x6, 0x400, 0x30, 16), (0x6, 0x408, 0x30, 16),
   (0x12, 0x44, 0x0, 1), (0x21, 0x104, 0x40, 16), (0x21, 0x114, 0x40, 16), (0x44, 0x44, 0x0, 1), (0x48, 0x4c, 0x0, 1), (0x49, 0x68, 0x0, 1),
   (0x50, 0x5c, 0x0, 1), (0x52, 0x40, 0x10, 3), (0x53, 0x54, 0x0, 1), (0x55, 0x40, 0x10, 48), (0x5c, 0x48, 0x0, 1), (0x5c, 0x54, 0x0, 1),
   (0x5c, 0x6c, 0x0, 1), (0x5c, 0x88, 0x0, 1), (0x5d, 0x84, 0x0, 1), (0x60, 0xc0, 0x8, 16), (0x61, 0x40, 0x0, 1), (0x61, 0x4c, 0x0, 1),
   (0x61, 0x58, 0x0, 1), (0x61, 0x64, 0x0, 1), (0x61, 0x6c, 0x0, 1), (0x61, 0x88, 0x0, 1), (0x62, 0x44, 0x0, 1), (0x7c, 0x50, 0x0, 1),
   (0x7c, 0x6c, 0x0, 1), (0x80, 0x44, 0x0, 1), (0x80, 0x54, 0x0, 1), (0x81, 0x44, 0x0, 1), (0x81, 0x4c, 0x0, 1), (0x82, 0x4c, 0x20, 9),
   (0x83, 0x50, 0x0, 1), (0x83, 0x88, 0x10, 8), (0x83, 0x108, 0x20, 8), (0x89, 0x6c, 0x0, 1), (0x8a, 0x44, 0x20, 8), (0x8c, 0x48, 0x0, 1),
   (0x8c, 0x58, 0x0, 1), (0x8c, 0x60, 0x0, 1), (0x8c, 0x80, 0x0, 1), (0x90, 0x54, 0x0, 1), (0x9a, 0x48, 0x40, 8), (0x9b, 0x4c, 0x0, 1),
   (0x9c, 0x44, 0x0, 1), (0xa0, 0x40, 0x0, 1), (0xb2, 0x4c, 0x0, 1), (0xb2, 0x54, 0x0, 1), (0xb3, 0x60, 0x0, 1), (0xc0, 0x54, 0x0, 1),
   (0xc0, 0x68, 0x0, 1), (0xc0, 0x70, 0x0, 1), (0xc8, 0x44, 0x0, 1), (0xce, 0x50, 0x0, 1), (0xce, 0x800, 0x10, 64), (0xd0, 0x48, 0x0, 1),
   (0xd0, 0x50, 0x0, 1), (0xd0, 0x58, 0x0, 1), (0xd0, 0x6c, 0x0, 1), (0xd1, 0x4c, 0x0, 1), (0xd2, 0x40, 0x0, 1), (0xd2, 0x4c, 0x0, 1),
   (0xd2, 0x58, 0x0, 1), (0xf0, 0xa8, 0x0, 1)]

/-- The register at `off` of page `p` is the _LO register of a pair. -/
def isLo (p off : Nat) : Bool :=
  loRegs.any (fun e => e.1 == homePage p && decide (e.2.1 ≤ off) &&
    (if e.2.2.1 = 0 then off == e.2.1
     else (off - e.2.1) % e.2.2.1 == 0 && decide ((off - e.2.1) / e.2.2.1 < e.2.2.2)))

end Sys2Proof.Machine
end

