-- ==== Sys2Proof/Machine/Reset.lean ====
section
/-! DEFINITION. Reset requests and what a reset keeps (spec/03_bringup.md R92–R100, R822). -/

namespace Sys2Proof.Machine

open Sys2Proof

/-- Cause bits of SYS_RESET_CAUSE (R92). -/
def cPower : Nat := 0
def cBall : Nat := 1
def cSwCold : Nat := 2
def cSwWarm : Nat := 3
def cWatchdog : Nat := 4
def cThermal : Nat := 5
def cBryn : Nat := 6
def cPcie : Nat := 7
def cDebug : Nat := 8
def cFatal : Nat := 9
def cStop : Nat := 10

/-- What reset leaves of the balls and of the supplies: their levels are the board's. -/
def keptPins (r : Bringup) : Bringup :=
  { pwrGood := r.pwrGood, resetN := r.resetN, perstN := r.perstN, monitors := r.monitors, hot := r.hot,
    counting := r.counting, refPresent := r.refPresent, bootMode := r.bootMode, epStrap := r.epStrap,
    epWidth := r.epWidth, otpFaults := r.otpFaults, brynHeld := false, asserted := true }

/-- The levels at the other balls, which a reset leaves. -/
def keptEdge (e : EdgeUnit) : EdgeUnit := { gpio := e.gpio, alert := e.alert }

/-- What the OTP holds where a reset cuts a programming command short: a counter stands somewhere between its old value and
the one asked for (R630), an UNLOCK has made the part RMA with its erasure to complete, or not (R637), and of any other
command an open part is programmed; `v` is open. -/
def cutJob (v : Nat) (d : Dev) (j : BrynJob) : BrynUnit :=
  let b := d.bryn
  let first := v.testBit 0
  let old := tabGet b.arb j.arg 0
  match j.cmd with
  | 4 => { b with arb := tabSet b.arb j.arg (old + v % (j.data - old + 1)) }
  | 5 => { b with
      hashes := tabMod b.hashes j.arg [] (fun h => toBytes 48 (ofBytes h ||| (ofBytes j.input &&& (v / 4))))
      programmed := if first then setBit b.programmed j.arg else b.programmed
      lc := if v.testBit 1 && b.lc == lcBLANK then lcPROVISIONED else b.lc }
  | 6 => if first then { b with revoked := setBit b.revoked j.arg } else b
  | 7 => if first then { b with lc := lcDEPLOYED } else b
  | 8 =>
    if j.arg = Config.bootCfgArg then { b with bootCfg := tabMod b.bootCfg j.word 0 (· ||| (j.data &&& v)) }
    else { b with owner := tabMod b.owner (64 * j.arg + j.word) 0 (· ||| (j.data &&& v)) }
  | 0xA => if first && imageFail d kUnlock (some j.input) == 0 then { b with lc := lcRMA, wiping := true } else b
  | 0xC => if first then { b with lc := lcSCRAPPED } else b
  | _ => b

/-- What a reset leaves of Bryn: the OTP. -/
def keptBryn (v : Nat) (d : Dev) : BrynUnit :=
  { (match d.bryn.job with
      | some j => cutJob v d j
      | none => d.bryn) with meas := [], nonce := none, opened := false, job := none }

/-- The RTC over a reset: only what lies in the fabric goes (R555). -/
def keptRtc (r : RtcUnit) : RtcUnit := { r with snap := none, hold := none, spoilt := false }

/-- A cold reset takes effect at once with the causes given (R95, R98): all but the backup domain, OTP and the balls
returns to reset, and memory is lost. -/
def coldReset (causes : Nat) (d : Dev) : Dev :=
  let v := draw d
  { variant := d.variant
    regs := d.regs.filter (fun x => x.1.reg / 4096 == pRtc && decide (0x40 ≤ x.1.reg % 4096))
    rst := { keptPins d.rst with causes := causes }
    rtc := keptRtc d.rtc
    bryn := keptBryn v.1 d
    edge := keptEdge d.edge
    out := d.out
    drawn := v.2.drawn }

/-- Registers that DIAG keeps over a warm reset: FATAL, the log, DIAG_LOG_OVF and the three counters (R812). -/
def diagKept (k : Key) : Bool :=
  k.reg / 4096 == pDiag &&
  (let off := k.reg % 4096
   (off == 0x080 && (k.lo == 31 || k.lo == 16)) || (decide (0x094 ≤ off) && decide (off ≤ 0x0B8) && off != 0x0A0))

/-- A stored register value that a warm reset keeps (R98, R61, R64, R555). -/
def warmKeeps (d : Dev) (k : Key) : Bool :=
  let p := k.reg / 4096
  let off := k.reg % 4096
  (p == pRtc && decide (0x40 ≤ off)) || (p == 1 && decide (0x40 ≤ off)) || off == 0x008 || off == 0x030 ||
  (decide (4 ≤ p) && decide (p ≤ 6) && decide (0x100 ≤ off)) || k.reg == 0x050 || diagKept k || keyRws k || keyLocked d k

/-- The contents of channel `c` outlive a warm reset (R97). -/
def dramSurvives (d : Dev) (c : Nat) : Bool := dramPresent d c && dramReady d c

/-- What a DRAM channel keeps: the contents and the map of its initialisation (R98, R684). -/
def keptChan (k : DramChan) : DramChan := { initPtr := k.initPtr }

/-- An address whose contents a warm reset loses. -/
def warmLoses (d : Dev) (a : Nat) : Bool :=
  if a < seraiBase then !dramSurvives d (channelOf d a) else true

/-- A warm reset asserts the internal reset (R96–R98). The servo restarts in holdover. -/
def warmReset (d : Dev) : Dev :=
  let v := draw d
  let e : Dev := {
    variant := d.variant
    regs := d.regs.filter (fun x => warmKeeps d x.1)
    rst := { keptPins d.rst with causes := d.rst.causes, warmPrep := true }
    tb := { d.tb with slew := none }
    rtc := keptRtc d.rtc
    bryn := keptBryn v.1 d
    radios := d.radios.map (fun x => (x.1, { calTemp := x.2.calTemp }))
    dram := {
      chans := (d.dram.chans.filter (fun x => dramSurvives d x.1)).map (fun x => (x.1, keptChan x.2))
      poison := d.dram.poison.filter (fun l => !warmLoses d (64 * l)) }
    edge := keptEdge d.edge
    out := d.out
    drawn := v.2.drawn }
  (e.put TIME_STATUS_STATE 3).put RTC_STATUS_NET_VALID 0

/-- SYS_RESET_CAUSE and SYS_STATUS.LAST_WARM as a reset sets them (R92, R98). -/
def putCause (causes : Nat) (warm : Bool) (d : Dev) : Dev :=
  (d.put SYS_RESET_CAUSE_CAUSE (d.rd SYS_RESET_CAUSE_CAUSE ||| causes)).put SYS_STATUS_LAST_WARM (b2n warm)

/-- A cold reset is requested with cause bits `bits`; with a warm request pending the wider scope is performed and the
causes of both are set (R93); causes stay pending until the release. Nothing of memory is kept. -/
def requestCold (bits : Nat) (s : DM) : DM :=
  let c := s.1.rst.causes ||| bits
  (putCause c false (coldReset c s.1), [])

/-- A warm reset is requested: every input closes at once (R96). A shut-down is abandoned with it (R94). -/
def requestWarm (bits : Nat) (s : DM) : DM :=
  if s.1.rst.asserted then (putCause bits true s.1, s.2)
  else ({ s.1 with rst := { s.1.rst with warmPending := true, causes := s.1.rst.causes ||| bits } }, s.2)

/-- The internal reset asserts for a warm reset that has been requested. -/
def warmAssert (s : DM) : DM :=
  if s.1.rst.warmPending then
    (putCause s.1.rst.causes true (warmReset s.1), memErase s.2 (fun a => warmLoses s.1 a))
  else s

/-- A request of the scope that an ACTION field codes: 1 warm, 2 or 3 cold. -/
def requestAction (action bits : Nat) (s : DM) : DM :=
  match action with
  | 0 => s
  | 1 => requestWarm bits s
  | _ => requestCold bits s

end Sys2Proof.Machine
end

