-- ==== Sys2Proof/Machine/Diag.lean ====
section
/-! DEFINITION. Snapshots, the fatal grace and the fault log (spec/22_faults_diagnostics.md R808–R815), and the release of
what a block accumulates while it holds (spec/02_register_model.md R71). -/

namespace Sys2Proof.Machine

open Sys2Proof

/-- Adds the events that a counter has accumulated. -/
def thawCount (e : Key × Nat) (d : Dev) : Dev :=
  match fieldOf e.1 with
  | some F =>
    (match F.inst (e.1.reg / 4096) with
      | some n => satPut F n e.1.idx e.2 d
      | none => d)
  | none => d

/-- The block that holds a stored counter. -/
def countPage (e : Key × Nat) : Nat := firstPage (e.1.reg / 4096)

/-- Counts and errors accumulated by blocks that no longer hold are added (R71). -/
def thaw (d : Dev) : Dev :=
  let counts := d.sh.frozenCounts.filter (fun e => !holding d (countPage e))
  let errs := d.sh.frozenErrs.filter (fun e => !holding d e.page)
  let d1 : Dev := { d with sh := { d.sh with
    frozenCounts := d.sh.frozenCounts.filter (fun e => holding d (countPage e))
    frozenErrs := d.sh.frozenErrs.filter (fun e => holding d e.page) } }
  errs.foldl (fun x e => captureNow e x) (counts.foldl (fun x e => thawCount e x) d1)

/-- The snapshot ends, and what has accumulated is added (R815). -/
def snapEnd (d : Dev) : Dev := if d.on DIAG_STATUS_SNAP then thaw (d.put DIAG_STATUS_SNAP 0) else d

/-- The grace of a fatal report ends with the action taken when it started (R810, R812). -/
def graceEnd (s : DM) : DM :=
  if s.1.on DIAG_STATUS_GRACE then
    requestAction s.1.sh.graceAction (2 ^ cFatal) (s.1.put DIAG_STATUS_GRACE 0, s.2)
  else s

/-- Clears one entry of the log. -/
def logEntryClear (k : Nat) (d : Dev) : Dev :=
  [DIAG_LOG_W0_VALID, DIAG_LOG_W0_PAGE, DIAG_LOG_W0_SEVERITY, DIAG_LOG_W0_KIND, DIAG_LOG_W0_MASTER, DIAG_LOG_W0_CODE,
    DIAG_LOG_ADDR_LO_ADDR, DIAG_LOG_ADDR_HI_ADDR, DIAG_LOG_NS_NS, DIAG_LOG_S_S].foldl (fun e F => e.put F 0 0 k) d

/-- A write of DIAG_LOG_CLR (R812). -/
def logClear (v : Nat) (d : Dev) : Dev :=
  if v.testBit 0 then
    [DIAG_STATUS_FATAL, DIAG_STATUS_LOG_COUNT, DIAG_LOG_OVF_COUNT, DIAG_CNT_CE_COUNT, DIAG_CNT_CONT_COUNT,
      DIAG_CNT_FATAL_COUNT].foldl (fun e F => e.put F 0) ((List.range 16).foldl (fun e k => logEntryClear k e) d)
  else d

/-- Word `k` of the summary (R813). -/
def diagSum (d : Dev) (k : Nat) : Nat :=
  ((List.range 32).map (fun b =>
    let p := 32 * k + b
    if present d p && firstPage p == p && d.on HDR_ERR_CODE_VALID p then 2 ^ b else 0)).sum

def execFatalGraceEnd (s : State) : Host.Outcome State Fault Refusal := updMem s (fun d m => graceEnd (d, m))
def execDiagSnapTrigger (m : Nat) (s : State) : Host.Outcome State Fault Refusal := upd s (cmdWrite pDiag 0x088 m snapStart)
def execDiagSnapRelease (m : Nat) (s : State) : Host.Outcome State Fault Refusal := upd s (cmdWrite pDiag 0x088 m snapEnd)
def execSnapHoldExpire (s : State) : Host.Outcome State Fault Refusal := upd s snapEnd
def execDiagLogClr (m v : Nat) (s : State) : Host.Outcome State Fault Refusal := upd s (cmdWrite pDiag 0x0BC m (logClear v))

end Sys2Proof.Machine
end

