-- ==== Sys2Proof/Machine/Lanes.lean ====
section
/-! DEFINITION. The lanes: assignment, bring-up, the capability exchange, loopbacks and PRBS (spec/19_lanes.md
R704–R720, R729, R730). Lane 8 is the reduced link of ETH0, which no LANE page shows. -/

namespace Sys2Proof.Machine

open Sys2Proof

/-- First pages of LANE `n` and ETH `p`, and the PCIE page. -/
def pLane (n : Nat) : Nat := 0xC0 + n
def pEth (p : Nat) : Nat := 0xC8 + p
def pPcie : Nat := 0xCE

/-- What lane `n` holds beyond its registers. -/
def laneOf (d : Dev) (n : Nat) : Lane := tabGet d.lanes n {}
def laneMod (n : Nat) (f : Lane → Lane) (d : Dev) : Dev := { d with lanes := tabMod d.lanes n {} f }

/-- Sets a field of a LANE page; the reduced link has none (R730). -/
def lanePut (F : Fld) (v n : Nat) (d : Dev) : Dev := if n < 8 then d.put F v n else d

/-- Counts an event of a LANE page. -/
def laneCount (F : Fld) (n : Nat) (d : Dev) : Dev := if n < 8 then count F n 0 d else d

/-- Raises a cause of a LANE page. -/
def laneRaise (b n : Nat) (d : Dev) : Dev := if n < 8 then raiseBit (pLane n) b d else d

/-- The bring-up state of lane `n` (R709). -/
def laneState (d : Dev) (n : Nat) : Nat := if n < 8 then d.rd LANE_STATUS_STATE n else (laneOf d n).rstate

/-- The protocol that lane `n` runs (R717). -/
def laneProto (d : Dev) (n : Nat) : Nat := if n < 8 then d.rd LANE_STATUS_RUN_PROTO n else (laneOf d n).rproto

/-- LINK of lane `n` (R710). -/
def laneLink (d : Dev) (n : Nat) : Bool := if n < 8 then d.on LANE_STATUS_LINK n else (laneOf d n).rlink

def setLaneState (n v : Nat) (d : Dev) : Dev :=
  if n < 8 then d.put LANE_STATUS_STATE v n else laneMod n (fun l => { l with rstate := v }) d
def setLaneProto (n v : Nat) (d : Dev) : Dev :=
  if n < 8 then d.put LANE_STATUS_RUN_PROTO v n else laneMod n (fun l => { l with rproto := v }) d
def setLaneLink (n : Nat) (v : Bool) (d : Dev) : Dev :=
  if n < 8 then d.put LANE_STATUS_LINK (if v then 1 else 0) n else laneMod n (fun l => { l with rlink := v }) d

/-! ### Assignment (R704–R707) -/

/-- The MAC that lane `n` serves. -/
def laneMac (d : Dev) (n : Nat) : Option Nat :=
  if n < 4 then (if n = 0 ∧ d.rst.reducedEth0 then none else some n)
  else if n = 4 then (if d.on LANE_CFG_MUX 6 then none else some 4)
  else if n = 5 then (if d.on LANE_CFG_MUX 7 then none else some 5)
  else if n = 6 then (if d.on LANE_CFG_MUX 6 then some 4 else none)
  else if n = 7 then (if d.on LANE_CFG_MUX 7 then some 5 else none)
  else if n = 8 ∧ d.rst.reducedEth0 then some 0 else none

/-- The lane of MAC `p`. -/
def macLane (d : Dev) (p : Nat) : Nat :=
  if p = 0 ∧ d.rst.reducedEth0 then 8
  else if p < 4 then p
  else if d.on LANE_CFG_MUX (p + 2) then p + 2 else p

/-- The protocol is one of Ethernet. -/
def protoEth (v : Nat) : Bool := decide (1 ≤ v) && decide (v ≤ 6)

/-- Lanes of the configured PCIe width. -/
def pcieLanes (d : Dev) : Nat := match d.rd PCIE_CFG_WIDTH with
  | 0 => 1
  | 1 => 2
  | _ => 4

/-- The PROTO of lane `n` suits its owner (R704). -/
def laneValid (d : Dev) (n : Nat) : Bool :=
  let v := d.rd LANE_CFG_PROTO n
  (protoEth v && (laneMac d n).isSome) || (v == 7 && decide (4 ≤ n) && decide (n < 4 + pcieLanes d))

/-- The page that owns lane `n`: PCIE where its PROTO is PCIe or no MAC can use it. -/
def laneOwner (d : Dev) (n : Nat) : Nat :=
  if d.rd LANE_CFG_PROTO n = 7 then pPcie
  else match laneMac d n with
    | some p => pEth p
    | none => if n < 4 then pEth n else pPcie

/-- The rate in Mb/s of a SPEED code of ETH_STATUS. -/
def speedMbps (v : Nat) : Nat := [0, 10, 100, 1000, 2500, 5000, 10000, 25000].getD v 0

/-- The SPEED code of a protocol of one rate; 0 where auto-negotiation gives it (R707). -/
def protoSpeed (v : Nat) : Nat := [0, 0, 3, 4, 0, 6, 7, 0].getD v 0

/-- The protocol has standard auto-negotiation in state 4. -/
def protoAutoneg (v : Nat) : Bool := v == 1 || v == 2 || v == 4

/-- The MAC rates of a protocol include the SPEED code `s` (R707). -/
def protoRate (v s : Nat) : Bool := match v with
  | 1 => decide (1 ≤ s) && decide (s ≤ 3)
  | 2 => s == 3
  | 4 => decide (1 ≤ s) && decide (s ≤ 6)
  | _ => s == protoSpeed v

/-- The lane takes part in the capability exchange at its rate (R713). -/
def capxRate (d : Dev) (n : Nat) : Bool :=
  let v := laneProto d n
  let s := (laneOf d n).speed
  decide (n < 8) && d.on LANE_CFG_CAPX_EN n &&
    (v == 2 || v == 3 || v == 5 || v == 6 || (v == 1 && s == 3) || (v == 4 && s == 6))

/-- A PRBS generator or checker is enabled on the lane (R719). -/
def prbsOn (d : Dev) (n : Nat) : Bool := decide (n < 8) && (d.on LANE_PRBS_EN_GEN n || d.on LANE_PRBS_EN_CHK n)

/-- LANE_LPBK.MODE of lane `n`. -/
def lpbkMode (d : Dev) (n : Nat) : Nat := if n < 8 then d.rd LANE_LPBK_MODE n else 0
def lpbkNear (d : Dev) (n : Nat) : Bool := lpbkMode d n == 1 || lpbkMode d n == 2

/-! ### Links (R710–R712, R724, R728) -/

/-- Changes what MAC `p` holds beyond its registers. -/
def ethMod (p : Nat) (f : EthPort → EthPort) (d : Dev) : Dev := { d with eth := tabMod d.eth p {} f }
def ethOf (d : Dev) (p : Nat) : EthPort := tabGet d.eth p {}

/-- PAUSED of port `p`: every priority under PAUSE, else those that PFC pauses (R482, R722). -/
def setPaused (p : Nat) (l : List Nat) (d : Dev) : Dev :=
  (ethMod p (fun e => { e with paused := l }) d).put TM_OUT_STATUS_PAUSED
    (if has l 8 then 255 else l.foldl setBit 0) 0 p

/-- The link of MAC `p` comes up at SPEED code `s`: the rate, LINK_CHANGE, and the verify of R724. -/
def macUp (p s : Nat) (d : Dev) : Dev :=
  let d1 := raiseBit (pEth p) 3 (((d.put ETH_STATUS_LINK_UP 1 p).put ETH_STATUS_SPEED s p).put
    TM_OUT_RATE_MBPS (speedMbps s) 0 p)
  if feat d1 (pEth p) 2 2 && d1.on ETH_PREEMPT_EN p then
    if d1.on ETH_PREEMPT_VERIFY_DIS p then d1.put ETH_STATUS_PREEMPT_ACTIVE 1 p
    else emit (.verify p) (ethMod p (fun e => { e with verifies := 0 }) (d1.put ETH_STATUS_VERIFY 1 p))
  else d1

/-- The link of MAC `p` goes down. What a received pause held and a verify do not carry over (R711). -/
def macDown (p : Nat) (d : Dev) : Dev :=
  setPaused p [] (raiseBit (pEth p) 3 (((((d.put ETH_STATUS_LINK_UP 0 p).put ETH_STATUS_SPEED 0 p).put
    ETH_STATUS_PREEMPT_ACTIVE 0 p).put ETH_STATUS_VERIFY 0 p).put TM_OUT_RATE_MBPS 0 0 p))

/-- The link of lane `n`, if it is up, goes down: LINK clears, LINK_DOWN counts, and its MAC follows. -/
def linkDrop (n : Nat) (d : Dev) : Dev :=
  if laneLink d n then
    let d1 := laneRaise 3 n (laneCount LANE_LINK_DOWN_COUNT n (setLaneLink n false d))
    match (if laneProto d n = 7 then none else laneMac d n) with
    | some p => macDown p d1
    | none => d1
  else d

/-- Nothing of the earlier link carries over, apart from what R717 keeps; the SEQ of CAPX frames goes on. -/
def laneForget (n : Nat) (d : Dev) : Dev :=
  lanePut LANE_PARTNER_INFO_LANE 0 n (lanePut LANE_PARTNER_INFO_FLAGS 0 n (lanePut LANE_PARTNER_INFO_RATES 0 n
    (lanePut LANE_PARTNER_ID_LO_ID 0 n (lanePut LANE_PARTNER_ID_HI_ID 0 n (lanePut LANE_STATUS_PARTNER_NATIVAR 0 n
      (laneMod n (fun l => { l with exchange := false, heard := none, acked := false, speed := protoSpeed (laneProto d n) })
        d))))))

/-- Lane `n` returns to state `v` of bring-up, its link going down (R711, R718). -/
def laneRestart (n v : Nat) (d : Dev) : Dev := setLaneState n v (laneForget n (linkDrop n d))

/-- The outbound access that waits ends with RESULT `r` (R727). -/
def obEnd (r : Nat) (d : Dev) : Dev :=
  match d.pcie.ob with
  | none => d
  | some _ => { (d.put PCIE_OB_CMD_BUSY 0).put PCIE_OB_CMD_RESULT r with pcie := { d.pcie with ob := none } }

/-- The outbound access times out (R726, R731). -/
def obTimeout (d : Dev) : Dev :=
  match d.pcie.ob with
  | none => d
  | some r =>
    obEnd 3 (report ⟨pPcie, 0x40, 0, if r.op % 2 = 0 then 0 else 1, 0,
      d.rd PCIE_OB_ADDR_LO_ADDR + 2 ^ 32 * d.rd PCIE_OB_ADDR_HI_ADDR⟩ (count PCIE_CPL_TO_COUNT 0 0 d))

/-- The PCIe link leaves L0 other than by L1 entry: outstanding requests end as timed out, and the LTSSM retrains from
Detect (R728). -/
def pcieDown (d : Dev) : Dev :=
  if d.on PCIE_STATUS_DL_UP then
    let d1 := raiseBit pPcie 3 (count PCIE_LINK_DOWN_COUNT 0 0
      ((((d.put PCIE_STATUS_DL_UP 0).put PCIE_STATUS_SPEED 0).put PCIE_STATUS_WIDTH 0).put PCIE_STATUS_LTSSM 0))
    [4, 5, 6, 7].foldl (fun x n => if laneProto x n = 7 ∧ 2 ≤ laneState x n then laneRestart n 1 x else x) (obTimeout d1)
  else d

/-- Lane `n` goes back to state `v`, and a PCIe link with it. -/
def laneBack (n v : Nat) (d : Dev) : Dev :=
  let d1 := laneRestart n v d
  if laneProto d n = 7 then pcieDown d1 else d1

/-! ### CAPX frames (R713–R716) -/

/-- Octets of a MAC or identity held with octet 0 in bits 7:0. -/
def ethAddr (d : Dev) (p : Nat) : Bytes := toBytes 4 (d.rd ETH_ADDR_LO_ADDR p) ++ toBytes 2 (d.rd ETH_ADDR_HI_ADDR p)

/-- The CAPX frame of lane `n` with SEQ `seq`, without its FCS. -/
def capxFields (d : Dev) (n seq : Nat) : Bytes :=
  let l := laneOf d n
  let flag := fun (b : Bool) (k : Nat) => if b then 2 ^ k else 0
  [0x01, 0x80, 0xC2, 0x00, 0x00, 0x0E] ++ ethAddr d ((laneMac d n).getD 0) ++ toBE 2 (d.rd LANE_CAPX_CFG_ETYPE n) ++ [1] ++
    toBE 1 (flag l.heard.isSome 0 + flag (d.on LANE_CFG_UPSHIFT n) 1 + flag ((offered d.variant 2).testBit 2) 2
      + flag (d.on LANE_CFG_FEC n) 3) ++
    toBE 2 seq ++ (match l.heard with
      | some f => (f.drop 16).take 2
      | none => [0, 0]) ++
    [0x0F] ++ toBE 1 n ++ toBytes 4 (d.rd LANE_CAPX_ID_LO_ID n) ++ toBytes 2 (d.rd LANE_CAPX_ID_HI_ID n) ++
    toBE 2 (32768 * d.rd LANE_CAPX_ID_HI_MEMBER_VALID n + d.rd LANE_CAPX_ID_HI_MEMBER n) ++ List.replicate 30 0

/-- Lane `n` sends a CAPX frame; SEQ increments when any other field has changed. -/
def capxSend (n : Nat) (d : Dev) : Dev :=
  let l := laneOf d n
  let body := capxFields d n 0
  let seq := if l.sent = none ∨ l.sent = some body then l.seq else (l.seq + 1) % 65536
  let f := capxFields d n seq
  emit (.capxFrame n (f ++ toBytes 4 (crc32 0xFFFFFFFF f)))
    (laneMod n (fun x => { x with seq := seq, sent := some body }) d)

/-- A received frame, without its FCS, is a valid CAPX frame. In near-end loopback it is the lane's own (R718). -/
def capxValid (d : Dev) (n : Nat) (f : Bytes) (fcsOk : Bool) : Bool :=
  fcsOk && f.length == 60 && f.getD 14 0 == 1 && decide ((f.getD 15 0).toNat < 16) &&
    (f.drop 30).all (· == 0) && !lpbkNear d n

/-- The fields of a partner's frame as the LANE_PARTNER registers hold them. -/
def partnerLo (f : Bytes) : Nat := ofBytes ((f.drop 22).take 4)
def partnerHi (f : Bytes) : Nat :=
  let mem := ofBytesBE ((f.drop 28).take 2)
  2 ^ 31 * bitsOf mem 15 15 + 2 ^ 16 * bitsOf mem 9 0 + ofBytes ((f.drop 26).take 2)

/-- Copies the partner's fields. -/
def putPartner (n : Nat) (f : Bytes) (d : Dev) : Dev :=
  ((((d.put LANE_PARTNER_ID_LO_ID (partnerLo f) n).put LANE_PARTNER_ID_HI_ID (partnerHi f) n).put
    LANE_PARTNER_INFO_LANE (f.getD 21 0).toNat n).put LANE_PARTNER_INFO_FLAGS ((f.getD 15 0).toNat % 16) n).put
    LANE_PARTNER_INFO_RATES ((f.getD 20 0).toNat % 16) n

/-- The lane enters ACTIVE. -/
def laneActive (n : Nat) (d : Dev) : Dev := setLaneState n 5 (laneMod n (fun l => { l with exchange := false }) d)

/-- The conditions of R716 for an upshift. -/
def upshiftHolds (d : Dev) (n : Nat) (f : Bytes) : Bool :=
  laneProto d n == 5 && d.on LANE_CFG_UPSHIFT n && d.on LANE_CFG_FEC n && (f.getD 15 0).getLsbD 1 &&
    (f.getD 15 0).getLsbD 3 && (f.getD 20 0).getLsbD 3 && !(laneOf d n).shifted

/-- The exchange completes (R714): the lane upshifts or enters ACTIVE. -/
def capxComplete (n : Nat) (f : Bytes) (d : Dev) : Dev :=
  let d1 := putPartner n f (d.put LANE_STATUS_PARTNER_NATIVAR 1 n)
  if upshiftHolds d n f then
    laneRestart n 1 (setLaneProto n 6 (laneMod n (fun l => { l with shifted := true })
      (d1.put LANE_STATUS_UPSHIFTED 1 n)))
  else laneActive n d1

/-- A CAPX frame at lane `n`: consumed, valid or not (R713–R715). -/
def capxRx (n : Nat) (f : Bytes) (fcsOk : Bool) (d : Dev) : Dev :=
  if !capxRate d n || !capxValid d n f fcsOk then d
  else
    let ack := (f.getD 15 0).getLsbD 0
    let echo := ofBytesBE ((f.drop 18).take 2)
    let l := laneOf d n
    if laneState d n = 4 ∧ l.exchange then
      laneMod n (fun x => { x with
        heard := some f
        acked := x.acked || (ack && x.sent.isSome && echo == x.seq) }) d
    else if laneState d n = 5 then
      let d1 := laneMod n (fun x => { x with heard := some f }) d
      let d2 := if partnerLo f ≠ d.rd LANE_PARTNER_ID_LO_ID n ∨ partnerHi f ≠ d.rd LANE_PARTNER_ID_HI_ID n then
        raiseBit (pLane n) 4 (putPartner n f d1) else d1
      if ack then d2 else capxSend n d2
    else d

/-- The lane enters the exchange, or ACTIVE where it takes no part. -/
def enterExchange (n : Nat) (d : Dev) : Dev :=
  if capxRate d n then laneMod n (fun l => { l with exchange := true, heard := none, acked := false }) d
  else laneActive n d

/-! ### Bring-up -/

/-- Lane `n` enters LOCK, or passes it and CAPEX as PCIe does. -/
def enterLock (n : Nat) (d : Dev) : Dev := setLaneState n 3 d

/-- R709: state 1 ends. -/
def signalDetect (n : Nat) (d : Dev) : Dev :=
  if laneState d n ≠ 1 then d
  else
    let d1 := lanePut LANE_STATUS_LOS 0 n d
    let v := laneProto d n
    if v = 7 then (setLaneState n 2 d1).put PCIE_STATUS_LTSSM 1
    else if (v = 5 ∨ v = 6) ∧ d.on LANE_CFG_TRAIN n then setLaneState n 2 d1
    else enterLock n d1

/-- R709: training ends. A PCIe lane reaches L0 and ACTIVE; lane 4 carries PCIe lane 0 and reports the link. -/
def trainDone (n : Nat) (ok : Bool) (gen width : Nat) (d : Dev) : Dev :=
  if laneState d n ≠ 2 then d
  else if !ok then
    let d1 := laneRestart n 1 d
    if laneProto d n = 7 then d1.put PCIE_STATUS_LTSSM 0 else d1
  else if laneProto d n = 7 then
    let d1 := laneActive n d
    if n = 4 then
      (((d1.put PCIE_STATUS_LTSSM 3).put PCIE_STATUS_SPEED (min gen (d.rd PCIE_CFG_GEN))).put PCIE_STATUS_WIDTH
        (min width (pcieLanes d))).put PCIE_STATUS_DL_UP 1
    else d1
  else enterLock n d

/-- R709: lock is reached. -/
def lockAchieved (n : Nat) (d : Dev) : Dev :=
  if laneState d n ≠ 3 then d
  else
    let d1 := setLaneState n 4 (lanePut LANE_STATUS_LOL 0 n d)
    let v := laneProto d n
    let d2 := laneMod n (fun l => { l with speed := protoSpeed v }) d1
    if protoAutoneg v then d2 else enterExchange n d2

/-- R711: LOCK has not been reached within its maximum time. -/
def lockTimeout (n : Nat) (d : Dev) : Dev :=
  if laneState d n ≠ 3 then d else laneBack n 1 (laneCount LANE_LOL_EVENTS_COUNT n d)

/-- R709, R711: auto-negotiation ends, or fails; half duplex is a failure (R707). -/
def autonegDone (n : Nat) (ok full : Bool) (speed : Nat) (d : Dev) : Dev :=
  let v := laneProto d n
  if laneState d n ≠ 4 ∨ (laneOf d n).exchange ∨ !protoAutoneg v then d
  else if !ok || !full || !protoRate v speed then laneBack n 1 d
  else enterExchange n (laneMod n (fun l => { l with speed := speed }) d)

/-- R710: ACTIVE has held for LINK_HOLD. -/
def linkHold (n : Nat) (d : Dev) : Dev :=
  if laneState d n ≠ 5 ∨ laneLink d n then d
  else
    let d1 := laneRaise 3 n (laneCount LANE_LINK_UP_COUNT n (setLaneLink n true d))
    match (if laneProto d n = 7 then none else laneMac d n) with
    | some p => macUp p (laneOf d n).speed d1
    | none => d1

/-- The LANE page of a valid lane becomes Active: bring-up begins (R709, R729). -/
def laneStart (n : Nat) (d : Dev) : Dev :=
  let v := d.rd LANE_CFG_PROTO n
  setLaneState n 1 (setLaneProto n v (laneMod n (fun l => { l with shifted := false, speed := protoSpeed v })
    ((d.put LANE_STATUS_UPSHIFTED 0 n).put LANE_STATUS_UPSHIFT_FAIL 0 n)))

/-- ETH0 becomes Active in the reduced form (R730). -/
def reducedStart (d : Dev) : Dev :=
  let v := if d.rd LANE_CFG_PROTO 0 = 1 then 1 else 2
  setLaneState 8 1 (setLaneProto 8 v d)

/-- A drain or a soft reset ends the link of lane `n`, and the lane is Off (R729). -/
def laneStop (n : Nat) (d : Dev) : Dev := setLaneProto n 0 (laneBack n 0 d)

/-! ### PRBS and loopbacks (R718–R720) -/

/-- A write of `v` to LANE_LPBK. -/
def lpbkWrite (m n v : Nat) (d : Dev) : Dev :=
  if d.rd LANE_CFG_PROTO n = 7 then refuseWrite (pLane n) 0x40 m (regAddr (pLane n) 0x04C) d
  else
    let d1 := (d.put LANE_LPBK_TX_MUTE (bitsOf v 2 2) n).put LANE_LPBK_MODE (v % 4) n
    if v % 4 = d.rd LANE_LPBK_MODE n then d1
    else if laneState d n = 0 then d1 else laneRestart n 3 d1

/-- INJ_ONE inverts one transmitted bit, which a locked checker counts in a near-end serial loopback. -/
def injectOne (n : Nat) (d : Dev) : Dev :=
  if !d.on LANE_PRBS_EN_GEN n then d
  else
    let d1 := emit (.prbsInvert n) d
    if lpbkMode d n = 1 ∧ d.on LANE_PRBS_EN_CHK n ∧ d.on LANE_PRBS_STATUS_LOCKED n then
      bump LANE_PRBS_ERR_COUNT n 0 1 d1 else d1

/-- A write of `v` to LANE_PRBS. -/
def prbsWrite (m n v : Nat) (d : Dev) : Dev :=
  if 2 ^ 30 ≤ v % 2 ^ 32 ∧ !isOff d (laneOwner d n) then refuseWrite (pLane n) 0x40 m (regAddr (pLane n) 0x050) d
  else
    let chk := bitsOf v 30 30
    let d1 := ((((d.put LANE_PRBS_EN_GEN (bitsOf v 31 31) n).put LANE_PRBS_EN_CHK chk n).put
      LANE_PRBS_BAUD (bitsOf v 24 24) n).put LANE_PRBS_PATTERN (bitsOf v 18 16) n).put LANE_PRBS_INJ_RATE (bitsOf v 12 8) n
    let d2 := if chk = d.rd LANE_PRBS_EN_CHK n then d1 else d1.put LANE_PRBS_STATUS_LOCKED 0 n
    if v % 2 = 1 then injectOne n d2 else d2

/-- The register words that lane commands stand for hold the fields they do not name. -/
def prbsWord (d : Dev) (n : Nat) : Nat :=
  2 ^ 31 * d.rd LANE_PRBS_EN_GEN n + 2 ^ 30 * d.rd LANE_PRBS_EN_CHK n + 2 ^ 24 * d.rd LANE_PRBS_BAUD n
    + 2 ^ 16 * d.rd LANE_PRBS_PATTERN n + 2 ^ 8 * d.rd LANE_PRBS_INJ_RATE n

/-! ### Meanings -/

/-- The command names a lane that the variant has, or the reduced link. -/
def onLane (n : Nat) (f : Dev → Dev) (d : Dev) : Dev :=
  if n = 8 ∨ (n < 8 ∧ present d (pLane n)) then f d else d

def execLaneSignalDetect (n : Nat) (s : State) : Host.Outcome State Fault Refusal := upd s (onLane n (signalDetect n))

def execLaneTrainDone (n : Nat) (ok : Bool) (gen width : Nat) (s : State) : Host.Outcome State Fault Refusal :=
  upd s (onLane n (trainDone n ok gen width))

def execLaneLockAchieved (n : Nat) (s : State) : Host.Outcome State Fault Refusal := upd s (onLane n (lockAchieved n))

def execLaneLockTimeout (n : Nat) (s : State) : Host.Outcome State Fault Refusal := upd s (onLane n (lockTimeout n))

def execLaneAutonegDone (n : Nat) (ok full : Bool) (speed : Nat) (s : State) : Host.Outcome State Fault Refusal :=
  upd s (onLane n (autonegDone n ok full speed))

/-- R714: the lane sends a CAPX frame; one with ACK = 1 after the partner's completes the exchange. -/
def execCapxInterval (n : Nat) (s : State) : Host.Outcome State Fault Refusal :=
  upd s (onLane n (fun d =>
    let l := laneOf d n
    if laneState d n = 4 ∧ l.exchange then
      let d1 := capxSend n d
      match l.heard with
      | some f => if l.acked then capxComplete n f d1 else d1
      | none => d1
    else d))

def execCapxFrameRx (n : Nat) (frame : List Byte) (fcsOk : Bool) (s : State) : Host.Outcome State Fault Refusal :=
  upd s (onLane n (fun d =>
    if ofBytesBE ((frame.drop 12).take 2) = d.rd LANE_CAPX_CFG_ETYPE n then capxRx n frame fcsOk d else d))

/-- R714: the exchange ends without a Nativar partner. -/
def execCapxTimeout (n : Nat) (s : State) : Host.Outcome State Fault Refusal :=
  upd s (onLane n (fun d =>
    let l := laneOf d n
    if laneState d n = 4 ∧ l.exchange then
      let d1 := laneActive n (d.put LANE_STATUS_PARTNER_NATIVAR 0 n)
      match l.heard with
      | some f => putPartner n f d1
      | none => d1
    else d))

/-- R716: the upshift fails. -/
def execUpshiftTimeout (n : Nat) (s : State) : Host.Outcome State Fault Refusal :=
  upd s (onLane n (fun d =>
    if laneProto d n = 6 ∧ d.rd LANE_CFG_PROTO n = 5 ∧ laneState d n ≠ 5 ∧ laneState d n ≠ 0 then
      raiseBit (pLane n) 5 (laneRestart n 1 (setLaneProto n 5 (d.put LANE_STATUS_UPSHIFT_FAIL 1 n)))
    else d))

def execLinkHoldExpire (n : Nat) (s : State) : Host.Outcome State Fault Refusal := upd s (onLane n (linkHold n))

/-- R718. -/
def execLpbkModeWrite (m n v : Nat) (s : State) : Host.Outcome State Fault Refusal :=
  upd s (cmdWrite (pLane (n % 8)) 0x04C m (lpbkWrite m (n % 8) v))

/-- R719. -/
def execPrbsEnableWrite (m n v : Nat) (s : State) : Host.Outcome State Fault Refusal :=
  upd s (cmdWrite (pLane (n % 8)) 0x050 m (prbsWrite m (n % 8) v))

/-- R720: a write that leaves the other fields and sets INJ_ONE. -/
def execPrbsInjOne (m n : Nat) (s : State) : Host.Outcome State Fault Refusal :=
  upd s (fun d => cmdWrite (pLane (n % 8)) 0x050 m (prbsWrite m (n % 8) (prbsWord d (n % 8) + 1)) d)

/-- R720. -/
def execPrbsCheckerLocked (n : Nat) (s : State) : Host.Outcome State Fault Refusal :=
  upd s (fun d => if n < 8 ∧ d.on LANE_PRBS_EN_CHK n then d.put LANE_PRBS_STATUS_LOCKED 1 n else d)

/-- R720. -/
def execPrbsCheckerUnlocked (n errs : Nat) (s : State) : Host.Outcome State Fault Refusal :=
  upd s (fun d =>
    if n < 8 ∧ d.on LANE_PRBS_EN_CHK n ∧ d.on LANE_PRBS_STATUS_LOCKED n then
      bump LANE_PRBS_ERR_COUNT n 0 (max 64 errs) (d.put LANE_PRBS_STATUS_LOCKED 0 n)
    else d)

end Sys2Proof.Machine
end

