-- ==== Sys2Proof/Machine/Gate.lean ====
section
/-! DEFINITION. The gate control lists (spec/12_traffic_manager.md R494–R500, R502, R504, R516, R519). -/

namespace Sys2Proof.Machine

open Sys2Proof

/-- First page of TM, GATE and AIR. -/
def pTm : Nat := 0x70
def pGate : Nat := 0x7C
def pAir : Nat := 0x48

/-- GATE works as offered (R517). -/
def gateFeat (d : Dev) : Bool := feat d pGate 2 1

/-- Gate list `n`. -/
def gateOf (d : Dev) (n : Nat) : GateList := tabGet d.tm.gates n {}
def gateMod (n : Nat) (f : GateList → GateList) (d : Dev) : Dev :=
  { d with tm := { d.tm with gates := tabMod d.tm.gates n {} f } }

/-! ### Lists as functions of time (R495) -/

/-- The entry in force `pos` ns into a cycle, by index; the last one holds to the end. -/
def entryAt : List GateEnt → Nat → Nat → Nat
  | [], _, i => i
  | [_], _, i => i
  | e :: es, pos, i => if pos < e.interval then i else entryAt es (pos - e.interval) (i + 1)

/-- Position of the instant `t` in a cycle of `r`; after a backward step `t` may lie before the start (R516). -/
def cyclePos (r : GateRun) (t : Nat) : Nat := (((t : Int) - r.start) % (max 1 r.cycle : Nat)).toNat

/-- The index of the entry in force at `t`. -/
def runEntry (r : GateRun) (t : Nat) : Nat := entryAt r.ents (cyclePos r t) 0

/-- The gate states at `t`. -/
def runStates (r : GateRun) (t : Nat) : Nat :=
  match r.ents[runEntry r t]? with
  | some e => e.states
  | none => 0xFF

/-- The boundaries of one cycle as offsets with the states that begin there: entries that begin at or after the cycle's
end do not run. -/
def cycleMarks (cycle : Nat) : List GateEnt → Nat → List (Nat × Nat)
  | [], _ => []
  | e :: es, o => if cycle ≤ o then [] else (o, e.states) :: cycleMarks cycle es (o + e.interval)

/-- The instants from `a` on at which `r` sets states, over the cycles that begin in the two cycles from the one that
holds `a`. -/
def runMarks (r : GateRun) (a : Nat) : List (Nat × Nat) :=
  let base := a - cyclePos r a
  let one := cycleMarks (max 1 r.cycle) r.ents 0
  ((one.map (fun x => (base + x.1, x.2))) ++ (one.map (fun x => (base + r.cycle + x.1, x.2))) ++
    (one.map (fun x => (base + 2 * r.cycle + x.1, x.2)))).filter (fun x => decide (a < x.1))

/-- The first of the instants at which gate `g`, open now or not, changes from open to closed. -/
def firstClose (g : Nat) : Bool → List (Nat × Nat) → Option Nat
  | _, [] => none
  | o, x :: l => if o && !x.2.testBit g then some x.1 else firstClose g (x.2.testBit g) l

/-- Whether a gate is open after the instants given. -/
def openAfter (g : Nat) (o : Bool) (l : List (Nat × Nat)) : Bool :=
  match l.getLast? with
  | some x => x.2.testBit g
  | none => o

/-- The admin list of `n` as it stands. -/
def adminEnts (d : Dev) (n : Nat) : List GateEnt :=
  (List.range (min 1024 (d.rd GATE_ADMIN_COUNT_COUNT 0 n))).map (fun i =>
    ⟨d.rd GATE_ENT_INTERVAL_INTERVAL 0 (1024 * n + i), d.rd GATE_ENT_OP_OP 0 (1024 * n + i),
     d.rd GATE_ENT_OP_STATES 0 (1024 * n + i)⟩)

/-- The admin list of `n` as a run that starts at `s`. -/
def adminRun (d : Dev) (n s : Nat) : GateRun := ⟨s, d.rd GATE_ADMIN_CYCLE_CYCLE 0 n, adminEnts d n⟩

/-- The lists act: GATE works as offered and is Active, and EN of list `n` is 1 (R499, R517, R519). -/
def gateActs (d : Dev) (n : Nat) : Bool := gateFeat d && isActive d pGate && d.on GATE_CFG_EN 0 n

/-- The gate states of list `n` at the instant `t`. -/
def gateStates (d : Dev) (n t : Nat) : Nat :=
  if gateActs d n then
    match (gateOf d n).run with
    | some r => runStates r t
    | none => d.rd GATE_CFG_INIT_STATES 0 n
  else 0xFF

/-- Gate `g` of list `n` is open at `t`. -/
def gateOpen (d : Dev) (n g t : Nat) : Bool := (gateStates d n t).testBit g

/-- The close of gate `g` of list `n` after `t` (R502). -/
def gateClose (d : Dev) (n g t : Nat) : Option Nat :=
  if !gateActs d n then none
  else
    let now := gateOpen d n g t
    let oper := match (gateOf d n).run with
      | some r => runMarks r t
      | none => []
    match (gateOf d n).pend with
    | none => firstClose g now oper
    | some s =>
      let before := oper.filter (fun x => decide (x.1 < s))
      match firstClose g now before with
      | some c => some c
      | none =>
        let p := adminRun d n s
        firstClose g (openAfter g now before) ((s, runStates p s) :: runMarks p s)

/-- The lengths of the open runs of gate `g` in a list of instants, each run ending at the next change. -/
def openRuns (g : Nat) : Nat → List (Nat × Nat) → Nat → Nat
  | _, [], best => best
  | acc, [_], best => max best acc
  | acc, x :: y :: l, best =>
    if x.2.testBit g then openRuns g (acc + (y.1 - x.1)) (y :: l) (max best (acc + (y.1 - x.1)))
    else openRuns g 0 (y :: l) best

/-- W_g of gate `g` of list `n` (R504); none where it never closes or never opens. -/
def gateWindow (d : Dev) (n g : Nat) : Option Nat :=
  if !gateActs d n then none
  else match (gateOf d n).run with
    | none => none
    | some r =>
      let one := cycleMarks (max 1 r.cycle) r.ents 0
      let two := one ++ (one.map (fun x => (r.cycle + x.1, x.2))) ++ [(2 * r.cycle, 0)]
      if one.all (fun x => x.2.testBit g) then none
      else if one.all (fun x => !x.2.testBit g) then none
      else some (openRuns g 0 two 0)

/-- Whether the MAC is held at `t` (R507): the latest entry whose OP is not SetGateStates is Set-And-Hold-MAC. -/
def gateHold (d : Dev) (n t : Nat) : Bool :=
  if !gateActs d n then false
  else match (gateOf d n).run with
    | none => false
    | some r =>
      let i := runEntry r t
      let back := ((r.ents.take (i + 1)).reverse ++ (r.ents.drop (i + 1)).reverse).filter (fun e => e.op != 0)
      match back with
      | e :: _ => e.op == 1
      | [] => false

/-! ### Commands and takeover (R496–R499) -/

/-- STATES and ENTRY of list `n` take what the list gives now. -/
def gateRefresh (n : Nat) (d : Dev) : Dev :=
  let t := nowTotal d
  let e := match (gateOf d n).run with
    | some r => runEntry r t
    | none => 0
  (d.put GATE_STATUS_STATES (gateStates d n t) 0 n).put GATE_STATUS_ENTRY e 0 n

/-- The base of the admin list, and of the grid, in nanoseconds. -/
def adminBase (d : Dev) (n : Nat) : Nat :=
  (d.rd GATE_ADMIN_BASE_S_LO_S 0 n + 2 ^ 32 * d.rd GATE_ADMIN_BASE_S_HI_S 0 n) * 1000000000 + d.rd GATE_ADMIN_BASE_NS_NS 0 n
def gridBase (d : Dev) : Nat :=
  (d.rd AIR_GRID_BASE_S_LO_S + 2 ^ 32 * d.rd AIR_GRID_BASE_S_HI_S) * 1000000000 + d.rd AIR_GRID_BASE_NS_NS

/-- R496: the REASON of a refused commit of list `n`, none where it is accepted. -/
def commitReason (d : Dev) (n : Nat) : Option Nat :=
  let radio := decide (6 ≤ n)
  let ents := adminEnts d n
  let cyc := d.rd GATE_ADMIN_CYCLE_CYCLE 0 n
  if d.rd GATE_ADMIN_COUNT_COUNT 0 n = 0 ∨ 1024 < d.rd GATE_ADMIN_COUNT_COUNT 0 n then some 1
  else if ents.any (fun e => decide (e.interval < 64) || (radio && e.interval % 64000 != 0)) then some 2
  else if cyc < 64 ∨ 1000000000 < cyc ∨ (radio ∧ cyc % 64000 ≠ 0) then some 3
  else if ents.any (fun e => decide (2 < e.op) || (radio && e.op != 0)) then some 4
  else if 1000000000 ≤ d.rd GATE_ADMIN_BASE_NS_NS 0 n then some 5
  else if radio ∧ ((adminBase d n : Int) - gridBase d) % 64000 ≠ 0 then some 6
  else none

/-- The start of an accepted commit, and whether its base was past (R497). -/
def commitStart (d : Dev) (n : Nat) : Nat × Bool :=
  let base := adminBase d n
  let earliest := nowTotal d + d.rd GATE_LEAD_LEAD 0 n
  let cyc := max 1 (d.rd GATE_ADMIN_CYCLE_CYCLE 0 n)
  if earliest ≤ base then (base, false) else (base + (earliest - base + cyc - 1) / cyc * cyc, true)

/-- GATE_START of list `n` reports `s`. -/
def putStart (n s : Nat) (d : Dev) : Dev :=
  ((d.put GATE_START_NS_NS (s % 1000000000) 0 n).put GATE_START_S_LO_S (s / 1000000000) 0 n).put
    GATE_START_S_HI_S (s / 1000000000 / 2 ^ 32) 0 n

/-- A write of COMMIT for list `n`. -/
def gateCommit (m n : Nat) (d : Dev) : Dev :=
  if (gateOf d n).pend.isSome then refuseWrite pGate 0x41 m (regAddr pGate 0x060) d
  else
    let d0 := ((d.put GATE_STATUS_BASE_PAST 0 0 n).put GATE_STATUS_REJECTED 0 0 n).put GATE_STATUS_REASON 0 0 n
    match commitReason d n with
    | some r => raiseBit pGate 5 (refuseWrite pGate 0x40 m (regAddr pGate 0x060)
        ((d0.put GATE_STATUS_REJECTED 1 0 n).put GATE_STATUS_REASON r 0 n))
    | none =>
      let s := commitStart d n
      let d1 := putStart n s.1 (gateMod n (fun x => { x with pend := some s.1 }) (d0.put GATE_STATUS_PENDING 1 0 n))
      if s.2 then raiseBit pGate 4 (count GATE_BASE_PAST_N_COUNT 0 n (d1.put GATE_STATUS_BASE_PAST 1 0 n)) else d1

/-- A write of CANCEL for list `n`. -/
def gateCancel (n : Nat) (d : Dev) : Dev :=
  gateMod n (fun x => { x with pend := none }) (d.put GATE_STATUS_PENDING 0 0 n)

/-- A write of GATE_CMD: nothing happens where GATE is not accepted (R517) or no list is named. -/
def gateCmd (f : Nat → Dev → Dev) (d : Dev) : Dev :=
  let n := d.rd GATE_IDX_LIST
  if gateFeat d && decide (n < 9) then f n d else d

/-- R497: the takeover of list `n` once its start has come. -/
def gateTakeover (n : Nat) (d : Dev) : Dev :=
  match (gateOf d n).pend with
  | none => d
  | some s =>
    if isActive d pGate && decide (s ≤ nowTotal d) then
      let d1 := gateMod n (fun _ => { run := some (adminRun d n s), pend := none }) (d.put GATE_STATUS_PENDING 0 0 n)
      let d2 := (d1.put GATE_OPER_CYCLE_CYCLE (d.rd GATE_ADMIN_CYCLE_CYCLE 0 n) 0 n).put
        GATE_OPER_COUNT_COUNT (d.rd GATE_ADMIN_COUNT_COUNT 0 n) 0 n
      gateRefresh n (raiseBit pGate 3 (count GATE_TAKEOVERS_COUNT 0 n d2))
    else d

/-- R499: EN of list `n` is cleared: a pending list is cancelled, and the oper list ends. -/
def gateOff (n : Nat) (d : Dev) : Dev :=
  let d1 := gateMod n (fun _ => {}) (d.put GATE_STATUS_PENDING 0 0 n)
  gateRefresh n ((d1.put GATE_OPER_CYCLE_CYCLE 0 0 n).put GATE_OPER_COUNT_COUNT 0 0 n)

/-- A write of GATE_CFG.EN of list `n`. -/
def gateEn (n v : Nat) (d : Dev) : Dev :=
  if v = 0 then (if d.on GATE_CFG_EN 0 n then gateOff n (d.put GATE_CFG_EN 0 0 n) else d)
  else gateRefresh n (d.put GATE_CFG_EN 1 0 n)

/-- R516: after a step of the time base. -/
def gatesStep (d : Dev) : Dev :=
  (List.range 9).foldl (fun x n => if (gateOf x n).run.isSome || (gateOf x n).pend.isSome then
    gateRefresh n (gateTakeover n x) else x) d

/-- R519: a drain of GATE cancels every pending list, stops every oper list and opens every gate. -/
def gateDrain (d : Dev) : Dev :=
  (List.range 9).foldl (fun x n =>
    ((((gateMod n (fun _ => {}) x).put GATE_STATUS_PENDING 0 0 n).put GATE_STATUS_STATES 0xFF 0 n).put
      GATE_OPER_CYCLE_CYCLE 0 0 n).put GATE_OPER_COUNT_COUNT 0 0 n) d

/-! ### Meanings -/

def execGateCancel (m : Nat) (s : State) : Host.Outcome State Fault Refusal :=
  upd s (cmdWrite pGate 0x060 m (gateCmd gateCancel))

def execGateCommit (m : Nat) (s : State) : Host.Outcome State Fault Refusal :=
  upd s (cmdWrite pGate 0x060 m (gateCmd (gateCommit m)))

end Sys2Proof.Machine
end

