-- ==== Sys2Proof/Machine/Sta.lean ====
section
/-! DEFINITION. Stations, sequence numbers and acknowledgement (spec/09_stations.md). -/

namespace Sys2Proof.Machine

open Sys2Proof

/-- First page of STA, and of MLD. -/
def pSta : Nat := 0x50
def pMld : Nat := 0x44

/-- The codes of R352. -/
def stFREE : Nat := 0
def stPROBED : Nat := 1
def stPENDING : Nat := 2
def stASSOC : Nat := 3
def stAUTH : Nat := 4
def stFROZEN : Nat := 5
def stREMOVING : Nat := 6

/-- The index of the staging words, and of the staged link registers. -/
def staging : Nat := 2048
def lk (e l : Nat) : Nat := 3 * e + l

/-- The index of TID `t` of entry `e`: TIDs above 8 act as 8. -/
def ti (e t : Nat) : Nat := 9 * e + min 8 t

/-- The state of entry `e`. -/
def staState (d : Dev) (e : Nat) : Nat := d.rd STA_W0_STATE 0 e
def setStaState (e v : Nat) (d : Dev) : Dev := d.put STA_W0_STATE v 0 e

/-- What station `e` holds beyond its registers. -/
def staOf (d : Dev) (e : Nat) : Station := tabGet d.sta.stations e {}
def staMod (e : Nat) (f : Station → Station) (d : Dev) : Dev :=
  { d with sta := { d.sta with stations := tabMod d.sta.stations e {} f } }

/-- The entries that are not FREE. -/
def staEntries (d : Dev) : List Nat :=
  d.regs.filterMap (fun x => if x.1.reg = (STA_W0_STATE.key 0 0).reg ∧ x.1.lo = 0 ∧ x.2 ≠ 0 then some x.1.idx else none)

/-- An entry in PENDING to FROZEN, and one in ASSOC to FROZEN. -/
def staLive (d : Dev) (e : Nat) : Bool := decide (2 ≤ staState d e) && decide (staState d e ≤ 5)
def staAssociated (d : Dev) (e : Nat) : Bool := decide (3 ≤ staState d e) && decide (staState d e ≤ 5)

def staLinks (d : Dev) (e : Nat) : Nat := d.rd STA_W0_LINKS 0 e
def staHasLink (d : Dev) (e l : Nat) : Bool := (staLinks d e).testBit l
def staMld (d : Dev) (e : Nat) : Bool := d.on STA_W0_MLD 0 e

/-- The link address of entry `e` on link `l` (R353). -/
def staAddr (d : Dev) (e l : Nat) : Nat :=
  if staMld d e then d.rd L_ADDR_LO_ADDR 0 (lk e l) + 2 ^ 32 * d.rd L_ADDR_HI_ADDR 0 (lk e l)
  else d.rd STA_W1_ADDR 0 e + 2 ^ 32 * d.rd STA_W2_ADDR 0 e

/-- R353: the entry in PROBED to FROZEN whose address on the receiving radio is `a`. -/
def staLookup (d : Dev) (l a : Nat) : Option Nat :=
  (staEntries d).find? (fun e => decide (staState d e ≤ 5) && staHasLink d e l && staAddr d e l == a)

/-! ### Events (R381) -/

/-- Writes an event. -/
def staEvent (kind e : Nat) (d : Dev) : Dev :=
  if 64 ≤ d.sta.evts.length then raiseBit pSta 4 (count STA_EVT_OVF_COUNT 0 0 d)
  else raiseBit pSta 3 { d with sta := { d.sta with evts := d.sta.evts ++ [(kind, e)] } }

/-- R381: a read of STA_EVT pops the oldest event. -/
def staEvtPop (d : Dev) : Dev :=
  match d.sta.evts with
  | [] => answer 0 d
  | x :: rest =>
    let d1 := answer (2 ^ 31 + x.1 * 2 ^ 24 + x.2 % 2048) { d with sta := { d.sta with evts := rest } }
    if rest.isEmpty then lowerBit pSta 3 d1 else d1

/-! ### Held MPDUs and the scoreboard (R372–R376) -/

/-- Agreement fields of TID `t` of entry `e`. -/
def baSize (d : Dev) (e t : Nat) : Nat := max 1 (min 1024 (d.rd BA_RX_SIZE 0 (ti e t)))
def baOn (d : Dev) (e t : Nat) : Bool := d.on BA_RX_EN 0 (ti e t) && decide (t < 8)
def winStart (d : Dev) (e t : Nat) : Nat := d.rd BA_RX_STATUS_WINSTART 0 (ti e t)

/-- Held MPDUs of TID `t` of entry `e`, in window order. -/
def heldOf (d : Dev) (e t : Nat) : List HeldMpdu := tabGet (staOf d e).held t []

/-- Distance of `sn` to the right of `ws`, modulo 4,096. -/
def snDist (ws sn : Nat) : Nat := (sn + 4096 - ws % 4096) % 4096

/-- Held manifests of all stations. -/
def heldTotal (d : Dev) : Nat :=
  (d.sta.stations.map (fun s => (s.2.held.map (fun h => (h.2.map (·.xs.length)).sum)).sum)).sum

/-- Sets the held MPDUs and ws of TID `t`. -/
def setHeld (e t ws : Nat) (l : List HeldMpdu) (d : Dev) : Dev :=
  let d1 := staMod e (fun s => { s with held := if l.isEmpty then tabDel s.held t else tabSet s.held t l }) d
  ((d1.put BA_RX_STATUS_WINSTART ws 0 (ti e t)).put BA_RX_STATUS_HELD l.length 0 (ti e t)).put
    STA_STORE_HELD (heldTotal d1)

/-- RX_PN of TID `t` of entry `e`. -/
def rxPn (d : Dev) (e t : Nat) : Nat := d.rd RX_PN_LO_PN 0 (ti e t) + 2 ^ 32 * d.rd RX_PN_HI_PN 0 (ti e t)

/-- R602: whether the PN of an MPDU is above RX_PN, which it then becomes; an MPDU that is not protected passes. -/
def pnAccept (e t : Nat) (pn : Option Nat) (d : Dev) : Bool × Dev :=
  match pn with
  | none => (true, d)
  | some v =>
    if rxPn d e t < v then (true, (d.put RX_PN_LO_PN v 0 (ti e t)).put RX_PN_HI_PN (v / 2 ^ 32) 0 (ti e t))
    else (false, count CIPH_REPLAY_COUNT 0 0 d)

/-- Delivers an MPDU of TID `t` of entry `e` to the Waystation; one that fails the replay check is discarded. -/
def deliverMpdu (e t : Nat) (d : Dev) (h : HeldMpdu) : Dev :=
  let r := pnAccept e t h.pn d
  if r.1 then h.xs.foldl (fun y m => toWaystation m y) r.2 else h.xs.foldl (fun y m => refDown m.head y) r.2

/-- Delivers MPDUs of TID `t` of entry `e` in order. -/
def deliverMpdus (e t : Nat) (l : List HeldMpdu) (d : Dev) : Dev := l.foldl (deliverMpdu e t) d

/-- The run of held MPDUs that begins at `ws`: what it delivers, the new ws, and what stays. -/
def headRun : Nat → List HeldMpdu → List HeldMpdu × Nat × List HeldMpdu
  | ws, [] => ([], ws, [])
  | ws, h :: l =>
    if h.sn = ws then
      let r := headRun ((ws + 1) % 4096) l
      (h :: r.1, r.2)
    else ([], ws, h :: l)

/-- The loop at the end of R373 from window start `ws` over the held MPDUs `l`. -/
def shiftWindow (e t ws : Nat) (l : List HeldMpdu) (d : Dev) : Dev :=
  let r := headRun ws l
  deliverMpdus e t r.1 (setHeld e t r.2.1 r.2.2 d)

/-- Releases the held MPDUs below `ws'` in order, skipping holes, and makes it the window start. -/
def moveWindow (e t ws' : Nat) (d : Dev) : Dev :=
  let ws := winStart d e t
  let l := heldOf d e t
  let below := fun (h : HeldMpdu) => decide (snDist ws h.sn < snDist ws ws')
  deliverMpdus e t (l.filter below) (setHeld e t ws' (l.filter (fun h => !below h)) d)

/-- Releases every held MPDU of TID `t` in sequence order, skipping holes. -/
def releaseHeld (e t : Nat) (d : Dev) : Dev :=
  deliverMpdus e t (heldOf d e t) (setHeld e t (winStart d e t) [] d)

/-- Releases every held MPDU of entry `e`. -/
def releaseAllHeld (e : Nat) (d : Dev) : Dev :=
  (List.range 9).foldl (fun x t => if (heldOf x e t).isEmpty then x else releaseHeld e t x) d

/-- What the scoreboard makes of a received sequence number, before admission (R373, R374). -/
inductive BaVerdict where
  | dup | want | full
  deriving DecidableEq, Repr

/-- R373, R374 up to the admission. -/
def baVerdict (d : Dev) (e t sn : Nat) : BaVerdict :=
  let k := snDist (winStart d e t) sn
  if 2048 ≤ k then .dup
  else if k < baSize d e t && (heldOf d e t).any (fun h => h.sn == sn) then .dup
  else if 32768 ≤ heldTotal d then .full
  else .want

/-- Inserts a held MPDU in window order. -/
def insHeld (ws : Nat) (h : HeldMpdu) : List HeldMpdu → List HeldMpdu
  | [] => [h]
  | g :: l => if snDist ws h.sn < snDist ws g.sn then h :: g :: l else g :: insHeld ws h l

/-- R373: an admitted MPDU enters the window. -/
def baTake (e t sn : Nat) (pn : Option Nat) (xs : List Manifest) (d : Dev) : Dev :=
  let ws := winStart d e t
  let size := baSize d e t
  let d1 := if snDist ws sn < size then d else moveWindow e t ((sn + 4097 - size) % 4096) d
  let ws1 := winStart d1 e t
  shiftWindow e t ws1 (insHeld ws1 ⟨sn, xs, d1.tb.elapsed, pn⟩ (heldOf d1 e t)) d1

/-- R375: an MPDU has been held for TIMEOUT µs behind a hole. -/
def reorderExpire (e t : Nat) (d : Dev) : Dev :=
  match heldOf d e t with
  | [] => d
  | h :: l =>
    if (h :: l).any (fun g => decide (g.since + 500 * max 1 (d.rd STA_REORDER_TIMEOUT) ≤ d.tb.elapsed)) then
      shiftWindow e t h.sn (h :: l) (count STA_REORDER_TO_COUNT 0 0 d)
    else d

/-- R375: a BlockAckReq with starting sequence number `sn`. -/
def barReceive (e t sn : Nat) (d : Dev) : Dev :=
  let k := snDist (winStart d e t) sn
  if baOn d e t && k != 0 && decide (k < 2048) then
    let d1 := moveWindow e t sn d
    shiftWindow e t sn (heldOf d1 e t) d1
  else d

/-- R377: whether a unicast frame outside any agreement is a duplicate. -/
def dupCached (d : Dev) (e t sn frag : Nat) (retry : Bool) : Bool :=
  retry && tabFind (staOf d e).dup (min 8 t) == some (sn, frag)

/-- A discarded duplicate. -/
def dupDiscard (d : Dev) : Dev := count STA_DUP_DISCARD_COUNT 0 0 d

/-- R372: a write of BA_RX. -/
def baRxWrite (v : Nat) (d : Dev) : Dev :=
  let e := d.rd STA_IDX_ENTRY
  let t := min 8 (d.rd STA_TID_TID)
  let i := ti e t
  let put := fun (x : Dev) => ((x.put BA_RX_EN (v / 2 ^ 31) 0 i).put BA_RX_SSN (v / 65536) 0 i).put BA_RX_SIZE v 0 i
  let used := (d.regs.filter (fun x => decide (x.1.reg = (BA_RX_EN.key 0 0).reg) && x.1.lo == 31 && x.1.idx % 9 != 8)).length
  if stationCount d.variant ≤ e then d.put STA_CMD_RESULT 2
  else if t = 8 then put d
  else if v.testBit 31 then
    if 4096 ≤ used && !d.on BA_RX_EN 0 i then d.put STA_CMD_RESULT 3
    else
      let d1 := put (releaseHeld e t d)
      setHeld e t (d1.rd BA_RX_SSN 0 i) [] d1
  else put (releaseHeld e t d)

/-! ### Sequence numbers and retries (R368–R371) -/

/-- The next sequence number of TID `t` of entry `e`, and the counter advanced. -/
def nextSn (e t : Nat) (d : Dev) : Nat × Dev :=
  let sn := d.rd TX_SN_SN 0 (ti e t)
  (sn, d.put TX_SN_SN ((sn + 1) % 4096) 0 (ti e t))

/-- The start of the originator window: the first unacknowledged number, else the next one. -/
def origStart (d : Dev) (e t : Nat) : Nat :=
  let next := d.rd TX_SN_SN 0 (ti e t)
  ((staOf d e).outst.filter (fun o => o.tid == t)).foldl
    (fun b o => if snDist o.sn next > snDist b next then o.sn else b) next

/-- The egress read of an MPDU's caravan completes (R131, R369): the frame's stamp, or its drop, is known. -/
def egressDone (x : Manifest) (d : Dev) : Dev := refDown x.head d

/-- Takes the MPDU `sn` of TID `t` from those that await acknowledgement. -/
def takeOut (e t sn : Nat) (d : Dev) : Option OutMpdu × Dev :=
  match (staOf d e).outst.find? (fun o => o.tid == t && o.sn == sn) with
  | none => (none, d)
  | some o => (some o, staMod e (fun s => { s with outst := s.outst.filter (fun p => !(p.tid == t && p.sn == sn)) }) d)

/-- R370: the MPDU is dropped; a hole at the start of the window asks for a BlockAckReq. -/
def dropOut (e : Nat) (o : OutMpdu) (d : Dev) : Dev :=
  let hole := d.on BA_TX_EN 0 (ti e o.tid) && origStart d e o.tid == o.sn
  let d1 := (takeOut e o.tid o.sn d).2
  let d2 := refDown o.x.head (frameDropped o.x d1)
  if hole then staMod e (fun s => { s with bars := addOnce s.bars o.tid }) d2 else d2

/-- R370: an MPDU has been held for LIFETIME. -/
def mpduExpire (e t sn : Nat) (d : Dev) : Dev :=
  match (takeOut e t sn d).1 with
  | none => d
  | some o =>
    let ms := d.rd STA_TX_CFG_LIFETIME
    if ms ≠ 0 ∧ o.since + 500000 * ms ≤ d.tb.elapsed then dropOut e o (count STA_TX_LIFE_DROP_COUNT 0 0 d) else d

/-- R370: an MPDU was sent and not acknowledged. -/
def mpduUnacked (e t sn : Nat) (d : Dev) : Dev :=
  match (takeOut e t sn d).1 with
  | none => d
  | some o =>
    if d.rd STA_TX_CFG_RETRY_LIMIT + 1 ≤ o.tries then dropOut e o (count STA_TX_RETRY_DROP_COUNT 0 0 d) else d

/-- R371: a PPDU to station `e` on link `l` ended with or without an acknowledgement. -/
def ppduResult (e l : Nat) (acked : Bool) (d : Dev) : Dev :=
  if acked then staMod e (fun s => { s with failSaid := false }) (d.put L_FAIL_COUNT 0 0 (lk e l))
  else
    let d1 := satPut L_FAIL_COUNT 0 (lk e l) 1 d
    let t := max 1 (d1.rd STA_TX_CFG_FAIL_THRESH)
    if !(staOf d1 e).failSaid &&
        (List.range 3).all (fun k => !staHasLink d1 e k || decide (t ≤ d1.rd L_FAIL_COUNT 0 (lk e k))) then
      staEvent 2 e (staMod e (fun s => { s with failSaid := true }) d1)
    else d1

/-- A frame was received from station `e` on link `l`. -/
def staHeard (e l rssi : Nat) (d : Dev) : Dev :=
  (staMod e (fun s => { s with last := tabSet s.last l d.tb.elapsed, agedSaid := false }) d).put
    L_ADDR_HI_RSSI rssi 0 (lk e l)

/-- The tick of the latest frame from station `e` on any link. -/
def lastHeard (d : Dev) (e : Nat) : Nat := (staOf d e).last.foldl (fun b x => max b x.2) 0

/-! ### Queues of a station (R362) -/

/-- The kind 1 queues of entry `e`. -/
def staQueues (d : Dev) (e : Nat) : List Nat :=
  (liveQueues d).filter (fun q => ownerKind d q == 1 && ownerIndex d q / 16 == e)

/-- Pauses or resumes the station's queues. -/
def staPause (e : Nat) (d : Dev) : Dev :=
  (staQueues d e).foldl (fun x q => if qState x q = qEnabled then x.put QMGR_Q_STATE_STATE qPaused 0 q else x) d
def staResume (e : Nat) (d : Dev) : Dev :=
  (staQueues d e).foldl (fun x q => if qState x q = qPaused then x.put QMGR_Q_STATE_STATE qEnabled 0 q else x) d

/-- Disables the station's queues under R185. -/
def staDisableQueues (e : Nat) (d : Dev) : Dev :=
  (staQueues d e).foldl (fun x q =>
    if qState x q = qEnabled ∨ qState x q = qPaused then
      startRemoval q (x.put QMGR_Q_STATE_STATE qFlushing 0 q)
    else x) d

/-- Drops every MPDU that awaits acknowledgement; each is counted in STA_XFER_DROP where `xfer`. -/
def dropOutstanding (e : Nat) (xfer : Bool) (d : Dev) : Dev :=
  (staOf d e).outst.foldl (fun x o =>
    let y := refDown o.x.head (frameDropped o.x x)
    if xfer then count STA_XFER_DROP_COUNT 0 0 y else y) (staMod e (fun s => { s with outst := [] }) d)

/-! ### Power save (R364) -/

/-- TID `t` of entry `e` belongs to an AC that is delivery-enabled, or trigger-enabled. -/
def delivers (d : Dev) (e t : Nat) : Bool := (d.rd STA_W6_DELIV_AC 0 e).testBit (Config.acBit t % 4)
def triggers (d : Dev) (e t : Nat) : Bool := (d.rd STA_W6_TRIG_AC 0 e).testBit (Config.acBit t % 4)

/-- The delivery-enabled queues of entry `e` hold nothing. -/
def delivEmpty (d : Dev) (e : Nat) : Bool :=
  (staQueues d e).all (fun q => !delivers d e (ownerIndex d q % 16) || (qList d q).isEmpty)

/-- A PS-Poll from entry `e` on link `l` releases one MSDU, where one is queued. -/
def psPoll (e l : Nat) (d : Dev) : Dev :=
  if (staState d e == stASSOC || staState d e == stAUTH) && (staQueues d e).any (fun q => !(qList d q).isEmpty) then
    staMod e (fun s => { s with polls := tabMod s.polls l 0 (· + 1) }) d
  else d

/-- A trigger frame from entry `e` on link `l` starts an unscheduled service period of MAX_SP MSDUs, unless one is in
progress or nothing is to be delivered. -/
def uspStart (e l : Nat) (d : Dev) : Dev :=
  if (staState d e == stASSOC || staState d e == stAUTH) && !delivEmpty d e && (tabFind (staOf d e).usp l).isNone then
    let n := d.rd STA_W6_MAX_SP 0 e
    staMod e (fun s => { s with usp := tabSet s.usp l (if n = 0 then none else some n) }) d
  else d

/-- The power-save state of link `l` of entry `e` (R363); an AWAKE link needs nothing released. -/
def setDoze (e l : Nat) (doze : Bool) (d : Dev) : Dev :=
  let d1 := d.put L_ADDR_HI_DOZE (b2n doze) 0 (lk e l)
  if doze then d1 else staMod e (fun s => { s with polls := tabDel s.polls l, usp := tabDel s.usp l }) d1

/-- While link `l` of entry `e` dozes, an MSDU of TID `t` is released: by its service period, or by a PS-Poll. -/
def psReleased (d : Dev) (e l t : Nat) : Bool :=
  (match tabFind (staOf d e).usp l with
   | some _ => delivers d e t
   | none => false) || decide (0 < tabGet (staOf d e).polls l 0)

/-- An MSDU of TID `t` of entry `e` has been taken on link `l`: its service period counts it and ends with the last, else a
PS-Poll is answered. -/
def psTook (e l t : Nat) (d : Dev) : Dev :=
  let poll := fun (s : Station) =>
    let k := tabGet s.polls l 0
    { s with polls := if k ≤ 1 then tabDel s.polls l else tabSet s.polls l (k - 1) }
  if !d.on L_ADDR_HI_DOZE 0 (lk e l) then d
  else match tabFind (staOf d e).usp l with
    | some n =>
      if delivers d e t then
        let left := n.map (· - 1)
        staMod e (fun s => { s with
          usp := if left = some 0 || delivEmpty d e then tabDel s.usp l else tabSet s.usp l left }) d
      else staMod e poll d
    | none => staMod e poll d

/-! ### Links (R264) -/

/-- Link `l` is ACTIVE, and ACTIVE or REMOVING. -/
def linkState (d : Dev) (l : Nat) : Nat := d.rd MLD_LINK_STATUS_STATE 0 l
def linkActive (d : Dev) (l : Nat) : Bool := linkState d l == 2
def linkUp (d : Dev) (l : Nat) : Bool := linkState d l == 2 || linkState d l == 3

/-- MLD is in force for stations. -/
def mldOn (d : Dev) : Bool := govern d pSta 1 1

/-- R264: a TID of an MLD station without a usable link tears its mapping down. -/
def teardown (e : Nat) (d : Dev) : Dev :=
  let usable := fun t => (List.range 3).any (fun l =>
    staHasLink d e l && (d.rd STA_W3_TID_MAP 0 e).testBit (3 * t + l) && linkActive d l)
  if staMld d e && (List.range 8).any (fun t => !usable t) then d.put STA_W3_TID_MAP 0xFFFFFF 0 e else d

/-! ### Commands of STA_CMD (R358) -/

/-- BUSY while a FREEZE or removal is in progress. -/
def staBusy (d : Dev) : Dev :=
  d.put STA_CMD_BUSY (b2n (d.sta.stations.any (fun s => s.2.stopping || s.2.removing)))

def staResult (r : Nat) (d : Dev) : Dev := d.put STA_CMD_RESULT r

/-- A command refused for the entry's state. -/
def staRefuse (m : Nat) (d : Dev) : Dev := refuseWrite pSta 0x40 m (regAddr (pSta + 1) 0x044) (staResult 1 d)

/-- A command on the entry of STA_IDX, which needs a state that `ok` allows (R349, R358). -/
def staCommand (m : Nat) (ok : Nat → Bool) (f : Nat → Dev → Dev) (d : Dev) : Dev :=
  let e := d.rd STA_IDX_ENTRY
  if stationCount d.variant ≤ e then staResult 2 d
  else if ok (staState d e) then f e d
  else staRefuse m d

/-- Staged values as an entry's own. -/
structure StaImage where
  aid : Nat
  bss : Nat
  links : Nat
  mld : Bool
  addr : Nat
  laddr : List Nat

/-- The image of entry or staging `i`. -/
def imageOf (d : Dev) (i : Nat) : StaImage :=
  { aid := d.rd STA_W0_AID 0 i, bss := d.rd STA_W0_BSS 0 i, links := staLinks d i, mld := staMld d i
    addr := d.rd STA_W1_ADDR 0 i + 2 ^ 32 * d.rd STA_W2_ADDR 0 i
    laddr := (List.range 3).map (fun l => d.rd L_ADDR_LO_ADDR 0 (lk i l) + 2 ^ 32 * d.rd L_ADDR_HI_ADDR 0 (lk i l)) }

/-- The address of an image on link `l`. -/
def imageAddr (g : StaImage) (l : Nat) : Nat := if g.mld then g.laddr.getD l 0 else g.addr

/-- R351: MLD and LINKS are a station's. -/
def imageLinksOk (d : Dev) (g : StaImage) : Bool :=
  if g.mld then mldOn d && g.links != 0 else g.links == 1 || g.links == 2 || g.links == 4

/-- R353: another entry in PROBED to FROZEN holds an address of `g` on one radio. -/
def imageAddrTaken (d : Dev) (e : Nat) (g : StaImage) : Bool :=
  (staEntries d).any (fun o => o != e && decide (staState d o ≤ 5) &&
    (List.range 3).any (fun l => g.links.testBit l && staHasLink d o l && staAddr d o l == imageAddr g l))

/-- R355: another such station with a link on one of the radios holds the AID. -/
def imageAidTaken (d : Dev) (e : Nat) (g : StaImage) : Bool :=
  (staEntries d).any (fun o => o != e && staLive d o && g.links &&& staLinks d o != 0 && d.rd STA_W0_AID 0 o == g.aid)

/-- Stations in ASSOC to FROZEN with link A. -/
def linkAStations (d : Dev) : Nat := ((staEntries d).filter (fun e => staAssociated d e && staHasLink d e 0)).length

/-- R359: the BSS is full, or the reduced form of Radio A has its 32 stations. -/
def imageFull (d : Dev) (g : StaImage) : Bool :=
  decide (min 2007 (d.rd STA_BSS_LIMIT_MAX_STA 0 g.bss) ≤ d.rd STA_BSS_COUNT_STA 0 g.bss) ||
  (g.links.testBit 0 && d.rst.reducedA && decide (32 ≤ linkAStations d))

/-- The checks of a CREATE, UPDATE or IMPORT on image `g` for entry `e`: RESULT and whether code 0x42 is captured, none
where it is accepted. `capacity` where R359 applies. -/
def imageCheck (d : Dev) (e : Nat) (g : StaImage) (capacity : Bool) : Option (Nat × Bool) :=
  if !imageLinksOk d g || decide (48 ≤ g.bss) || g.aid = 0 || decide (2007 < g.aid) then some (5, false)
  else if imageAddrTaken d e g then some (4, true)
  else if imageAidTaken d e g then some (4, false)
  else if capacity && imageFull d g then some (3, false)
  else none

/-- A refused CREATE, UPDATE or IMPORT. -/
def imageRefuse (m : Nat) (r : Nat × Bool) (d : Dev) : Dev :=
  let d1 := staResult r.1 d
  if r.2 then refuseWrite pSta 0x42 m (regAddr (pSta + 1) 0x044) d1 else d1

/-- Fields of the words that UPDATE replaces. -/
def updateFields : List Fld :=
  [STA_W0_AID, STA_W0_LINKS, STA_W0_EMLSR, STA_W3_TID_MAP, STA_W4_MAX_MPDU, STA_W4_KEY_VALID, STA_W4_KEY_SLOT,
   STA_W5_EMLSR_TRANS, STA_W5_EMLSR_PAD, STA_W5_FORMATS, STA_W5_MAX_BW, STA_W5_NSS, STA_W6_LISTEN, STA_W6_MAX_SP,
   STA_W6_TRIG_AC, STA_W6_DELIV_AC]

/-- Fields that CREATE takes as well. -/
def createFields : List Fld := [STA_W0_BSS, STA_W0_MLD, STA_W1_ADDR, STA_W2_ADDR] ++ updateFields

/-- Copies staged fields to entry `e`. -/
def copyStaged (fs : List Fld) (e : Nat) (d : Dev) : Dev := fs.foldl (fun x F => x.put F (d.rd F 0 staging) 0 e) d

/-- Copies the staged link addresses to entry `e`. -/
def copyLinks (e : Nat) (d : Dev) : Dev :=
  (List.range 3).foldl (fun x l => (x.put L_ADDR_LO_ADDR (d.rd L_ADDR_LO_ADDR 0 (lk staging l)) 0 (lk e l)).put
    L_ADDR_HI_ADDR (d.rd L_ADDR_HI_ADDR 0 (lk staging l)) 0 (lk e l)) d

/-- Entry `e` starts without anything of a station that held it before: every field of pages 1 to 3 at its reset
value. -/
def freshEntry (e : Nat) (d : Dev) : Dev :=
  let old := fun (k : Key) =>
    (k.reg / 4096 == pSta + 1 && decide (0x060 ≤ k.reg % 4096) && k.idx == e) ||
    (k.reg / 4096 == pSta + 2 && k.idx / 3 == e) ||
    (k.reg / 4096 == pSta + 3 && decide (0x044 ≤ k.reg % 4096) && k.idx / 9 == e)
  { d with
    regs := d.regs.filter (fun x => !old x.1)
    sta := { d.sta with stations := tabDel d.sta.stations e } }

/-- Adds `n` or takes it from the counts of stations of BSS `b`. -/
def bssCount (b : Nat) (up : Bool) (d : Dev) : Dev :=
  let f := fun v => if up then v + 1 else v - 1
  (d.put STA_BSS_COUNT_STA (f (d.rd STA_BSS_COUNT_STA 0 b)) 0 b).put STA_COUNT_ASSOC (f (d.rd STA_COUNT_ASSOC))

/-- CREATE. -/
def staCreate (m e : Nat) (d : Dev) : Dev :=
  match imageCheck d e (imageOf d staging) true with
  | some r => imageRefuse m r d
  | none =>
    staResult 0 (setStaState e stPENDING (copyLinks e (copyStaged createFields e (freshEntry e d))))

/-- ASSOC. -/
def staAssoc (m e : Nat) (d : Dev) : Dev :=
  if imageFull d (imageOf d e) then imageRefuse m (3, false) d
  else
    let f := manifestForm (fullNow d)
    staResult 0 (bssCount (d.rd STA_W0_BSS 0 e) true (setStaState e stASSOC
      ((d.put STA_ATIME_NS_NS f.1 0 e).put STA_ATIME_S_S f.2 0 e)))

/-- UPDATE. -/
def staUpdate (m e : Nat) (d : Dev) : Dev :=
  let g := { imageOf d staging with bss := d.rd STA_W0_BSS 0 e, mld := staMld d e, addr := (imageOf d e).addr }
  match imageCheck d e g false with
  | some r => imageRefuse m r d
  | none => staResult 0 (teardown e (copyLinks e (copyStaged updateFields e d)))

/-- FREEZE begins: no transmission to the station starts any more. -/
def staFreeze (e : Nat) (d : Dev) : Dev :=
  staResult 0 (staBusy (staMod e (fun s => { s with stopping := true }) d))

/-- FREEZE takes effect (R371). -/
def staFreezeDone (e : Nat) (d : Dev) : Dev :=
  if !(staOf d e).stopping then d
  else
    let st := staState d e
    staBusy (staPause e (dropOutstanding e true (setStaState e stFROZEN
      (staMod e (fun s => { s with stopping := false, recorded := st }) d))))

/-- THAW. -/
def staThaw (e : Nat) (d : Dev) : Dev := staResult 0 (staResume e (setStaState e (staOf d e).recorded d))

/-- REMOVE (R365), steps 1 to 5. -/
def staRemove (e : Nat) (d : Dev) : Dev :=
  let d0 := if staAssociated d e then bssCount (d.rd STA_W0_BSS 0 e) false d else d
  let d1 := setStaState e stREMOVING (staMod e (fun s => { s with stopping := false, removing := true }) d0)
  let d2 := staDisableQueues e (dropOutstanding e false (releaseAllHeld e d1))
  let d3 := (List.range 3).foldl (fun x n => (x.put RADIO_STA_OFS_DATA_VALID 0 n e).put RADIO_STA_OFS_DATA_COUNT 0 n e) d2
  staBusy d3

/-- REMOVE ends: the entry is FREE (R365, step 6). -/
def staRemoveDone (e : Nat) (d : Dev) : Dev :=
  if (staOf d e).removing && (staQueues d e).isEmpty then staBusy (freshEntry e d) else d

/-- A removal by the device itself (R366, R367). -/
def staAutoRemove (e : Nat) (d : Dev) : Dev := staEvent 3 e (staRemove e d)

/-- R366: the check of one entry. -/
def staAgeOne (d : Dev) (e : Nat) : Dev :=
  let idle := d.tb.elapsed - lastHeard d e
  let lim := d.rd STA_AGE_IDLE_LIMIT
  if (staState d e == stASSOC || staState d e == stAUTH) && lim != 0 && decide (500000000 * lim ≤ idle) &&
      !(staOf d e).agedSaid then
    let d1 := staEvent 1 e (count STA_AGED_COUNT 0 0 (staMod e (fun s => { s with agedSaid := true }) d))
    if d1.on STA_CFG_AUTO_REMOVE then staAutoRemove e d1 else d1
  else d

/-- R357: a probe request from an unknown address on link `l`. -/
def staProbe (l addr rssi : Nat) (d : Dev) : Dev :=
  if !d.on STA_CFG_LEARN_PROBE then d
  else match (List.range (stationCount d.variant)).find? (fun e => staState d e == stFREE) with
    | none => d
    | some e =>
      let d1 := freshEntry e d
      let d2 := setStaState e stPROBED (((d1.put STA_W1_ADDR addr 0 e).put STA_W2_ADDR (addr / 2 ^ 32) 0 e).put
        STA_W0_LINKS (2 ^ l) 0 e)
      staEvent 4 e (staHeard e l rssi d2)

/-- R267: link `l` leaves the MLD: the stations that had it. -/
def staLinkGone (l : Nat) (d : Dev) : Dev :=
  (staEntries d).foldl (fun x e =>
    if !staLive x e || !staHasLink x e l then x
    else if staLinks x e = 2 ^ l then staAutoRemove e x
    else teardown e (x.put STA_W0_LINKS (clearBit (staLinks x e) l) 0 e)) d

/-- R382: a soft reset of STA; held MPDUs and those in flight are given up. -/
def staSoftReset (d : Dev) : Dev :=
  let held := d.sta.stations.flatMap (fun s => s.2.held.flatMap (fun h => h.2.flatMap (·.xs)))
  let d1 := d.sta.stations.foldl (fun x s => dropOutstanding s.1 false x) d
  { held.foldl (fun x y => refDown y.head (frameDropped y x)) d1 with sta := {} }

/-- A write of STA_CMD by its CMD code; EXPORT and IMPORT are given by `xfer`. -/
def staCmdWrite (m v : Nat) (xport xmport : Dev → Dev) (d : Dev) : Dev :=
  let new := fun s => s == stFREE || s == stPROBED
  match v % 16 with
  | 0 => d
  | 1 => staCommand m new (staCreate m) d
  | 2 => staCommand m (· == stPENDING) (staAssoc m) d
  | 3 => staCommand m (· == stASSOC) (fun e x => staResult 0 (setStaState e stAUTH x)) d
  | 4 => staCommand m (fun s => s == 2 || s == 3 || s == 4) (staUpdate m) d
  | 5 => staCommand m (fun s => s == 3 || s == 4) staFreeze d
  | 6 => staCommand m (· == stFROZEN) staThaw d
  | 7 => staCommand m (fun s => decide (2 ≤ s) && decide (s ≤ 5)) (fun e x => staResult 0 (staRemove e x)) d
  | 8 => xport d
  | 9 => xmport d
  | _ => staCommand m (fun _ => false) (fun _ x => x) d

/-! ### Meanings -/

/-- A write of STA_CMD with command `k`. -/
def staWrite (m k : Nat) (s : State) : Host.Outcome State Fault Refusal :=
  upd s (cmdWrite (pSta + 1) 0x044 m (staCmdWrite m k id id))

def execStaCreate (m : Nat) (s : State) : Host.Outcome State Fault Refusal := staWrite m 1 s
def execStaAuthorize (m : Nat) (s : State) : Host.Outcome State Fault Refusal := staWrite m 3 s
def execStaUpdate (m : Nat) (s : State) : Host.Outcome State Fault Refusal := staWrite m 4 s
def execStaFreeze (m : Nat) (s : State) : Host.Outcome State Fault Refusal := staWrite m 5 s
def execStaThaw (m : Nat) (s : State) : Host.Outcome State Fault Refusal := staWrite m 6 s
def execStaRemoveDone (e : Nat) (s : State) : Host.Outcome State Fault Refusal := upd s (staRemoveDone e)

def execProbeAgeExpire (e : Nat) (s : State) : Host.Outcome State Fault Refusal :=
  upd s (fun d =>
    if staState d e = stPROBED ∧ lastHeard d e + 500000000 * max 1 (d.rd STA_AGE_PROBE_AGE) ≤ d.tb.elapsed then
      freshEntry e d
    else d)

def execMpduLifetimeExpire (e tid sn : Nat) (s : State) : Host.Outcome State Fault Refusal := upd s (mpduExpire e tid sn)

def execBaRxWrite (m v : Nat) (s : State) : Host.Outcome State Fault Refusal :=
  upd s (cmdWrite (pSta + 3) 0x044 m (baRxWrite v))

def execReorderTimeout (e tid : Nat) (s : State) : Host.Outcome State Fault Refusal := upd s (reorderExpire e tid)

def execStaEvtPop (m : Nat) (s : State) : Host.Outcome State Fault Refusal :=
  upd s (cmdRead pSta 0x050 m staEvtPop)

end Sys2Proof.Machine
end

