-- ==== Sys2Proof/Machine/Tm.lean ====
section
/-! DEFINITION. The traffic manager: placement, eligibility, deficit round robin, shapers, launch times and deadlines
(spec/12_traffic_manager.md). -/

namespace Sys2Proof.Machine

open Sys2Proof

/-! ### Placement (R478–R480) -/

/-- The outputs of queue `q`. -/
def qOutputs (d : Dev) (q : Nat) : List Nat :=
  let i := ownerIndex d q
  match ownerKind d q with
  | 1 =>
    let e := i / 16
    let t := i % 16
    if 8 ≤ t then []
    else ((List.range 3).filter (fun l => staHasLink d e l && (d.rd STA_W3_TID_MAP 0 e).testBit (3 * t + l))).map (6 + ·)
  | 2 => [i / 16]
  | 3 => [9]
  | 4 => [11]
  | 5 => [10]
  | 6 => [6 + i / 16]
  | _ => []

/-- The group of queue `q`. -/
def qGroup (d : Dev) (q : Nat) : Nat :=
  if d.on TM_Q_PLACE_GROUP_OVR 0 q then d.rd TM_Q_PLACE_GROUP 0 q
  else match ownerKind d q with
    | 1 => ownerIndex d q % 16 % 8
    | 2 => ownerIndex d q % 16 % 8
    | 4 => ownerIndex d q % 8
    | _ => 0

/-- The queues of output `o`, and of its group `g`. -/
def outQueues (d : Dev) (o : Nat) : List Nat := (liveQueues d).filter (fun q => has (qOutputs d q) o)
def groupQueues (d : Dev) (o g : Nat) : List Nat := (outQueues d o).filter (fun q => qGroup d q == g)

/-- The index of group `g` of output `o`. -/
def gi (o g : Nat) : Nat := 8 * o + g

/-! ### Shapers (R488–R493) -/

/-- One byte in the units of a shaper's counts. -/
def shpUnit : Int := 8000000

/-- The shaper of queue `q`, of group `g` of output `o`. -/
def qShaper (d : Dev) (q : Nat) : Option Nat :=
  if d.on TM_Q_PLACE_SHP_EN 0 q then some (d.rd TM_Q_PLACE_SHAPER 0 q) else none
def gShaper (d : Dev) (o g : Nat) : Option Nat :=
  if d.on TM_GRP_CFG_SHP_EN 0 (gi o g) then some (d.rd TM_GRP_CFG_SHAPER 0 (gi o g)) else none

/-- Shaper `s`, if it is in force. -/
def shaperOf (d : Dev) (s : Nat) : Option Shaper := tabFind d.tm.shapers s

/-- Stores shaper `s`, its counts floored to bytes in TM_SHP_C and TM_SHP_P. -/
def setShaper (s : Nat) (x : Shaper) (d : Dev) : Dev :=
  ((tmMod (fun t => { t with shapers := tabSet t.shapers s x }) d).put TM_SHP_C_C (twos 25 (x.c / shpUnit)) 0 s).put
    TM_SHP_P_P (twos 25 (x.p / shpUnit)) 0 s

/-- The groups of outputs 0–5 to which shaper `s` is attached. -/
def cbsGroups (d : Dev) (s : Nat) : List (Nat × Nat) :=
  (List.range 48).filterMap (fun i => if gShaper d (i / 8) (i % 8) == some s then some (i / 8, i % 8) else none)

/-- The credit of a CBS shaper of group `g` of output `o` at `now` (R492): it falls while the frame in transmission
lasts, then rises while the group holds a manifest and its gate is open, or, while the group is empty, up to 0. -/
def cbsCredit (d : Dev) (x : Shaper) (o g now : Nat) : Int :=
  let last := x.last.getD now
  let sendSlope : Int := (x.cir : Int) - 1000 * d.rd TM_OUT_RATE_MBPS 0 o
  let tx := min (now - last) (x.txEnd - last)
  let lim : Int → Int := fun v => max (-(x.pbs : Int) * shpUnit) (min ((x.cbs : Int) * shpUnit) v)
  let c1 := lim (x.c + sendSlope * tx)
  let from_ := last + tx
  let filled := (groupQueues d o g).filterMap (fun q => tabFind d.q.filled q)
  let at_ := filled.foldl min now
  let isOpen := gateOpen d o g now
  let idle : Int → Nat → Int := fun c t =>
    if 0 ≤ c then (if filled.isEmpty || from_ < at_ then 0 else c) else if isOpen then min 0 (c + x.cir * t) else c
  if filled.isEmpty then lim (idle c1 (now - from_))
  else
    let c2 := if from_ < at_ then idle c1 (at_ - from_) else c1
    if isOpen then lim (c2 + x.cir * (now - max from_ at_)) else c2

/-- The evaluation of shaper `s` at the present time. -/
def evalShaper (s : Nat) (d : Dev) : Dev :=
  match shaperOf d s with
  | none => d
  | some x =>
    let now := nowTotal d
    let dt := match x.last with
      | some l => now - l
      | none => 0
    if x.cbsMode then
      match cbsGroups d s with
      | [] => setShaper s { x with last := some now } d
      | og :: _ => setShaper s { x with c := cbsCredit d x og.1 og.2 now, last := some now } d
    else
      setShaper s { x with
        c := min (x.cbs * shpUnit) (x.c + x.cir * dt)
        p := min (x.pbs * shpUnit) (x.p + x.pir * dt)
        last := some now } d

/-- Every shaper of the nodes of output `o` is evaluated. -/
def evalOutput (o : Nat) (d : Dev) : Dev :=
  let ss := ((outQueues d o).filterMap (qShaper d)) ++ ((List.range 8).filterMap (gShaper d o))
  (ss.foldl (fun l s => addOnce l s) []).foldl (fun x s => evalShaper s x) d

/-- Shaper `s` lets a node be served; `onGroup` where the node is a group of an Ethernet output. -/
def shaperAllows (d : Dev) (onGroup : Bool) (s : Option Nat) : Bool :=
  match s with
  | none => true
  | some i => match shaperOf d i with
    | none => true
    | some x => if x.cbsMode then !onGroup || decide (0 ≤ x.c) else x.drop || decide (0 ≤ x.p)

/-- R491: shaper `s` has the head of its node dropped. -/
def shaperDrops (d : Dev) (s : Option Nat) : Option Nat :=
  match s with
  | none => none
  | some i => match shaperOf d i with
    | none => none
    | some x => if !x.cbsMode && x.drop && decide (x.p < 0) then some i else none

/-- R490: a node with shaper `s` is in the committed state. -/
def shaperCommitted (d : Dev) (s : Option Nat) : Bool :=
  match s with
  | none => true
  | some i => match shaperOf d i with
    | none => true
    | some x => x.cbsMode || decide (0 ≤ x.c)

/-- One service of `cost` bytes that takes `t` ns on the wire. -/
def chargeShaper (cost t : Nat) (d : Dev) (s : Nat) : Dev :=
  match shaperOf d s with
  | none => d
  | some x =>
    if x.cbsMode then
      (if (cbsGroups d s).isEmpty then d else setShaper s { x with txEnd := nowTotal d + t } d)
    else setShaper s { x with
      c := max (-(x.cbs : Int) * shpUnit) (x.c - cost * shpUnit)
      p := x.p - cost * shpUnit } d

/-- R493: a write of APPLY for shaper `s` by master `m`. -/
def shaperApply (m s : Nat) (d : Dev) : Dev :=
  let d0 := d.put TM_SHP_CMD_REJECTED 0 0 s
  let en := d.on TM_SHP_CFG_EN 0 s
  let mode := d.rd TM_SHP_CFG_MODE 0 s
  let cir := d.rd TM_SHP_CIR_CIR 0 s
  let pir := d.rd TM_SHP_PIR_PIR 0 s
  if !en then tmMod (fun t => { t with shapers := tabDel t.shapers s }) d0
  else if 2 ≤ mode ∨ (mode = 0 ∧ (pir = 0 ∨ pir < cir)) then
    raiseBit pTm 6 (refuseWrite pTm 0x40 m (regAddr (pTm + 3) 0x058) (d0.put TM_SHP_CMD_REJECTED 1 0 s))
  else
    let full := !d.on TM_SHP_CFG_TOKEN_ON_CHANGE 0 s
    let cbs := d.rd TM_SHP_CBS_CBS 0 s
    let pbs := d.rd TM_SHP_PBS_PBS 0 s
    setShaper s {
      cbsMode := mode == 1, drop := d.on TM_SHP_CFG_ACTION 0 s, cir := cir, pir := pir, cbs := cbs, pbs := pbs
      c := if full then cbs * shpUnit else 0
      p := if full then pbs * shpUnit else 0
      last := some (nowTotal d), txEnd := 0 } d0

/-- R516: after a backward step every shaper counts Δt as zero at its first evaluation. -/
def shapersBack (d : Dev) : Dev :=
  tmMod (fun t => { t with shapers := t.shapers.map (fun e => (e.1, { e.2 with last := none })) }) d

/-! ### Frames on the wire (R501–R507) -/

/-- Bytes that a tag adds to a frame on output `o` at its egress (R466). -/
def tagBytes (d : Dev) (o : Nat) (x : Manifest) : Nat :=
  match tabFind d.q.tags x.head with
  | some t => if t.2.2.testBit o then 4 else 0
  | none => 0

/-- Nanoseconds, rounded up, that `n` bytes with their 24 bytes of overhead take on Ethernet output `o`. -/
def wireNs (d : Dev) (o n : Nat) : Nat :=
  let r := max 1 (d.rd TM_OUT_RATE_MBPS 0 o)
  (8 * (n + 24) * 1000 + r - 1) / r

/-- The wire time T of a frame (R501). -/
def wireTime (d : Dev) (o : Nat) (x : Manifest) : Nat := wireNs d o (max (x.len + tagBytes d o x) 60)

/-- R505: preemption is in effect on output `o`. -/
def preemptOn (d : Dev) (o : Nat) : Bool :=
  decide (o < 6) && feat d pTm 2 2 && d.on ETH_STATUS_PREEMPT_ACTIVE o

/-- R506: a frame of group `g` is preemptible. -/
def preemptible (d : Dev) (o g : Nat) (x : Manifest) : Bool :=
  preemptOn d o && (d.on TM_GRP_CFG_PREEMPT 0 (gi o g) || flagOf x fPreemptible)

/-- R504: the frame fits no window of its gate. -/
def oversize (d : Dev) (o g : Nat) (x : Manifest) : Bool :=
  decide (o < 6) && !preemptible d o g x &&
  match gateWindow d o g with
  | some w => decide (w < wireTime d o x + d.rd GATE_CFG_GUARD_NS 0 o)
  | none => false

/-- R503, R506, R507: a frame may start now as far as its gate goes, the gate being open. -/
def fitsWindow (d : Dev) (o g : Nat) (x : Manifest) : Bool :=
  let t := nowTotal d
  let guard := d.rd GATE_CFG_GUARD_NS 0 o
  if 6 ≤ o then true
  else if preemptible d o g x then
    !gateHold d o t &&
    (match gateClose d o g t with
     | some c => decide (t + wireNs d o (64 * (1 + d.rd ETH_PREEMPT_ADD_FRAG o)) + guard ≤ c)
     | none => true)
  else oversize d o g x ||
    (match gateClose d o g t with
     | some c => decide (t + wireTime d o x + guard ≤ c)
     | none => true)

/-! ### Launch times and deadlines (R508–R514) -/

/-- The full-form instant that TIME names: the one nearest `now` whose seconds agree modulo 2^32 (R509). -/
def timeOf (now : Nat) (x : Manifest) : Nat :=
  let era := 2 ^ 32 * 1000000000
  let t := now / era * era + (x.timeS * 1000000000 + x.timeNs)
  let far : Nat → Nat := fun v => if v ≤ now then now - v else v - now
  let a := if era ≤ t ∧ far (t - era) < far t then t - era else t
  if far (t + era) < far a then t + era else a

/-- R508: the launch time of a manifest applies on output `o`. -/
def launches (d : Dev) (o : Nat) (x : Manifest) : Bool :=
  timeKind x == 1 && decide (o ≤ 8) && feat d pTm 2 3

/-- R509: the launch time lies too far ahead to be held for. -/
def launchFar (d : Dev) (x : Manifest) : Bool :=
  decide (nowTotal d + 1000000 * d.rd TM_CFG_LAUNCH_MAX_MS < timeOf (nowTotal d) x)

/-- The start of the slot that holds the instant `t` (R297). -/
def slotStart (d : Dev) (t : Nat) : Nat := t - (((t : Int) - gridBase d) % 64000).toNat

/-- R509–R511: the head's launch time permits dequeue; `ripe` where its instant has been reported. -/
def launchReady (d : Dev) (o q : Nat) (x : Manifest) : Bool :=
  if !launches d o x then true
  else
    let l := timeOf (nowTotal d) x
    has d.tm.ripe q || launchFar d x ||
    (if o < 6 then decide (l ≤ nowTotal d + d.rd TM_OUT_CFG_LAUNCH_LEAD 0 o)
     else decide (slotStart d l ≤ nowTotal d))

/-- R510: a launched frame that a decision has handed to port `o` and that has not started keeps every other frame that
would not end by its launch time. -/
def launchKeeps (d : Dev) (o g : Nat) (x : Manifest) : Bool :=
  decide (o < 6) && (handedTo d o).any (fun y =>
    launches d o y && decide (nowTotal d < timeOf (nowTotal d) y) &&
    !(preemptible d o g x && !preemptible d o (qGroup d y.queue) y) &&
    decide (timeOf (nowTotal d) y < nowTotal d + wireTime d o x + d.rd GATE_CFG_GUARD_NS 0 o))

/-- R512: what becomes of a late head: nothing, sent with LATE, or dropped; and its counter. -/
inductive Late where
  | no | sent | tolerated | dropped
  deriving DecidableEq, Repr

/-- R512. -/
def lateOf (d : Dev) (o q : Nat) (x : Manifest) : Late :=
  let l := timeOf (nowTotal d) x
  let late := if o < 6 then decide (l + 8 < nowTotal d) else decide (slotStart d l + 64000 ≤ nowTotal d)
  if !launches d o x || !late then .no
  else if d.rd QMGR_Q_CFG_LATE_POLICY 0 q = 1 then .sent
  else if nowTotal d - l ≤ d.rd QMGR_Q_LATE_TOL_NS 0 q then .tolerated
  else .dropped

/-! ### Eligibility (R482) -/

/-- R330: in a TWT service period of station `e` on link `l`, whether it counts as awake: from the start where the entry's
ANNOUNCED is 0, else once a frame has come from it. -/
def twtAwake (d : Dev) (e l : Nat) : Option Bool :=
  (d.air.sps.find? (fun p => p.link == l && (match tabFind d.air.table.ents p.entry with
    | some x => x.words.getD 0 0 % 2048 == e
    | none => false))).map
    (fun p => p.heard || (match tabFind d.air.table.ents p.entry with
      | some x => !(x.words.getD 2 0).testBit 20
      | none => false))

/-- TID `t` of station `e` may be served on link `l` (R330, R362, R364, R371). -/
def staServable (d : Dev) (e l t : Nat) : Bool :=
  (staState d e == stASSOC || staState d e == stAUTH) && !(staOf d e).stopping &&
    (twtAwake d e l).getD (!d.on L_ADDR_HI_DOZE 0 (lk e l) || psReleased d e l t)

/-- BLOCK of queue `q` at output `o`. -/
def blockOf (d : Dev) (o q : Nat) : Nat :=
  let g := qGroup d q
  if qState d q ≠ qEnabled || (ownerKind d q == 1 && !staServable d (ownerIndex d q / 16) (o - 6) (ownerIndex d q % 16)) then 6
  else match qList d q with
    | [] => 1
    | x :: _ =>
      if headSpilled d x then 5
      else if decide (o < 6) && (d.rd TM_OUT_STATUS_PAUSED 0 o).testBit g then 7
      else if decide (o < 9) && !(gateOpen d o g (nowTotal d) && fitsWindow d o g x) then 3
      else if !launchReady d o q x then 4
      else if !shaperAllows d false (qShaper d q) || !shaperAllows d (decide (o < 6)) (gShaper d o g) then 2
      else 0

/-- BLOCK of queue `q` as TM_Q_STATUS reports it: at its first output; 6 where it is placed nowhere. -/
def blockReport (d : Dev) (q : Nat) : Nat :=
  match qOutputs d q with
  | [] => 6
  | os => if os.any (fun o => blockOf d o q == 0) then 0 else blockOf d (os.headD 0) q

/-- Queue `q` is eligible at output `o`. A queue of a ring waits until its ring can be served (R200, R203). -/
def eligible (m : Memory) (d : Dev) (o q : Nat) : Bool :=
  isActive d pTm && blockOf d o q == 0 && (match qList d q with
    | x :: _ => !launchKeeps d o (qGroup d q) x &&
      (o != 10 || (ringRoom d m (ownerIndex d q) x.len && !(handedTo d 10).any (forRing d (ownerIndex d q))))
    | [] => false)

/-! ### Deficit round robin (R483–R486) -/

/-- Children are queues by number, and groups at 16,384 + index. -/
def grpChild (o g : Nat) : Nat := 16384 + gi o g

/-- Nodes: groups by index, and the non-strict groups of output `o` at 1,000 + o. -/
def rootNode (o : Nat) : Nat := 1000 + o

def quantumOf (d : Dev) (ch : Nat) : Nat :=
  max 64 (min 65536 (if ch < 16384 then d.rd TM_Q_QUANTUM_QUANTUM 0 ch else d.rd TM_GRP_QUANTUM_QUANTUM 0 (ch - 16384)))
def deficitOf (d : Dev) (ch : Nat) : Nat :=
  if ch < 16384 then d.rd TM_Q_DEFICIT_DEFICIT 0 ch else d.rd TM_GRP_DEFICIT_DEFICIT 0 (ch - 16384)
def setDeficit (ch v : Nat) (d : Dev) : Dev :=
  if ch < 16384 then d.put TM_Q_DEFICIT_DEFICIT v 0 ch else d.put TM_GRP_DEFICIT_DEFICIT v 0 (ch - 16384)

/-- Whether the child's turn has begun: its fresh flag is 0. -/
def setTurn (ch : Nat) (on : Bool) (d : Dev) : Dev :=
  tmMod (fun t => { t with inTurn := if on then addOnce t.inTurn ch else t.inTurn.filter (· != ch) }) d

/-- The current child of a node. -/
def setCur (node ch : Nat) (d : Dev) : Dev := tmMod (fun t => { t with cur := tabSet t.cur node ch }) d

/-- Children in round robin order from the current one. -/
def fromCurrent (d : Dev) (node : Nat) (l : List Nat) : List Nat :=
  let c := tabGet d.tm.cur node 0
  l.filter (fun x => decide (c ≤ x)) ++ l.filter (fun x => decide (x < c))

/-- The sweeps of R484 over the children `l` in order, until one pays; `cost` is the cost of a child's head. -/
def drrSweep (node : Nat) (cost : Nat → Nat) : Nat → List Nat → Dev → Option Nat × Dev
  | 0, _, d => (none, d)
  | _, [], d => (none, d)
  | fuel + 1, ch :: l, d =>
    let d1 := if has d.tm.inTurn ch then d else setTurn ch true (setDeficit ch (deficitOf d ch + quantumOf d ch) d)
    if cost ch ≤ deficitOf d1 ch then (some ch, setCur node ch (setDeficit ch (deficitOf d1 ch - cost ch) d1))
    else drrSweep node cost fuel (l ++ [ch]) (setCur node (ch + 1) (setTurn ch false d1))

/-- DRR over the eligible children: the committed ones first (R484). -/
def drr (node : Nat) (cost : Nat → Nat) (committed : Nat → Bool) (l : List Nat) (d : Dev) : Option Nat × Dev :=
  let a := l.filter committed
  let b := if a.isEmpty then l else a
  drrSweep node cost ((b.length + 1) * 4200) (fromCurrent d node b) d

/-- The cost of a manifest on output `o` (R483). -/
def costOf (d : Dev) (o : Nat) (x : Manifest) : Nat := x.len + d.rd TM_OUT_CFG_OVERHEAD 0 o

/-- The cost of the head of queue `q`. -/
def headCost (d : Dev) (o q : Nat) : Nat := match qList d q with
  | x :: _ => costOf d o x
  | [] => 0

/-- `drr` of group `g`. -/
def drrGroup (m : Memory) (o g : Nat) (d : Dev) : Option Nat × Dev :=
  drr (gi o g) (headCost d o) (fun q => shaperCommitted d (qShaper d q)) ((groupQueues d o g).filter (eligible m d o)) d

/-- `select` of R484: the queue chosen, with the deficits after it. -/
def tmSelect (m : Memory) (o : Nat) (d : Dev) : Option Nat × Dev :=
  let live := fun g => (groupQueues d o g).any (eligible m d o)
  match [7, 6, 5, 4, 3, 2, 1, 0].find? (fun g => d.on TM_GRP_CFG_STRICT 0 (gi o g) && live g) with
  | some g => drrGroup m o g d
  | none =>
    let gs := (List.range 8).filter (fun g => !d.on TM_GRP_CFG_STRICT 0 (gi o g) && live g)
    if gs.isEmpty then (none, d)
    else
      let peek := fun ch => match (drrGroup m o (ch - 16384 - 8 * o) d).1 with
        | some q => headCost d o q
        | none => 0
      let r := drr (rootNode o) peek (fun ch => shaperCommitted d (gShaper d o (ch - 16384 - 8 * o)))
        (gs.map (grpChild o)) d
      match r.1 with
      | none => (none, r.2)
      | some ch => drrGroup m o (ch - 16384 - 8 * o) r.2

/-- R485: children of output `o` that hold nothing have deficit 0 and no turn. -/
def tmSettle (o : Nat) (d : Dev) : Dev :=
  let rest := fun (ch node : Nat) (x : Dev) =>
    if deficitOf x ch = 0 ∧ !has x.tm.inTurn ch then x
    else
      let y := setTurn ch false (setDeficit ch 0 x)
      if tabGet y.tm.cur node 0 = ch then setCur node (ch + 1) y else y
  let d1 := (outQueues d o).foldl (fun x q => if (qList x q).isEmpty then rest q (gi o (qGroup x q)) x else x) d
  (List.range 8).foldl (fun x g =>
    if (groupQueues x o g).all (fun q => (qList x q).isEmpty) then rest (grpChild o g) (rootNode o) x else x) d1

/-! ### Decisions -/

/-- Why a decision drops the head `x` of queue `q` (R491, R504, R509, R512, R513). -/
inductive TmDrop where
  | police (s : Nat) | oversize | far | late | deadline
  deriving DecidableEq, Repr

/-- The drop that applies, if any. -/
def dropOf (d : Dev) (o q : Nat) (x : Manifest) : Option TmDrop :=
  let g := qGroup d q
  if timeKind x == 2 && o != 9 && decide (timeOf (nowTotal d) x < nowTotal d) then some .deadline
  else if launches d o x && launchFar d x then some .far
  else if lateOf d o q x = .dropped then some .late
  else if oversize d o g x then some .oversize
  else match shaperDrops d (qShaper d q) with
    | some s => some (.police s)
    | none => (shaperDrops d (gShaper d o g)).map .police

/-- Counts a drop at output `o`. -/
def countDrop (o : Nat) (k : TmDrop) (d : Dev) : Dev :=
  match k with
  | .police s => count TM_SHP_DROP_COUNT 0 s (count TM_DROP_POLICE_COUNT 0 o d)
  | .oversize => raiseBit pTm 4 (count TM_OVERSIZE_COUNT 0 o d)
  | .far => raiseBit pTm 5 (count TM_DROP_FAR_COUNT 0 o d)
  | .late => raiseBit pTm 3 (count TM_DROP_LATE_COUNT 0 o d)
  | .deadline => count TM_DROP_DEADLINE_COUNT 0 o d

/-- The head of queue `q` leaves the queue. -/
def tmTake (q : Nat) (d : Dev) : Dev :=
  tmMod (fun t => { t with ripe := t.ripe.filter (· != q) }) (dequeue q d).2

/-- A head of queue `q` taken on output `o` answers what released it to a dozing station (R364). -/
def tmRelease (o q : Nat) (d : Dev) : Dev :=
  let e := ownerIndex d q / 16
  if decide (6 ≤ o) && decide (o < 9) && ownerKind d q == 1 && (twtAwake d e (o - 6)).isNone then
    psTook e (o - 6) (ownerIndex d q % 16) d
  else d

/-- A dropped head (R485). -/
def tmDropHead (o q : Nat) (x : Manifest) (k : TmDrop) (d : Dev) : Dev :=
  countDrop o k (refDown x.head (frameDropped x (tmTake q d)))

/-- A head is served on output `o`: shapers are charged, TM_DEQ counts, a late frame is marked. -/
def tmServe (o q : Nat) (x : Manifest) (d : Dev) : Dev :=
  let g := qGroup d q
  let late := lateOf d o q x
  let d1 := (((qShaper d q).toList ++ (gShaper d o g).toList).foldl (fun l s => addOnce l s) []).foldl
    (chargeShaper (costOf d o x) (if o < 6 then wireTime d o x else 0)) d
  let d2 := if late = .sent then count TM_LATE_SENT_COUNT 0 o d1
    else if late = .tolerated then count TM_LATE_TOL_COUNT 0 o d1 else d1
  let d3 := if timeKind x == 1 && !feat d pTm 2 3 && decide (o ≤ 8) then count TM_LAUNCH_IGNORED_COUNT 0 o d2 else d2
  handTo o (if late = .no then x else setFlag x fLate true) (count TM_DEQ_COUNT 0 o (tmRelease o q (tmTake q d3)))

/-- Decisions of output `o`: one that drops a head is followed by the next at once (R485). -/
def tmDecide (m : Memory) : Nat → Nat → Dev → Dev
  | 0, _, d => d
  | fuel + 1, o, d0 =>
    let d := tmSettle o d0
    let r := tmSelect m o d
    match r.1 with
    | none => d
    | some q =>
      match qList d q with
      | [] => d
      | x :: _ =>
        match dropOf d o q x with
        | some k => tmDecide m fuel o (tmDropHead o q x k d)
        | none => tmSettle o (tmServe o q x r.2)

/-- R484: output `o` requests a dequeue. -/
def tmDecision (o : Nat) (m : Memory) (d : Dev) : Dev :=
  if isActive d pTm && decide (o < 12) then tmDecide m ((d.q.lists.map (·.2.length)).sum + 1) o (evalOutput o d) else d

/-- R304, R487: an occurrence takes the head of queue `q` on link `l`, where the queue is eligible. -/
def airOccDequeue (l q : Nat) (d0 : Dev) : Dev :=
  let o := 6 + l
  let d := evalOutput o d0
  if !isActive d pTm || !has (qOutputs d q) o || blockOf d o q != 0 then d0
  else match qList d q with
    | [] => d0
    | x :: _ => match dropOf d o q x with
      | some k => tmDropHead o q x k d
      | none => tmServe o q x d

/-- R510, R511: the instant at which the head of queue `q` may be dequeued for its launch time arrives. -/
def launchArrive (q : Nat) (d : Dev) : Dev :=
  match qList d q with
  | [] => d
  | x :: _ =>
    if (qOutputs d q).any (fun o => launches d o x && launchReady d o q x) then
      tmMod (fun t => { t with ripe := addOnce t.ripe q }) d
    else d

/-- R518: a soft reset of TM; frames already dequeued complete. -/
def tmSoftReset (d : Dev) : Dev := tmMod (fun t => { t with shapers := [], inTurn := [], cur := [], ripe := [] }) d

/-- The CBS shapers of the groups of output `n` are evaluated before its gates change. -/
def cbsBefore (n : Nat) (d : Dev) : Dev :=
  if n < 6 then ((List.range 8).filterMap (gShaper d n)).foldl (fun x s => evalShaper s x) d else d

/-! ### Meanings -/

def execTmDecision (o : Nat) (s : State) : Host.Outcome State Fault Refusal := upd s (tmDecision o s.mem)

def execAirOccDequeue (l q : Nat) (s : State) : Host.Outcome State Fault Refusal := upd s (airOccDequeue l q)

def execLaunchEligible (q : Nat) (s : State) : Host.Outcome State Fault Refusal := upd s (launchArrive q)

def execShaperApply (m : Nat) (s : State) : Host.Outcome State Fault Refusal :=
  upd s (cmdWrite (pTm + 3) 0x058 m (fun d => shaperApply m (d.rd TM_SHP_IDX_SHAPER) d))

def execShaperHoldEnd (s : Nat) (st : State) : Host.Outcome State Fault Refusal := upd st (evalShaper s)

def execGateTakeover (n : Nat) (s : State) : Host.Outcome State Fault Refusal :=
  upd s (fun d => gateTakeover n (cbsBefore n d))

def execGateChange (n : Nat) (s : State) : Host.Outcome State Fault Refusal :=
  upd s (fun d => if gateActs d n then gateRefresh n (cbsBefore n d) else d)

end Sys2Proof.Machine
end

