-- ==== Sys2Proof/Machine/Eth.lean ====
section
/-! DEFINITION. The Ethernet MACs and the PCIe controller (spec/19_lanes.md R721–R728, with R527–R529 for the stamps).
-/

namespace Sys2Proof.Machine

open Sys2Proof

/-! ### Stamps (R527–R529) -/

/-- The ingress and egress stamps of port `p`, in 2^−16 ns, of a frame whose SFD crosses the PCS `q` quarters of a
nanosecond after the tick. -/
def stampIn (p q : Nat) (d : Dev) : Nat :=
  fullAdd (fullNow d) ((16384 * (q % 8) : Nat) - 4096 * signed 16 (d.rd TIME_PORT_RXLAT_LAT 0 p))
def stampOut (p q : Nat) (d : Dev) : Nat :=
  fullAdd (fullNow d) ((16384 * (q % 8) : Nat) + 4096 * signed 16 (d.rd TIME_PORT_TXLAT_LAT 0 p))

/-- A frame's outermost VLAN tag: its PCP (R721). -/
def isTag (t : Nat) : Bool := t == 0x8100 || t == 0x88A8
def tagPrio (f : Bytes) : Option Nat := if isTag (be f 12 2) then some (be f 14 1 / 32) else none

/-- The PTP header of a message at byte `o`, if it is an event message: messageType and sequenceId. -/
def ptpHeader (f : Bytes) (o : Nat) : Option (Nat × Nat) :=
  let t := be f o 1 % 16
  if t < 4 ∧ o + 34 ≤ f.length then some (t, be f (o + 30) 2) else none

/-- The PTP event message in an Ethernet frame (R529): over EtherType 0x88F7, or in UDP to port 319, one tag at most
before either. -/
def ptpEvent (d : Dev) (p : Nat) (f : Bytes) : Option (Nat × Nat) :=
  let o := if isTag (be f 12 2) then 16 else 12
  let t := be f o 2
  let udp := fun (l4 : Nat) =>
    if be f (l4 + 2) 2 = 319 ∧ d.on TIME_FIFO_CFG_UDP 0 p then ptpHeader f (l4 + 8) else none
  if t = 0x88F7 then (if d.on TIME_FIFO_CFG_L2 0 p then ptpHeader f (o + 2) else none)
  else if t = 0x0800 ∧ be f (o + 11) 1 = 17 ∧ be f (o + 8) 2 % 8192 = 0 then udp (o + 2 + 4 * (be f (o + 2) 1 % 16))
  else if t = 0x86DD ∧ be f (o + 8) 1 = 17 then udp (o + 42)
  else none

/-- A frame of port `p` received (`dir` 0) or sent (1) at the full-form stamp `t` enters the stamp FIFO. -/
def ptpStamp (p dir t : Nat) (f : Bytes) (d : Dev) : Dev :=
  match ptpEvent d p f with
  | some e => ptpPush p ⟨dir, e.1, e.2, t⟩ d
  | none => d

/-! ### Reception (R712, R721–R723) -/

/-- ETH_CFG.MAXLEN of port `p`; values outside 64–9,216 act as the nearer end. -/
def maxLen (d : Dev) (p : Nat) : Nat := max 64 (min 9216 (d.rd ETH_CFG_MAXLEN p))

/-- The priority of a frame: its outermost PCP, or UNTAG_PRIO. -/
def ethPrio (d : Dev) (p : Nat) (f : Bytes) : Nat := (tagPrio f).getD (d.rd ETH_CFG_UNTAG_PRIO p)

/-- A received PAUSE or PFC frame is consumed (R722). -/
def pauseRx (p : Nat) (f : Bytes) (d : Dev) : Dev :=
  let d1 := count ETH_RX_PAUSE_COUNT p 0 d
  let cur := (ethOf d p).paused
  if be f 14 2 = 1 then
    if !d.on ETH_CFG_PAUSE_RX p then d1
    else if be f 16 2 = 0 then setPaused p (cur.filter (· != 8)) d1
    else setPaused p (addOnce cur 8) d1
  else
    let named := (List.range 8).filter (fun k => (be f 16 2).testBit k && (d.rd ETH_PFC_RX_EN_EN p).testBit k)
    setPaused p (named.foldl (fun l k =>
      if be f (18 + 2 * k) 2 = 0 then l.filter (· != k) else addOnce l k) cur) d1

/-- Under PFC, a frame that meets Throttle or Refuse has XOFF sent for its priority (R723). -/
def pfcMeets (p prio : Nat) (d : Dev) : Dev :=
  if d.on ETH_CFG_PFC_EN p ∧ 2 ≤ d.rd SERAI_CLASS_STATE_STATE 0 1 then xoffSend p prio d else d

/-- A frame that passes the checks is admitted for class 1 by the port's maximum frame length, and handed on; a refused
one counts in ETH_RX_REFUSED. -/
def ethAdmit (p t : Nat) (f : Bytes) (d : Dev) (m : Memory) : Dev × Memory :=
  let prio := ethPrio d p f
  let r := admitFrame 1 (maxLen d p) d
  match r.1 with
  | none => (count ETH_RX_REFUSED_COUNT p 0 (pfcMeets p prio r.2), m)
  | some h =>
    let d1 := trimCaravan h f.length (pfcMeets p prio r.2)
    let m1 := writeFrame d1 h f m
    let d2 := clearPoison (frameWords d1 h 0 f.length) d1
    let st := manifestForm t
    (ptpStamp p 0 t f (toWaystation
      { head := h, tc := prio, len := f.length, flags := 2 ^ fStampValid, src := 0x3000 + p, stampNs := st.1, stampS := st.2 }
      (count ETH_RX_OK_COUNT p 0 d2)), m1)

/-- A frame at the receiver of MAC `p`, without its FCS. -/
def ethReceive (p q : Nat) (f : Bytes) (fcsOk : Bool) (d : Dev) (m : Memory) : Dev × Memory :=
  let n := macLane d p
  if n < 8 ∧ capxRate d n ∧ be f 12 2 = d.rd LANE_CAPX_CFG_ETYPE n then (capxRx n f fcsOk d, m)
  else if !fcsOk then (count ETH_RX_FCS_ERR_COUNT p 0 d, m)
  else if f.length < 60 then (count ETH_RX_RUNT_COUNT p 0 d, m)
  else if maxLen d p < f.length then (count ETH_RX_LONG_COUNT p 0 d, m)
  else if be f 12 2 = 0x8808 ∧ (be f 14 2 = 1 ∨ be f 14 2 = 0x0101) then (pauseRx p f d, m)
  else if d.rst.inboundClosed then (count ETH_RX_REFUSED_COUNT p 0 d, m)
  else ethAdmit p (stampIn p q d) f d m

/-- MAC `p` is in service: its page is Active, its link up, and its lane passes MAC data (R712, R719). -/
def ethUp (d : Dev) (p : Nat) : Bool :=
  decide (p < 6) && isActive d (pEth p) && d.on ETH_STATUS_LINK_UP p && !prbsOn d (macLane d p)

/-- A frame arrives on the wire of port `p`. A far-end loopback sends it back as well (R718). -/
def ethFrameRx (p q : Nat) (f : Bytes) (fcsOk : Bool) (d : Dev) (m : Memory) : Dev × Memory :=
  if !ethUp d p || lpbkNear d (macLane d p) then (d, m)
  else
    let fcs := crc32 0xFFFFFFFF f
    let d1 := if lpbkMode d (macLane d p) = 3 then
      emit (.ethFrame p (f ++ toBytes 4 (if fcsOk then fcs else fcs ^^^ 0xFFFFFFFF))) d else d
    ethReceive p q f fcsOk d1 m

/-! ### Transmission (R721, R722, R139, R466) -/

/-- The frame of `x` as port `p` sends it, without its FCS: the tag of its egress, and padding to 60 bytes. -/
def ethBytes (p : Nat) (x : Manifest) (d : Dev) (m : Memory) : Bytes :=
  let f := readFrame d m x.head 0 x.len
  let g := match tabFind d.q.tags x.head with
    | some t => if t.2.2.testBit p then
        f.take 12 ++ [0x81, 0x00] ++ toBE 2 (t.2.1 % 8 * 8192 + t.1 % 4096) ++ f.drop 12 else f
    | none => f
  g ++ List.replicate (60 - g.length) 0

/-- The frame starts: its egress stamp goes to its descriptor and to the stamp FIFO. -/
def ethStamps (p q : Nat) (x : Manifest) (f : Bytes) (d : Dev) : Dev :=
  let t := stampOut p q d
  let st := manifestForm t
  let late := flagOf x fLate && d.rd QMGR_Q_CFG_LATE_POLICY 0 x.queue == 1
  ptpStamp p 1 t f (ringResult x (if late then 1 else 0) st.1 st.2 d)

/-- MAC `p` sends the frame of `x`. Where a poisoned word is found before the frame starts, the frame is dropped; after
that, it ends with an invalid FCS. Which comes first is open. -/
def ethSend (p q frags : Nat) (x : Manifest) (d : Dev) (m : Memory) : Dev × Memory :=
  let lane := macLane d p
  let f := ethBytes p x d m
  let fcs := crc32 0xFFFFFFFF f
  if lpbkMode d lane = 3 then
    (refDown x.head (frameDropped x (count ETH_TX_LPBK_DROP_COUNT p 0 d)), m)
  else if framePoisoned d x.head 0 x.len then
    let r := drawBit (count ETH_TX_POISON_COUNT p 0 d)
    if r.1 then (refDown x.head (frameDropped x r.2), m)
    else
      (refDown x.head (emit (.ethFrame p (f ++ toBytes 4 (fcs ^^^ 0xFFFFFFFF))) (ethStamps p q x f r.2)), m)
  else
    let d1 := if preemptible d p (qGroup d x.queue) x then bump TM_PREEMPT_COUNT 0 p (frags - 1) d else d
    let d2 := refDown x.head (count ETH_TX_OK_COUNT p 0
      (emit (.ethFrame p (f ++ toBytes 4 fcs)) (ethStamps p q x f d1)))
    if lpbkNear d lane then ethReceive p q f true d2 m else (d2, m)

/-- MAC `p` may start a frame: a received PAUSE stops every one. -/
def ethMayStart (d : Dev) (p : Nat) : Bool := ethUp d p && !has (ethOf d p).paused 8

/-- R712: the link drops while a frame is sent (`tx`) or received (`rx`). -/
def ethCut (p : Nat) (tx rx : Bool) (d : Dev) : Dev :=
  let up := isActive d (pEth p) && d.on ETH_STATUS_LINK_UP p
  let d1 := if rx && up then count ETH_RX_TRUNC_COUNT p 0 d else d
  if tx && up then
    match takeHanded p (fun _ => true) d1 with
    | (some x, d2) => refDown x.head (count ETH_TX_ABORT_COUNT p 0 (ethStamps p 0 x [] d2))
    | (none, d2) => d2
  else d1

/-- R711: LOS or LOL at lane `n`. -/
def laneLost (n : Nat) (tx rx : Bool) (cause flag : Fld) (d : Dev) : Dev :=
  let d1 := lanePut flag 1 n d
  if laneState d n < 2 then d1
  else
    let d2 := laneCount cause n d1
    let d3 := match (if laneLink d n ∧ laneProto d n ≠ 7 then laneMac d n else none) with
      | some p => ethCut p tx rx d2
      | none => d2
    laneBack n 1 d3

/-! ### Meanings -/

/-- R711: LOS sets in states 1–4. -/
def execLaneLos (n : Nat) (tx rx : Bool) (s : State) : Host.Outcome State Fault Refusal :=
  upd s (onLane n (fun d =>
    if 1 ≤ laneState d n ∧ laneState d n ≤ 4 then laneLost n tx rx LANE_LOS_EVENTS_COUNT LANE_STATUS_LOS d else d))

/-- R711: LOL sets in states 3–5. -/
def execLaneLol (n : Nat) (tx rx : Bool) (s : State) : Host.Outcome State Fault Refusal :=
  upd s (onLane n (fun d =>
    if 3 ≤ laneState d n ∧ laneState d n ≤ 5 then laneLost n tx rx LANE_LOL_EVENTS_COUNT LANE_STATUS_LOL d else d))

def execEthFrameRx (p quarter : Nat) (frame : List Byte) (fcsOk : Bool) (s : State) : Host.Outcome State Fault Refusal :=
  updMem s (ethFrameRx p quarter frame fcsOk)

/-- R722. -/
def execPauseExpire (p prio : Nat) (s : State) : Host.Outcome State Fault Refusal :=
  upd s (fun d => if p < 6 ∧ has (ethOf d p).paused prio then setPaused p ((ethOf d p).paused.filter (· != prio)) d else d)

def execEthFrameTx (p quarter frags : Nat) (s : State) : Host.Outcome State Fault Refusal :=
  updMem s (fun d m =>
    if !ethMayStart d p then (d, m)
    else match takeHanded p (fun _ => true) d with
      | (some x, d1) => ethSend p quarter frags x d1 m
      | (none, _) => (d, m))

/-- R723: an XOFF in force is repeated while the class is in Throttle or Refuse. -/
def execXoffRefresh (p prio : Nat) (s : State) : Host.Outcome State Fault Refusal :=
  upd s (fun d =>
    if p < 6 ∧ has (xoffOf d p) prio ∧ isActive d (pEth p) ∧ 2 ≤ d.rd SERAI_CLASS_STATE_STATE 0 1 then
      sendPause p prio (d.rd ETH_PAUSE_QUANTA p) d else d)

/-- R724: the third failure sets VERIFY to failed. -/
def execPreemptVerifyTimeout (p : Nat) (s : State) : Host.Outcome State Fault Refusal :=
  upd s (fun d =>
    if p < 6 ∧ d.rd ETH_STATUS_VERIFY p = 1 then
      let n := (ethOf d p).verifies + 1
      let d1 := ethMod p (fun e => { e with verifies := n }) d
      if n < 3 then emit (.verify p) d1
      else raiseBit (pEth p) 4 (fault0 (pEth p) 0x40 0 p (d1.put ETH_STATUS_VERIFY 3 p))
    else d)

/-- R724: the verify succeeds. -/
def execPreemptVerifyResponse (p : Nat) (s : State) : Host.Outcome State Fault Refusal :=
  upd s (fun d =>
    if p < 6 ∧ d.rd ETH_STATUS_VERIFY p = 1 then (d.put ETH_STATUS_VERIFY 2 p).put ETH_STATUS_PREEMPT_ACTIVE 1 p else d)

/-! ### PCIe (R119, R726–R728) -/

/-- The outbound access that PCIE_OB_CMD starts: only as a root port, one at a time. A posted write is done at once. -/
def obStart (op be : Nat) (d : Dev) : Dev :=
  if d.on PCIE_CFG_MODE || !isActive d pPcie || d.on PCIE_OB_CMD_BUSY then d
  else if !d.on PCIE_STATUS_DL_UP then d.put PCIE_OB_CMD_RESULT 4
  else
    let d1 := emit (.pcieRequest op (d.rd PCIE_OB_ADDR_LO_ADDR + 2 ^ 32 * d.rd PCIE_OB_ADDR_HI_ADDR) (be % 16)
      (if op % 2 = 1 then d.rd PCIE_OB_DATA_DATA else 0)) d
    if op = 1 then d1.put PCIE_OB_CMD_RESULT 0
    else { d1.put PCIE_OB_CMD_BUSY 1 with pcie := { d1.pcie with ob := some { op := op } } }

/-- A write of PCIE_OB_CMD by its word. -/
def obWrite (v : Nat) (d : Dev) : Dev := obStart (v % 4) (bitsOf v 7 4) d

def execPcieObMemRead (m be : Nat) (s : State) : Host.Outcome State Fault Refusal :=
  upd s (cmdWrite pPcie 0x05C m (obStart 0 be))

def execPcieObMemWrite (m be : Nat) (s : State) : Host.Outcome State Fault Refusal :=
  upd s (cmdWrite pPcie 0x05C m (obStart 1 be))

def execPcieObCfgRead (m be : Nat) (s : State) : Host.Outcome State Fault Refusal :=
  upd s (cmdWrite pPcie 0x05C m (obStart 2 be))

def execPcieObCfgWrite (m be : Nat) (s : State) : Host.Outcome State Fault Refusal :=
  upd s (cmdWrite pPcie 0x05C m (obStart 3 be))

/-- R727: the completion of the outbound access; a read that is done leaves its data. -/
def execPcieCompletion (status data : Nat) (s : State) : Host.Outcome State Fault Refusal :=
  upd s (fun d => match d.pcie.ob with
    | none => d
    | some r => obEnd (min 2 status) (if r.op % 2 = 0 ∧ status = 0 then d.put PCIE_OB_DATA_DATA data else d))

/-- R726: a timed-out buffer read completes its descriptor with STATUS 0x04. -/
def execPcieCompletionTimeout (ring : Option Nat) (s : State) : Host.Outcome State Fault Refusal :=
  updMem s (fun d m => match ring with
    | none => (obTimeout d, m)
    | some n => match txNext d n with
      | some i => if ringIsBuffer d n then txDescriptor n i none (count PCIE_CPL_TO_COUNT 0 0 d) m else (d, m)
      | none => (d, m))

def execPcieLinkDown (s : State) : Host.Outcome State Fault Refusal := upd s pcieDown

/-- R119: EP_READY ends Configuration Request Retry Status. -/
def execEpReadyWrite (m : Nat) (s : State) : Host.Outcome State Fault Refusal :=
  upd s (cmdWrite pPcie 0x040 m (fun d => d.put PCIE_CFG_EP_READY 1))

end Sys2Proof.Machine
end

