-- ==== Sys2Proof/Machine/OutrPhy.lean ====
section
/-! DEFINITION. The long-range mode of Outrider (spec/10_outrider.md R389–R393), airtimes, and the MAC frames of IEEE
802.15.4 as far as the device reads and writes them (PRESUMED: log entry 62). -/

namespace Sys2Proof.Machine

open Sys2Proof

/-! ### The long-range mode -/

/-- R390: `n` chips of the LFSR with a tap, from its state. -/
def lfsrChips (w tap : Nat) : Nat → Nat → List Bool
  | 0, _ => []
  | n + 1, st =>
    let fb := (st.testBit 0) != (st.testBit tap)
    st.testBit 0 :: lfsrChips w tap n (st / 2 + b2n fb * 2 ^ (w - 1))

/-- R390: the spreading code of mode codes 0x9, 0xA and 0xB. -/
def spreadCode (mode : Nat) : List Bool :=
  match mode with
  | 0x9 => [true, true, true, false, false, true, false, false]
  | 0xA => lfsrChips 5 2 31 1 ++ [false]
  | _ => lfsrChips 7 3 127 1 ++ [false]

/-- R389: the chips of a symbol that carries bit `b`. -/
def symbolChips (mode : Nat) (b : Bool) : List Bool := (spreadCode mode).map (fun c => c != b)

/-- The 16 symbols of the SFD (R391). -/
def lrSfd : List Bool :=
  [true, true, true, false, true, false, true, true, false, false, false, true, false, false, true, false]

/-- R392: the CRC-8 of bits in sending order. -/
def crc8 (l : List Bool) : Nat :=
  l.foldl (fun c b => let s := c * 2 % 256; if (c.testBit 7) != b then s ^^^ 0x07 else s) 0xFF

/-- `n` bits of `v`, bit 0 first. -/
def bitsLow (v n : Nat) : List Bool := (List.range n).map v.testBit

/-- R392: the PHR of a PSDU of `len` octets. -/
def lrPhr (len : Nat) (longFcs : Bool) : List Bool :=
  let h := bitsLow (len % 2048 + (if longFcs then 0 else 2 ^ 11)) 16
  h ++ bitsLow (crc8 h) 8

/-- R393: `n` bits of the PN9 sequence, from the nine bits before them, oldest first. -/
def pn9 : Nat → List Bool → List Bool
  | 0, _ => []
  | n + 1, s =>
    let b := (s.getD 0 true) != (s.getD 5 true)
    b :: pn9 n (s.drop 1 ++ [b])

/-- R393: the whitened bits of a PSDU, least significant first of each octet. -/
def lrWhiten (psdu : Bytes) : List Bool :=
  let l := psdu.flatMap (fun b => bitsLow b.toNat 8)
  List.zipWith (fun a b => a != b) l (pn9 l.length (List.replicate 9 true))

/-- The parity of `v`. -/
def parity : Nat → Nat → Bool
  | 0, _ => false
  | n + 1, v => (v.testBit 0) != parity n (v / 2)

/-- R393: the convolutional code, generators 171 and 133 octal, from register `st` of the six bits before. -/
def convCode : Nat → List Bool → List Bool
  | _, [] => []
  | st, b :: l =>
    let v := b2n b * 64 + st
    parity 7 (v &&& 0o171) :: parity 7 (v &&& 0o133) :: convCode (v / 2) l

/-- R391: the bits of the symbols of a long-range PPDU. `psdu` carries its FCS. -/
def lrSymbols (preamble : Nat) (longFcs : Bool) (psdu : Bytes) : List Bool :=
  List.replicate preamble false ++ lrSfd ++
  convCode 0 (lrPhr psdu.length longFcs ++ lrWhiten psdu ++ List.replicate 6 false)

/-- The symbol of a long-range mode in µs. -/
def lrSymbolUs (mode : Nat) : Nat := if mode = 9 then 4 else if mode = 10 then 16 else 64

/-- The airtime in µs of a PSDU of `n` octets, FCS included: O-QPSK and long-range by their rates, else `dur`. -/
def outrAirtime (mode preamble n dur : Nat) : Nat :=
  if mode = 0 then 32 * (n + 6)
  else if 9 ≤ mode ∧ mode ≤ 11 then lrSymbolUs mode * (preamble + 16 + 2 * (24 + 8 * n + 6))
  else dur

/-- R385: the longest PSDU of a mode. -/
def longestPsdu (mode : Nat) : Nat := if mode = 0 then 127 else 2047

/-- The CRC-16 of IEEE 802.15.4. -/
def crc16Bit (c : Nat) : Nat := if c % 2 = 1 then (c / 2) ^^^ 0x8408 else c / 2
def crc16 (bs : Bytes) : Nat :=
  bs.foldl (fun c b => (List.range 8).foldl (fun x _ => crc16Bit x) (c ^^^ b.toNat)) 0

/-- A PSDU with its FCS. -/
def withFcs (longFcs : Bool) (b : Bytes) : Bytes :=
  b ++ (if longFcs then toBytes 4 (crc32 0xFFFFFFFF b) else toBytes 2 (crc16 b))

/-! ### MAC frames -/

/-- An address in a MAC frame. -/
inductive OutrAddr where
  | none | short (a : Nat) | ext (a : Nat)
  deriving DecidableEq, Repr

/-- What the device reads of a MAC frame: TYPE, whether an acknowledgement is requested, the frame version, the sequence
number and its offset, the destination PAN ID and addresses, and the offsets of the header IEs (none where there are
none) and of the payload. -/
structure OutrMac where
  type : Nat
  ackReq : Bool
  version : Nat
  seq : Option Nat
  dstPan : Option Nat
  dst : OutrAddr
  src : OutrAddr
  ies : Option Nat
  payload : Nat
  deriving DecidableEq, Repr

/-- Little-endian number of `n` bytes at offset `o`. -/
def leAt (b : Bytes) (o n : Nat) : Nat := ofBytes ((b.drop o).take n)

/-- An address of mode `m` at offset `o`. -/
def addrAt (b : Bytes) (m o : Nat) : OutrAddr := match m with
  | 2 => .short (leAt b o 2)
  | 3 => .ext (leAt b o 8)
  | _ => .none
def addrLen (m : Nat) : Nat := if m = 2 then 2 else if m = 3 then 8 else 0

/-- Whether the destination and source PAN IDs stand in a frame. -/
def pansPresent (version dm sm : Nat) (comp : Bool) : Bool × Bool :=
  if version < 2 then (decide (dm ≠ 0), decide (sm ≠ 0) && !(comp && decide (dm ≠ 0)))
  else if dm = 0 ∧ sm = 0 then (comp, false)
  else if sm = 0 then (!comp, false)
  else if dm = 0 then (false, !comp)
  else if dm = 3 ∧ sm = 3 then (!comp, false)
  else (true, !comp)

/-- The end of the header IEs from offset `o`, and where the payload begins; the payload IEs, if any, are skipped. -/
def iesEnd : Nat → Bytes → Bool → Nat → Nat
  | 0, _, _, o => o
  | f + 1, b, inPayload, o =>
    if b.length < o + 2 then o
    else
      let w := leAt b o 2
      if w / 32768 = 0 then
        let id := w / 128 % 256
        let next := o + 2 + w % 128
        if inPayload then o
        else if id = 0x7F then next
        else if id = 0x7E then iesEnd f b true next
        else iesEnd f b false next
      else if !inPayload then o
      else
        let next := o + 2 + w % 2048
        if w / 2048 % 16 = 15 then next else iesEnd f b true next

/-- Reads the MAC header. -/
def outrMac (b : Bytes) : OutrMac :=
  let fc := leAt b 0 2
  let version := fc / 4096 % 4
  let noSeq := fc.testBit 8 && decide (version = 2)
  let o1 := if noSeq then 2 else 3
  let dm := fc / 1024 % 4
  let sm := fc / 16384 % 4
  let pans := pansPresent version dm sm (fc.testBit 6)
  let o2 := o1 + (if pans.1 then 2 else 0)
  let o3 := o2 + addrLen dm + (if pans.2 then 2 else 0)
  let o4 := o3 + addrLen sm
  let sec := leAt b o4 1
  let o5 := if fc.testBit 3 ∧ version ≠ 0 then
      o4 + 1 + (if sec.testBit 5 then 0 else 4) + [0, 1, 5, 9].getD (sec / 8 % 4) 0 else o4
  let hasIes := fc.testBit 9 && decide (version = 2)
  { type := fc % 8, ackReq := fc.testBit 5, version := version, seq := if noSeq then none else some (leAt b 2 1),
    dstPan := if pans.1 then some (leAt b o1 2) else none, dst := addrAt b dm o2, src := addrAt b sm o3,
    ies := if hasIes then some o5 else none, payload := if hasIes then iesEnd b.length b false o5 else o5 }

/-- The CSL IE among the header IEs from offset `o`: phase and period. -/
def cslIe : Nat → Bytes → Nat → Option (Nat × Nat)
  | 0, _, _ => none
  | f + 1, b, o =>
    if b.length < o + 2 then none
    else
      let w := leAt b o 2
      if w / 32768 = 1 ∨ w / 128 % 256 = 0x7E ∨ w / 128 % 256 = 0x7F then none
      else if w / 128 % 256 = 0x1A ∧ 4 ≤ w % 128 then some (leAt b (o + 2) 2, leAt b (o + 4) 2)
      else cslIe f b (o + 2 + w % 128)

/-- The offset of the content of a TSCH Synchronization IE among nested IEs from `o` to `stop`. -/
def syncNested : Nat → Bytes → Nat → Nat → Option Nat
  | 0, _, _, _ => none
  | f + 1, b, o, stop =>
    if stop < o + 2 then none
    else
      let w := leAt b o 2
      if w / 32768 = 0 then
        (if w / 256 % 128 = 0x1A then some (o + 2) else syncNested f b (o + 2 + w % 256) stop)
      else syncNested f b (o + 2 + w % 2048) stop

/-- The offset of the content of a TSCH Synchronization IE among the IEs from `o`. -/
def syncIe : Nat → Bytes → Nat → Option Nat
  | 0, _, _ => none
  | f + 1, b, o =>
    if b.length < o + 2 then none
    else
      let w := leAt b o 2
      if w / 32768 = 0 then (if w / 128 % 256 = 0x7F then none else syncIe f b (o + 2 + w % 128))
      else if w / 2048 % 16 = 1 then syncNested f b (o + 2) (o + 2 + w % 2048)
      else if w / 2048 % 16 = 15 then none
      else syncIe f b (o + 2 + w % 2048)

/-- Bytes with `v` put at offset `o`. -/
def patch (b : Bytes) (o : Nat) (v : Bytes) : Bytes := b.take o ++ v ++ b.drop (o + v.length)

end Sys2Proof.Machine
end

