-- ==== Sys2Proof/Machine/Units.lean ====
section
/-! DEFINITION. The service level and the units of SYS_UNIT_STATE (spec/03_bringup.md R101–R103, R110, R111). -/

namespace Sys2Proof.Machine

open Sys2Proof

/-- Service levels (R101). -/
def lvVERIFY : Nat := 1
def lvRECOVERY : Nat := 2
def lvREDUCED : Nat := 3
def lvJOINING : Nat := 4
def lvDEGRADED : Nat := 5
def lvFULL : Nat := 6
def lvSTOPPING : Nat := 7

def level (d : Dev) : Nat := d.rd SYS_STATUS_LEVEL

/-- SERVICE_LEVEL changes: LEVEL_CHANGE (R103). -/
def setLevel (v : Nat) (d : Dev) : Dev := if level d = v then d else raiseBit 0 3 (d.put SYS_STATUS_LEVEL v)

/-- The state of unit `u`: 0 idle, 1 preparing, 2 READY, 3 FAILED. -/
def unitState (d : Dev) (u : Nat) : Nat := d.rd SYS_UNIT_STATE_UNIT 0 u
def unitReady (d : Dev) (u : Nat) : Bool := unitState d u == 2

/-- A page of the block of unit `u`. -/
def unitPage (u : Nat) : Nat :=
  if u = 0 then 0x80 else if u = 1 then 0xB0 else if u = 2 then 0xB4 else if u = 3 then 0x30 else if u = 4 then 0x35
  else if u = 5 then 0x3A else if u = 6 then 0x40 else if u = 7 then 0x58 else 0xC0 + (u - 8)

/-- The variant has unit `u` (R2). -/
def unitPresent (d : Dev) (u : Nat) : Bool := decide (u < 16) && present d (unitPage u)

/-- The units that unit `u` waits for (R109). -/
def unitNeeds (u : Nat) : List Nat := if u = 0 ∨ 8 ≤ u then [] else if u = 6 then [4, 5] else [0]

/-- Unit `u` waits in PREPARING for a prerequisite (R111). -/
def unitWaits (d : Dev) (u : Nat) : Bool := unitState d u == 1 && (unitNeeds u).any (fun r => !unitReady d r)

/-- Unit `u` counts toward FULL (R101). -/
def unitCounted (d : Dev) (u : Nat) : Bool :=
  (d.rd SYS_FULL_MASK_COUNT).testBit u && unitPresent d u &&
  (if 3 ≤ u ∧ u ≤ 5 then accepted d 1 0 else if u = 6 then accepted d 1 2 else if u = 7 then accepted d 1 4 else true)

/-- The counted units. -/
def countedUnits (d : Dev) : List Nat := (List.range 16).filter (unitCounted d)

/-- SERVICE_LEVEL becomes `v` with the counted units settled; SYS_FULL_TIME shows the first such time. -/
def settledLevel (v : Nat) (d : Dev) : Dev :=
  setLevel v (d.putIf (!d.on SYS_FULL_TIME_TIME) SYS_FULL_TIME_TIME ((d.tb.elapsed - d.rst.releaseTick) / 500))

/-- SERVICE_LEVEL follows the counted units (R101, R102). -/
def levelFollow (d : Dev) : Dev :=
  let us := countedUnits d
  let all := us.all (unitReady d)
  let some := us.any (fun u => unitState d u == 3)
  let done := us.all (fun u => decide (2 ≤ unitState d u))
  if level d = lvJOINING ∧ done then settledLevel (if all then lvFULL else lvDEGRADED) d
  else if level d = lvDEGRADED ∧ all then setLevel lvFULL d
  else if level d = lvFULL ∧ some then setLevel lvDEGRADED d
  else d

/-- Unit `u` becomes FAILED: UNIT_FAILED. -/
def unitFails (u : Nat) (d : Dev) : Dev := raiseBit 0 5 (d.put SYS_UNIT_STATE_UNIT 3 0 u)

/-- Every unit that waits on one of `us` becomes FAILED with it. -/
def unitsWaiting (us : List Nat) (d : Dev) : List Nat :=
  (List.range 16).filter (fun v => unitState d v == 1 && (unitNeeds v).any (has us))

/-- Unit `u` becomes FAILED, and every unit that waits on it (R111); SERVICE_LEVEL follows. -/
def unitFail (u : Nat) (d : Dev) : Dev :=
  let l1 := unitsWaiting [u] d
  let l2 := unitsWaiting l1 d
  levelFollow ((l1 ++ l2.filter (fun v => !has l1 v)).foldl (fun e v => unitFails v e) (unitFails u d))

end Sys2Proof.Machine
end

