-- ==== Sys2Proof/Machine/Outr.lean ====
section
/-! DEFINITION. Outrider: detection, timeslots, frames, neighbours, unscheduled time and flooding
(spec/10_outrider.md R384–R434). -/

namespace Sys2Proof.Machine

open Sys2Proof

/-- First pages of OUTRPHY and OUTRMAC. -/
def pOp : Nat := 0x58
def pOm : Nat := 0x5C

/-- The broadcast entry. -/
def bcast : Nat := 0x3FF

def outrMod (f : OutrUnit → OutrUnit) (d : Dev) : Dev := { d with outr := f d.outr }
def onbr (d : Dev) (e : Nat) : OutrNbr := tabGet d.outr.nbrs e {}
def onbrMod (e : Nat) (f : OutrNbr → OutrNbr) (d : Dev) : Dev :=
  outrMod (fun u => { u with nbrs := tabMod u.nbrs e {} f }) d

/-- Both pages are Active. -/
def outrActs (d : Dev) : Bool := isActive d pOp && isActive d pOm

/-- The long-range modes are usable (R384). -/
def outrLr (d : Dev) : Bool := feat d pOp 1 5

/-- States of a neighbour (R423). -/
def nFREE : Nat := 0
def nSYNC : Nat := 1
def nWIDE : Nat := 2
def nDESYNC : Nat := 3
def onState (d : Dev) (e : Nat) : Nat := d.rd NBR_W0_STATE 0 e

/-- Entries that are not FREE. -/
def onEntries (d : Dev) : List Nat := (d.outr.nbrs.map (·.1)).filter (fun e => onState d e != nFREE)

/-! ### Events (R434) -/

def outrEvent (kind e : Nat) (d : Dev) : Dev :=
  if 64 ≤ d.outr.evts.length then raiseBit pOm 4 (count OM_EVT_OVF_COUNT 0 0 d)
  else raiseBit pOm 3 (outrMod (fun u => { u with evts := u.evts ++ [(kind, e)] }) d)

/-- A read of OM_EVT pops the oldest event. -/
def outrEvtPop (d : Dev) : Dev :=
  match d.outr.evts with
  | [] => answer 0 d
  | x :: l => answer (2 ^ 31 + x.1 * 2 ^ 24 + x.2 % 1024) (outrMod (fun u => { u with evts := l }) d)

/-! ### Profiles and front ends (R385–R388) -/

/-- The front end of a mode: 1 for 2.4 GHz. -/
def modeBand (mode : Nat) : Nat := if 1 ≤ mode ∧ mode ≤ 8 then 0 else 1
def profMode (d : Dev) (p : Nat) : Nat := d.rd PROF_CFG_MODE 0 p
def profBand (d : Dev) (p : Nat) : Nat := d.rd PROF_CFG_BAND 0 p
def profKhz (d : Dev) (p n : Nat) : Nat := d.rd PROF_CHAN0_KHZ 0 p + n * d.rd PROF_SPACING_KHZ 0 p

def profValid (d : Dev) (p : Nat) : Bool :=
  decide (profMode d p < 12) && modeBand (profMode d p) == profBand d p && (decide (profMode d p < 9) || outrLr d)

/-- Channel index `n` of profile `p` lies inside its band. -/
def profChanOk (d : Dev) (p n : Nat) : Bool :=
  let band := if profBand d p = 0 then (779000, 928000) else (2400000, 2483500)
  let half := d.rd PROF_SPACING_KHZ 0 p
  decide (2 * band.1 + half ≤ 2 * profKhz d p n) && decide (2 * profKhz d p n + half ≤ 2 * band.2)

/-- The use of channel `n` of profile `p`: an invalid one is skipped and counted, and captured at its first use. -/
def profUse (p n : Nat) (d : Dev) : Bool × Dev :=
  if profValid d p && profChanOk d p n then
    (true, outrMod (fun u => { u with badSaid := u.badSaid.filter (· != p) }) d)
  else
    let d1 := count OM_CHAN_INVALID_COUNT 0 0 d
    (false, if has d.outr.badSaid p then d1
      else fault0 pOp 0x42 0 p (outrMod (fun u => { u with badSaid := u.badSaid ++ [p] }) d1))

/-- The front end becomes `b` (R387). -/
def bandTo (b : Nat) (d : Dev) : Dev :=
  if d.rd OP_BAND_BAND = b then d else count OP_BAND_SWITCH_COUNT 0 0 (d.put OP_BAND_BAND b)

/-- The power of a transmission of profile `p` in 0.25 dBm (R388). -/
def profPower (d : Dev) (p : Nat) : Int :=
  min (signed 8 (d.rd PROF_CFG_TXPWR 0 p)) (if profBand d p = 0 then 40 else 32)

def lrPreamble (d : Dev) : Nat := max 16 (d.rd OP_LR_PREAMBLE_LEN)

/-! ### Timeslots (R402–R406) -/

/-- E, and the length of a timeslot, in ns. -/
def outrEpoch (d : Dev) : Nat := (d.rd OM_EPOCH_S_LO_S + 2 ^ 32 * d.rd OM_EPOCH_S_HI_S) * 1000000000 + d.rd OM_EPOCH_NS_NS
def tsLen (d : Dev) : Nat := 1000 * max 1 (d.rd OM_TS_LEN_US)
def tsStart (d : Dev) (k : Nat) : Nat := outrEpoch d + k * tsLen d
def asnAt (d : Dev) (t : Nat) : Option Nat := if t < outrEpoch d then none else some ((t - outrEpoch d) / tsLen d)

/-- A slotframe write (R387, R403) by master `m` of slotframe `s`. -/
def sfWrite (m s v : Nat) (d : Dev) : Dev :=
  let refuse := refuseWrite pOm 0x42 m (regAddr (pOm + 1) (0x040 + 4 * s)) d
  let en := v.testBit 31
  if d.on SF_CFG_EN 0 s then
    (if v % 65536 = d.rd SF_CFG_LENGTH 0 s then d.put SF_CFG_EN (b2n en) 0 s else refuse)
  else if en && (decide (d.rd OM_TS_OFS_RX_OFFSET < 150) || decide (d.rd OM_TS_OFS_TX_OFFSET < 150)) then refuse
  else (d.put SF_CFG_LENGTH v 0 s).put SF_CFG_EN (b2n en) 0 s

def sfLen (d : Dev) (s : Nat) : Nat := max 1 (d.rd SF_CFG_LENGTH 0 s)

/-- The links in use of enabled slotframes, by index. -/
def outrLinks (d : Dev) : List Nat :=
  (d.regs.filterMap (fun x =>
    if x.1.reg = (OM_LINK_W_LO_VALID.key 0 0).reg ∧ x.1.lo = 31 ∧ x.2 ≠ 0 then some x.1.idx else none)).filter
    (fun i => d.on SF_CFG_EN 0 (d.rd OM_LINK_W_LO_SF 0 i))

/-- Link `i` is active at ASN `k`. -/
def linkAt (d : Dev) (k i : Nat) : Bool :=
  k % sfLen d (d.rd OM_LINK_W_LO_SF 0 i) == d.rd OM_LINK_W_HI_TS_OFFSET 0 i

/-- The next ASN from `k` on at which link `i` is active. -/
def linkNext (d : Dev) (k i : Nat) : Option Nat :=
  let l := sfLen d (d.rd OM_LINK_W_LO_SF 0 i)
  let o := d.rd OM_LINK_W_HI_TS_OFFSET 0 i
  if o < l then some (k + (o + l - k % l) % l) else none

/-- The cell in progress: its SPAN has not ended. -/
def cellNow (d : Dev) : Option OutrCell := d.outr.cell.filter (fun c => decide (nowTotal d < c.ends))

/-- The instant of the next timeslot in which a link is active, none where there is none. Timeslots up to the last one
started do not start again (R411). -/
def nextActive (d : Dev) : Option Nat :=
  let after := fun (k : Option Nat) => match k with
    | some k => k + 1
    | none => 0
  let k := max (after (asnAt d (nowTotal d))) (after d.outr.last)
  match (outrLinks d).filterMap (linkNext d k) with
  | [] => none
  | a :: l => some (tsStart d (l.foldl min a))

/-- The channel index of a profile at ASN `a` with channel offset `o` (R404). -/
def hopChan (d : Dev) (p a o : Nat) : Nat :=
  let s := d.rd PROF_CFG_HOPSEQ 0 p
  let e := (a + o) % max 1 (min 128 (d.rd HOP_LEN_LEN 0 s))
  if e % 2 = 0 then d.rd HOP_CHAN_EVEN 0 (64 * s + e / 2) else d.rd HOP_CHAN_ODD 0 (64 * s + e / 2)

/-! ### Frames to send (R405, R407) -/

/-- The queue of entry `n`. -/
def outrQueue (d : Dev) (n : Nat) : Option Nat :=
  (liveQueues d).find? (fun q => ownerKind d q == 3 && ownerIndex d q == n)

/-- A manifest for entry `n`. -/
def forNbr (d : Dev) (n : Nat) (x : Manifest) : Bool := ownerKind d x.queue == 3 && ownerIndex d x.queue == n

/-- The next frame to entry `n`: one to be sent again, one that the traffic manager has handed over, or its queue's head. -/
def outrPeek (d : Dev) (n : Nat) : Option Manifest :=
  match d.outr.held.find? (fun h => h.nbr == n) with
  | some h => if h.waiting then none else some h.x
  | none =>
    match (handedTo d 9).find? (forNbr d n) with
    | some x => some x
    | none => (outrQueue d n).bind (fun q => if isActive d pTm && blockOf d 9 q == 0 then (qList d q).head? else none)

/-- TSCH neighbours that have no dedicated TX cell. -/
def sharedNbrs (d : Dev) : List Nat :=
  (onEntries d).filter (fun e => (onbr d e).mode == 0 && onState d e != nDESYNC &&
    !(outrLinks d).any (fun i => d.on OM_LINK_W_LO_TX 0 i && !d.on OM_LINK_W_LO_SHARED 0 i && d.rd OM_LINK_W_LO_NBR 0 i == e))

/-- The entries whose queues a TX cell serves. -/
def cellServes (d : Dev) (nbr : Nat) (shared : Bool) : List Nat :=
  if nbr = bcast then
    (if shared && (outrPeek d bcast).isNone then sharedNbrs d else [bcast])
  else if onState d nbr = nDESYNC ∨ onState d nbr = nFREE then [] else [nbr]

/-- Link `i` has a frame to send. -/
def linkSends (d : Dev) (i : Nat) : Bool :=
  d.on OM_LINK_W_LO_TX 0 i &&
  (cellServes d (d.rd OM_LINK_W_LO_NBR 0 i) (d.on OM_LINK_W_LO_SHARED 0 i)).any (fun e => (outrPeek d e).isSome)

/-- Link `i` listens; for a DESYNC neighbour there is no scheduled exchange (R423). -/
def linkListens (d : Dev) (i : Nat) : Bool :=
  d.on OM_LINK_W_LO_RX 0 i && (d.rd OM_LINK_W_LO_NBR 0 i == bcast || onState d (d.rd OM_LINK_W_LO_NBR 0 i) != nDESYNC)

/-- Link `i` names a FREE entry (R420). -/
def linkFree (d : Dev) (i : Nat) : Bool :=
  d.rd OM_LINK_W_LO_NBR 0 i != bcast && onState d (d.rd OM_LINK_W_LO_NBR 0 i) == nFREE

def linkSkip (d : Dev) (i : Nat) : Dev := satPut OM_LINK_STAT_SKIPS 0 i 1 d
def linkDisplace (d : Dev) (i : Nat) : Dev := count OM_CELL_OVERRIDE_COUNT 0 0 (linkSkip d i)

/-- The first link of a list by slotframe and index. -/
def firstLink (d : Dev) (l : List Nat) : Option Nat :=
  (List.range 8).findSome? (fun s => l.find? (fun i => d.rd OM_LINK_W_LO_SF 0 i == s))

/-- The cell of link `i` begins at ASN `k`. -/
def cellBegin (k i : Nat) (d : Dev) : Dev :=
  let p := d.rd OM_LINK_W_LO_PROFILE 0 i
  let c := hopChan d p k (d.rd OM_LINK_W_HI_CH_OFFSET 0 i)
  let r := profUse p c d
  if !r.1 then linkSkip r.2 i
  else
    outrMod (fun u => { u with cell := some ⟨i, k, d.rd OM_LINK_W_LO_SPANM1 0 i + 1, d.rd OM_LINK_W_LO_NBR 0 i, p, c,
      linkSends d i, d.on OM_LINK_W_LO_SHARED 0 i, d.on OM_LINK_W_LO_EXPECT 0 i,
      tsStart d (k + d.rd OM_LINK_W_LO_SPANM1 0 i + 1), false⟩ }) (bandTo (profBand d p) r.2)

/-- R424: neighbour `e` calls for extended listening: a DESYNC TSCH neighbour without CSL. -/
def listensFor (d : Dev) (e : Nat) : Bool := onState d e == nDESYNC && (onbr d e).mode == 0 && (onbr d e).period == 0

/-- An extended listen is in progress. -/
def listening (d : Dev) : Bool := match d.outr.listen with
  | some l => decide (d.tb.elapsed < l.2) && listensFor d l.1
  | none => false

/-- Unscheduled time: the receiver goes to OP_IDLE's profile and channel, unless an extended listen takes the time (R425). -/
def outrIdle (d : Dev) : Dev :=
  if listening d then d
  else
    let r := profUse (d.rd OP_IDLE_PROFILE) (d.rd OP_IDLE_CHAN) d
    if r.1 then bandTo (profBand d (d.rd OP_IDLE_PROFILE)) r.2 else r.2

/-- R402, R405: the timeslot that holds the present instant starts, if it has not. -/
def outrSlot (d : Dev) : Dev :=
  if !outrActs d then d
  else match asnAt d (nowTotal d) with
    | none => d
    | some k =>
      let again := match d.outr.last with
        | some q => decide (k ≤ q)
        | none => false
      if again then d
      else
        let d1 := ((outrMod (fun u => { u with
          last := some k
          cell := cellNow d }) d).put OM_ASN_LO_ASN k).put OM_ASN_HI_ASN (k / 2 ^ 32)
        let act := (outrLinks d1).filter (linkAt d1 k)
        let free := act.filter (linkFree d1)
        let use := act.filter (fun i => !linkFree d1 i && (linkSends d1 i || linkListens d1 i))
        let d2 := free.foldl linkSkip d1
        if d2.outr.cell.isSome then use.foldl linkDisplace d2
        else
          let pick := match firstLink d2 (use.filter (linkSends d2)) with
            | some i => some i
            | none => firstLink d2 use
          match pick with
          | some i => cellBegin k i ((use.filter (· != i)).foldl linkDisplace d2)
          | none => outrIdle d2

/-- R411: a step of the time base from total nanoseconds `old`. -/
def outrStep (old : Nat) (d : Dev) : Dev :=
  if !isActive d pOm then d
  else
    let new := nowTotal d
    let d1 := raiseBit pOm 6 (outrMod (fun u => { u with
      nbrs := u.nbrs.map (fun n => (n.1, { n.2 with stepped := true }))
      cell := u.cell.map (fun c => { c with ends := c.ends + new - old }) }) d)
    if old < new then
      let a := match d.outr.last with
        | some k => k + 1
        | none => (asnAt d old).elim 0 (· + 1)
      let b := (asnAt d new).elim 0 (· + 1)
      let d2 := bump OM_TS_SKIPPED_COUNT 0 0 (b - a) d1
      if a < b then outrMod (fun u => { u with last := some (b - 1) }) d2 else d2
    else d1

/-! ### The drift learner and loss of sync (R421–R424) -/

/-- Milliseconds since t_sync of neighbour `e` at instant `t`, in 2^−16 ns; 0 before the first exchange. -/
def sinceSync (d : Dev) (e t : Nat) : Nat := match (onbr d e).sync with
  | some s => (t - s) / 65536 / 1000000
  | none => 0

def driftOf (d : Dev) (e : Nat) : Int := signed 16 (d.rd NBR_DRIFT_DRIFT 0 e)

/-- The predicted offset c of neighbour `e` in ns. -/
def predicted (d : Dev) (e : Nat) : Int := Int.tdiv (driftOf d e * sinceSync d e (fullNow d)) 100

/-- A drift sample with error `err` in ns over `dt` ms. -/
def driftSample (e dt : Nat) (err : Int) (d : Dev) : Dev :=
  let r := Int.tdiv (100 * err) dt
  let s := d.rd OM_SYNC_DRIFT_SHIFT
  let put := fun (a u : Int) => (d.put NBR_DRIFT_DRIFT (twos 16 (clampTo 20000 a)) 0 e).put NBR_DRIFT_UNC (twos 16 u) 0 e
  if !(onbr d e).driftValid then onbrMod e (fun n => { n with driftValid := true }) (put r 1000)
  else
    let a := driftOf d e
    let u : Int := d.rd NBR_DRIFT_UNC 0 e
    let dev : Int := (r - a).natAbs
    put (a + (r - a) / (2 ^ s : Nat)) (max 0 (min 65535 (u + (dev - u) / (2 ^ s : Nat))))

/-- An exchange at `t` synchronises neighbour `e`, unless its entry is FREE; `nom` is the nominal instant, where there is one. Both in 2^−16 ns. -/
def nbrSync (e t : Nat) (nom : Option Nat) (d : Dev) : Dev :=
  let n := onbr d e
  let dt := sinceSync d e t
  let d1 := match nom with
    | some a =>
      if n.sync.isSome && !n.stepped && decide (0 < dt) && decide (d.rd OM_SYNC_DRIFT_MIN_MS ≤ dt) then
        driftSample e dt (Int.tdiv ((t : Int) - a) 65536) d
      else d
    | none => d
  let f := manifestForm t
  let d2 := ((d1.put NBR_SYNC_NS_NS f.1 0 e).put NBR_SYNC_S_S f.2 0 e).put NBR_STAT_FAILS 0 0 e
  let d3 := onbrMod e (fun n => { n with sync := some t, stepped := false, heard := d.tb.elapsed, lostSaid := false }) d2
  let d4 := if onState d e = nDESYNC then
      outrEvent 4 e (d3.put NBR_DRIFT_UNC (max 1000 (d3.rd NBR_DRIFT_UNC 0 e)) 0 e) else d3
  if onState d e = nFREE then d else d4.put NBR_W0_STATE nSYNC 0 e

/-- R423: an exchange with neighbour `e` fails. -/
def nbrFail (e : Nat) (d : Dev) : Dev :=
  if onState d e = nFREE then d
  else
    let d1 := satPut NBR_STAT_FAILS 0 e 1 d
    let f := d1.rd NBR_STAT_FAILS 0 e
    if 6 ≤ f ∧ onState d e ≠ nDESYNC then
      raiseBit pOm 5 (outrEvent 3 e ((onbrMod e (fun n => { n with listened := none })
        (d1.put NBR_W0_STATE nDESYNC 0 e)).put NBR_W3_PHASE_VALID 0 0 e))
    else if 3 ≤ f ∧ f < 6 ∧ onState d e ≠ nWIDE then outrEvent 2 e (d1.put NBR_W0_STATE nWIDE 0 e)
    else d1

/-! ### Neighbour commands (R413, R420, R423) -/

/-- The extended address of the window `e`. -/
def stagedExt (d : Dev) (e : Nat) : Nat := d.rd NBR_W1_EXT 0 e + 2 ^ 32 * d.rd NBR_W2_EXT 0 e

/-- Another entry in use holds the short or the extended address that window `e` names. An extended address of zero is
none. -/
def nbrTaken (d : Dev) (e : Nat) : Bool :=
  (onEntries d).any (fun o => o != e &&
    ((d.rd NBR_W0_SHORT 0 e != 0xFFFE && (onbr d o).short == d.rd NBR_W0_SHORT 0 e) ||
     (stagedExt d e != 0 && (onbr d o).ext == stagedExt d e)))

/-- The values of window `e` come into force. -/
def nbrTake (e : Nat) (d : Dev) : Dev :=
  onbrMod e (fun n => { n with
    mode := d.rd NBR_W0_MODE 0 e
    profile := d.rd NBR_W0_PROFILE 0 e
    short := d.rd NBR_W0_SHORT 0 e
    ext := stagedExt d e
    advChan := d.rd NBR_W3_ADV_CHAN 0 e
    period := d.rd NBR_W3_CSL_PERIOD 0 e }) d

def nbrResult (r e : Nat) (d : Dev) : Dev := d.put NBR_CMD_RESULT r 0 e

/-- A command of NBR_CMD by master `m`. -/
def nbrCommand (m c : Nat) (d : Dev) : Dev :=
  let e := d.rd NBR_IDX_ENTRY
  let refuse := fun (r code : Nat) => refuseWrite pOm code m (regAddr (pOm + 2) 0x044) (nbrResult r e d)
  let free := onState d e == nFREE
  match c with
  | 1 =>
    if e = 1023 || !free then refuse 1 0x40
    else if nbrTaken d e then refuse 2 0x41
    else
      nbrResult 0 e (((onbrMod e (fun n => { n with heard := d.tb.elapsed }) (nbrTake e d)).put NBR_W0_STATE nSYNC 0 e).put
        NBR_STAT_FAILS 0 0 e)
  | 2 =>
    if free then refuse 1 0x40
    else if nbrTaken d e then refuse 2 0x41
    else nbrResult 0 e (nbrTake e d)
  | 3 =>
    if free then refuse 1 0x40
    else
      let gone := fun (k : Key) => k.reg / 4096 == pOm + 2 && decide (0x048 ≤ k.reg % 4096) && k.idx == e
      nbrResult 0 e (outrMod (fun u => { u with nbrs := tabDel u.nbrs e }) { d with regs := d.regs.filter (fun x => !gone x.1) })
  | 4 =>
    if free then refuse 1 0x40
    else nbrResult 0 e ((d.put NBR_W0_STATE nSYNC 0 e).put NBR_STAT_FAILS 0 0 e)
  | _ => refuse 1 0x40

/-- A write of NBR_CMD; a CMD of 0 asks for nothing. -/
def nbrCmdWrite (m v : Nat) (d : Dev) : Dev := if v % 8 = 0 then d else nbrCommand m (v % 8) d

/-- A write of NBR_DRIFT sets the drift valid. -/
def nbrDriftWrite (v : Nat) (d : Dev) : Dev :=
  let e := d.rd NBR_IDX_ENTRY
  onbrMod e (fun n => { n with driftValid := true }) ((d.put NBR_DRIFT_UNC (v / 65536) 0 e).put NBR_DRIFT_DRIFT v 0 e)

/-- R420: the age of entry `e`. -/
def nbrAge (e : Nat) (d : Dev) : Dev :=
  let n := onbr d e
  if onState d e ≠ nFREE ∧ e < 1023 ∧ !n.lostSaid ∧ n.heard + 500000000 * max 1 (d.rd OM_AGE_NBR_AGE) ≤ d.tb.elapsed then
    outrEvent 5 e (onbrMod e (fun n => { n with lostSaid := true }) d)
  else d

/-! ### The seen-cache (R430) -/

def seenFresh (d : Dev) (s : FloodSeen) : Bool :=
  decide (d.tb.elapsed ≤ s.since + 500000000 * max 1 (d.rd OM_FLOOD_CFG_EXPIRY))

def seenFind (d : Dev) (o q : Nat) : Option FloodSeen :=
  d.outr.seen.find? (fun s => s.orig == o && s.seq == q && seenFresh d s)

/-- OM_SEEN.COUNT. -/
def seenCount (d : Dev) : Nat := (d.outr.seen.filter (seenFresh d)).length

/-- Enters a pair with a heard count. -/
def seenEnter (o q h : Nat) (d : Dev) : Dev :=
  let l := d.outr.seen.filter (fun s => seenFresh d s && !(s.orig == o && s.seq == q))
  let full := decide (4096 ≤ l.length)
  let d1 := if full then count OM_FLOOD_EVICT_COUNT 0 0 d else d
  outrMod (fun u => { u with seen := (if full then l.tail else l) ++ [⟨o, q, d.tb.elapsed, h⟩] }) d1

/-- The flood header at offset `o` of a broadcast frame: TTL, originator, sequence (R429). -/
def floodHeader (d : Dev) (dst : OutrAddr) (o : Nat) (b : Bytes) : Option (Nat × Nat × Nat) :=
  if dst = .short 0xFFFF ∧ o + 6 ≤ b.length ∧ leAt b o 1 = d.rd OM_FLOOD_CFG_DISPATCH then
    some (leAt b (o + 1) 1 % 16, leAt b (o + 2) 2, leAt b (o + 4) 2)
  else none

/-! ### Transmission (R408, R410, R412, R418, R419) -/

/-- The profile and channel of a transmission outside cells. -/
def outsideProfile (d : Dev) (n : Nat) : Nat × Nat :=
  if n = bcast then (d.rd OP_IDLE_PROFILE, d.rd OP_IDLE_CHAN) else ((onbr d n).profile, (onbr d n).advChan)

/-- The frame of `x` is dropped and counted. -/
def outrDrop (F : Fld) (x : Manifest) (d : Dev) : Dev := refDown x.head (frameDropped x (count F 0 0 d))

/-- Takes the next frame to entry `n`: one begun before, or a new one. -/
def outrTake (n : Nat) (d : Dev) : Option OutrHeld × Dev :=
  let new := fun (x : Manifest) => ({ x := x, nbr := n, seq := none, tries := 0, waiting := false, nominal := none } : OutrHeld)
  match d.outr.held.find? (fun h => h.nbr == n) with
  | some h => if h.waiting then (none, d) else
      (some h, outrMod (fun u => { u with held := u.held.filter (fun g => g.nbr != n) }) d)
  | none =>
    match takeHanded 9 (forNbr d n) d with
    | (some x, d1) => (some (new x), d1)
    | (none, _) =>
      match outrQueue d n with
      | none => (none, d)
      | some q =>
        if !isActive d pTm || blockOf d 9 q != 0 then (none, d)
        else match qList d q with
          | [] => (none, d)
          | x :: _ =>
            match dropOf d 9 q x with
            | some k => (none, tmDropHead 9 q x k d)
            | none =>
              match takeHanded 9 (forNbr d n) (tmServe 9 q x d) with
              | (some y, d1) => (some (new y), d1)
              | (none, d1) => (none, d1)

/-- A relay that reaches its transmission: sent, or suppressed (R431). -/
def relayCheck (x : Manifest) (d : Dev) : Bool × Dev :=
  match tabFind d.outr.relays x.head with
  | none => (true, d)
  | some p =>
    let d1 := outrMod (fun u => { u with relays := tabDel u.relays x.head }) d
    let k := d.rd OM_FLOOD_CFG_SUPPRESS_K
    let heard := match seenFind d p.1 p.2 with
      | some s => s.heard
      | none => 0
    if k ≠ 0 ∧ k ≤ heard then (false, outrDrop OM_FLOOD_SUPPRESSED_COUNT x d1)
    else (true, count OM_FLOOD_RELAY_COUNT 0 0 d1)

/-- The PSDU as it goes out, without its FCS: sequence number, TTL of a flood frame from a core, and ASN. -/
def outrBytes (h : OutrHeld) (core : Bool) (asn : Nat) (d : Dev) (m : Memory) : Bytes :=
  let b := readFrame d m h.x.head 0 h.x.len
  let f := outrMac b
  let b1 := match h.seq with
    | some s => patch b 2 [BitVec.ofNat 8 s]
    | none => b
  let b2 := match floodHeader d f.dst f.payload b1 with
    | some t => if core && t.1 == 0 then patch b1 (f.payload + 1) [BitVec.ofNat 8 (d.rd OM_FLOOD_CFG_TTL_DEFAULT)] else b1
    | none => b1
  match f.ies.bind (syncIe b2.length b2) with
  | some o => patch b2 o (toBytes 5 asn)
  | none => b2

/-- What a transmission uses: profile, channel index, and, in a cell, the cell. -/
structure OutrWay where
  profile : Nat
  chan : Nat
  cell : Option OutrCell
  deriving DecidableEq, Repr

/-- Octets of the FCS. -/
def fcsLen (mode : Nat) (longFcs : Bool) : Nat := if mode = 0 ∨ !longFcs then 2 else 4

/-- The airtime in ns of the exchange of a frame of `n` octets without its FCS, from the start of the frame. -/
def exchangeNs (d : Dev) (p : Nat) (t : OutrTx) (n : Nat) (ack : Bool) : Nat :=
  let mode := profMode d p
  1000 * (outrAirtime mode (lrPreamble d) (n + fcsLen mode t.longFcs) t.dur +
    (if ack then d.rd OM_TS_ACK_TX_ACK_DELAY + t.ackDur else 0))

/-- R408: the start of a frame to entry `e` in its cell's first timeslot, in ns. -/
def cellOffset (d : Dev) (e : Nat) : Int :=
  let synced := onState d e == nSYNC || onState d e == nWIDE
  (1000 * d.rd OM_TS_OFS_TX_OFFSET : Nat) + (if d.on OM_CFG_DRIFT_TX && e != bcast && synced then predicted d e else 0)

/-- A frame of `n` octets to entry `e` is longer than its mode's longest PSDU, or its exchange does not end within the cell
(R408). -/
def outrTooLong (d : Dev) (w : OutrWay) (t : OutrTx) (e n : Nat) (ack : Bool) : Bool :=
  let mode := profMode d w.profile
  decide (longestPsdu mode < n + fcsLen mode t.longFcs) ||
  (match w.cell with
    | some c => decide (((c.span * tsLen d : Nat) : Int) < cellOffset d e + exchangeNs d w.profile t n ack)
    | none => false)

/-- The transmit stamp: the end of the SFD at the antenna (R399), in 2^−16 ns. -/
def outrTxStamp (p : Nat) (t : OutrTx) (d : Dev) : Nat :=
  let lat := if profBand d p = 1 then d.rd OP_TX_LAT_LAT_24 + d.rd OP_ANT_TX_DELAY_D_24
    else d.rd OP_TX_LAT_LAT_SUB + d.rd OP_ANT_TX_DELAY_D_SUB
  fullAdd (fullNow d) ((65536 * t.shr + 4096 * lat : Nat) : Int)

/-- The first transmission of a frame: a relay may be suppressed, TIME is ignored, a number is given (R412), and a flood
frame from a core enters the seen-cache (R430). The frame, and whether it is a core's. -/
def outrFirst (h : OutrHeld) (d : Dev) (m : Memory) : Option (OutrHeld × Bool) × Dev :=
  let core := (tabFind d.outr.relays h.x.head).isNone
  let r := relayCheck h.x d
  if !r.1 then (none, r.2)
  else
    let d1 := if timeKind h.x = 0 then r.2 else count OM_TIME_IGNORED_COUNT 0 0 r.2
    let b := readFrame d m h.x.head 0 h.x.len
    let f := outrMac b
    let s := d1.rd NBR_SEQ_TX_SEQ 0 h.nbr
    let d2 := if f.seq.isSome then d1.put NBR_SEQ_TX_SEQ ((s + 1) % 256) 0 h.nbr else d1
    let d3 := match (if core then floodHeader d f.dst f.payload b else none) with
      | some t => seenEnter t.2.1 t.2.2 0 d2
      | none => d2
    (some ({ h with seq := if f.seq.isSome then some s else none }, core), d3)

/-- The device keeps the frame: it waits for its acknowledgement, or its egress read is complete. -/
def outrSent (h : OutrHeld) (ack : Bool) (nominal : Option Nat) (d : Dev) : Dev :=
  if ack then
    outrMod (fun u => { u with held := u.held ++ [{ h with tries := h.tries + 1, waiting := true, nominal := nominal }] }) d
  else refDown h.x.head (count OM_TX_OK_COUNT 0 0 d)

/-- R408: the frame `h` goes out by `w`. -/
def outrSend (h : OutrHeld) (core : Bool) (w : OutrWay) (t : OutrTx) (d : Dev) (m : Memory) : Dev :=
  let p := w.profile
  let mode := profMode d p
  let asn := match w.cell with
    | some c => c.asn
    | none => (asnAt d (nowTotal d)).getD 0
  let b := outrBytes h core asn d m
  let ack := (outrMac b).ackReq && h.nbr != bcast
  let offset := w.cell.map (fun _ => cellOffset d h.nbr)
  let symbols := if 9 ≤ mode then lrSymbols (lrPreamble d) t.longFcs (withFcs t.longFcs b) else []
  let st := manifestForm (outrTxStamp p t d)
  let d1 := ringResult h.x 0 st.1 st.2 (count OP_TX_FRAME_COUNT 0 0
    (emit (.outrFrame h.nbr (profKhz d p w.chan) mode (profPower d p) offset b symbols) d))
  let endNs := exchangeNs d p t h.x.len true - 1000 * t.ackDur
  outrSent h ack (w.cell.map (fun _ => fullAdd (fullNow d) ((65536 * endNs : Nat) : Int))) d1

/-- Takes the next frame to entry `n` and sends it by `w`, unless it is dropped. -/
def outrGo (n : Nat) (w : OutrWay) (t : OutrTx) (d : Dev) (m : Memory) : Dev :=
  let r := outrTake n d
  match r.1 with
  | none => r.2
  | some h =>
    let ack := (outrMac (readFrame d m h.x.head 0 h.x.len)).ackReq && n != bcast
    if framePoisoned d h.x.head 0 h.x.len then refDown h.x.head (frameDropped h.x r.2)
    else if 0 < h.tries then outrSend h false w t r.2 m
    else if outrTooLong d w t n h.x.len ack then outrDrop OM_TOO_LONG_COUNT h.x r.2
    else match outrFirst h r.2 m with
      | (none, d1) => d1
      | (some g, d1) => outrSend g.1 g.2 w t d1 m

/-- The broadcast queue is served in unscheduled time. -/
def bcastOutside (d : Dev) : Bool :=
  !(outrLinks d).any (fun i => d.on OM_LINK_W_LO_TX 0 i && d.rd OM_LINK_W_LO_NBR 0 i == bcast)

/-- An activity of `ns` from now ends before the next timeslot in which a link is active (R425). -/
def fitsOutside (d : Dev) (ns : Nat) : Bool := match nextActive d with
  | some t => decide (nowTotal d + ns < t)
  | none => true

/-- The exchange of the next frame to entry `n` outside cells, in ns. -/
def outsideNs (d : Dev) (m : Memory) (n : Nat) (t : OutrTx) : Option Nat :=
  (outrPeek d n).map (fun x => exchangeNs d (outsideProfile d n).1 t x.len
    ((outrMac (readFrame d m x.head 0 x.len)).ackReq && n != bcast))

/-- A transmission outside cells that takes `lead` ns before its frame; `f` before it. -/
def outrOutside (n lead : Nat) (t : OutrTx) (f : Dev → Dev) (d : Dev) (m : Memory) : Dev :=
  match outsideNs d m n t with
  | none => d
  | some ns =>
    if !fitsOutside d (lead + ns) then d
    else
      let p := outsideProfile d n
      let r := profUse p.1 p.2 d
      if !r.1 then r.2 else outrGo n ⟨p.1, p.2, none⟩ t (f (bandTo (profBand d p.1) r.2)) m

/-- R407, R408, R425: a frame for entry `n` can be sent now: in the cell in progress, or in unscheduled time. -/
def outrFrameTx (n : Nat) (t : OutrTx) (d : Dev) (m : Memory) : Dev :=
  if !outrActs d then d
  else match cellNow d with
    | some c =>
      if c.tx && has (cellServes d c.nbr c.shared) n then outrGo n ⟨c.profile, c.chan, some c⟩ t d m else d
    | none =>
      if n = bcast then (if bcastOutside d then outrOutside n 0 t id d m else d)
      else if onState d n ≠ nFREE ∧ (onbr d n).mode = 3 then outrOutside n 0 t id d m
      else d

/-- R419: no acknowledgement from entry `n` has come. -/
def outrAckTimeout (n : Nat) (d : Dev) : Dev :=
  match d.outr.held.find? (fun h => h.nbr == n && h.waiting) with
  | none => d
  | some h =>
    let d1 := nbrFail n (count OM_TX_NOACK_COUNT 0 0
      (outrMod (fun u => { u with held := u.held.filter (fun g => g.nbr != n) }) d))
    if d.rd OM_RETRY_MAX_RETRIES + 1 ≤ h.tries then outrDrop OM_TX_RETRY_DROP_COUNT h.x d1
    else outrMod (fun u => { u with held := u.held ++ [{ h with waiting := false }] }) d1

/-! ### CSL and RFS (R426–R428) -/

/-- W_c of neighbour `e` in ns. -/
def cslWidth (d : Dev) (e : Nat) : Nat :=
  let half := 5000 * (onbr d e).period
  if !d.on NBR_W3_PHASE_VALID 0 e then half
  else
    let w := 1000 * d.rd OM_CSL_CSL_GUARD_US + 3 * d.rd NBR_DRIFT_UNC 0 e * sinceSync d e (fullNow d) / 100
    min half (if onState d e = nWIDE then 2 * w else w)

/-- Nanoseconds from now to the first sample instant of neighbour `e`, shifted by c. -/
def cslAhead (d : Dev) (e : Nat) : Int :=
  let p := 10000 * (onbr d e).period
  let x := (((10000 * d.rd NBR_CSL_PHASE_PHASE 0 e : Nat) : Int) - nowTotal d) % (max 1 p : Nat)
  x + predicted d e

/-- The wake-up frames that cover twice `w` ns, each of `len` µs (R427). -/
def wakeCount (d : Dev) (w len : Nat) : Nat :=
  let step := 1000 * (len + d.rd OM_CSL_WAKE_GAP)
  1 + (2 * w - 1000 * len + (step - 1)) / max 1 step

/-- A sleepy neighbour of MODE `k` can be reached now, outside cells. A TSCH neighbour that is DESYNC is reached as a CSL
one (R423). -/
def sleepyReady (d : Dev) (e k : Nat) : Bool :=
  outrActs d && (cellNow d).isNone && onState d e != nFREE && decide (e < 1023) && (onbr d e).period != 0 &&
  ((onbr d e).mode == k || (k == 1 && (onbr d e).mode == 0 && onState d e == nDESYNC))

/-- R427: the sequence of wake-up frames, and the data frame. -/
def cslSequence (e : Nat) (t : OutrTx) (wake : Nat) (d : Dev) (m : Memory) : Dev :=
  if !sleepyReady d e 1 then d
  else
    let len := outrAirtime (profMode d (onbr d e).profile) (lrPreamble d) 11 wake
    let w := cslWidth d e
    let n := wakeCount d w len
    let step := len + d.rd OM_CSL_WAKE_GAP
    let lead := (cslAhead d e - w).toNat + n * 1000 * step
    let times := (List.range n).reverse.map (fun j => j * step + d.rd OM_CSL_WAKE_GAP)
    outrOutside e lead t (fun x =>
      emit (.outrWake e (d.rd OM_CFG_PAN_ID) (onbr d e).short times) (count OM_CSL_SEQ_COUNT 0 0 x)) d m

/-- R428: from the start of a copy of the next frame to entry `e` to that of the next copy, in ns. -/
def rfsStep (d : Dev) (e : Nat) (t : OutrTx) : Nat :=
  exchangeNs d (outsideProfile d e).1 t ((outrPeek d e).elim 0 (·.len)) false +
  1000 * (d.rd OM_TS_ACK_RX_ACK_DELAY + d.rd OM_TS_WAIT_ACK_WAIT)

/-- R428: copies of a data frame, until one is acknowledged or the next would start after the window. -/
def rfsDelivery (e : Nat) (t : OutrTx) (copies : Nat) (acked : Bool) (d : Dev) (m : Memory) : Dev :=
  if !sleepyReady d e 2 then d
  else match outsideNs d m e t with
    | none => d
    | some ns =>
      let w := cslWidth d e
      let step := rfsStep d e t
      let most := 1 + 2 * w / max 1 step
      let asks := (outrPeek d e).any (fun x => (outrMac (readFrame d m x.head 0 x.len)).ackReq)
      let k := if acked && asks then max 1 (min copies most) else most
      let d1 := outrOutside e ((cslAhead d e - w).toNat + (k - 1) * step) t id d m
      if d1.out.length = d.out.length then d1
      else
        let again := (d1.out.drop d.out.length).filter (fun o => match o with
          | .outrFrame .. => true
          | _ => false)
        let d2 := (List.range (k - 1)).foldl (fun x _ => again.foldl (fun y o => emit o (count OP_TX_FRAME_COUNT 0 0 y)) x)
          (bump OM_RFS_COPIES_COUNT 0 0 k d1)
        match d2.outr.held.find? (fun h => h.nbr == e && h.waiting) with
        | none => d2
        | some h =>
          if acked then
            nbrSync e (fullNow d2) none (refDown h.x.head (count OM_TX_OK_COUNT 0 0
              (outrMod (fun u => { u with held := u.held.filter (fun g => g.nbr != e) }) d2)))
          else outrAckTimeout e d2

/-- R424: an extended listen for a TSCH neighbour that is DESYNC and has no CSL: at once and every 60 s. -/
def extListen (e : Nat) (d : Dev) : Dev :=
  let n := onbr d e
  let due := match n.listened with
    | some t => decide (t + 30000000000 ≤ d.tb.elapsed)
    | none => true
  if !outrActs d || (cellNow d).isSome || !listensFor d e || !due || listening d then d
  else
    let r := profUse n.profile n.advChan d
    if !r.1 then r.2
    else
      onbrMod e (fun n => { n with listened := some d.tb.elapsed })
        (outrMod (fun u => { u with listen := some (e, d.tb.elapsed + 5000000 * d.rd OM_SYNC_EXT_LISTEN) })
          (bandTo (profBand d n.profile) r.2))

/-! ### Reception (R394–R399, R414–R418, R431) -/

/-- The mode `k` is searched (R384, R394). -/
def outrDetects (d : Dev) (k : Nat) : Bool :=
  decide (k < 12) && (d.rd OP_DETECT_DETECT_EN).testBit k && modeBand k == d.rd OP_BAND_BAND && (decide (k < 9) || outrLr d)

/-- The receive stamp: the end of the SFD at the pin is the present instant (R399). -/
def outrRxStamp (mode : Nat) (d : Dev) : Nat :=
  let lat := if modeBand mode = 1 then d.rd OP_RX_LAT_LAT_24 + d.rd OP_ANT_RX_DELAY_D_24
    else d.rd OP_RX_LAT_LAT_SUB + d.rd OP_ANT_RX_DELAY_D_SUB
  fullAdd (fullNow d) (-((4096 * lat : Nat) : Int))

/-- R414: the frame is for this device. -/
def outrAccepts (d : Dev) (f : OutrMac) : Bool :=
  (d.rd OM_CFG_PAN_ID == 0xFFFF || (match f.dstPan with
    | some p => p == d.rd OM_CFG_PAN_ID
    | none => true)) &&
  (match f.dst with
    | .short a => a == 0xFFFF || a == d.rd OM_ADDR_SHORT
    | .ext a => a == d.rd OM_EXT_LO_EXT + 2 ^ 32 * d.rd OM_EXT_HI_EXT
    | .none => false)

/-- The neighbour that a source address names. -/
def outrSource (d : Dev) (a : OutrAddr) : Option Nat :=
  (onEntries d).find? (fun e => match a with
    | .short s => s != 0xFFFE && (onbr d e).short == s
    | .ext x => (onbr d e).ext == x
    | .none => false)

/-- R416: whether sequence `s` from neighbour `e` is accepted, and the window after it. -/
def seqCheck (e s : Nat) (d : Dev) : Bool × Dev :=
  let h := d.rd NBR_SEQ_HIGH 0 e
  let map := d.rd NBR_SEQ_MAP_MAP 0 e
  let put := fun (hi mp : Nat) => ((d.put NBR_SEQ_HIGH hi 0 e).put NBR_SEQ_MAP_MAP mp 0 e).put NBR_SEQ_VALID 1 0 e
  let a := (s + 256 - h) % 256
  if !d.on NBR_SEQ_VALID 0 e then (true, put s 1)
  else if 1 ≤ a ∧ a ≤ 224 then (true, put s (map * 2 ^ a + 1))
  else if a = 0 then (false, d)
  else if map.testBit (256 - a) then (false, d)
  else (true, put h (setBit map (256 - a)))

/-- The nominal instant of a frame in the cell in progress, in 2^−16 ns. -/
def cellNominal (d : Dev) (shr : Nat) : Option Nat :=
  (cellNow d).bind (fun c => if c.tx then none else some (65536 * (tsStart d c.asn + 1000 * d.rd OM_TS_OFS_TX_OFFSET + shr)))

/-- The acknowledgement of a frame, where it asks for one: in a cell with a time correction (R410, R414). -/
def outrAckSend (f : OutrMac) (t shr : Nat) (d : Dev) : Dev :=
  if !f.ackReq || f.dst == .short 0xFFFF then d
  else
    let corr := (cellNominal d shr).map (fun a => clampTo 2047 (Int.tdiv ((a : Int) - t) 65536000))
    emit (.outrAck f.seq ((cellNow d).isSome || f.version == 2) corr) d

/-- R427: a CSL IE from neighbour `e`: its phase, and a drift sample against the phase before. -/
def cslHeard (e t : Nat) (ie : Nat × Nat) (d : Dev) : Dev :=
  let p := (onbr d e).period
  if p = 0 then d
  else
    let sample := t / 65536 + 10000 * ie.1
    let d1 := if d.on NBR_W3_PHASE_VALID 0 e then
        let x := ((sample : Int) - (10000 * d.rd NBR_CSL_PHASE_PHASE 0 e : Nat)) % (10000 * p : Nat)
        let err := if 2 * x ≤ (10000 * p : Nat) then x else x - (10000 * p : Nat)
        let dt := sinceSync d e t
        if (onbr d e).sync.isSome && !(onbr d e).stepped && decide (0 < dt) && decide (d.rd OM_SYNC_DRIFT_MIN_MS ≤ dt) then
          driftSample e dt err d else d
      else d
    (d1.put NBR_CSL_PHASE_PHASE (sample / 10000 % p) 0 e).put NBR_W3_PHASE_VALID 1 0 e

/-- A frame comes from neighbour `e`. -/
def nbrFrame (e t rssi shr : Nat) (f : OutrMac) (b : Bytes) (d : Dev) : Dev :=
  let ie := f.ies.bind (cslIe b.length b)
  let d1 := match ie with
    | some x => cslHeard e t x d
    | none => d
  let d2 := nbrSync e t (if ie.isSome then none else cellNominal d shr) (d1.put NBR_STAT_RSSI rssi 0 e)
  outrMod (fun u => { u with cell := u.cell.map (fun c => if c.nbr = e then { c with heard := true } else c) }) d2

/-- Cells of class 5 for a frame, and the frame in them; none where the class refuses (R417). -/
def outrAdmit (b : Bytes) (d : Dev) (m : Memory) : Option Nat × Dev × Memory :=
  if d.rst.inboundClosed then (none, d, m)
  else
    let r := admitFrame 5 b.length d
    match r.1 with
    | none => (none, r.2, m)
    | some h => (some h, clearPoison (frameWords r.2 h 0 b.length) r.2, writeFrame r.2 h b m)

/-- The short manifest of a received frame, widened (R181, R418). -/
def outrManifest (h len src t : Nat) (d : Dev) : Manifest :=
  let n := extendShort (nowTotal d) (t / 65536 % 2 ^ 32)
  { head := h, len := len, flags := 2 ^ fStampValid + 2 ^ fWidened, src := src
    stampNs := n % 1000000000, stampS := n / 1000000000 % 2 ^ 32 }

/-- An accepted frame is handed on; one that no class refuses is acknowledged. `b` is what its caravan holds, and `relay`
its flood pair where it is relayed (R431). -/
def outrDeliver (src t shr : Nat) (f : OutrMac) (b : Bytes) (relay : Option (Nat × Nat)) (d : Dev) (m : Memory) : Dev × Memory :=
  let r := outrAdmit b d m
  match r.1 with
  | none => (count OM_RX_REFUSED_COUNT 0 0 r.2.1, r.2.2)
  | some h =>
    let x := outrManifest h b.length src t r.2.1
    let d1 := outrAckSend f t shr (toWaystation x (count OM_RX_ACCEPT_COUNT 0 0 r.2.1))
    match relay, outrQueue d1 bcast with
    | some p, some q =>
      let e := enqueueFrom .outrider { x with queue := q } true d1
      (if e.1 then outrMod (fun u => { u with relays := tabSet u.relays h p }) e.2 else e.2, r.2.2)
    | some _, none => (count OM_ENQ_DROP_COUNT 0 0 d1, r.2.2)
    | none, _ => (d1, r.2.2)

/-- R431: a flood frame. -/
def outrFlood (src t shr : Nat) (f : OutrMac) (b : Bytes) (fl : Nat × Nat × Nat) (d : Dev) (m : Memory) : Dev × Memory :=
  match seenFind d fl.2.1 fl.2.2 with
  | some _ =>
    (count OM_FLOOD_DUP_COUNT 0 0 (outrMod (fun u => { u with seen := u.seen.map (fun s =>
      if s.orig = fl.2.1 ∧ s.seq = fl.2.2 then { s with heard := s.heard + 1 } else s) }) d), m)
  | none =>
    let d1 := seenEnter fl.2.1 fl.2.2 1 d
    if fl.2.1 = d.rd OM_ADDR_SHORT then (d1, m)
    else if 2 ≤ fl.1 ∧ d.on OM_CFG_RELAY_EN then
      outrDeliver src t shr f (patch b (f.payload + 1) [BitVec.ofNat 8 (fl.1 - 1)]) (some (fl.2.1, fl.2.2)) d1 m
    else outrDeliver src t shr f b none d1 m

/-- An accepted frame after the duplicate check. -/
def outrPass (src t shr : Nat) (f : OutrMac) (b : Bytes) (d : Dev) (m : Memory) : Dev × Memory :=
  match floodHeader d f.dst f.payload b with
  | some fl => outrFlood src t shr f b fl d m
  | none => outrDeliver src t shr f b none d m

/-- R415: a frame from a source found in no entry. -/
def outrUnknown (a : OutrAddr) (d : Dev) : Dev :=
  let d1 := match a with
    | .short s => (d.put OM_UNKNOWN_LO_ADDR s).put OM_UNKNOWN_HI_SHORT 1 |>.put OM_UNKNOWN_HI_ADDR 0
    | .ext x => (d.put OM_UNKNOWN_LO_ADDR x).put OM_UNKNOWN_HI_SHORT 0 |>.put OM_UNKNOWN_HI_ADDR (x / 2 ^ 32)
    | .none => d
  outrEvent 1 bcast (count OM_RX_UNKNOWN_COUNT 0 0 d1)

/-- An acknowledgement with sequence number `s` arrives at `t`. -/
def outrAcked (s t shr : Nat) (d : Dev) : Dev :=
  match d.outr.held.find? (fun h => h.waiting && h.seq == some s) with
  | none => d
  | some h =>
    nbrSync h.nbr t (h.nominal.map (· + 65536 * shr)) (refDown h.x.head (count OM_TX_OK_COUNT 0 0
      (outrMod (fun u => { u with held := u.held.filter (fun g => g.nbr != h.nbr) }) d)))

/-- R414: a frame arrives. -/
def outrFrameRx (p : OutrRx) (d : Dev) (m : Memory) : Dev × Memory :=
  if !isActive d pOp || !outrDetects d p.mode then (d, m)
  else if !p.phrOk then (count OP_HDR_FAIL_COUNT 0 0 d, m)
  else
    let d0 := count OP_RX_FRAME_COUNT 0 0 d
    if !isActive d pOm || !p.fcsOk then (d0, m)
    else
      let b := p.psdu
      let f := outrMac b
      let t := outrRxStamp p.mode d0
      if f.type = 2 then (match f.seq with
        | some s => outrAcked s t p.shr d0
        | none => d0, m)
      else if !outrAccepts d0 f then (d0, m)
      else match outrSource d0 f.src with
        | none => outrPass 0x5FFF t p.shr f b (outrUnknown f.src d0) m
        | some e =>
          let d1 := nbrFrame e t p.rssi p.shr f b d0
          match (if f.dst = .short 0xFFFF then none else f.seq) with
          | none => outrPass (0x5000 + e) t p.shr f b d1 m
          | some s =>
            let r := seqCheck e s d1
            if !r.1 then (outrAckSend f t p.shr (count OM_RX_DUP_COUNT 0 0 r.2), m)
            else if d1.rst.inboundClosed || (admitTest d1 5 (cellsFor (headRoom d1) b.length)).isNone then
              outrPass (0x5000 + e) t p.shr f b d1 m
            else outrPass (0x5000 + e) t p.shr f b r.2 m

/-- R396: a preamble found during a reception. -/
def outrCapture (est power : Int) (passed : Bool) (d : Dev) : Dev :=
  if !isActive d pOp then d
  else
    let nf := signed 16 (if d.on OP_BAND_BAND then d.rd OP_NOISE_NF_24 else d.rd OP_NOISE_NF_SUB)
    let margin : Int := 4 * d.rd OP_CAPTURE_CAPTURE_MARGIN
    let ref := if est < nf then nf - margin else est
    if ref + margin ≤ power ∧ (!passed ∨ d.on OP_CAPTURE_CAPTURE_IN_DATA) then
      (if passed then count OP_CAPTURE_ABORT_COUNT 0 0 d else count OP_SHADOW_TAKEOVER_COUNT 0 0 d)
    else count OP_CAPTURE_IGNORED_COUNT 0 0 d

/-- R423: the listen window of the cell in progress ends. -/
def outrWindowEnd (d : Dev) : Dev :=
  match d.outr.cell with
  | some c =>
    if c.expect && !c.heard && !c.tx && c.nbr != bcast then
      nbrFail c.nbr (outrMod (fun u => { u with cell := some { c with heard := true } }) d)
    else d
  | none => d

/-! ### Calibration, drain and reset (R398, R432) -/

/-- A preparation's calibration starts. -/
def outrCalStart (d : Dev) : Dev := (d.put OP_CAL_STATUS_RUNNING 1).put OP_CAL_STATUS_STEP 1

def outrCalIdle (d : Dev) : Dev := (d.put OP_CAL_STATUS_RUNNING 0).put OP_CAL_STATUS_STEP 0

/-- R398: the step in progress ends. -/
def outrCalStep (overrun : Bool) (lat : List Nat) (d : Dev) : Dev :=
  let k := d.rd OP_CAL_STATUS_STEP
  if !d.on OP_CAL_STATUS_RUNNING then d
  else if overrun then unitFail 7 (fault0 pOp 0x40 1 (256 * k) (outrCalIdle d))
  else if k < 6 then d.put OP_CAL_STATUS_STEP (k + 1)
  else
    let d1 := match lat with
      | [a, b, c, e] => (((d.put OP_TX_LAT_LAT_24 a).put OP_TX_LAT_LAT_SUB b).put OP_RX_LAT_LAT_24 c).put OP_RX_LAT_LAT_SUB e
      | _ => d
    raiseBit pOp 3 (outrCalIdle d1)

/-- A drain of either page ends the cell in progress; manifests stay on their queues. -/
def outrDrain (d : Dev) : Dev := outrMod (fun u => { u with cell := none, listen := none }) d

/-- A soft reset of OUTRMAC; frames begun are given up. -/
def outrSoftReset (d : Dev) : Dev :=
  outrMod (fun _ => {}) (d.outr.held.foldl (fun x h => refDown h.x.head (frameDropped h.x x)) d)

/-! ### Meanings -/

/-- A write of NBR_CMD with command `c`. -/
def nbrWrite (m c : Nat) (s : State) : Host.Outcome State Fault Refusal := upd s (cmdWrite (pOm + 2) 0x044 m (nbrCommand m c))

def execNbrCreate (m : Nat) (s : State) : Host.Outcome State Fault Refusal := nbrWrite m 1 s
def execNbrUpdate (m : Nat) (s : State) : Host.Outcome State Fault Refusal := nbrWrite m 2 s
def execNbrRemove (m : Nat) (s : State) : Host.Outcome State Fault Refusal := nbrWrite m 3 s
def execNbrResync (m : Nat) (s : State) : Host.Outcome State Fault Refusal := nbrWrite m 4 s

def execOutrFrameRx (p : OutrRx) (s : State) : Host.Outcome State Fault Refusal := updMem s (outrFrameRx p)

def execOutrCapture (est power : Int) (passed : Bool) (s : State) : Host.Outcome State Fault Refusal :=
  upd s (outrCapture est power passed)

def execOutrRxLost (s : State) : Host.Outcome State Fault Refusal :=
  upd s (fun d => if isActive d pOp then count OP_RX_LOST_COUNT 0 0 d else d)

def execOutrCalStepDone (overrun : Bool) (lat : List Nat) (s : State) : Host.Outcome State Fault Refusal :=
  upd s (outrCalStep overrun lat)

def execOutrTimeslot (s : State) : Host.Outcome State Fault Refusal := upd s outrSlot

def execOutrFrameTx (nbr : Nat) (t : OutrTx) (s : State) : Host.Outcome State Fault Refusal :=
  upd s (fun d => outrFrameTx nbr t d s.mem)

def execOutrAckTimeout (nbr : Nat) (s : State) : Host.Outcome State Fault Refusal := upd s (outrAckTimeout nbr)

def execOutrRxWindowEnd (s : State) : Host.Outcome State Fault Refusal := upd s outrWindowEnd

def execNbrAgeExpire (e : Nat) (s : State) : Host.Outcome State Fault Refusal := upd s (nbrAge e)

def execExtListen (e : Nat) (s : State) : Host.Outcome State Fault Refusal := upd s (extListen e)

def execCslSequence (e : Nat) (t : OutrTx) (wake : Nat) (s : State) : Host.Outcome State Fault Refusal :=
  upd s (fun d => cslSequence e t wake d s.mem)

def execRfsDelivery (e : Nat) (t : OutrTx) (copies : Nat) (acked : Bool) (s : State) : Host.Outcome State Fault Refusal :=
  upd s (fun d => rfsDelivery e t copies acked d s.mem)

def execOmEvtPop (m : Nat) (s : State) : Host.Outcome State Fault Refusal := upd s (cmdRead pOm 0x084 m outrEvtPop)

end Sys2Proof.Machine
end

