-- ==== Sys2Proof/Machine/Bryn.lean ====
section
/-! DEFINITION. Bryn: image verification, OTP, lifecycle, identity, commands and attestation (spec/16_bryn.md). -/

namespace Sys2Proof.Machine

open Sys2Proof

/-- Changes Bryn. -/
def brynMod (f : BrynUnit → BrynUnit) (d : Dev) : Dev := { d with bryn := f d.bryn }

/-! ### Measurements -/

/-- The measurement of an image that has passed. -/
def measureOf (b : Bytes) : Measurement :=
  ⟨hdrKind b, hdrSigner b, hdrArb b, hdrSvn b, hdrLen b, slice b 0xD0 48⟩

/-- An image is recorded. -/
def measure (b : Bytes) (d : Dev) : Dev :=
  let e := brynMod (fun u => { u with meas := u.meas ++ [measureOf b] }) d
  e.put BRYN_MEAS_COUNT e.bryn.meas.length

/-! ### The attestation report (R638) -/

/-- One measurement's entry. -/
def measBytes (m : Measurement) : Bytes :=
  toBytes 1 m.kind ++ toBytes 1 m.signer ++ toBytes 1 m.arb ++ [0] ++ toBytes 4 m.svn ++ toBytes 4 m.len ++ toBytes 4 0 ++
    exactly 48 m.digest

/-- Bytes 0x000–0x4BF. -/
def reportBody (d : Dev) (nonce : Bytes) : Bytes :=
  let t := fullNow d
  toBytes 4 (0x01 + 2 ^ 16 * 0x1200) ++
  toBytes 4 (d.bryn.lc + 16 * d.rd BRYN_LC_SET_IN_USE + 256 * d.bryn.meas.length + 2 ^ 16 * b2n d.bryn.opened +
    2 ^ 17 * d.rd SYSFEAT_STATUS_COMMITTED) ++
  toBytes 4 (d.rd SYS_RESET_CAUSE_CAUSE) ++ toBytes 4 (d.rd CIPH_BOOT_EPOCH_EPOCH) ++ devId d ++ exactly 32 nonce ++
  toBytes 6 (fullS t) ++ toBytes 4 (fullNs t) ++ toBytes 2 (fullFrac t) ++ toBytes 4 0 ++
  (List.range 4).flatMap (fun w => toBytes 4 (offered d.variant w)) ++
  [1, 2, 3].flatMap (fun w => toBytes 4 (if d.on SYSFEAT_STATUS_COMMITTED then d.rd DRV_FEAT_ACCEPT 0 w else 0)) ++
  toBytes 4 0 ++ (List.range 16).flatMap (fun i => toBytes 1 (tabGet d.bryn.arb i 0)) ++
  toBytes 4 (d.bryn.programmed + 16 * d.bryn.revoked) ++ List.replicate 28 0 ++
  padTo 1024 ((d.bryn.meas.take 16).flatMap measBytes)

/-- The report with both signatures. -/
def attestation (d : Dev) (nonce : Bytes) : Bytes × Dev :=
  let body := reportBody d nonce
  let v := draw d
  (body ++ exactly 3373 (Config.identitySign (lcClass d) v.1 body) ++ List.replicate 19 0, v.2)

/-! ### Keys (R620) -/

/-- USAGE of the slots that Bryn fills. -/
def fixedUsage (s : Nat) : Nat := if s = 1 then 0 else if s = 3 then 2 ^ uWrap + 2 ^ uUnwrap else 2 ^ uDerive

/-- Bryn fills slot `s`; its PN is open. -/
def fillSlotKey (d : Dev) (s : Nat) : Dev :=
  let v := draw d
  installKey s (toBytes 4 (0x0101 + 2 ^ 16 * fixedUsage s + 2 ^ 22 * 2) ++ toBytes 8 (v.1 % 2 ^ 48) ++ toBytes 4 0)
    (exactly 32 (Config.fixedKey s (lcClass d) (if s < 2 then 0 else d.rd BRYN_LC_SET_IN_USE))) v.2

/-- R620: the slots reserved to Bryn. -/
def fillKeys (d : Dev) : Dev := [0, 1, 2, 3].foldl fillSlotKey d

/-! ### Commands (R630–R637) -/

/-- A command that needs the key 0xD4A7. -/
def needsKey (cmd : Nat) : Bool := has [4, 5, 6, 7, 8, 0xA, 0xC, 0xD] cmd

/-- Bytes of the input and the output of a command in the buffer (R634). -/
def bufIn (cmd : Nat) : Nat :=
  match cmd with
  | 1 => headerBytes | 2 => 32 | 5 => 48 | 0xA => headerBytes | 0xB => headerBytes | 0xD => 128 | _ => 0
def bufOut (cmd : Nat) : Nat :=
  match cmd with
  | 2 => 0x1200 | 3 => 1984 | _ => 0

/-- A command or a write to BRYN page 0 is refused: code 0x40; RESULT 0x80 where no command is in progress. -/
def brynRefuse (m result : Nat) (d : Dev) : Dev :=
  (refuseWrite pBryn 0x40 m (regAddr pBryn 0x048) d).putIf (!d.on BRYN_CMD_STATUS_BUSY) BRYN_CMD_STATUS_RESULT result

/-- Bryn takes writes of master `m`, for command `cmd`, 0 for another register (R634, R636). -/
def brynTakes (d : Dev) (m cmd : Nat) : Bool :=
  let always := m == 19 && (cmd == 9 || cmd == 0xA)
  if d.bryn.lc = lcSCRAPPED then false
  else if d.rst.brynHeld then always
  else decide (m < 8) || always || (m == 19 && portOpen d)

/-- `n` bytes at `a` are granted to the commanding master, or none are asked. -/
def bufGrant (d : Dev) (m : Nat) (k : AccKind) (a n : Nat) : Bool :=
  n == 0 || (match memVerdict d m k a n with
    | .granted => true
    | _ => false)

/-- A command's own conditions beyond the verification of an image: the counter (R630), the owner sets (R631, R632), the
lifecycle (R618, R633), UNLOCK (R637), and the slot of SYSKEY_LOAD. -/
def brynAllowed (d : Dev) (cmd arg data : Nat) : Bool :=
  let b := d.bryn
  match cmd with
  | 4 => decide (arg < 16) && decide (tabGet b.arb arg 0 ≤ data) && decide (data ≤ 64) &&
      b.meas.all (fun m => m.arb != arg || decide (data ≤ m.svn))
  | 5 => decide (b.lc ≤ lcPROVISIONED) && decide (arg < 4) && !b.programmed.testBit arg
  | 6 => decide (arg < 4) && d.rd BRYN_LC_SET_IN_USE != arg &&
      (List.range 4).any (fun i => i != arg && setValid d i)
  | 7 => b.lc == lcPROVISIONED
  | 8 => decide (b.lc < lcRMA) &&
      (if arg = Config.bootCfgArg then b.lc != lcDEPLOYED && decide (d.rd BRYN_OTP_IDX_WORD < 4)
       else decide (arg < 16) && decide (d.rd BRYN_OTP_IDX_WORD < 64))
  | 0xA => decide (b.lc < lcRMA)
  | 0xD => decide (4 ≤ arg) && decide (arg < 8)
  | _ => true

/-- The input of a command: for VERIFY the header and as much payload as it names and the master may read. -/
def brynInput (d : Dev) (mem : Memory) (m cmd a : Nat) : Option Bytes :=
  if cmd = 1 then
    match memVerdict d m .read a headerBytes with
    | .granted =>
      let h := memRead mem a headerBytes
      let n := if hdrLen h ≤ 4194304 then hdrLen h else 0
      if bufGrant d m .read (a + headerBytes) n then
        (if poisonedAt d a (headerBytes + n) then some [] else some (memRead mem a (headerBytes + n)))
      else none
    | .outside => some []
    | .refused _ => none
  else if bufGrant d m .read a (bufIn cmd) then some (memRead mem a (bufIn cmd)) else none

/-- The token of BRYNBOX's buffer (R817). -/
def boxToken (d : Dev) : Bytes := (List.range 1536).flatMap (fun i => toBytes 4 (tabGet d.edge.tap.token i 0))

/-- R634: a write of BRYN_CMD with command `cmd`; `box` where it comes through BRYNBOX. -/
def brynCommand (box : Bool) (cmd m key arg : Nat) (s : DM) : DM :=
  let d := s.1
  let a := d.rd BRYN_BUF_LO_ADDR + 2 ^ 32 * d.rd BRYN_BUF_HI_ADDR
  let data := d.rd BRYN_CMD_DATA_DATA
  if d.bryn.lc = lcSCRAPPED ∨ (d.rst.brynHeld ∧ !brynTakes d m cmd) then s
  else if !brynTakes d m cmd then (brynRefuse m 0x80 d, s.2)
  else if d.on BRYN_CMD_STATUS_BUSY then (refuseWrite pBryn 0x40 m (regAddr pBryn 0x048) d, s.2)
  else if cmd = 0 then s
  else if 0xD < cmd ∨ (needsKey cmd ∧ key ≠ 0xD4A7) ∨ !brynAllowed d cmd arg data then (brynRefuse m 0x80 d, s.2)
  else
    let inp := if box && (cmd == 0xA || cmd == 0xB) then some (boxToken d) else brynInput d s.2 m cmd a
    match inp with
    | none => (brynRefuse m 0x80 d, s.2)
    | some b =>
      if !bufGrant d m .write a (bufOut cmd) then (brynRefuse m 0x80 d, s.2)
      else
        (brynMod (fun u => { u with job := some ⟨cmd, arg, data, m, b, a, d.rd BRYN_OTP_IDX_WORD⟩ })
          (d.put BRYN_CMD_STATUS_BUSY 1), s.2)

/-- What of the bits `v` programs into OTP: all of them, or, where programming fails to verify, an open part. -/
def programmed (fails : Bool) (v : Nat) (d : Dev) : Nat × Dev :=
  if fails then
    let x := draw d
    (v &&& x.1, x.2)
  else (v, d)

/-- A lifecycle transition, which happens or, where programming fails, happens or not; then a cold reset is requested. -/
def transition (fails : Bool) (lc : Nat) (s : DM) : DM :=
  let v := if fails then drawBit s.1 else (true, s.1)
  if v.1 then requestCold (2 ^ cBryn) (brynMod (fun u => { u with lc := lc }) v.2, s.2) else (v.2, s.2)

/-- A number with every bit programmed. -/
def ones (n : Nat) : Nat := 2 ^ n - 1

/-- Steps 2 and 3 of R637. -/
def wipe (d : Dev) : Dev :=
  let e := brynMod (fun u => { u with
    hashes := [0, 1, 2, 3].map (fun i => (i, List.replicate 48 255)), programmed := 15, revoked := 15
    owner := (List.range 1024).map (fun i => (i, ones 32)), wiping := false }) d
  { e with
    regs := e.regs.filter (fun x => !(x.1.reg / 4096 == pRtc && x.1.reg % 4096 == 0x100))
    ciph := { e.ciph with keys := [] } }

/-- Stores the output of a command. -/
def brynOutput (j : BrynJob) (b : Bytes) (s : DM) : DM := (coverWrite j.addr b.length s.1, memWrite s.2 j.addr b)

/-- SYSKEY_LOAD (R586, R620): the blob is opened with slot 3. -/
def sysKeyLoad (j : BrynJob) (d : Dev) : Nat × Dev :=
  let b := j.input
  if !slotOk d 3 uUnwrap || blobMalformed 16 b then (0x80, d)
  else match gcmOpen (slotKey d 3) (slice b 0x10 12) (b.take 16) (slice b 0x20 64) (slice b 0x60 16) with
    | none => (0x80, d)
    | some k => (0, installKey j.arg (b.take 16) k d)

/-- What a command does when it is carried out: RESULT, and the device and memory. -/
def brynRun (fails : Bool) (j : BrynJob) (s : DM) : Nat × DM :=
  let d := s.1
  match j.cmd with
  | 1 =>
    let r := imageFail d kSecondary (some j.input)
    if r ≠ 0 then (r, s) else if 16 ≤ d.bryn.meas.length then (0x81, s) else (0, measure j.input d, s.2)
  | 2 =>
    let r := attestation d j.input
    (0, brynOutput j r.1 (r.2, s.2))
  | 3 => (0, brynOutput j (identityKeys d) s)
  | 4 =>
    let old := tabGet d.bryn.arb j.arg 0
    let v := if fails then (let x := draw d; (old + x.1 % (j.data - old + 1), x.2)) else (j.data, d)
    (0, brynMod (fun u => { u with arb := tabSet u.arb j.arg v.1 }) v.2, s.2)
  | 5 =>
    let h := programmed fails (ofBytes j.input) d
    let e := brynMod (fun u => { u with
      hashes := tabMod u.hashes j.arg [] (fun old => toBytes 48 (ofBytes old ||| h.1)), programmed := setBit u.programmed j.arg }) h.2
    (0, if d.bryn.lc = lcBLANK then transition fails lcPROVISIONED (e, s.2) else (e, s.2))
  | 6 => (0, brynMod (fun u => { u with revoked := setBit u.revoked j.arg }) d, s.2)
  | 7 => (0, transition fails lcDEPLOYED s)
  | 8 =>
    let v := programmed fails j.data d
    if j.arg = Config.bootCfgArg then
      (0, brynMod (fun u => { u with bootCfg := tabMod u.bootCfg j.word 0 (· ||| v.1) }) v.2, s.2)
    else (0, brynMod (fun u => { u with owner := tabMod u.owner (64 * j.arg + j.word) 0 (· ||| v.1) }) v.2, s.2)
  | 9 =>
    let l := (List.range 8).foldl (fun (x : List Nat × Dev) _ =>
      let v := draw x.2
      (x.1 ++ [v.1 % 2 ^ 32], v.2)) ([], d)
    (0, brynMod (fun u => { u with nonce := some l.1 }) l.2, s.2)
  | 0xA =>
    let r := imageFail d kUnlock (some j.input)
    if r ≠ 0 then (r, s)
    else
      let e := wipe (brynMod (fun u => { u with lc := lcRMA, nonce := none }) d)
      (0, requestCold (2 ^ cBryn) (e, []))
  | 0xB =>
    let r := imageFail d kDebug (some j.input)
    if r ≠ 0 then (r, s) else (0, brynMod (fun u => { u with opened := true, nonce := none }) d, s.2)
  | 0xC => (0, transition fails lcSCRAPPED s)
  | _ =>
    let r := sysKeyLoad j d
    (r.1, if r.1 = 0 then r.2 else refuseWrite pBryn 0x40 j.master (regAddr pBryn 0x048) r.2, s.2)

/-- R634: the command in progress completes; `fails` where OTP programming fails to verify (code 0x41), with a RESULT that
the spec does not give. -/
def brynDone (fails : Bool) (s : DM) : DM :=
  match s.1.bryn.job with
  | none => s
  | some j =>
    let d := (brynMod (fun u => { u with job := none }) s.1).put BRYN_CMD_STATUS_BUSY 0
    let bad := fails && has [4, 5, 6, 7, 8, 0xA, 0xC] j.cmd
    let d1 := if bad then fault0 pBryn 0x41 1 0 d else d
    let r := brynRun bad j (raiseBit pBryn 3 d1, s.2)
    let v := if bad then draw r.2.1 else (r.1, r.2.1)
    if v.2.rst.asserted then (v.2, r.2.2) else (v.2.put BRYN_CMD_STATUS_RESULT v.1, r.2.2)

/-! ### Registers of BRYN (R634, R636) -/

/-- BRYN_LC as it reads. -/
def brynLc (d : Dev) : Nat :=
  let valid := ((List.range 4).map (fun i => if setValid d i then 2 ^ i else 0)).sum
  2 ^ 28 * d.bryn.revoked + 2 ^ 24 * valid + 2 ^ 16 * d.rd BRYN_LC_SET_IN_USE + 2 ^ 8 * b2n (portOpen d) + d.bryn.lc

/-- A write to BRYN page 0 other than BRYN_CMD and BRYN_RECOV. -/
def brynPlainWrite (m off v : Nat) (d : Dev) : Dev :=
  if !brynTakes d m 0 then (if d.bryn.lc = lcSCRAPPED ∨ d.rst.brynHeld then d else refuseWrite pBryn 0x40 m (regAddr pBryn off) d)
  else match off with
    | 0x050 => d.put BRYN_CMD_DATA_DATA v
    | 0x054 => d.put BRYN_BUF_LO_ADDR v
    | 0x058 => d.put BRYN_BUF_HI_ADDR v
    | _ => d

/-- The block's registers of BRYN page 0 as they read; SCRAPPED and a held Bryn answer BRYN_LC and BRYN_DEVID alone. -/
def brynValue (d : Dev) (off : Nat) : Nat :=
  if off = 0x040 then brynLc d
  else if 0x0C0 ≤ off ∧ off < 0x0F0 then ofBytes (slice (devId d) (off - 0x0C0) 4)
  else if d.bryn.lc = lcSCRAPPED ∨ d.rst.brynHeld then 0
  else if off = 0x044 then
    2 ^ 16 * d.rd BRYN_BOOT_STATUS_RECOV_FAIL + 2 ^ 8 * d.rd BRYN_BOOT_STATUS_BAK_FAIL + d.rd BRYN_BOOT_STATUS_PRI_FAIL
  else if off = 0x04C then 2 ^ 31 * d.rd BRYN_CMD_STATUS_BUSY + d.rd BRYN_CMD_STATUS_RESULT
  else if off = 0x050 then d.rd BRYN_CMD_DATA_DATA
  else if off = 0x054 then d.rd BRYN_BUF_LO_ADDR
  else if off = 0x058 then d.rd BRYN_BUF_HI_ADDR
  else if off = 0x05C then d.bryn.meas.length
  else if 0x080 ≤ off ∧ off < 0x0C0 then tabGet d.bryn.arb ((off - 0x080) / 4) 0
  else if 0x100 ≤ off ∧ off < 0x120 then ((d.bryn.nonce.getD []).getD ((off - 0x100) / 4) 0)
  else 0

/-- Page 1 as it reads to master `m`. -/
def brynOtpValue (d : Dev) (m off : Nat) : Nat :=
  if off = 0x040 then 2 ^ 8 * d.rd BRYN_OTP_IDX_WORD + d.rd BRYN_OTP_IDX_PAGE
  else if off = 0x044 then
    (if m < 8 then
      (if d.rd BRYN_OTP_IDX_PAGE < 16 ∧ d.rd BRYN_OTP_IDX_WORD < 64 then
        tabGet d.bryn.owner (64 * d.rd BRYN_OTP_IDX_PAGE + d.rd BRYN_OTP_IDX_WORD) 0 else 0)
     else 0)
  else if off = 0x048 then tabGet d.bryn.bootCfg 0 0
  else 0

/-! ### Debug of a core (R672) -/

/-- A write of CORE_DBG of core `n` by master `m`: HALT_REQ of `v`, and a STEP, whose instruction is the core's own. -/
def coreDbgWrite (m n v : Nat) (d : Dev) : Dev :=
  if m ≠ 19 || !portOpen d then d
  else
    let e := d.put CORE_DBG_HALT_REQ v n
    let h := v.testBit 0 && isActive d (pCore n)
    let stopped := h || has d.rst.halted n
    (e.put CORE_DBG_HALTED (b2n h) n).put CORE_STATUS_HALTED (b2n stopped) n

/-! ### Meanings -/

/-- A write of BRYN_CMD by master `m` with command `cmd`. -/
def brynRow (cmd m key arg : Nat) (s : State) : Host.Outcome State Fault Refusal :=
  updMem s (fun d mem => brynCommand false cmd m key arg (d, mem))

def execBrynVerify (m : Nat) (s : State) : Host.Outcome State Fault Refusal := brynRow 1 m 0 0 s
def execBrynAttest (m : Nat) (s : State) : Host.Outcome State Fault Refusal := brynRow 2 m 0 0 s
def execBrynIdExport (m : Nat) (s : State) : Host.Outcome State Fault Refusal := brynRow 3 m 0 0 s
def execBrynArbAdvance (m key arg : Nat) (s : State) : Host.Outcome State Fault Refusal := brynRow 4 m key arg s
def execBrynOwnerProgram (m key arg : Nat) (s : State) : Host.Outcome State Fault Refusal := brynRow 5 m key arg s
def execBrynOwnerRevoke (m key arg : Nat) (s : State) : Host.Outcome State Fault Refusal := brynRow 6 m key arg s
def execBrynLcDeploy (m key : Nat) (s : State) : Host.Outcome State Fault Refusal := brynRow 7 m key 0 s
def execBrynOtpWrite (m key arg : Nat) (s : State) : Host.Outcome State Fault Refusal := brynRow 8 m key arg s
def execBrynChallenge (m : Nat) (s : State) : Host.Outcome State Fault Refusal := brynRow 9 m 0 0 s
def execBrynUnlock (m key : Nat) (s : State) : Host.Outcome State Fault Refusal := brynRow 0xA m key 0 s
def execBrynDebugOpen (m : Nat) (s : State) : Host.Outcome State Fault Refusal := brynRow 0xB m 0 0 s
def execBrynScrap (m key : Nat) (s : State) : Host.Outcome State Fault Refusal := brynRow 0xC m key 0 s
def execBrynSyskeyLoad (m key arg : Nat) (s : State) : Host.Outcome State Fault Refusal := brynRow 0xD m key arg s

def execBrynCmdDone (fails : Bool) (s : State) : Host.Outcome State Fault Refusal :=
  updMem s (fun d mem => brynDone fails (d, mem))

def execCoreHaltReq (m n : Nat) (halt : Bool) (s : State) : Host.Outcome State Fault Refusal :=
  upd s (cmdWrite (pCore n) 0x050 m (coreDbgWrite m n (b2n halt)))

def execCoreStep (m n : Nat) (s : State) : Host.Outcome State Fault Refusal :=
  upd s (cmdWrite (pCore n) 0x050 m (fun d => coreDbgWrite m n (2 + d.rd CORE_DBG_HALT_REQ n) d))

end Sys2Proof.Machine
end

