-- ==== Sys2Proof/Machine/Edge.lean ====
section
/-! DEFINITION. PMBus, GPIO, SPI, UART and the debug port's test access port (spec/21_package_electrical.md,
spec/22_faults_diagnostics.md). Accesses of the debug port to the fabric are in Bus.lean. -/

namespace Sys2Proof.Machine

open Sys2Proof

def pGpio : Nat := 0xE0
def pPmb : Nat := 0xE1
def pSpi : Nat := 0xE2
def pUart : Nat := 0xE3
def pPace : Nat := 8

/-- Changes the parts on the package's edge. -/
def edgeMod (f : EdgeUnit → EdgeUnit) (d : Dev) : Dev := { d with edge := f d.edge }

/-- Changes the debug port. -/
def tapMod (f : Tap → Tap) (d : Dev) : Dev := edgeMod (fun e => { e with tap := f e.tap }) d

/-! ### PMBus (R788–R793) -/

/-- A quotient rounded to the nearest; which way a half goes is open. -/
def roundNear (a b : Nat) (d : Dev) : Nat × Dev :=
  if 2 * (a % b) < b then (a / b, d)
  else if b < 2 * (a % b) then (a / b + 1, d)
  else
    let v := drawBit d
    (a / b + b2n v.1, v.2)

/-- The word of VOUT_COMMAND for 720 mV + `v` mV: V × 2^−N in volts, rounded (R789). -/
def voutWord (v : Nat) (d : Dev) : Nat × Dev :=
  let n := signed 5 (d.rd PMB_STATUS_EXP)
  roundNear ((720 + v) * 2 ^ (-n).toNat) (1000 * 2 ^ n.toNat) d

/-- Bytes go to the PMIC, and `reads` bytes are read. What PMB sends of itself follows PAGE where it is used (R788, R789); a
software transfer is the command that PMB_XFER names. -/
def pmbSend (x : PmbXfer) (bytes : List Nat) (reads : Nat) (d : Dev) : Dev :=
  let page := d.rd PMB_CFG_PAGE
  let own := match x with
    | .soft _ => false
    | _ => true
  let pre : List Nat := if page = 0xFF || !own then [] else [0, page]
  (edgeMod (fun e => { e with pmb := some x }) (emit (.pmbus (d.rd PMB_CFG_ADDR) (pre ++ bytes) reads (d.on PMB_CFG_PEC)) d)).put
    PMB_STATUS_BUSY 1

/-- PMB becomes Active: it reads VOUT_MODE (R788). -/
def pmbStart (d : Dev) : Dev := pmbSend .mode [0x20] 1 d

/-- A waiting voltage command goes out once the bus is free (R789, R791). -/
def pmbVoltage (d : Dev) : Dev :=
  match d.edge.volts with
  | v :: l =>
    if isActive d pPmb && d.edge.pmb.isNone && d.on PMB_STATUS_MODE_VALID then
      let w := voutWord v d
      pmbSend (.volt v) [0x21, w.1 % 256, w.1 / 256 % 256] 0 (edgeMod (fun e => { e with volts := l }) w.2)
    else d
  | [] => d

/-- PACE_VNOW has changed to `v` (R789). -/
def vnowChanged (v : Nat) (d : Dev) : Dev :=
  if isActive d pPmb && !d.on PMB_STATUS_MODE_VALID && d.edge.pmb != some .mode then d
  else edgeMod (fun e => { e with volts := e.volts ++ [v] }) d

/-- PACE_VNOW becomes `v`, and the voltage command follows where it changes. -/
def setVnow (v : Nat) (d : Dev) : Dev :=
  if d.rd PACE_VNOW_VNOW = v then d else vnowChanged v (d.put PACE_VNOW_VNOW v)

/-- The governor runs (R86). -/
def governorOn (d : Dev) : Bool := isActive d pPace && feat d pPace 3 7

/-- A bit of PACE_STATUS and the cause of its rising edge. -/
def paceFlag (F : Fld) (cause : Nat) (v : Bool) (d : Dev) : Dev :=
  if v && !d.on F then raiseBit pPace cause (d.put F 1) else d.put F (b2n v)

/-- A write of PMB_XFER by master `m` (R791). -/
def pmbXferWrite (m v : Nat) (d : Dev) : Dev :=
  if !v.testBit 31 then d
  else if d.on PMB_STATUS_BUSY then refuseWrite pPmb 0x42 m (regAddr pPmb 0x048) d
  else if !isActive d pPmb then d
  else
    let n := bitsOf v 17 16
    let data := d.rd PMB_DATA_DATA
    let read := v.testBit 15
    let w : List Nat := if read ∨ n = 0 then [] else if n = 1 then [data % 256] else [data % 256, data / 256]
    pmbSend (.soft read) ((v % 256) :: w) (if read then (if n = 1 then 1 else if n = 0 then 0 else 2) else 0) d

/-- A transfer fails (R790): counted, and code 0x41. -/
def pmbFailed (d : Dev) : Dev := fault0 pPmb 0x41 0 0 (satPut PMB_FAIL_COUNT 0 0 1 d)

/-- The transfer on the bus ends with `result` (0 done, 1 no acknowledgement, 2 timeout, 3 PEC error) and the data read. -/
def pmbDone (result data : Nat) (d : Dev) : Dev :=
  match d.edge.pmb with
  | none => d
  | some x =>
    let d1 := (edgeMod (fun e => { e with pmb := none }) d).put PMB_STATUS_BUSY 0
    let bad := result != 0
    let d2 := if bad then pmbFailed d1 else d1
    match x with
    | .mode =>
      if bad then edgeMod (fun e => { e with volts := [] }) d2
      else if data / 32 % 8 = 0 then (d2.put PMB_STATUS_EXP data).put PMB_STATUS_MODE_VALID 1
      else fault0 pPmb 0x40 0 0 (edgeMod (fun e => { e with volts := [] }) d2)
    | .volt v =>
      let d3 := paceFlag PACE_STATUS_PMB_FAIL 5 bad d2
      if !bad then { d3 with sh := { d3.sh with paceGood := v } }
      else if governorOn d3 then d3.put PACE_VNOW_VNOW d3.sh.paceGood else d3
    | .soft read =>
      raiseBit pPmb 4 ((d2.put PMB_XFER_RESULT result).putIf (read && !bad) PMB_DATA_DATA data)

/-- ALERT is raised while PMB_ALERT_N is low (R793). -/
def alertFollow (d : Dev) : Dev := if d.edge.alert then raiseBit pPmb 3 d else lowerBit pPmb 3 d

/-- PMB_ALERT_N goes low, or high; in a reset no register follows the ball. -/
def pmbAlert (low : Bool) (d : Dev) : Dev :=
  let e := edgeMod (fun x => { x with alert := low }) d
  if frozen d then e else alertFollow e

/-! ### GPIO (R805) -/

/-- PIN is raised while a flag is set and enabled. -/
def gpioPin (d : Dev) : Dev :=
  if d.rd GPIO_INT_F_F &&& d.rd GPIO_INT_EN_EN = 0 then lowerBit pGpio 3 d else raiseBit pGpio 3 d

/-- Flags of balls that stand at the level selected, while GPIO is Active. -/
def gpioLevels (d : Dev) : Nat :=
  if isActive d pGpio then
    andNot (2 ^ 32 - 1) ((d.edge.gpio ^^^ d.rd GPIO_INT_POL_POL) ||| d.rd GPIO_INT_EDGE_EDGE) % 2 ^ 32
  else 0

/-- The flags follow the balls. -/
def gpioFollow (d : Dev) : Dev := gpioPin (d.put GPIO_INT_F_F (d.rd GPIO_INT_F_F ||| gpioLevels d))

/-- Ball `n` goes to `level`; in a reset no flag follows the ball. -/
def gpioBall (n : Nat) (level : Bool) (d : Dev) : Dev :=
  let d1 := edgeMod (fun e => { e with gpio := putBit e.gpio n level }) d
  if 32 ≤ n then d
  else if frozen d then d1
  else
    let edge := d.edge.gpio.testBit n != level
    let hit := edge && isActive d1 pGpio && (d1.rd GPIO_INT_EDGE_EDGE).testBit n &&
      ((d1.rd GPIO_INT_POL_POL).testBit n == level)
    gpioFollow (if hit then d1.put GPIO_INT_F_F (setBit (d1.rd GPIO_INT_F_F) n) else d1)

/-- A write of GPIO_SET, and of GPIO_CLR. -/
def gpioSet (v : Nat) (d : Dev) : Dev := d.put GPIO_OUT_OUT (d.rd GPIO_OUT_OUT ||| v % 2 ^ 32)
def gpioClr (v : Nat) (d : Dev) : Dev := d.put GPIO_OUT_OUT (andNot (d.rd GPIO_OUT_OUT) (v % 2 ^ 32))

/-! ### SPI (R806) -/

/-- Writes to SPI by master `m` are taken: Bryn alone until REDUCED. -/
def spiTakes (d : Dev) (m : Nat) : Bool := m == 16 || decide (3 ≤ d.rd SYS_STATUS_LEVEL)

/-- Data bytes of a command. -/
def spiLen (v : Nat) : Nat := min 64 (bitsOf v 22 16)

/-- The 64 bytes of SPI_BUF. -/
def spiBuf (d : Dev) : Bytes := (List.range 16).flatMap (fun i => toBytes 4 (d.rd SPI_BUF_DATA 0 i))

/-- A write of SPI_CMD by master `m`. -/
def spiCmdWrite (m v : Nat) (d : Dev) : Dev :=
  if !spiTakes d m then d
  else if d.on SPI_STATUS_BUSY then refuseWrite pSpi 0x40 m (regAddr pSpi 0x048) d
  else if !v.testBit 31 || !isActive d pSpi then d
  else
    (edgeMod (fun e => { e with spi := some v })
      (emit (.spi v (d.rd SPI_ADDR_ADDR) (if v.testBit 23 then (spiBuf d).take (spiLen v) else [])) d)).put SPI_STATUS_BUSY 1

/-- The command in progress completes; `data` is what a read has brought. -/
def spiDone (data : Bytes) (d : Dev) : Dev :=
  match d.edge.spi with
  | none => d
  | some v =>
    let d1 := (edgeMod (fun e => { e with spi := none }) d).put SPI_STATUS_BUSY 0
    let b := padTo (spiLen v) (data.take (spiLen v)) ++ (spiBuf d1).drop (spiLen v)
    raiseBit pSpi 3
      (if v.testBit 23 then d1
       else (List.range 16).foldl (fun e i => e.put SPI_BUF_DATA (ofBytes (slice b (4 * i) 4)) 0 i) d1)

/-! ### UART (R801, R807) -/

/-- Characters a FIFO holds. -/
def uartDepth : Nat := 64

/-- RX_DATA and TX_LOW are raised while their conditions hold. -/
def uartFollow (d : Dev) : Dev :=
  if !isActive d pUart then d
  else
    let e := if d.edge.uartRx.isEmpty then lowerBit pUart 3 d else raiseBit pUart 3 d
    if d.edge.uartTx.length ≤ 16 then raiseBit pUart 4 e else lowerBit pUart 4 e

/-- A write of UART_TX by master `m`. -/
def uartTxWrite (m v : Nat) (d : Dev) : Dev :=
  if uartDepth ≤ d.edge.uartTx.length then refuseWrite pUart 0x41 m (regAddr pUart 0x048) d
  else uartFollow (edgeMod (fun e => { e with uartTx := e.uartTx ++ [v % 256] }) d)

/-- The character in transmission is sent. -/
def uartSent (d : Dev) : Dev :=
  if !isActive d pUart then d
  else match d.edge.uartTx with
    | [] => d
    | c :: l => uartFollow (emit (.uart c) (edgeMod (fun e => { e with uartTx := l }) d))

/-- A character is received; `err` are its BREAK, PARITY and FRAME bits. -/
def uartReceive (c err : Nat) (d : Dev) : Dev :=
  if !isActive d pUart then d
  else if uartDepth ≤ d.edge.uartRx.length then raiseBit pUart 5 (fault0 pUart 0x40 0 0 (satPut UART_OVR_COUNT 0 0 1 d))
  else
    let e := edgeMod (fun x => { x with uartRx := x.uartRx ++ [c % 256 + 256 * (err % 8)] }) d
    uartFollow (if err % 8 = 0 then e else raiseBit pUart 5 e)

/-- A read of UART_RX pops a character. -/
def uartPop (d : Dev) : Dev :=
  match d.edge.uartRx with
  | [] => answer 0 d
  | c :: l => answer (2 ^ 31 + c) (uartFollow (edgeMod (fun e => { e with uartRx := l }) d))

/-! ### The debug port (R803, R816) -/

/-- IDCODE by variant. -/
def idCode (v : Variant) : Nat :=
  match v with
  | .nv9700 => 0x29700563 | .nv9740 => 0x29740563 | .nv9720 => 0x29720563

/-- SYS_UNIT_STATE as one word. -/
def unitStates (d : Dev) : Nat := ((List.range 16).map (fun i => d.rd SYS_UNIT_STATE_UNIT 0 i * 4 ^ i)).sum

/-- The STATUS data register. -/
def tapStatus (d : Dev) : Nat :=
  d.rd SYS_STATUS_LEVEL + 2 ^ 4 * unitStates d + 2 ^ 36 * d.rd SYS_RESET_CAUSE_CAUSE +
    2 ^ 47 * d.rd BRYN_BOOT_STATUS_PRI_FAIL + 2 ^ 55 * d.bryn.lc

/-- BYPASS is selected: an instruction that is undefined or needs an open port. -/
def tapBypass (d : Dev) : Dev := emit (.tdo 1 0) (tapMod (fun t => { t with mode := .normal }) d)

/-- An instruction that selects no boundary scan shifts out `v`. -/
def tapRead (bits v : Nat) (d : Dev) : Dev := emit (.tdo bits v) (tapMod (fun t => { t with mode := .normal }) d)

/-- The number whose bits are `l`, first lowest. -/
def ofBools : List Bool → Nat
  | [] => 0
  | b :: l => b2n b + 2 * ofBools l

/-- A boundary-scan instruction: the balls are captured and shifted out, and the cells loaded. -/
def tapScan (mode : ScanMode) (balls cells : List Bool) (d : Dev) : Dev :=
  if portOpen d then
    emit (.tdo balls.length (ofBools balls)) (tapMod (fun t => { t with cells := cells, mode := mode }) d)
  else tapBypass d

/-- HIGHZ and CLAMP: the balls float, or keep the values loaded. -/
def tapHold (mode : ScanMode) (d : Dev) : Dev :=
  if portOpen d then emit (.tdo 1 0) (tapMod (fun t => { t with mode := mode }) d) else tapBypass d

/-- R817, R636: BRYNBOX reads register `i`. The closed port reads BRYN_LC and BRYN_DEVID alone. -/
def boxValue (d : Dev) (i : Nat) : Nat :=
  let off := 4 * i
  if 0x40 ≤ i then tabGet d.edge.tap.token (i - 0x40) 0
  else if portOpen d || off == 0x040 || (decide (0x0C0 ≤ off) && decide (off < 0x0F0)) then brynValue d off
  else 0

/-- R817: BRYNBOX writes. -/
def boxWrite (i v : Nat) (s : DM) : DM :=
  if 0x40 ≤ i then (if i < 0x640 then onDev (tapMod (fun t => { t with token := tabSet t.token (i - 0x40) v })) s else s)
  else if i = 0x12 then brynCommand true (v % 256) 19 (bitsOf v 31 16) (bitsOf v 15 8) s
  else if portOpen s.1 then onDev (brynPlainWrite 19 (4 * i) v) s
  else s

/-- Update-DR of BRYNBOX. -/
def tapBox (i : Nat) (write : Bool) (v : Nat) (s : DM) : DM :=
  if write then boxWrite i v s
  else
    let r := boxValue s.1 i
    (emit (.tdo 44 (i % 2048 + 2 ^ 12 * r)) (tapMod (fun t => { t with data := r, error := false, mode := .normal }) s.1), s.2)

/-! ### Meanings -/

def execPmbVoltageCmd (s : State) : Host.Outcome State Fault Refusal := upd s pmbVoltage
def execPmbXferGo (m v : Nat) (s : State) : Host.Outcome State Fault Refusal :=
  upd s (cmdWrite pPmb 0x048 m (pmbXferWrite m (setBit v 31)))
def execPmbXferDone (result data : Nat) (s : State) : Host.Outcome State Fault Refusal := upd s (pmbDone (result % 4) data)
def execPmbSclTimeout (s : State) : Host.Outcome State Fault Refusal := upd s (pmbDone 2 0)
def execPmbAlert (low : Bool) (s : State) : Host.Outcome State Fault Refusal := updAlways s (pmbAlert low)

def execGpioBallEvent (n : Nat) (level : Bool) (s : State) : Host.Outcome State Fault Refusal := updAlways s (gpioBall n level)
def execGpioSet (m v : Nat) (s : State) : Host.Outcome State Fault Refusal := upd s (cmdWrite pGpio 0x04C m (gpioSet v))
def execGpioClr (m v : Nat) (s : State) : Host.Outcome State Fault Refusal := upd s (cmdWrite pGpio 0x050 m (gpioClr v))

def execSpiCmdGo (m v : Nat) (s : State) : Host.Outcome State Fault Refusal :=
  upd s (cmdWrite pSpi 0x048 m (spiCmdWrite m (setBit v 31)))
def execSpiCmdDone (data : List Byte) (s : State) : Host.Outcome State Fault Refusal := upd s (spiDone data)

def execUartTxWrite (m v : Nat) (s : State) : Host.Outcome State Fault Refusal :=
  upd s (cmdWrite pUart 0x048 m (uartTxWrite m v))
def execUartCharSent (s : State) : Host.Outcome State Fault Refusal := upd s uartSent
def execUartCharRx (c err : Nat) (s : State) : Host.Outcome State Fault Refusal := upd s (uartReceive c err)
def execUartRxPop (m : Nat) (s : State) : Host.Outcome State Fault Refusal := upd s (cmdRead pUart 0x04C m uartPop)

def execTapIdcode (s : State) : Host.Outcome State Fault Refusal := updAlways s (fun d => tapRead 32 (idCode d.variant) d)
def execTapStatus (s : State) : Host.Outcome State Fault Refusal := updAlways s (fun d => tapRead 64 (tapStatus d) d)
def execTapBrynbox (i : Nat) (write : Bool) (v : Nat) (s : State) : Host.Outcome State Fault Refusal :=
  updMem s (fun d mem => tapBox i write (v % 2 ^ 32) (d, mem))
def execTapExtest (balls cells : List Bool) (s : State) : Host.Outcome State Fault Refusal :=
  updAlways s (tapScan .extest balls cells)
def execTapSamplePreload (balls cells : List Bool) (s : State) : Host.Outcome State Fault Refusal :=
  updAlways s (tapScan .normal balls cells)
def execTapHighz (s : State) : Host.Outcome State Fault Refusal := updAlways s (tapHold .highz)
def execTapClamp (s : State) : Host.Outcome State Fault Refusal := updAlways s (tapHold .clamp)
def execTapBypass (s : State) : Host.Outcome State Fault Refusal := updAlways s tapBypass

end Sys2Proof.Machine
end

