-- ==== Sys2Proof/Machine/Pace.lean ====
section
/-! DEFINITION. Pace and the pace governor (spec/02_register_model.md R84–R91). -/

namespace Sys2Proof.Machine

open Sys2Proof

/-- WINDOW in microseconds: 1 to 1,000. -/
def paceWindow (d : Dev) : Nat := max 1 (min 1000 (d.rd PACE_WINDOW_WINDOW))

/-- Point `p` belongs to a unit that is present: a core point only where the variant has the core (R85). -/
def pacePresent (d : Dev) (p : Nat) : Bool := decide (p < 8) || present d (0xA0 + (p - 8))

/-- Point `p` governs: its floor is not zero and its core is present (R85). -/
def paceGoverns (d : Dev) (p : Nat) : Bool := d.on PACE_FLOOR_FLOOR 0 p && pacePresent d p

/-- The governing points. -/
def pacePoints (d : Dev) : List Nat := (List.range 16).filter (paceGoverns d)

/-- VMAX' and VMIN' (R88). -/
def paceVmax (d : Dev) : Nat := min (d.rd PACE_VLIMIT_VMAX) 180
def paceVmin (d : Dev) : Nat := min (d.rd PACE_VLIMIT_VMIN) (paceVmax d)

/-- Point `p` is below 1 + `percent` / 100 of its floor. -/
def paceUnder (d : Dev) (percent p : Nat) : Bool :=
  decide (100 * d.rd PACE_VALUE_VALUE 0 p < (100 + percent) * d.rd PACE_FLOOR_FLOOR 0 p)

/-- The lowest governing ratio is below 1 + `percent` / 100. -/
def paceLow (d : Dev) (percent : Nat) : Bool := (pacePoints d).any (paceUnder d percent)

/-- The margin for a step down holds (R87). -/
def paceMargin (d : Dev) : Bool := !(pacePoints d).isEmpty && !paceLow d (d.rd PACE_GOV_MARGIN_DN)

/-- Point `p`'s ratio is the lowest of the governing points. -/
def paceLowest (d : Dev) (p : Nat) : Bool :=
  (pacePoints d).all (fun q =>
    decide (d.rd PACE_VALUE_VALUE 0 p * d.rd PACE_FLOOR_FLOOR 0 q ≤ d.rd PACE_VALUE_VALUE 0 q * d.rd PACE_FLOOR_FLOOR 0 p))

/-- LOW_POINT; which of several points at the lowest ratio it names is open. -/
def paceLowPoint (d : Dev) : Dev :=
  match (pacePoints d).filter (paceLowest d) with
  | [] => d
  | [p] => d.put PACE_STATUS_LOW_POINT p
  | l =>
    let v := draw d
    v.2.put PACE_STATUS_LOW_POINT (l.getD (v.1 % l.length) 0)

/-- BELOW_FLOOR, SATURATED and LIMIT_BAD, and the time from which the margin holds, follow what they depend on. -/
def paceFollow (d : Dev) : Dev :=
  let d1 := paceFlag PACE_STATUS_BELOW_FLOOR 3 (paceLow d 0) d
  let d2 := paceFlag PACE_STATUS_SATURATED 4
    (d1.rd PACE_VNOW_VNOW == paceVmax d1 && paceLow d1 (d1.rd PACE_GOV_MARGIN_UP)) d1
  let d3 := d2.put PACE_STATUS_LIMIT_BAD (b2n (decide (d2.rd PACE_VLIMIT_VMAX < d2.rd PACE_VLIMIT_VMIN)))
  { d3 with sh := { d3.sh with
    paceHold := if paceMargin d3 then some (d3.sh.paceHold.getD d3.tb.elapsed) else none } }

/-- The hold timer starts again. -/
def paceHoldRestart (d : Dev) : Dev := { d with sh := { d.sh with paceHold := some d.tb.elapsed } }

/-- The window ends with these handshakes counted by point, point 0 being the slowest of its ports (R84). -/
def paceWindowEnd (counts : List Nat) (d : Dev) : Dev :=
  paceFollow (paceLowPoint ((List.range 16).foldl
    (fun e p => e.put PACE_VALUE_VALUE (if pacePresent d p then 10 * counts.getD p 0 / paceWindow d else 0) 0 p) d))

/-- The governor commands `v` and restarts the hold timer. -/
def paceCommand (v : Nat) (d : Dev) : Dev := paceFollow (paceHoldRestart (setVnow v d))

/-- The governor acts (R87, R88). -/
def governorAct (d0 : Dev) : Dev :=
  if !governorOn d0 then d0
  else
    let d := paceFollow d0
    let v := d.rd PACE_VNOW_VNOW
    let step := max 1 (d.rd PACE_GOV_VSTEP)
    if paceVmax d < v then paceCommand (paceVmax d) d
    else if v < paceVmin d then paceCommand (paceVmin d) d
    else if paceLow d (d.rd PACE_GOV_MARGIN_UP) then paceCommand (min (v + step) (paceVmax d)) d
    else match d.sh.paceHold with
      | some t =>
        if t + 500 * d.rd PACE_TIMING_HOLD ≤ d.tb.elapsed then paceCommand (max (v - step) (paceVmin d)) d else d
      | none => d

/-- PACE becomes Active: the hold timer starts. -/
def paceStart (d : Dev) : Dev := paceFollow { d with sh := { d.sh with paceHold := none } }

/-- A write of PACE_VSET while the governor is off commands the voltage (R86). -/
def vsetFollow (d : Dev) : Dev :=
  if governorOn d then d else paceFollow (setVnow (min 180 (d.rd PACE_VSET_VSET)) d)

def execPaceWindowEnd (counts : List Nat) (s : State) : Host.Outcome State Fault Refusal := upd s (paceWindowEnd counts)
def execGovernorInterval (s : State) : Host.Outcome State Fault Refusal := upd s governorAct

end Sys2Proof.Machine
end

