-- ==== Sys2Proof/Machine/Dram.lean ====
section
/-! DEFINITION. The DRAM controllers (spec/18_dram.md). The two reports of training, which make a channel READY or
FAILED, are in Bringup.lean. -/

namespace Sys2Proof.Machine

open Sys2Proof

/-- First page of channel `c`. -/
def pDram (c : Nat) : Nat := 0xB0 + 4 * c

/-- Channel `c` beyond its registers. -/
def chan (d : Dev) (c : Nat) : DramChan := tabGet d.dram.chans c {}

/-- Changes channel `c`. -/
def chanMod (c : Nat) (f : DramChan → DramChan) (d : Dev) : Dev :=
  { d with dram := { d.dram with chans := tabMod d.dram.chans c {} f } }

def subOf (k : DramChan) (s : Nat) : SubChan := if s = 0 then k.sub0 else k.sub1

def setSub (s : Nat) (x : SubChan) (k : DramChan) : DramChan :=
  if s = 0 then { k with sub0 := x } else { k with sub1 := x }

/-! ### Address decode (R677, R678) -/

/-- The channel address of a physical address. -/
def chanAddr (d : Dev) (a : Nat) : Nat :=
  if !dramPresent d 1 then a
  else if d.on DRAM_MAP_ILV 0 then a / 8192 * 4096 + a % 4096
  else if channelOf d a = 0 then a else a - min (channelBytes d 0) (2 ^ 36)

/-- The physical address of a channel address of channel `c`. -/
def physAddr (d : Dev) (c x : Nat) : Nat :=
  if !dramPresent d 1 then x
  else if d.on DRAM_MAP_ILV 0 then x / 4096 * 8192 + 4096 * c + x % 4096
  else if c = 0 then x else x + min (channelBytes d 0) (2 ^ 36)

/-- Where a channel address lies: sub-channel, bank with its group, row and rank. -/
structure DramPlace where
  sub : Nat
  bank : Nat
  row : Nat
  rank : Nat

def placeOf (d : Dev) (c x : Nat) : DramPlace :=
  let col := 7 + d.rd DRAM_GEOM_COL_BITS c
  let bankBits := d.rd DRAM_GEOM_BG_BITS c + d.rd DRAM_GEOM_BA_BITS c
  let rowBits := 16 + d.rd DRAM_GEOM_ROW_BITS c
  { sub := x / 64 % 2, bank := x / 2 ^ col % 2 ^ bankBits, row := x / 2 ^ (col + bankBits) % 2 ^ rowBits
    rank := if d.rd DRAM_GEOM_RANKS c = 2 then x / 2 ^ (col + bankBits + rowBits) % 2 else 0 }

/-- Lines of one rank of channel `c`. -/
def rankLines (d : Dev) (c : Nat) : Nat := channelBytes d c / max 1 (d.rd DRAM_GEOM_RANKS c) / 64

/-! ### Error correction and poison (R679–R682) -/

/-- Marks lines poisoned. -/
def dramPoison (l : Nat) (d : Dev) : Dev :=
  { d with dram := { d.dram with poison := addOnce d.dram.poison l } }

/-- What the decoding of a codeword finds. -/
inductive CwRead where
  | clean
  | poison
  | corrected (pos val : Nat)
  | bad
  deriving DecidableEq, Repr

/-- The decoding of one codeword from its errors (R679, R680). -/
def decodeCw (detect : Bool) (errs : List LineErr) : CwRead :=
  let s0 := errs.foldl (fun x e => x ^^^ e.err.toNat) 0
  let s1 := errs.foldl (fun x e => x ^^^ gfMul e.err.toNat (gfAlpha e.pos)) 0
  if s0 = 0 ∧ s1 = 0 then .clean
  else if s0 = 0 ∧ s1 = 0x1C then .poison
  else if detect || s0 == 0 then .bad
  else match (List.range 10).find? (fun j => gfMul s0 (gfAlpha j) == s1) with
    | some j => .corrected j s0
    | none => .bad

/-- The errors of a line with the poison pattern where it is poisoned. -/
def lineErrs (d : Dev) (l : Nat) (errs : List LineErr) : List LineErr :=
  if has d.dram.poison l then
    errs ++ (List.range 8).flatMap (fun k => [⟨k, 0, 0xFF⟩, ⟨k, 1, 0xFF⟩])
  else errs

/-- What each of a line's codewords reads as. -/
def lineRead (detect : Bool) (errs : List LineErr) : List CwRead :=
  (List.range 8).map (fun k => decodeCw detect (errs.filter (fun e => e.cw == k)))

/-- The data of line `l` with errors added and corrections applied; a codeword's data byte `j − 2` is its symbol `j`. -/
def lineFix (l : Nat) (errs : List LineErr) (rs : List CwRead) (m : Memory) : Memory :=
  let add := fun (x : Memory) (k pos v : Nat) =>
    if 2 ≤ pos ∧ pos < 10 then
      memPut x (64 * l + 8 * k + (pos - 2)) (memGet x (64 * l + 8 * k + (pos - 2)) ^^^ BitVec.ofNat 8 v)
    else x
  let m1 := errs.foldl (fun x e => add x e.cw e.pos e.err.toNat) m
  (List.range 8).foldl (fun x k => match rs.getD k .clean with
    | .corrected j v => add x k j v
    | _ => x) m1

/-- An entry of the error log, or its loss (R695). -/
def dramLog (c kind a : Nat) (d : Dev) : Dev :=
  if 16 ≤ (chan d c).log.length then count DRAM_LOG_OVF_COUNT c 0 d
  else raiseBit (pDram c) 5 (chanMod c (fun k => { k with log := k.log ++ [⟨kind, a⟩] }) d)

/-- Migration of rank `r` starts (R694, R696). -/
def migStart (c r : Nat) (d : Dev) : Dev :=
  (((d.put DRAM_MIG_STATUS_ACTIVE 1 c).put DRAM_MIG_STATUS_DONE 0 c).put DRAM_MIG_PTR_LINE 0 c).put DRAM_MIG_RANK r c

/-- A migration to the spare is possible on channel `c` (R694, R697): a spare is fitted, allowed and unused. -/
def spareFree (d : Dev) (c : Nat) : Bool :=
  feat d (pDram c) 3 2 && d.on DRAM_GEOM_SPARE c && !d.on DRAM_MIG_MAP_VALID c && !d.on DRAM_MIG_STATUS_ACTIVE c

/-- Rank `r` of channel `c` fails (R693, R694). -/
def rankFail (c r : Nat) (d : Dev) : Dev :=
  if spareFree d c && d.on DRAM_MIG_AUTO c then migStart c r d
  else if spareFree d c then d
  else fault0 (pDram c) 0x44 1 r d

/-- The rank that a line's counters name: the spare where the line lies there (R696, R697). -/
def countRank (d : Dev) (c : Nat) (p : DramPlace) (line : Nat) : Nat :=
  if (d.on DRAM_MIG_MAP_VALID c && d.rd DRAM_MIG_MAP_RANK c == p.rank) ||
      (d.on DRAM_MIG_STATUS_ACTIVE c && d.rd DRAM_MIG_RANK c == p.rank && decide (line < d.rd DRAM_MIG_PTR_LINE c))
  then 2 else p.rank

/-- A read of the line at physical address `a` of channel `c` that finds `errs` (R680, R681), with the KIND and master of
its access. -/
def dramLineRead (c a kind master : Nat) (errs : List LineErr) (d : Dev) (m : Memory) : Dev × Memory :=
  let l := a / 64
  let p := placeOf d c (chanAddr d a)
  let rank := countRank d c p (chanAddr d a / 64 % max 1 (rankLines d c))
  let all := lineErrs d l errs
  let rs := lineRead (d.on DRAM_SCRUB_ECC_DETECT c) all
  let bad := rs.any (· == .bad)
  let pois := rs.any (· == .poison)
  let m1 := lineFix l errs rs m
  let d1 := if rs.any (fun x => match x with | .corrected _ _ => true | _ => false) then
      report ⟨pDram c, 0x40, 0, kind, master, a⟩ (count DRAM_CE_RANK_COUNT c rank d) else d
  let d2 := if pois then dramLog c 1 a (count DRAM_POISON_READ_COUNT c 0 d1) else d1
  let d3 := if bad then
      rankFail c p.rank (raiseBit (pDram c) 3 (dramLog c 0 a
        (report ⟨pDram c, 0x41, 1, kind, master, a⟩ (count DRAM_UE_RANK_COUNT c rank d2)))) else d2
  (if bad || pois then dramPoison l d3 else d3, m1)

/-! ### Queues (R685, R686) -/

/-- Entries of a read or write queue. -/
def dramQueue : Nat := 64

/-- A request enters its sub-channel's queue, or is held off by a full one. -/
def dramPush (c s : Nat) (r : DramReq) (d : Dev) : Dev :=
  chanMod c (fun k =>
    let x := subOf k s
    if r.write then
      let w := x.writes ++ [r]
      setSub s { x with writes := w, draining := x.draining || decide (d.rd DRAM_WQ_HIGH c ≤ w.length) } k
    else setSub s { x with reads := x.reads ++ [r] } k) d

/-- The queue for `r` has an entry free, and nothing waits before it. -/
def dramRoom (k : DramChan) (s : Nat) (write : Bool) : Bool :=
  let x := subOf k s
  if write then x.writes.length < dramQueue else x.reads.length < dramQueue

/-- A write takes effect at its acceptance: it is visible, and lines it covers whole lose their poison. -/
def dramAcceptWrite (r : DramReq) (d : Dev) (m : Memory) : Dev × Memory :=
  (dramCover r.addr r.data.length d, memWrite m r.addr r.data)

/-- One part of an access is accepted into its queue, or held off (R685, R686). -/
def dramAccept (r : DramReq) (d : Dev) (m : Memory) : Dev × Memory :=
  let c := channelOf d r.addr
  let s := chanAddr d r.addr / 64 % 2
  if (subOf (chan d c) s).stalled.any (fun x => x.write == r.write) || !dramRoom (chan d c) s r.write then
    (chanMod c (fun k => let x := subOf k s; setSub s { x with stalled := x.stalled ++ [r] } k) d, m)
  else if r.write then
    let x := dramAcceptWrite r d m
    (dramPush c s r x.1, x.2)
  else (dramPush c s { r with data := memRead m r.addr r.data.length } d, m)

/-- The parts of an access to `n` bytes at `a`, one for each line it touches. -/
def lineParts : Nat → Nat → Nat → List (Nat × Nat)
  | 0, _, _ => []
  | fuel + 1, a, n =>
    if n = 0 then []
    else
      let k := min n (64 - a % 64)
      (a, k) :: lineParts fuel (a + k) (n - k)

/-- An access by a master to DRAM is accepted part by part. -/
def dramAccess (master : Nat) (write : Bool) (a : Nat) (data : Bytes) (d : Dev) (m : Memory) : Dev × Memory :=
  (lineParts (data.length + 1) a data.length).foldl (fun x p =>
    dramAccept ⟨master, write, p.1, (data.drop (p.1 - a)).take p.2, p.1 == a⟩ x.1 x.2) (d, m)

/-- The burst in service, or one that a queued request can start (R687). -/
def burstOf (x : SubChan) (bs : List RtBurst) : Option RtBurst :=
  match bs with
  | [] => none
  | b :: _ =>
    if b.started || (x.reads ++ x.writes).any (fun r =>
        r.master == b.master && decide (b.first ≤ r.addr / 64) && decide (r.addr / 64 < b.first + b.lines))
    then some b else none

/-- A request belongs to burst `b`. -/
def inBurst (b : RtBurst) (r : DramReq) : Bool :=
  r.master == b.master && decide (b.first ≤ r.addr / 64) && decide (r.addr / 64 < b.first + b.lines)

/-- The request that a sub-channel serves next: the burst's, else reads before writes, writes first while the write
queue drains (R686, R687). -/
def pickReq (x : SubChan) (bs : List RtBurst) : Option DramReq :=
  match burstOf x bs with
  | some b => (x.reads ++ x.writes).find? (inBurst b)
  | none =>
    if x.draining then x.writes.head?
    else match x.reads with
      | r :: _ => some r
      | [] => x.writes.head?

/-- The channel's queues without request `r`; draining ends when the write queue falls to LOW. -/
def popReq (low s : Nat) (r : DramReq) (k : DramChan) : DramChan :=
  let x := subOf k s
  let x1 := if r.write then
      let w := dropFirst (· == r) x.writes
      { x with writes := w, draining := x.draining && decide (low < w.length) }
    else { x with reads := dropFirst (· == r) x.reads }
  let bs := match k.bursts with
    | [] => []
    | b :: l => if inBurst b r then (if b.left ≤ 1 then l else { b with left := b.left - 1, started := true } :: l) else b :: l
  setSub s x1 { k with bursts := bs }

/-- The oldest request held off of a kind whose queue has room is accepted. -/
def acceptStalled (c s : Nat) (write : Bool) (d : Dev) (m : Memory) : Dev × Memory :=
  match (subOf (chan d c) s).stalled.find? (fun r => r.write == write) with
  | none => (d, m)
  | some r =>
    if dramRoom (chan d c) s write then
      let d1 := chanMod c (fun k => let x := subOf k s; setSub s { x with stalled := dropFirst (· == r) x.stalled } k) d
      if write then
        let x := dramAcceptWrite r d1 m
        (dramPush c s r x.1, x.2)
      else (dramPush c s { r with data := memRead m r.addr r.data.length } d1, m)
    else (d, m)

/-! ### Row hammer (R691, R692) -/

/-- The table of a bank after an activate of `row`, and whether its neighbours are refreshed. -/
def hammerStep (thresh row : Nat) (t : List (Nat × Nat)) : List (Nat × Nat) × Bool :=
  let bump := fun (l : List (Nat × Nat)) (n : Nat) =>
    if thresh ≤ n then (l.map (fun e => if e.1 = row then (row, 0) else e), true)
    else (l.map (fun e => if e.1 = row then (row, n) else e), false)
  match t.find? (fun e => e.1 == row) with
  | some e => bump t (e.2 + 1)
  | none =>
    if t.length < 32 then bump (t ++ [(row, 1)]) 1
    else
      let least := (t.map (·.2)).foldl min (t.headD (0, 0)).2
      let i := t.findIdx (fun e => e.2 == least)
      bump (t.set i (row, least + 1)) (least + 1)

/-- An activate of a row of channel `c`. -/
def dramActivate (c : Nat) (p : DramPlace) (d : Dev) : Dev :=
  let key := (p.sub, p.rank * 2 ^ 16 + p.bank)
  let h := (chan d c).hammer
  let t := ((h.find? (fun e => e.1 == key)).map (·.2)).getD []
  let r := hammerStep (d.rd DRAM_RH_THRESH c) p.row t
  let d1 := chanMod c (fun k => { k with hammer := (key, r.1) :: h.filter (fun e => e.1 != key) }) d
  if r.2 then count DRAM_RH_REFRESH_COUNT c 0 d1 else d1

/-- The bytes at `a` that a read accepted as `b` delivers, where its line's errors and their corrections took memory from
`m` to `m1` (R681, R685). -/
def readWith (errs : List LineErr) (a : Nat) (b : Bytes) (m m1 : Memory) : Bytes :=
  if errs.isEmpty then b
  else (b.zip (List.range b.length)).map (fun e => e.1 ^^^ memGet m (a + e.2) ^^^ memGet m1 (a + e.2))

/-- A burst is in service on channel `c`. -/
def burstBusy (d : Dev) (c : Nat) : Bool := (chan d c).bursts.any (·.started)

/-- R693: a command that fails its CA parity check is replayed up to twice; the third failure fails the rank. -/
def caParity (c rank : Nat) (d : Dev) : Dev :=
  if 2 ≤ (chan d c).caFails then
    rankFail c rank (fault0 (pDram c) 0x42 1 rank (chanMod c (fun k => { k with caFails := 0 }) d))
  else count DRAM_CA_RETRY_COUNT c 0 (chanMod c (fun k => { k with caFails := k.caFails + 1 }) d)

/-- Sub-channel `s` of channel `c` serves its next request (R686); `act` where it activates the row, `parity` where the
command fails CA parity. Refreshes owed are issued as a burst ends (R688). -/
def dramServe (c s : Nat) (act parity : Bool) (errs : List LineErr) (d : Dev) (m : Memory) : Dev × Memory :=
  match pickReq (subOf (chan d c) s) (chan d c).bursts with
  | none => (d, m)
  | some r =>
    let p := placeOf d c (chanAddr d r.addr)
    if d.on DRAM_STATUS_SELF_REFRESH c then (d, m)
    else if parity then (caParity c p.rank d, m)
    else
      let d0 := chanMod c (fun k => { popReq (d.rd DRAM_WQ_LOW c) s r k with caFails := 0 }) d
      let d1 := if act then dramActivate c p d0 else d0
      let d2 := if burstBusy d c && !burstBusy d0 c then d1.put DRAM_STATUS_OWED 0 c else d1
      let whole := r.data.length == 64
      let x := if r.write && whole then (d2, m) else dramLineRead c r.addr (if r.write then 1 else 0) r.master errs d2 m
      let y := if r.write then x
        else ({ x.1 with sh := { x.1.sh with
          readData := (if r.first then [] else x.1.sh.readData) ++ readWith errs r.addr r.data m x.2
          readPoison := (!r.first && x.1.sh.readPoison) || dramPoisoned x.1 r.addr r.data.length
          blocked := false } }, x.2)
      acceptStalled c s r.write y.1 y.2

/-! ### Refresh, bursts and self-refresh (R687–R690) -/

/-- R688: a refresh falls due. -/
def dramRefresh (c : Nat) (d : Dev) : Dev :=
  if burstBusy d c then
    (if d.rd DRAM_STATUS_OWED c < 4 then d.put DRAM_STATUS_OWED (d.rd DRAM_STATUS_OWED c + 1) c else d)
  else d.put DRAM_STATUS_OWED 0 c

/-- R687: a declaration by master `m`; one that is not allowed is served as ordinary requests. -/
def burstDeclare (m a n : Nat) (d : Dev) : Dev :=
  let c := channelOf d a
  if 10 ≤ m ∧ m ≤ 14 ∧ (d.rd DRAM_RT_EN c).testBit (m - 10) ∧ 0 < n ∧ n ≤ 4096 ∧ a / 4096 = (a + n - 1) / 4096 then
    let lines := (a + n - 1) / 64 + 1 - a / 64
    chanMod c (fun k => { k with bursts := k.bursts ++ [⟨m, a / 64, lines, lines, false⟩] }) d
  else d

/-- Every queue of channel `c` is empty. -/
def dramIdle (d : Dev) (c : Nat) : Bool :=
  let k := chan d c
  [k.sub0, k.sub1].all (fun x => x.reads.isEmpty && x.writes.isEmpty && x.stalled.isEmpty)

/-- R689: self-refresh is entered, every queue being empty. -/
def selfRefresh (c : Nat) (d : Dev) : Dev :=
  if dramIdle d c && (d.on DRAM_PWR_SR_IDLE c || !isActive d (pDram c) || decide (5 ≤ d.rd SYS_STATUS_STOP_PHASE)) then
    d.put DRAM_STATUS_SELF_REFRESH 1 c else d

/-- A drain serves every queued request and enters self-refresh (R702). -/
def dramDrainEnd (c : Nat) (d : Dev) : Dev :=
  (chanMod c (fun k => { k with sub0 := {}, sub1 := {}, bursts := [] }) d).put DRAM_STATUS_SELF_REFRESH 1 c

/-! ### Scrub, initialisation and migration (R683, R684, R696, R697) -/

/-- R683: the patrol scrubber reads its next line. -/
def dramScrub (c : Nat) (errs : List LineErr) (d : Dev) (m : Memory) : Dev × Memory :=
  if isActive d (pDram c) && d.on DRAM_SCRUB_EN c && dramIdle d c then
    let total := channelBytes d c / 64
    let pos := (chan d c).scrubPos
    let r := dramLineRead c (physAddr d c (64 * pos)) 3 0 errs d m
    (chanMod c (fun k => { k with scrubPos := (pos + 1) % max 1 total }) r.1, r.2)
  else (d, m)

/-- INIT_PTR of rank `r`. -/
def initPtr (d : Dev) (c r : Nat) : Nat := tabGet (chan d c).initPtr r 0

/-- R684: the init engine writes the next line of the lowest rank not yet initialised. A line that a write has reached
before keeps its data, the engine's zeros being merged into it. -/
def dramInitLine (c : Nat) (d : Dev) : Dev :=
  if !(chan d c).initRun then d
  else
    let ranks := List.range (max 1 (d.rd DRAM_GEOM_RANKS c))
    match ranks.find? (fun r => decide (initPtr d c r < rankLines d c)) with
    | none => d
    | some r =>
      let d1 := chanMod c (fun k => { k with initPtr := tabMod k.initPtr r 0 (· + 1) }) d
      if ranks.all (fun q => decide (rankLines d1 c ≤ initPtr d1 c q)) then
        raiseBit (pDram c) 6 (chanMod c (fun k => { k with initRun := false }) (d1.put DRAM_INIT_DONE 1 c))
      else d1

/-- R694: a write of DRAM_MIG.START. -/
def migCommand (m c : Nat) (d : Dev) : Dev :=
  if spareFree d c then migStart c (d.rd DRAM_MIG_RANK c) d
  else report ⟨pDram c, 0x44, 1, 1, m, d.rd DRAM_MIG_RANK c⟩ d

/-- R696, R697: migration copies line P, and after the last line maps the rank onto the spare. -/
def migCopy (c : Nat) (errs : List LineErr) (d : Dev) (m : Memory) : Dev × Memory :=
  if !d.on DRAM_MIG_STATUS_ACTIVE c then (d, m)
  else
    let rank := d.rd DRAM_MIG_RANK c
    let p := d.rd DRAM_MIG_PTR_LINE c
    let a := physAddr d c (64 * (rank * rankLines d c + p))
    let l := a / 64
    let rs := lineRead (d.on DRAM_SCRUB_ECC_DETECT c) (lineErrs d l errs)
    let m1 := lineFix l errs rs m
    let d1 := if rs.any (fun x => match x with | .corrected _ _ => true | _ => false) then
        report ⟨pDram c, 0x40, 0, 0, 20, a⟩ (count DRAM_CE_RANK_COUNT c rank d) else d
    let d2 := if rs.any (· == .bad) then
        dramPoison l (dramLog c 2 a (report ⟨pDram c, 0x43, 1, 0, 20, a⟩ (count DRAM_MIG_LOST_COUNT c 0 d1)))
      else d1
    let d3 := d2.put DRAM_MIG_PTR_LINE (p + 1) c
    if rankLines d c ≤ p + 1 then
      (raiseBit (pDram c) 4 ((((d3.put DRAM_MIG_STATUS_ACTIVE 0 c).put DRAM_MIG_STATUS_DONE 1 c).put
        DRAM_MIG_MAP_VALID 1 c).put DRAM_MIG_MAP_RANK rank c), m1)
    else (d3, m1)

/-- R695: a read of DRAM_ERR_LOG by master `m`. -/
def dramLogPop (m c : Nat) (d : Dev) : Dev :=
  let give := fun (v : Nat) (x : Dev) =>
    { x with sh := { x.sh with readData := toBytes 4 v, readPoison := false, blocked := false } }
  match (chan d c).log with
  | [] => give 0 d
  | e :: l =>
    let p := placeOf d c (chanAddr d e.addr)
    let page := pDram c + 3
    let lat := fun (a v : Nat) (x : Dev) =>
      { x with sh := { x.sh with latched := ((m, a), v) :: x.sh.latched.filter (fun q => q.1 != (m, a)) } }
    give (2 ^ 31 + 2 ^ 28 * e.kind + 2 ^ 24 * p.rank + 2 ^ 20 * p.sub + p.row % 2 ^ 20)
      (lat (regAddr page 0x064) (2 ^ 16 * (p.bank % 32) + e.addr / 2 ^ 32 % 65536)
        (lat (regAddr page 0x060) (e.addr % 2 ^ 32 / 64 * 64)
          ((fun x => if l.isEmpty then lowerBit (pDram c) 5 x else x) (chanMod c (fun k => { k with log := l }) d))))

/-! ### Training helpers (R699, R700) -/

/-- A helper command with code `op` by master `m`: it runs only while the channel is PREPARING and no helper runs. -/
def trnHelper (m c op : Nat) (d : Dev) : Dev :=
  if d.rd SYS_UNIT_STATE_UNIT 0 (1 + c) = 1 ∧ !d.on DRAM_TRN_CTRL_BUSY c then
    chanMod c (fun k => { k with helper := some op }) (d.put DRAM_TRN_CTRL_BUSY 1 c)
  else refuseWrite (pDram c) 0x45 m (regAddr (pDram c + 2) 0x040) d

/-- The helper in progress ends with its result: MRR and the samples leave `data`; a compare leaves its lane mask and
error count; a scan leaves its points. -/
def helperDone (c data mask cnt points : Nat) (d : Dev) : Dev :=
  match (chan d c).helper with
  | none => d
  | some op =>
    let d1 := (chanMod c (fun k => { k with helper := none }) d).put DRAM_TRN_CTRL_BUSY 0 c
    let d2 := match op with
      | 2 => d1.put DRAM_TRN_ARG_DATA data c
      | 4 => d1.put DRAM_TRN_ARG_DATA data c
      | 5 => d1.put DRAM_TRN_ARG_DATA data c
      | 6 => d1.put DRAM_TRN_ARG_DATA data c
      | 8 => ((d1.put DRAM_TRN_ERR_LO_MASK (mask % 2 ^ 32) c).put DRAM_TRN_ERR_HI_MASK (mask / 2 ^ 32) c).put
          DRAM_TRN_ERR_HI_COUNT (min cnt 0xFFFF) c
      | 9 => (d1.put DRAM_EYE_MAP_PASS (points % 2 ^ 32) c 0).put DRAM_EYE_MAP_PASS (points / 2 ^ 32) c 1
      | _ => d1
    raiseBit (pDram c) 7 d2

/-! ### Meanings -/

def execDramRequestServe (c s : Nat) (act parity : Bool) (errs : List LineErr) (st : State) :
    Host.Outcome State Fault Refusal :=
  updMem st (fun d m => if present d (pDram c) && isActive d (pDram c) then dramServe c s act parity errs d m else (d, m))

def execDramRefresh (c : Nat) (s : State) : Host.Outcome State Fault Refusal :=
  upd s (fun d => if isActive d (pDram c) then dramRefresh c d else d)

def execRtBurstDeclare (m a n : Nat) (s : State) : Host.Outcome State Fault Refusal := upd s (burstDeclare m a n)

def execSelfRefreshEntry (c : Nat) (s : State) : Host.Outcome State Fault Refusal := upd s (selfRefresh c)

def execSelfRefreshExit (c : Nat) (s : State) : Host.Outcome State Fault Refusal :=
  upd s (fun d => if dramIdle d c then d else d.put DRAM_STATUS_SELF_REFRESH 0 c)

def execRhWindowStart (c : Nat) (s : State) : Host.Outcome State Fault Refusal :=
  upd s (chanMod c (fun k => { k with hammer := [] }))

def execDramScrubRead (c : Nat) (errs : List LineErr) (s : State) : Host.Outcome State Fault Refusal :=
  updMem s (dramScrub c errs)

def execDramInitLine (c : Nat) (s : State) : Host.Outcome State Fault Refusal := upd s (dramInitLine c)

def execMigStart (m c : Nat) (s : State) : Host.Outcome State Fault Refusal :=
  upd s (cmdWrite (pDram c + 3) 0x04C m (migCommand m c))

def execMigCopyLine (c : Nat) (errs : List LineErr) (s : State) : Host.Outcome State Fault Refusal :=
  updMem s (migCopy c errs)

def execDramErrLogPop (m c : Nat) (s : State) : Host.Outcome State Fault Refusal := upd s (cmdRead (pDram c + 3) 0x05C m (dramLogPop m c))

/-- A write of DRAM_TRN_CTRL with a helper's code. -/
def trnWrite (m c op : Nat) (s : State) : Host.Outcome State Fault Refusal :=
  upd s (cmdWrite (pDram c + 2) 0x040 m (trnHelper m c op))

def execTrnMrw (m c : Nat) (s : State) : Host.Outcome State Fault Refusal := trnWrite m c 1 s
def execTrnMrr (m c : Nat) (s : State) : Host.Outcome State Fault Refusal := trnWrite m c 2 s
def execTrnMpc (m c : Nat) (s : State) : Host.Outcome State Fault Refusal := trnWrite m c 3 s
def execTrnCsSample (m c : Nat) (s : State) : Host.Outcome State Fault Refusal := trnWrite m c 4 s
def execTrnCaSample (m c : Nat) (s : State) : Host.Outcome State Fault Refusal := trnWrite m c 5 s
def execTrnWlevel (m c : Nat) (s : State) : Host.Outcome State Fault Refusal := trnWrite m c 6 s
def execTrnPatWrite (m c : Nat) (s : State) : Host.Outcome State Fault Refusal := trnWrite m c 7 s
def execTrnRdCompare (m c : Nat) (s : State) : Host.Outcome State Fault Refusal := trnWrite m c 8 s
def execTrnEyeScan (m c : Nat) (s : State) : Host.Outcome State Fault Refusal := trnWrite m c 9 s

def execTrnHelperDone (c data mask cnt points : Nat) (s : State) : Host.Outcome State Fault Refusal :=
  upd s (helperDone c data mask cnt points)

end Sys2Proof.Machine
end

