-- ==== Sys2Proof/Machine/Spill.lean ====
section
/-! DEFINITION. Spill to DRAM and return (spec/04_serai.md R156–R166). -/

namespace Sys2Proof.Machine

open Sys2Proof

/-- The page of the spill registers. -/
def pSpill : Nat := 0x12

/-- SPILL_BASE and the region's size in bytes (R157). -/
def spillBase (d : Dev) : Nat := 2 ^ 20 * d.rd SPILL_BASE_LO_BASE + 2 ^ 32 * d.rd SPILL_BASE_HI_BASE
def spillBytes (d : Dev) : Nat := 2 ^ 20 * d.rd SPILL_SIZE_SIZE

/-- The number of slots (R158). -/
def slotCount (d : Dev) : Nat := spillBytes d * 63 / 16384

/-- Where slot `i` and its link word lie (R158). -/
def slotAddr (d : Dev) (i : Nat) : Nat := spillBase d + spillBytes d / 64 + 256 * i
def linkAddr (d : Dev) (i : Nat) : Nat := spillBase d + 4 * i

/-- The SPILL bit as SERAI follows it: from the moment of a successful commit (R171). -/
def spillAccepted (d : Dev) : Bool := accepted d 3 1

/-- The channels that hold the region are READY (R156). -/
def spillReady (d : Dev) : Bool :=
  dramReady d (channelOf d (spillBase d)) && dramReady d (channelOf d (spillBase d + spillBytes d - 1))

/-- Writes link word `i`. -/
def writeLink (i v : Nat) (x : Dev × Memory) : Dev × Memory :=
  let r := unitWrite 21 (linkAddr x.1 i) (toBytes 4 v) x.1 x.2
  (r.2.1, r.2.2)

/-- Link word `i`: the next slot, and whether it is the last of its chain. -/
def readLink (i : Nat) (d : Dev) (m : Memory) : Nat × Bool × Dev :=
  let r := unitRead 21 (linkAddr d i) 4 d m
  let v := ofBytes r.1
  (v % 2 ^ 24, v.testBit 31, r.2.2)

/-- Links the slots of `l` in order into a chain. The next index of the last slot is open. -/
def linkChain : List Nat → Dev × Memory → Dev × Memory
  | [], x => x
  | [i], x =>
    let r := draw x.1
    writeLink i (2 ^ 31 + r.1 % 2 ^ 24) (r.2, x.2)
  | i :: j :: l, x => linkChain (j :: l) (writeLink i j x)

/-- R158: EN goes to 1. -/
def spillEnable (m : Nat) (d : Dev) : Dev :=
  if !spillAccepted d then refuseWrite pSerai 0x04 m (regAddr pSpill 0x040) d
  else d.put SPILL_CFG_EN 1

/-- R166: EN goes to 0; READY clears at once when no caravan is spilled. -/
def spillDisable (d : Dev) : Dev :=
  let d1 := (d.put SPILL_CFG_EN 0).put SPILL_STATUS_ACTIVE 0
  if d1.on SPILL_OUT_CARAVANS then d1 else d1.put SPILL_STATUS_READY 0

/-- R158: the engine has written the free chain through every slot. Which slot comes first is open. -/
def spillRegion (d : Dev) (m : Memory) : Dev × Memory :=
  if d.on SPILL_CFG_EN && !d.on SPILL_STATUS_READY && spillAccepted d && spillReady d then
    let n := slotCount d
    let r := draw d
    let k := r.1 % max 1 n
    let order := (List.range n).map (fun i => (k + i) % max 1 n)
    let x := linkChain order (r.2, m)
    let d1 := { x.1 with ser := { x.1.ser with spillFree := k, slotFrees := [] } }
    (((d1.put SPILL_SLOTS_FREE_SLOTS n).put SPILL_STATUS_READY 1), x.2)
  else (d, m)

/-- Slot chains given back since, as (first slot, length): the engine links them in front of the free chain before it
takes slots. `walk` slots of a chain from `i`. -/
def chainSlots : Nat → Nat → Dev → Memory → List Nat
  | 0, _, _, _ => []
  | k + 1, i, d, m => i :: chainSlots k (readLink i d m).1 d m

/-- Links the chains `fs` in front of the free chain, which holds `avail` slots. -/
def linkBack : List (Nat × Nat) → Nat → Dev × Memory → Dev × Memory
  | [], _, x => x
  | f :: fs, avail, x =>
    let last := (chainSlots f.2 f.1 x.1 x.2).getLastD f.1
    let y := if avail = 0 then x else writeLink last x.1.ser.spillFree x
    linkBack fs (avail + f.2) ({ y.1 with ser := { y.1.ser with spillFree := f.1 } }, y.2)

/-- The engine puts the returned slots in front of the free chain. -/
def takeBack (d : Dev) (m : Memory) : Dev × Memory :=
  let fs := d.ser.slotFrees
  linkBack fs (d.rd SPILL_SLOTS_FREE_SLOTS - (fs.map (·.2)).sum) ({ d with ser := { d.ser with slotFrees := [] } }, m)

/-- Position `i` of queue `q` holds an eligible caravan (R159). -/
def spillEligible (d : Dev) (i : Nat) (x : Manifest) : Bool :=
  match caravanAt d x.head with
  | some k => k.refs == 1 && decide (2 ≤ k.cells.length) && k.spill.isNone &&
      decide (max 1 (d.rd SPILL_RETURN_RETURN_DEPTH) < i)
  | none => false

/-- The eligible manifest of queue `q` nearest its tail. -/
def spillChoice (d : Dev) (q : Nat) : Option Manifest :=
  (((qList d q).zipIdx.filter (fun p => spillEligible d p.2 p.1)).getLast?).map (·.1)

/-- The cells that the caravans of queue `q` hold. -/
def queueCells (d : Dev) (q : Nat) : Nat :=
  ((qList d q).map (fun x => match caravanAt d x.head with
    | some k => k.cells.length
    | none => 0)).sum

/-- The spillable queue that holds the most cells, among those with an eligible caravan (R159, R190), with its choice. Of
several that hold as many, which one is open. -/
def spillQueue (d : Dev) : Option (Nat × Manifest) :=
  let l := (liveQueues d).filterMap (fun q =>
    if d.on QMGR_Q_CFG_SPILLABLE 0 q then (spillChoice d q).map (fun x => (q, x)) else none)
  let top := (l.map (fun p => queueCells d p.1)).foldl max 0
  match l.filter (fun p => queueCells d p.1 == top) with
  | [] => none
  | [p] => some p
  | p :: r => (p :: r)[Config.freeValue d.drawn % (p :: r).length]?

/-- A queue with its manifest of head cell `h` changed by `f`; the order stays (R162). -/
def updateManifest (q h : Nat) (f : Manifest → Manifest) (d : Dev) : Dev :=
  setQ q ((qList d q).map (fun x => if x.head = h then f x else x)) d

/-- One cell copied to a slot; poisoned words carry the DRAM poison marking (R139). -/
def spillCell (cell slot : Nat) (x : Dev × Memory) : Dev × Memory :=
  let d := x.1
  let w := unitWrite 21 (slotAddr d slot) (memRead x.2 (seraiBase + 256 * cell) 256) d x.2
  ((List.range 8).foldl (fun e j =>
    if has d.ser.poison (8 * cell + j) then dramPoison ((slotAddr d slot + 32 * j) / 64) e else e) w.2.1, w.2.2)

/-- R160: the tail of the caravan with head `h` goes to the first slots of the free chain. -/
def spillOut (q h : Nat) (k : Caravan) (d : Dev) (m : Memory) : Dev × Memory :=
  let x := takeBack d m
  let tail := k.cells.drop 1
  let n := tail.length
  let free := x.1.rd SPILL_SLOTS_FREE_SLOTS
  if free < n then
    (if x.1.on SPILL_STATUS_REGION_FULL then x.1 else raiseBit pSerai 7 (x.1.put SPILL_STATUS_REGION_FULL 1), x.2)
  else
    let slots := chainSlots n x.1.ser.spillFree x.1 x.2
    let last := slots.getLastD 0
    let next := readLink last x.1 x.2
    let y := (tail.zip slots).foldl (fun z p => spillCell p.1 p.2 z) (next.2.2, x.2)
    let r := draw y.1
    let z := writeLink last (2 ^ 31 + r.1 % 2 ^ 24) (r.2, y.2)
    let d1 := { z.1 with ser := { z.1.ser with
      spillFree := next.1
      caravans := tabSet z.1.ser.caravans h { k with cells := k.cells.take 1, spill := some (slots.headD 0, n) } } }
    let d2 := ((d1.put SPILL_SLOTS_FREE_SLOTS (free - n)).put SPILL_OUT_CARAVANS (d1.rd SPILL_OUT_CARAVANS + 1))
    let d3 := count SPILL_COUNT_OUT_COUNT 0 0 (freeCellsOf tail d2)
    (updateManifest q h (fun v => setFlag v fSpilled true) d3, z.2)

/-- R159, R160: the engine spills the next caravan while occupancy exceeds SPILL_HIGH, and on until it is below
SPILL_LOW. -/
def spillNext (d : Dev) (m : Memory) : Dev × Memory :=
  let occ := occTotal d
  if !(d.on SPILL_CFG_EN && d.on SPILL_STATUS_READY && spillAccepted d && spillReady d) then (d, m)
  else if d.on SPILL_STATUS_ACTIVE && decide (occ < d.rd SPILL_LOW_LOW) then (d.put SPILL_STATUS_ACTIVE 0, m)
  else if d.on SPILL_STATUS_ACTIVE || decide (d.rd SPILL_HIGH_HIGH < occ) then
    let d1 := if d.on SPILL_STATUS_ACTIVE then d else raiseBit pSerai 6 (d.put SPILL_STATUS_ACTIVE 1)
    match spillQueue d1 with
    | none => (d1, m)
    | some (q, x) => match caravanAt d1 x.head with
      | none => (d1, m)
      | some k =>
        let y := spillOut q x.head k (draw d1).2 m
        (if occTotal y.1 < y.1.rd SPILL_LOW_LOW then y.1.put SPILL_STATUS_ACTIVE 0 else y.1, y.2)
  else (d, m)

/-- One slot copied back to a cell; words of a poisoned line are poisoned and code 0x44 is captured (R138, R165). -/
def returnCell (slot cell : Nat) (x : Dev × Memory) : Dev × Memory :=
  let a := slotAddr x.1 slot
  let r := unitRead 21 a 256 x.1 x.2
  let d1 := (List.range 8).foldl (fun e j =>
    if dramPoisoned e (a + 32 * j) 32 then
      report ⟨pSerai, 0x44, 1, 0, 21, a + 32 * j⟩ (count SERAI_UE_COUNT_COUNT 0 0 (setPoison (8 * cell + j) e))
    else { e with ser := { e.ser with poison := e.ser.poison.filter (· != 8 * cell + j) } }) r.2.2
  (d1, memWrite x.2 (seraiBase + 256 * cell) r.1)

/-- R161: the first spilled caravan in the return zone of queue `q` returns, if class 7 admits its tail. -/
def spillReturn (q : Nat) (d : Dev) (m : Memory) : Dev × Memory :=
  let zone := (qList d q).take (max 1 (d.rd SPILL_RETURN_RETURN_DEPTH) + 1)
  match zone.find? (fun x => match caravanAt d x.head with
      | some k => k.spill.isSome
      | none => false) with
  | none => (d, m)
  | some x => match caravanAt d x.head with
    | none => (d, m)
    | some k => match k.spill with
      | none => (d, m)
      | some f =>
        if !spillReady d then (d, m)
        else
          let r := admitCells 7 f.2 d
          match r.1 with
          | none => (r.2, m)
          | some cells =>
            let slots := chainSlots f.2 f.1 r.2 m
            let y := (slots.zip cells).foldl (fun z p => returnCell p.1 p.2 z) (r.2, m)
            let d1 := { y.1 with ser := { y.1.ser with
              slotFrees := y.1.ser.slotFrees ++ [f]
              caravans := tabSet y.1.ser.caravans x.head { k with cells := k.cells ++ cells, spill := none } } }
            let d2 := ((d1.put SPILL_SLOTS_FREE_SLOTS (d1.rd SPILL_SLOTS_FREE_SLOTS + f.2)).put SPILL_OUT_CARAVANS
              (d1.rd SPILL_OUT_CARAVANS - 1)).put SPILL_STATUS_REGION_FULL 0
            let d3 := if !d2.on SPILL_CFG_EN && !d2.on SPILL_OUT_CARAVANS then d2.put SPILL_STATUS_READY 0 else d2
            (updateManifest q x.head (fun v => setFlag v fSpilled false) (count SPILL_COUNT_RET_COUNT 0 0 d3), y.2)

/-! ### Meanings -/

def execSpillEnable (m : Nat) (s : State) : Host.Outcome State Fault Refusal :=
  upd s (cmdWrite pSpill 0x040 m (spillEnable m))

def execSpillRegionReady (s : State) : Host.Outcome State Fault Refusal := updMem s spillRegion

def execSpillCaravan (s : State) : Host.Outcome State Fault Refusal := updMem s spillNext

def execSpillReturn (q : Nat) (s : State) : Host.Outcome State Fault Refusal := updMem s (spillReturn q)

def execSpillDisable (m : Nat) (s : State) : Host.Outcome State Fault Refusal :=
  upd s (cmdWrite pSpill 0x040 m spillDisable)

end Sys2Proof.Machine
end

