-- ==== Sys2Proof/Machine/StaXfer.lean ====
section
/-! DEFINITION. Export and import of stations for handover (spec/09_stations.md R379, R380), and STA_CMD whole. -/

namespace Sys2Proof.Machine

open Sys2Proof

/-- The master ID under which records move. -/
def xferMaster : Nat := 18

/-- Fields of the words of a record at 0x030: W0 without STATE, W3, W5 and W6. -/
def recordW0 : List Fld := [STA_W0_AID, STA_W0_BSS, STA_W0_LINKS, STA_W0_EMLSR, STA_W0_MLD]
def recordW3 : List Fld := [STA_W3_TID_MAP]
def recordW5 : List Fld := [STA_W5_EMLSR_TRANS, STA_W5_EMLSR_PAD, STA_W5_FORMATS, STA_W5_MAX_BW, STA_W5_NSS]
def recordW6 : List Fld := [STA_W6_LISTEN, STA_W6_MAX_SP, STA_W6_TRIG_AC, STA_W6_DELIV_AC]

/-- The word that the fields `fs` of one register make. -/
def packFields (fs : List Fld) (i : Nat) (d : Dev) : Nat := fs.foldl (fun v F => v + d.rd F 0 i * 2 ^ F.lo) 0

/-- Puts the fields of the word `v` into entry `i`. -/
def unpackFields (fs : List Fld) (v i : Nat) (d : Dev) : Dev := fs.foldl (fun x F => x.put F (bitsOf v F.hi F.lo) 0 i) d

/-- An address as 8 bytes of a record. -/
def addrBytes (a : Nat) : Bytes := toBytes 6 a ++ [0, 0]

/-- Bytes 0x060–0x0EF: the agreements of TID `t`. -/
def tidBytes (d : Dev) (e t : Nat) : Bytes :=
  let i := ti e t
  toBytes 4 (packFields [BA_RX_EN, BA_RX_SSN, BA_RX_SIZE] i d) ++ toBytes 4 (winStart d e t) ++
  toBytes 4 (packFields [BA_TX_EN, BA_TX_AMSDU, BA_TX_SIZE] i d) ++ toBytes 4 (origStart d e t)

/-- The record of entry `e` with a key blob, without its CRC. -/
def recordBody (d : Dev) (e : Nat) (blob : Bytes) : Bytes :=
  let tids := List.range 9
  let doze := (List.range 3).foldl (fun v l => v + d.rd L_ADDR_HI_DOZE 0 (lk e l) * 2 ^ (8 + l)) 0
  let pn := if d.on STA_W4_KEY_VALID 0 e then pnOf d (d.rd STA_W4_KEY_SLOT 0 e) else 0
  toBytes 4 0x02000001 ++
  toBytes 4 ((staOf d e).recorded % 8 + 8 * d.rd STA_W0_MLD 0 e + 16 * d.rd STA_W0_EMLSR 0 e + 32 * staLinks d e + doze) ++
  toBytes 4 (d.rd STA_ATIME_NS_NS 0 e) ++ toBytes 4 (d.rd STA_ATIME_S_S 0 e) ++
  addrBytes (d.rd STA_W1_ADDR 0 e + 2 ^ 32 * d.rd STA_W2_ADDR 0 e) ++
  (List.range 3).flatMap (fun l => addrBytes (d.rd L_ADDR_LO_ADDR 0 (lk e l) + 2 ^ 32 * d.rd L_ADDR_HI_ADDR 0 (lk e l))) ++
  [recordW0, recordW3, recordW5, recordW6].flatMap (fun fs => toBytes 4 (packFields fs e d)) ++
  tids.flatMap (fun t => toBytes 2 (d.rd TX_SN_SN 0 (ti e t))) ++ List.replicate 14 0 ++
  tids.flatMap (tidBytes d e) ++
  tids.flatMap (fun t => toBytes 8 (d.rd RX_PN_LO_PN 0 (ti e t) + 2 ^ 32 * d.rd RX_PN_HI_PN 0 (ti e t))) ++
  toBytes 8 pn ++ padTo 128 blob ++ List.replicate 60 0

/-- The CRC of a record. -/
def recordCrc (b : Bytes) : Nat := crc32 0xFFFFFFFF (b.take 0x1FC)

/-- The blob of the pairwise key of entry `e` under slot `w`: empty without a key, none where the cipher engine refuses it
under the rules of an EXPORT. -/
def exportBlob (w e : Nat) (d : Dev) : Option Bytes × Dev :=
  let s := d.rd STA_W4_KEY_SLOT 0 e
  if !d.on STA_W4_KEY_VALID 0 e then (some [], d)
  else if !slotOk d s uExport || !slotOk d w uWrap || d.rd KEY_ATTR_LEN 0 w != 2 then (none, d)
  else
    let r := drawPn w d
    (r.1.map (wrapBlob (slotKey d w) (slotHeader d s) (keyMaterial d s)), r.2)

/-- EXPORT of entry `e` (R379). A key that the cipher engine refuses ends the command with the RESULT that R380 gives
such a refusal. -/
def staExport (e : Nat) (d : Dev) (m : Memory) : Dev × Memory :=
  let a := admitFrame 6 512 (releaseAllHeld e d)
  match a.1 with
  | none => (staResult 3 a.2, m)
  | some h =>
    let b := exportBlob (d.rd STA_XFER_CFG_WRAP_SLOT) e a.2
    match b.1 with
    | none => (staResult 7 (refDown h b.2), m)
    | some blob =>
      let body := recordBody b.2 e blob
      let bs := body ++ toBytes 4 (recordCrc body)
      let d1 := staResult 0 (b.2.put STA_XFER_HEAD_HEAD h)
      if carRefused d1 xferMaster .write h then (customsRefuse .serai xferMaster .write (seraiBase + 256 * h) d1, m)
      else (clearPoison (frameWords d1 h 0 512) d1, writeFrame d1 h bs m)

/-- The record that STA_XFER_HEAD names; zeros where the read is refused. -/
def recordRead (d : Dev) (m : Memory) : Bytes × Dev :=
  let h := d.rd STA_XFER_HEAD_HEAD
  if (caravanAt d h).isSome && carRefused d xferMaster .read h then
    (List.replicate 512 0, customsRefuse .serai xferMaster .read (seraiBase + 256 * h) d)
  else (padTo 512 (readFrame d m h 0 512), d)

/-- The image that a record describes. -/
def recordImage (b : Bytes) : StaImage :=
  let w0 := wordAt b 12
  { aid := bitsOf w0 STA_W0_AID.hi STA_W0_AID.lo, bss := bitsOf w0 STA_W0_BSS.hi STA_W0_BSS.lo
    links := bitsOf w0 STA_W0_LINKS.hi STA_W0_LINKS.lo, mld := w0.testBit STA_W0_MLD.lo
    addr := ofBytes ((b.drop 0x10).take 6)
    laddr := (List.range 3).map (fun l => ofBytes ((b.drop (0x18 + 8 * l)).take 6)) }

/-- The key of a record for slot `s`, unwrapped with slot `w`: none where the cipher engine refuses the blob, empty where
there is none. -/
def importKey (s w : Nat) (b : Bytes) (d : Dev) : Option Bytes :=
  let blob := (b.drop 0x140).take 128
  if blob.all (· == 0) then some []
  else if s < 16 || d.on KEY_ATTR_ERASING 0 s || !slotOk d w uUnwrap || d.rd KEY_ATTR_LEN 0 w != 2 ||
      blobMalformed xferMaster blob then none
  else gcmOpen (slotKey d w) ((blob.drop 0x10).take 12) (blob.take 16) ((blob.drop 0x20).take 64) ((blob.drop 0x60).take 16)

/-- Installs the agreements, windows and PNs of a record in entry `e`. -/
def importTids (b : Bytes) (e : Nat) (d : Dev) : Dev :=
  (List.range 9).foldl (fun x t =>
    let i := ti e t
    let o := 0x60 + 16 * t
    let w := fun (k : Nat) => ofBytes ((b.drop (o + 4 * k)).take 4)
    let pn := ofBytes ((b.drop (0xF0 + 8 * t)).take 8)
    ((((unpackFields [BA_TX_EN, BA_TX_AMSDU, BA_TX_SIZE] (w 2) i
      (unpackFields [BA_RX_EN, BA_RX_SSN, BA_RX_SIZE] (w 0) i x)).put BA_RX_STATUS_WINSTART (w 1) 0 i).put
      TX_SN_SN (ofBytes ((b.drop (0x40 + 2 * t)).take 2)) 0 i).put RX_PN_LO_PN pn 0 i).put RX_PN_HI_PN (pn / 2 ^ 32) 0 i) d

/-- Creates entry `e` FROZEN from a record (R380), its key in slot `s`. -/
def importEntry (s : Nat) (b key : Bytes) (e : Nat) (d : Dev) : Dev :=
  let w1 := wordAt b 1
  let g := recordImage b
  let d1 := (copyStaged [STA_W4_MAX_MPDU] e (freshEntry e d)).put STA_W4_KEY_SLOT s 0 e
  let d2 := unpackFields recordW6 (wordAt b 15) e (unpackFields recordW5 (wordAt b 14) e
    (unpackFields recordW3 (wordAt b 13) e (unpackFields recordW0 (wordAt b 12) e d1)))
  let d3 := (((d2.put STA_W1_ADDR g.addr 0 e).put STA_W2_ADDR (g.addr / 2 ^ 32) 0 e).put STA_ATIME_NS_NS (wordAt b 2) 0 e).put
    STA_ATIME_S_S (wordAt b 3) 0 e
  let d4 := (List.range 3).foldl (fun x l =>
    ((x.put L_ADDR_LO_ADDR (g.laddr.getD l 0) 0 (lk e l)).put L_ADDR_HI_ADDR (g.laddr.getD l 0 / 2 ^ 32) 0 (lk e l)).put
      L_ADDR_HI_DOZE (bitsOf w1 (8 + l) (8 + l)) 0 (lk e l)) d3
  let d5 := importTids b e d4
  let d6 := if key.isEmpty then d5 else
    putPn s (ofBytes ((b.drop 0x138).take 8)) (installKey s ((b.drop 0x140).take 16) key
      ((d5.put STA_W4_KEY_VALID 1 0 e).put KEY_ATTR_REKEY_F 0 0 s))
  let d7 := staMod e (fun x => { x with
    recorded := w1 % 8
    bars := (List.range 9).filter (fun t => d6.on BA_TX_EN 0 (ti e t)) }) d6
  bssCount g.bss true (setStaState e stFROZEN d7)

/-- IMPORT into entry `e` (R380). -/
def staImport (m e : Nat) (d : Dev) (mem : Memory) : Dev :=
  let r := recordRead d mem
  let b := r.1
  if wordAt b 0 % 2 ^ 8 != 1 || bitsOf (wordAt b 0) 31 16 != 0x200 || wordAt b 127 != recordCrc b then
    refuseWrite pSta 0x41 m (regAddr (pSta + 1) 0x044) (staResult 6 r.2)
  else match imageCheck r.2 e (recordImage b) true with
    | some x => imageRefuse m x r.2
    | none =>
      let s := r.2.rd STA_W4_KEY_SLOT 0 staging
      match importKey s (r.2.rd STA_XFER_CFG_WRAP_SLOT) b r.2 with
      | none => staResult 7 r.2
      | some key => staResult 0 (importEntry s b key e r.2)

/-- A write of STA_CMD by its CMD code. -/
def staCmdAll (m v : Nat) (d : Dev) (mem : Memory) : Dev × Memory :=
  let e := d.rd STA_IDX_ENTRY
  if v % 16 = 8 ∧ e < stationCount d.variant ∧ staState d e = stFROZEN then staExport e d mem
  else (staCmdWrite m v (staCommand m (fun _ => false) (fun _ x => x))
    (staCommand m (fun s => s == stFREE || s == stPROBED) (fun i x => staImport m i x mem)) d, mem)

def execStaExport (m : Nat) (s : State) : Host.Outcome State Fault Refusal :=
  updMem s (cmdWriteMem (pSta + 1) 0x044 m (staCmdAll m 8))

def execStaImport (m : Nat) (s : State) : Host.Outcome State Fault Refusal :=
  updMem s (cmdWriteMem (pSta + 1) 0x044 m (staCmdAll m 9))

end Sys2Proof.Machine
end

