-- ==== Sys2Proof/Machine/CvyMsg.lean ====
section
/-! DEFINITION. The Convoy engine: messages, the record store, keys, membership and authority (spec/20_convoy.md
R732–R752, R759–R761, R766, R767). -/

namespace Sys2Proof.Machine

open Sys2Proof

/-- First page of CONVOY. -/
def pConvoy : Nat := 0xD0

/-- The engine's master ID. -/
def cvyMaster : Nat := 18

def cvyMod (f : ConvoyUnit → ConvoyUnit) (d : Dev) : Dev := { d with cvy := f d.cvy }
def cvySelf (d : Dev) : Nat := d.rd CVY_CFG_MEMBER
def memberOf (d : Dev) (id : Nat) : CvyMember := tabGet d.cvy.members id {}
def memberMod (id : Nat) (f : CvyMember → CvyMember) (d : Dev) : Dev :=
  cvyMod (fun u => { u with members := tabMod u.members id {} f }) d
def memberState (d : Dev) (id : Nat) : Nat := d.rd CVY_MBR_STATE_STATE 0 id

/-- Members from which a HELLO has come. -/
def knownMembers (d : Dev) : List Nat := d.cvy.members.map (·.1)

/-- A neighbour (R743). -/
def isNeighbour (d : Dev) (id : Nat) : Bool := d.on CVY_MBR_STATE_NEIGHBOUR 0 id
def neighbours (d : Dev) : List Nat := (knownMembers d).filter (isNeighbour d)

/-- The view of R747, this member apart: members ALIVE or SUSPECT. -/
def inView (d : Dev) (id : Nat) : Bool := id == cvySelf d || memberState d id == 1 || memberState d id == 2
def viewSize (d : Dev) : Nat := 1 + ((knownMembers d).filter (fun i => i != cvySelf d && inView d i)).length

/-- Writes an event (R772). -/
def cvyEvent (kind arg : Nat) (d : Dev) : Dev :=
  if 64 ≤ d.cvy.evts.length then raiseBit pConvoy 4 (count CVY_EVT_OVF_COUNT 0 0 d)
  else raiseBit pConvoy 3 (cvyMod (fun u => { u with evts := u.evts ++ [(kind, arg % 2048)] }) d)

/-- Class 6 is in Throttle or Refuse (R744). -/
def cvyThrottled (d : Dev) : Bool := decide (2 ≤ d.rd SERAI_CLASS_STATE_STATE 0 6)

/-- CVY_SYSID, CVY_NODE, the epoch E. -/
def cvySysid (d : Dev) : Nat := d.rd CVY_SYSID_LO_SYSID + 2 ^ 32 * d.rd CVY_SYSID_HI_SYSID
def cvyNode (d : Dev) : Nat := d.rd CVY_NODE_LO_NODE + 2 ^ 32 * d.rd CVY_NODE_HI_NODE
def cvyEpoch (d : Dev) : Nat := d.rd CVY_EPOCH_LO_EPOCH + 2 ^ 32 * d.rd CVY_EPOCH_HI_EPOCH
def putEpoch (e : Nat) (d : Dev) : Dev := (d.put CVY_EPOCH_LO_EPOCH e).put CVY_EPOCH_HI_EPOCH (e / 2 ^ 32)

/-- R338: coordination of air plans runs. -/
def airCoordinates (d : Dev) : Bool :=
  accepted d 3 5 && accepted d 3 6 && d.on AIR_CVY_CFG_EN && isActive d pConvoy

/-! ### Links and messages (R737, R738) -/

/-- A link to neighbours: an Ethernet port (KIND 3), or a backhaul station of Radio C (KIND 2). -/
structure CvyLink where
  kind : Nat
  idx : Nat
  deriving DecidableEq, Repr

/-- The links of CVY_CFG.PORTS and CVY_BH. -/
def cvyLinks (d : Dev) : List CvyLink :=
  (List.range 6).filterMap (fun p => if (d.rd CVY_CFG_PORTS).testBit p && present d (pEth p) then some ⟨3, p⟩ else none) ++
  (List.range 16).filterMap (fun i => if d.on CVY_BH_VALID 0 i then some ⟨2, d.rd CVY_BH_STATION 0 i⟩ else none)

/-- The slot of purpose `p` of generation `g`. -/
def genSlot (d : Dev) (g p : Nat) : Nat := (d.rd CVY_KEY_CFG_BASE + 8 * (g % 4) + p) % 8192

/-- Generation `g` of purpose `p` is held, and its slot serves usage `u`. -/
def genHeld (d : Dev) (g p u : Nat) : Bool := d.cvy.gens.any (· == (g, p)) && slotOk d (genSlot d g p) u

/-- The active generation. -/
def cvyGen (d : Dev) : Nat := d.rd CVY_KEY_GEN_ACTIVE

/-- The 40-byte header. -/
def cvyHeader (d : Dev) (type flags ttl seq len dest : Nat) : Bytes :=
  [1] ++ toBE 1 type ++ toBE 1 flags ++ toBE 1 ttl ++ toBE 2 (cvySelf d) ++ toBE 2 (cvySelf d) ++
    toBE 4 (d.rd CIPH_BOOT_EPOCH_EPOCH) ++ toBE 4 seq ++ toBE 8 (cvySysid d) ++ toBE 4 (cvyGen d) ++ toBE 2 len ++
    toBE 2 dest ++ toBE 8 (cvyEpoch d)

/-- The ICV: AES-256-CMAC under the AUTH key of generation `g`. -/
def cvyIcv (d : Dev) (g : Nat) (b : Bytes) : Bytes := cmac (slotKey d (genSlot d g 0)) b

/-- The engine may send: it is Active or waits in its drain, holds its AUTH key, has no ID conflict, and the cipher engine
computes for it. -/
def cvySends (d : Dev) : Bool :=
  (isActive d pConvoy || d.cvy.departing) && genHeld d (cvyGen d) 0 uEnc && !d.on CVY_STATUS_ID_CONFLICT && isActive d pCiph

/-- The source address of a frame on a link. Over a backhaul link the spec names none. -/
def cvySource (l : CvyLink) (d : Dev) : Bytes × Dev :=
  if l.kind = 3 then (ethAddr d l.idx, d) else
    let r := draw d
    (toBytes 6 r.1, r.2)

/-- The queue of a link (R737). -/
def cvyQueue (d : Dev) (l : CvyLink) : Nat :=
  ((if l.kind = 3 then d.rd WAY_ETH_MAP_QBASE 0 l.idx else d.rd WAY_STA_MAP_QBASE 0 l.idx) + d.rd CVY_CFG_TC) % 16384

/-- Sends one message on a link to the address `dst`: admitted for class 6 and enqueued (R737); one that is refused is
dropped and counted (R744). -/
def cvyEmit (l : CvyLink) (dst msg : Bytes) (s : DM) : DM :=
  let src := cvySource l s.1
  let f := dst ++ src.1 ++ toBE 2 (s.1.rd CVY_ETYPE_ETYPE) ++ msg
  let r := admitFrame 6 f.length src.2
  match r.1 with
  | none => (count CVY_REFUSED_COUNT 0 0 r.2, s.2)
  | some h =>
    let m1 := writeFrame r.2 h f s.2
    let d1 := clearPoison (frameWords r.2 h 0 f.length) r.2
    let e := enqueueFrom .convoy
      { head := h, tc := d1.rd CVY_CFG_TC, len := f.length, queue := cvyQueue d1 l, src := 0x7000 + cvySelf d1 } false d1
    (if e.1 then count CVY_TX_COUNT 0 0 e.2 else e.2, m1)

/-- The address CVY_GROUP. -/
def cvyGroup (d : Dev) : Bytes := toBytes 4 (d.rd CVY_GROUP_LO_ADDR) ++ toBytes 2 (d.rd CVY_GROUP_HI_ADDR)

/-- The engine numbers a message of its own and signs it. -/
def cvyMessage (type flags ttl dest : Nat) (body : Bytes) (d : Dev) : Bytes × Nat × Dev :=
  let seq := d.cvy.seq % 2 ^ 32
  let b := cvyHeader d type flags ttl seq body.length dest ++ body
  (b ++ cvyIcv d (cvyGen d) b, seq, cvyMod (fun u => { u with seq := u.seq + 1 }) d)

/-- A flooded message of this member, on every link. -/
def cvyFlood (type flags ttl : Nat) (body : Bytes) (s : DM) : DM :=
  if !cvySends s.1 then s
  else
    let r := cvyMessage type flags ttl 0xFFFF body s.1
    (cvyLinks r.2.2).foldl (fun x l => cvyEmit l (cvyGroup x.1) r.1 x) (r.2.2, s.2)

/-- The link of neighbour `id`. -/
def viaOf (d : Dev) (id : Nat) : CvyLink := ⟨d.rd CVY_MBR_VIA_KIND 0 id, d.rd CVY_MBR_VIA_INDEX 0 id⟩

/-- A message of one hop to neighbour `id`; `acked` where it waits for an acknowledgement (R741, R745). -/
def cvyTo (id type flags : Nat) (acked : Bool) (body : Bytes) (s : DM) : DM :=
  if !cvySends s.1 || !isNeighbour s.1 id then s
  else
    let r := cvyMessage type (flags + if acked then 1 else 0) 1 id body s.1
    let d1 := if acked then cvyMod (fun u => { u with outs := u.outs ++ [⟨r.2.1, id, 0, r.1⟩] }) r.2.2 else r.2.2
    cvyEmit (viaOf d1 id) (memberOf d1 id).mac r.1 (d1, s.2)

/-! ### The store (R748–R750) -/

def rKind (r : Bytes) : Nat := be r 0 1
def rDeleted (r : Bytes) : Bool := (be r 1 1).testBit 0
def rOrigin (r : Bytes) : Nat := be r 2 2
def rCounter (r : Bytes) : Nat := be r 4 4
def rEpoch (r : Bytes) : Nat := be r 8 8
def rKey (r : Bytes) : Nat := be r 16 8
def rOrder (r : Bytes) : Nat := be r 24 8
def rBody (r : Bytes) : Bytes := (r.drop 32).take 160
def kMEMBER : Nat := 1
def kCONFIG : Nat := 2
def kSTATION : Nat := 3
def kKEY : Nat := 4

/-- A record of 192 bytes. -/
def recordOf (kind : Nat) (deleted : Bool) (origin counter epoch rkey order : Nat) (body : Bytes) : Bytes :=
  toBE 1 kind ++ [if deleted then 1 else 0] ++ toBE 2 origin ++ toBE 4 counter ++ toBE 8 epoch ++ toBE 8 rkey ++
    toBE 8 order ++ padTo 160 (body.take 160)

def storeBase (d : Dev) : Nat := d.rd CVY_STORE_BASE_LO_BASE * 4096 + 2 ^ 32 * d.rd CVY_STORE_BASE_HI_BASE
def storeLog (d : Dev) : Nat := max 10 (min 20 (d.rd CVY_STORE_CFG_LOG2))

/-- The CRC over KIND and RKEY that gives bucket and segment (R749). -/
def keyCrc (kind rkey : Nat) : Nat := crc32 0xFFFFFFFF (toBE 1 kind ++ toBE 8 rkey)
def segmentOf (r : Bytes) : Nat := keyCrc (rKind r) (rKey r) % 4096

/-- The four slots of a record's bucket. -/
def bucketSlots (d : Dev) (kind rkey : Nat) : List Nat :=
  (List.range 4).map (fun i => storeBase d + 1024 * (keyCrc kind rkey % 2 ^ storeLog d) + 256 * i)

/-- The record in the slot at `a`: absent where it cannot be read, or its line is poisoned, which is captured with code
0x43 (R771). -/
def slotRead (a : Nat) (d : Dev) (m : Memory) : Bytes × Dev :=
  let r := unitRead cvyMaster a 192 d m
  if r.2.1 && poisonedAt d a 192 then (List.replicate 192 0, report ⟨pConvoy, 0x43, 1, 0, cvyMaster, a⟩ r.2.2)
  else (r.1, r.2.2)

/-- The slot among `l` that holds the record of a key, and the first empty one. -/
def slotScan (kind rkey : Nat) : List Nat → Dev → Memory → Option (Nat × Bytes) × Option Nat × Dev
  | [], d, _ => (none, none, d)
  | a :: l, d, m =>
    let r := slotRead a d m
    if rKind r.1 = kind ∧ rKey r.1 = rkey then (some (a, r.1), none, r.2)
    else
      let t := slotScan kind rkey l r.2 m
      if rKind r.1 = 0 then (t.1, some a, t.2.2) else t

/-- The held record of a key. -/
def findRec (kind rkey : Nat) (d : Dev) (m : Memory) : Option (Nat × Bytes) × Option Nat × Dev :=
  slotScan kind rkey (bucketSlots d kind rkey) d m

/-- The records of the whole store that the engine can read. -/
def storeScan (d : Dev) (m : Memory) : List Bytes :=
  let b := storeBase d
  let size := 1024 * 2 ^ storeLog d
  (m.filter (fun c => decide (b ≤ c.1) && decide (c.1 < b + size) && (c.1 - b) % 256 == 0)).filterMap (fun c =>
    if memVerdict d cvyMaster .read c.1 192 = .granted ∧ !poisonedAt d c.1 192 then some (memRead m c.1 192) else none)

/-- Live records of a kind. -/
def liveRecs (kind : Nat) (d : Dev) (m : Memory) : List Bytes :=
  (storeScan d m).filter (fun r => rKind r == kind && !rDeleted r)

/-- Members with a live MEMBER record, and those of them that carry WARDEN. -/
def memberRecs (d : Dev) (m : Memory) : List (Nat × Bytes) :=
  (liveRecs kMEMBER d m).map (fun r => (rKey r % 1024, rBody r))
def wardenRecs (d : Dev) (m : Memory) : List Nat :=
  (memberRecs d m).filterMap (fun e => if Config.memberWarden e.2 then some e.1 else none)

/-! ### Authority (R766, R767) and the engine's state (R747) -/

/-- The wardens known, and W: by the records, or, while the Convoy forms, by what HELLOs announce and CVY_BOOT.W. -/
def wardens (d : Dev) (m : Memory) : List Nat × Nat :=
  let l := wardenRecs d m
  if l.isEmpty then
    ((if d.on CVY_CFG_WARDEN then [cvySelf d] else []) ++
      (knownMembers d).filter (fun i => i != cvySelf d && (memberOf d i).announced), max 1 (d.rd CVY_BOOT_W))
  else (l, l.length)

/-- V, and whether this member has authority. -/
def votes (d : Dev) (m : Memory) : Nat := ((wardens d m).1.filter (inView d)).length
def authorityHolds (d : Dev) (m : Memory) : Bool :=
  let w := wardens d m
  let v := votes d m
  decide (w.2 < 2 * v) || (2 * v == w.2 && match w.1 with
    | [] => false
    | a :: l => inView d (l.foldl min a))

/-- This member is a warden (R752, R767). -/
def selfWarden (d : Dev) (m : Memory) : Bool := has (wardens d m).1 (cvySelf d)

/-- The activation time of a KEY record, in nanoseconds, and whether it has passed. -/
def keyGenOf (r : Bytes) : Nat := be (rBody r) 0 4
def keyPurpose (r : Bytes) : Nat := be (rBody r) 4 1
def keyDue (d : Dev) (r : Bytes) : Bool :=
  let t := be (rBody r) 8 8
  decide (t / 2 ^ 32 * 1000000000 + t % 2 ^ 32 ≤ nowS d % 2 ^ 32 * 1000000000 + nowNs d)

/-- Both keys of generation `g` are held. -/
def genReady (d : Dev) (g : Nat) : Bool := genHeld d g 0 uEnc && genHeld d g 1 uWrap

/-- Generation `g` becomes active (R760). -/
def activateGen (g : Nat) (d : Dev) : Dev := cvyEvent 9 (cvySelf d) (d.put CVY_KEY_GEN_ACTIVE g)

/-- R761: on AUTHORITY, the newest generation that is due and held becomes active. -/
def activateNewest (d : Dev) (m : Memory) : Dev :=
  let l := ((liveRecs kKEY d m).filter (fun r => keyDue d r && genReady d (keyGenOf r))).map keyGenOf
  let g := l.foldl max (cvyGen d)
  let d1 := d.put CVY_STATUS_KEY_HELD 0
  if cvyGen d < g then activateGen g d1 else d1

/-- The figures of CVY_STATUS follow the members and the store; a change of AUTHORITY is written and acts at once. -/
def cvySettle (s : DM) : DM :=
  let d := s.1
  let a := authorityHolds d s.2
  let st := if (neighbours d).isEmpty then 1 else if d.cvy.syncing.isEmpty then 3 else 2
  let d1 := ((((d.put CVY_STATUS_MEMBERS_ALIVE (viewSize d)).put CVY_STATUS_WARDENS (wardens d s.2).2).put CVY_STATUS_VOTES
    (votes d s.2)).put CVY_STATUS_STATE st)
  if a = d.on CVY_STATUS_AUTHORITY then (d1, s.2)
  else
    let d2 := raiseBit pConvoy 5 (cvyEvent (if a then 4 else 5) (cvySelf d) (d1.put CVY_STATUS_AUTHORITY (b2n a)))
    (if a then activateNewest d2 s.2 else d2, s.2)

/-! ### Keys (R759) -/

/-- The engine LOADs the blob of generation `g` and purpose `p`. -/
def cvyLoad (g p : Nat) (blob : Bytes) (d : Dev) : Dev :=
  let s := genSlot d g p
  let w := d.rd CVY_KEK_SLOT
  let fail := count CVY_KEY_FAIL_COUNT 0 0 d
  if s < 16 || 8 ≤ p || !isActive d pKey || d.on KEY_ATTR_ERASING 0 s || !slotOk d w uUnwrap ||
      d.rd KEY_ATTR_LEN 0 w != 2 || blobMalformed cvyMaster blob then fail
  else match gcmOpen (slotKey d w) ((blob.drop 0x10).take 12) (blob.take 16) ((blob.drop 0x20).take 64)
      ((blob.drop 0x60).take 16) with
    | none => fail
    | some k => cvyMod (fun u => { u with
        gens := u.gens.filter (fun e => !(e.1 % 4 == g % 4 && e.2 == p)) ++ [(g, p)] })
        (installKey s (blob.take 16) k (d.put KEY_ATTR_REKEY_F 0 0 s))

/-! ### Applying records (R750, R754) -/

/-- `wins` of R750. -/
def recWins (a b : Bytes) : Bool :=
  let rest := if rCounter a ≠ rCounter b then decide (rCounter b < rCounter a) else decide (rOrigin a < rOrigin b)
  if rKind a = kSTATION then (if rOrder a ≠ rOrder b then decide (rOrder b < rOrder a) else rest)
  else if rEpoch a ≠ rEpoch b then decide (rEpoch b < rEpoch a) else rest

/-- The serving member, BSS, MLD and tag of a STATION record. -/
def stServing (r : Bytes) : Nat := be (rBody r) 0 2 % 1024
def stTag (r : Bytes) : Nat := be (rBody r) 4 4

/-- Forwards records to neighbour `id`. -/
def sendRecords (sync : Bool) (rs : List Bytes) (id : Nat) (s : DM) : DM :=
  if rs.isEmpty || cvyThrottled s.1 then s
  else cvyTo id 2 (if sync then 2 else 0) true rs.flatten s

/-- Sends the records `rs` in RECORD messages of up to seven. -/
def sendAllRecords (sync : Bool) : Nat → List Bytes → Nat → DM → DM
  | 0, _, _, s => s
  | _, [], _, s => s
  | n + 1, rs, id, s => sendAllRecords sync n (rs.drop 7) id (sendRecords sync (rs.take 7) id s)

/-- R754: this member loses the station of the record in slot `a`. -/
def dropStation (a : Nat) (d : Dev) : Dev :=
  let e := tabGet d.cvy.locals a 0
  let d1 := count CVY_STA_DROPPED_COUNT 0 0 (cvyEvent 6 e (cvyMod (fun u => { u with locals := tabDel u.locals a }) d))
  if (tabFind d.cvy.locals a).isSome && d.on CVY_CFG_AUTO_DROP && staLive d1 e then staRemove e d1 else d1

/-- What a stored record brings with it: a member's WARDEN, a key, the end of a handover that a STATION record confirms. -/
def recEffects (r : Bytes) (d : Dev) : Dev :=
  if rKind r = kMEMBER then
    d.put CVY_MBR_STATE_WARDEN (b2n (!rDeleted r && Config.memberWarden (rBody r))) 0 (rKey r % 1024)
  else if rKind r = kKEY then
    let g := keyGenOf r
    if !rDeleted r && decide (cvyGen d ≤ g) && decide (g ≤ cvyGen d + 2) then
      cvyLoad g (keyPurpose r) (((rBody r).drop 16).take 128) d
    else d
  else if rKind r = kSTATION then
    cvyMod (fun u => { u with
      exps := u.exps.filter (fun x => !(x.record.isSome && ofBytesBE (toBytes 6 x.addr) == rKey r % 2 ^ 48 && x.peer == stServing r)) }) d
  else d

/-- Stores a record in its bucket; the slot's local bytes are open. A full bucket stores nothing, and neither does an
engine without the right to write there. -/
def storeRec (r : Bytes) (at_ : Option Nat) (s : DM) : Bool × DM :=
  match at_ with
  | none => (false, raiseBit pConvoy 7 (count CVY_STORE_FULL_COUNT 0 0 s.1), s.2)
  | some a =>
    let z := draw s.1
    let w := unitWrite cvyMaster a (r ++ toBytes 64 z.1) z.2 s.2
    (w.1, w.2.1, w.2.2)

/-- `apply` of R750 for a record that member `sender` sent, or that this member writes. Whether it was stored, and
whether the store did not take it. -/
def applyRec (r : Bytes) (sender : Option Nat) (s : DM) : (Bool × Bool) × DM :=
  let d0 := s.1.put CVY_LAMPORT_L (max (s.1.rd CVY_LAMPORT_L) (rCounter r))
  let d1 := if rKind r = kSTATION then d0 else putEpoch (max (cvyEpoch d0) (rEpoch r)) d0
  let f := findRec (rKind r) (rKey r) d1 s.2
  let dup := match f.1 with
    | some h => rCounter h.2 == rCounter r && rOrigin h.2 == rOrigin r
    | none => false
  let better := match f.1 with
    | some h => recWins r h.2
    | none => true
  if dup then ((false, false), f.2.2, s.2)
  else if !better then ((false, false), count CVY_REC_STALE_COUNT 0 0 f.2.2, s.2)
  else
    let slot := match f.1 with
      | some h => some h.1
      | none => f.2.1
    let w := storeRec r slot (f.2.2, s.2)
    if !w.1 then ((false, true), w.2)
    else
      let d2 := recEffects r (count CVY_REC_APPLIED_COUNT 0 0 w.2.1)
      let x := ((neighbours d2).filter (fun n => some n != sender)).foldl (fun y n => sendRecords false [r] n y) (d2, w.2.2)
      let lost := rKind r == kSTATION && (match f.1 with
        | some h => stServing h.2 == cvySelf d2 && stServing r != cvySelf d2
        | none => false)
      ((true, false), if lost then onDev (dropStation (slot.getD 0)) x else x)

/-- A local write: L rises, and E where the kind is not STATION (R750). -/
def localWrite (kind : Nat) (deleted : Bool) (rkey order : Nat) (body : Bytes) (s : DM) : (Bool × Bool) × DM :=
  let d0 := s.1.put CVY_LAMPORT_L (s.1.rd CVY_LAMPORT_L + 1)
  let d1 := if kind = kSTATION then d0 else putEpoch (cvyEpoch d0 + 1) d0
  let r := applyRec (recordOf kind deleted (cvySelf d1) (d1.rd CVY_LAMPORT_L) (cvyEpoch d1) rkey order body) none (d1, s.2)
  (r.1, cvySettle r.2)

/-! ### The station directory (R753) -/

/-- An address with octet 0 in its low bits, as the RKEY of a STATION record has it. -/
def stationKey (addr : Nat) : Nat := ofBytesBE (toBytes 6 addr)

/-- The station address of entry `e`. -/
def stationAddr (d : Dev) (e : Nat) : Nat := d.rd STA_W1_ADDR 0 e + 2 ^ 32 * d.rd STA_W2_ADDR 0 e

/-- The association time of entry `e` as ORDER. -/
def stationOrder (d : Dev) (e : Nat) : Nat := 2 ^ 32 * d.rd STA_ATIME_S_S 0 e + d.rd STA_ATIME_NS_NS 0 e

/-- The next tag of this member that the store does not hold. -/
def nextTag (d : Dev) (m : Memory) : Nat × Dev :=
  let used := (liveRecs kSTATION d m).map stTag
  let tag := fun (k : Nat) => cvySelf d * 2 ^ 22 + k % 2 ^ 22
  let k := ((List.range (used.length + 1)).find? (fun i => !has used (tag (d.cvy.tag + i)))).getD 0
  (tag (d.cvy.tag + k), cvyMod (fun u => { u with tag := u.tag + k + 1 }) d)

/-- Writes the STATION record of entry `e`, which this member serves, with a tag and ORDER. -/
def writeStation (e tag order : Nat) (s : DM) : DM :=
  let d := s.1
  let body := toBE 2 (cvySelf d) ++ toBE 1 (d.rd STA_W0_BSS 0 e) ++ toBE 1 (d.rd STA_W0_MLD 0 e) ++ toBE 4 tag
  let k := stationKey (stationAddr d e)
  let r := localWrite kSTATION false k order body s
  match (findRec kSTATION k r.2.1 r.2.2).1 with
  | some h => onDev (cvyMod (fun u => { u with locals := tabSet u.locals h.1 e })) r.2
  | none => r.2

/-- An association, and a removal that is no outbound handover, as the directory records them. -/
def stationJoined (e : Nat) (s : DM) : DM :=
  let t := nextTag s.1 s.2
  writeStation e t.1 (stationOrder t.2 e) (t.2, s.2)
def stationLeft (e addr : Nat) (s : DM) : DM :=
  let f := findRec kSTATION (stationKey addr) s.1 s.2
  match f.1 with
  | some h =>
    if s.1.cvy.exps.any (fun x => x.entry == e) || stServing h.2 != cvySelf s.1 || rDeleted h.2 then (f.2.2, s.2)
    else (localWrite kSTATION true (stationKey addr) (rOrder h.2) (rBody h.2) (f.2.2, s.2)).2
  | none => (f.2.2, s.2)

/-- The directory follows what a station command did between `old` and now, while DIR_AUTO is 1. -/
def dirFollow (old : Dev) (s : DM) : DM :=
  if !isActive s.1 pConvoy || !s.1.on CVY_CFG_DIR_AUTO then s
  else
    let joined := (staEntries s.1).filter (fun e => staState s.1 e == stASSOC && staState old e == stPENDING)
    let left := (staEntries s.1).filter (fun e => staState s.1 e == stREMOVING && staAssociated old e)
    left.foldl (fun x e => stationLeft e (stationAddr old e) x) (joined.foldl (fun x e => stationJoined e x) s)

/-! ### Anti-entropy (R751) -/

/-- The digest of segment `g`. -/
def digestOf (rs : List Bytes) (g : Nat) : Nat :=
  (rs.filter (fun r => segmentOf r == g)).foldl (fun x r => x ^^^ crc32 0xFFFFFFFF (r.take 32)) 0

/-- Sends the 16 SUMMARY messages of an exchange with neighbour `id`. -/
def startSync (id : Nat) (s : DM) : DM :=
  if cvyThrottled s.1 then s
  else
    let rs := storeScan s.1 s.2
    let s1 := onDev (cvyMod (fun u => { u with syncing := tabSet u.syncing id 16, owed := u.owed.filter (· != id) })) s
    (List.range 16).foldl (fun x k =>
      cvyTo id 4 0 true (toBE 2 (256 * k) ++ [0, 0] ++ (List.range 256).flatMap (fun i => toBE 4 (digestOf rs (256 * k + i)))) x) s1

end Sys2Proof.Machine
end

