-- ==== Sys2Proof/Machine/Convoy.lean ====
section
/-! DEFINITION. The Convoy engine: reception, handover, timers and commands (spec/20_convoy.md R736–R772), and the station
commands that the directory follows. -/

namespace Sys2Proof.Machine

open Sys2Proof

/-! ### Reception (R739, R740, R742) -/

/-- A received message: the link and source address it came by, and its bytes with the ICV. -/
structure CvyMsg where
  link : CvyLink
  mac : Bytes
  raw : Bytes
  deriving DecidableEq, Repr

def CvyMsg.field (g : CvyMsg) (o n : Nat) : Nat := be g.raw o n
def CvyMsg.type (g : CvyMsg) : Nat := g.field 1 1
def CvyMsg.flags (g : CvyMsg) : Nat := g.field 2 1
def CvyMsg.ttl (g : CvyMsg) : Nat := g.field 3 1
def CvyMsg.origin (g : CvyMsg) : Nat := g.field 4 2 % 1024
def CvyMsg.sender (g : CvyMsg) : Nat := g.field 6 2 % 1024
def CvyMsg.inc (g : CvyMsg) : Nat := g.field 8 4
def CvyMsg.seq (g : CvyMsg) : Nat := g.field 12 4
def CvyMsg.keygen (g : CvyMsg) : Nat := g.field 24 4
def CvyMsg.len (g : CvyMsg) : Nat := g.field 28 2
def CvyMsg.dest (g : CvyMsg) : Nat := g.field 30 2
def CvyMsg.body (g : CvyMsg) : Bytes := (g.raw.drop 40).take g.len

/-- The message of a manifest that the traffic manager has handed to the engine. -/
def msgOf (x : Manifest) (d : Dev) (m : Memory) : CvyMsg :=
  let f := readFrame d m x.head 0 x.len
  { link := ⟨srcKind x, srcIndex x⟩, mac := (f.drop 6).take 6, raw := if be f 12 2 = d.rd CVY_ETYPE_ETYPE then f.drop 14 else [] }

/-- A type of R741. -/
def msgKnown (g : CvyMsg) : Bool := decide (1 ≤ g.type) && decide (g.type ≤ 10)

/-- The flooded types. -/
def msgFlooded (g : CvyMsg) : Bool := has [1, 9, 10] g.type

/-- The header as the origin of a message sent it with TTL `t`: R742 forwards the ICV as it arrived, so the ICV covers
the TTL and SENDER of the origin. -/
def asOriginated (g : CvyMsg) (t : Nat) : Bytes :=
  let b := g.raw.take (40 + g.len)
  b.take 3 ++ toBE 1 t ++ (b.drop 4).take 2 ++ (b.drop 4).take 2 ++ b.drop 8

/-- The ICV verifies under the AUTH key of the message's generation. -/
def icvOk (g : CvyMsg) (d : Dev) : Bool :=
  let icv := (g.raw.drop (40 + g.len)).take 16
  let ttls := match g.type with
    | 1 => [16]
    | 10 => [16]
    | 9 => List.range 17
    | _ => [1]
  icv.length == 16 && ttls.any (fun t => decide (g.ttl ≤ t) && cvyIcv d g.keygen (asOriginated g t) == icv)

/-- An acknowledgement of message `seq` of neighbour `id`. -/
def cvyAck (id seq : Nat) (s : DM) : DM := cvyTo id 3 0 false (toBE 4 seq) s

/-- The duplicate state after SEQ `n`, none where it is a duplicate (R740). -/
def seqMark (k : CvyMember) (n : Nat) : Option CvyMember :=
  if k.high < n then
    let j := n - k.high
    some { k with high := n, map := (k.map * 2 ^ min j 63 + (if j ≤ 63 then 2 ^ (j - 1) else 0)) % 2 ^ 63 }
  else
    let j := k.high - n
    if j = 0 ∨ 64 ≤ j ∨ k.map.testBit (j - 1) then none else some { k with map := setBit k.map (j - 1) }

/-- Why a message is discarded, or what it leaves of its origin. -/
inductive CvyVerdict where
  | fresh (k : CvyMember)
  | discard
  | duplicate
  deriving DecidableEq, Repr

/-- R740 for a message whose ICV verifies. -/
def seqVerdict (g : CvyMsg) (d : Dev) : CvyVerdict :=
  let k := memberOf d g.origin
  if k.inc = some g.inc then
    match seqMark k g.seq with
    | some k' => .fresh k'
    | none => .duplicate
  else if g.type = 1 then .fresh { k with inc := some g.inc, high := g.seq, map := 0 }
  else .discard

/-- Forwards a flooded message on every link but the one it came by, with TTL reduced and this member as SENDER. -/
def cvyForward (g : CvyMsg) (s : DM) : DM :=
  if g.ttl < 2 || !cvySends s.1 then s
  else
    let raw := g.raw.take 3 ++ toBE 1 (g.ttl - 1) ++ (g.raw.drop 4).take 2 ++ toBE 2 (cvySelf s.1) ++
      (g.raw.drop 8).take (48 + g.len)
    ((cvyLinks s.1).filter (· != g.link)).foldl (fun x l => cvyEmit l (cvyGroup x.1) raw x) s

/-- A message passes R154, R739 and R740 and is acted on by `act`; the counts of the ones that do not. -/
def cvyAccept (g : CvyMsg) (act : CvyMsg → DM → DM) (s : DM) : DM :=
  let d := count CVY_RX_COUNT 0 0 s.1
  if d.rd SERAI_CLASS_STATE_STATE 0 6 = 3 then (count CVY_REFUSED_COUNT 0 0 d, s.2)
  else if g.field 0 1 ≠ 1 ∨ g.ttl = 0 ∨ 16 < g.ttl then (d, s.2)
  else if !genHeld d g.keygen 0 uDec then (count CVY_KEY_UNKNOWN_COUNT 0 0 d, s.2)
  else if !icvOk g d then (count CVY_AUTH_FAIL_COUNT 0 0 d, s.2)
  else if g.field 16 8 ≠ cvySysid d then (count CVY_SYSID_MISMATCH_COUNT 0 0 d, s.2)
  else if g.dest ≠ 0xFFFF ∧ g.dest ≠ cvySelf d then (d, s.2)
  else if g.origin = cvySelf d then (if g.type = 1 then act g (d, s.2) else (d, s.2))
  else match seqVerdict g d with
    | .discard => (d, s.2)
    | .duplicate =>
      let x := (count CVY_DUP_COUNT 0 0 d, s.2)
      if g.flags.testBit 0 && g.sender == g.origin then cvyAck g.origin g.seq x else x
    | .fresh k =>
      let y := act g (memberMod g.origin (fun _ => k) d, s.2)
      if msgFlooded g then cvyForward g y else y

/-- The engine takes the oldest message handed to it, where it is of type `t`; frames that are no message are dropped on
the way. -/
def cvyTake (t : Nat) (act : CvyMsg → DM → DM) : Nat → DM → DM
  | 0, s => s
  | n + 1, s =>
    match handedTo s.1 11 with
    | [] => s
    | x :: l =>
      let g := msgOf x s.1 s.2
      let read := (refDown x.head (setHanded 11 l s.1), s.2)
      if !msgKnown g then cvyTake t act n read
      else if g.type = t then cvyAccept g act read
      else s

/-- The reception of a message of type `t`. -/
def cvyReceive (t : Nat) (act : CvyMsg → DM → DM) (s : State) : Host.Outcome State Fault Refusal :=
  updMem s (fun d m =>
    if isActive d pConvoy && isActive d pCiph then cvySettle (cvyTake t act ((handedTo d 11).length + 1) (d, m))
    else (d, m))

/-! ### Members (R736, R743, R746) -/

/-- The CONVOY_MAX code of the variant. -/
def convoyMax (v : Variant) : Nat := bitsOf (offered v 0) 12 11
def maxOfCode (c : Nat) : Nat := if c = 2 then 1024 else if c = 1 then 256 else 64

/-- The body of this member's HELLO (R743). -/
def helloBody (d : Dev) : Bytes :=
  toBE 1 (b2n (d.on CVY_CFG_WARDEN) + 2 * b2n (d.on CVY_STATUS_AUTHORITY) + 4 * b2n (airCoordinates d)) ++
    toBE 1 (convoyMax d.variant) ++ toBE 2 (viewSize d) ++ toBE 8 (cvyNode d) ++ toBE 2 (d.rd CVY_TIMEPATH_PARENT) ++
    toBE 1 (d.rd CVY_TIMEPATH_HOPS) ++ toBE 1 (servoState d) ++ List.replicate 8 0

/-- A member leaves the view: no neighbour any more, its unacknowledged messages given up. -/
def memberGone (id event : Nat) (d : Dev) : Dev :=
  cvyEvent event id (cvyMod (fun u => { u with
    outs := u.outs.filter (fun o => o.dest != id)
    owed := u.owed.filter (· != id)
    syncing := tabDel u.syncing id }) ((d.put CVY_MBR_STATE_STATE 3 0 id).put CVY_MBR_STATE_NEIGHBOUR 0 0 id))

/-- A HELLO with this member's own ID (R736): the device with the higher node ID stops sending. -/
def ownHello (g : CvyMsg) (d : Dev) : Dev :=
  if be g.body 4 8 < cvyNode d ∧ !d.on CVY_STATUS_ID_CONFLICT then
    cvyEvent 11 (cvySelf d) (fault0 pConvoy 0x42 0 (cvySelf d) (d.put CVY_STATUS_ID_CONFLICT 1))
  else d

/-- A HELLO of another member (R743, R746). -/
def helloTake (g : CvyMsg) (s : DM) : DM :=
  let d := s.1
  let id := g.origin
  if id = cvySelf d then (ownHello g d, s.2)
  else
    let b := g.body
    let d1 := (((memberMod id (fun k => { k with last := d.tb.elapsed, announced := (be b 0 1).testBit 0 }) d).put
      CVY_MBR_STATE_HOPS (be b 14 1) 0 id).put CVY_MBR_STATE_PARENT (be b 12 2) 0 id).put CVY_MBR_NODE_LO_NODE (be b 8 4) 0 id
    let d2 := d1.put CVY_MBR_NODE_HI_NODE (be b 4 4) 0 id
    let d3 := if (memberRecs d2 s.2).any (fun e => e.1 == id) then d2 else cvyEvent 13 id d2
    let old := memberState d id
    let d4 := (if old = 0 ∨ old = 3 then cvyEvent 1 id d3 else d3).put CVY_MBR_STATE_STATE 1 0 id
    if g.sender ≠ id then (d4, s.2)
    else
      let d5 := (((memberMod id (fun k => { k with mac := g.mac }) d4).put CVY_MBR_STATE_NEIGHBOUR 1 0 id).put
        CVY_MBR_VIA_KIND g.link.kind 0 id).put CVY_MBR_VIA_INDEX g.link.idx 0 id
      if !isNeighbour d id || has d.cvy.owed id then startSync id (d5, s.2) else (d5, s.2)

/-- Milliseconds since the last HELLO of a member (R746). -/
def memberAge (d : Dev) (id : Nat) : Nat := (d.tb.elapsed - (memberOf d id).last) / 500000
def hbMs (d : Dev) : Nat := max 1 (d.rd CVY_TIMERS_HB_MS)

/-- A DEPART (R746, R770). -/
def departTake (g : CvyMsg) (s : DM) : DM :=
  let x := if g.sender = g.origin then cvyAck g.origin g.seq s else s
  onDev (memberGone g.origin 12) x

/-! ### Records (R745, R750, R751) -/

/-- The records of a RECORD message's body. -/
def splitRecords : Nat → Bytes → List Bytes
  | 0, _ => []
  | n + 1, b => if b.length < 192 then [] else b.take 192 :: splitRecords n (b.drop 192)

/-- A RECORD message (R750). -/
def recordTake (g : CvyMsg) (s : DM) : DM :=
  let x := (splitRecords 7 g.body).foldl (fun y r => (applyRec r (some g.sender) y).2) s
  cvyAck g.sender g.seq x

/-- An acknowledgement (R745); a drain that waits for none any more ends its wait (R770). -/
def ackTake (g : CvyMsg) (d : Dev) : Dev :=
  cvyMod (fun u => { u with outs := u.outs.filter (fun o => !(o.dest == g.sender && o.seq == be g.body 0 4)) }) d

/-- A SUMMARY (R751): every record of a segment whose digests differ is sent. -/
def summaryTake (g : CvyMsg) (s : DM) : DM :=
  let id := g.sender
  let x := if (tabFind s.1.cvy.syncing id).isNone then startSync id s else s
  let rs := storeScan x.1 x.2
  let first := be g.body 0 2
  let differ := fun (r : Bytes) =>
    let k := segmentOf r
    decide (first ≤ k) && decide (k < first + 256) && digestOf rs k != be g.body (4 + 4 * (k - first)) 4
  let missing := rs.filter differ
  let y := sendAllRecords true (missing.length + 1) missing id x
  let left := tabGet y.1.cvy.syncing id 0 - 1
  cvyAck id g.seq (onDev (cvyMod (fun u => { u with
    syncing := if left = 0 then tabDel u.syncing id else tabSet u.syncing id left })) y)

/-! ### Handover (R755–R758) -/

/-- The record that the engine exports: of entry `e`, its key wrapped under the XFER key of the active generation. None
where the cipher engine refuses the key. -/
def cvyExport (e : Nat) (d : Dev) (_m : Memory) : Option Bytes × Dev :=
  let d1 := releaseAllHeld e d
  let b := exportBlob (genSlot d1 (cvyGen d1) 1) e d1
  match b.1 with
  | none => (none, b.2)
  | some blob =>
    let body := recordBody b.2 e blob
    (some (body ++ toBytes 4 (recordCrc body)), b.2)

def expOf (d : Dev) (addr : Nat) : Option CvyExp := d.cvy.exps.find? (fun x => x.addr == addr)
def expPut (x : CvyExp) (d : Dev) : Dev :=
  cvyMod (fun u => { u with exps := u.exps.filter (fun y => y.addr != x.addr) ++ [x] }) d
def expDel (addr : Nat) (d : Dev) : Dev := cvyMod (fun u => { u with exps := u.exps.filter (fun y => y.addr != addr) }) d

/-- The station address of a handover message as octets with octet 0 lowest. -/
def hoAddr (g : CvyMsg) : Nat := ofBytes (g.body.take 6)
def hoBody (addr : Nat) : Bytes := toBytes 6 addr ++ [0, 0]

/-- HO_NAK with a reason. -/
def hoNak (id addr reason : Nat) (s : DM) : DM := cvyTo id 8 0 false (toBytes 6 addr ++ toBE 1 reason ++ [0]) s

/-- HO_DATA of an exported station, with the KEYGEN of its record. -/
def hoData (x : CvyExp) (s : DM) : DM :=
  match x.record with
  | some b => cvyTo x.peer 6 0 false b s
  | none => s

/-- HO_REQ at the old member (R755, R757). -/
def hoReqTake (g : CvyMsg) (s : DM) : DM :=
  let d := s.1
  let addr := hoAddr g
  match expOf d addr with
  | some x =>
    if x.peer = g.sender then hoData x s
    else hoNak g.sender addr (if x.record.isSome then 3 else 2) s
  | none =>
    match (staEntries d).find? (fun e => staLive d e && stationAddr d e == addr) with
    | none => hoNak g.sender addr 1 s
    | some e =>
      if (staState d e = stASSOC ∨ staState d e = stAUTH) ∧ !(staOf d e).stopping then
        (expPut ⟨addr, e, g.sender, cvyGen d, none⟩ (staBusy (staMod e (fun y => { y with stopping := true }) d)), s.2)
      else hoNak g.sender addr 2 s

/-- A FREEZE has ended: an entry that a handover froze is exported and its record sent. Where the cipher engine refuses
its key, the entry goes on. -/
def hoFrozen (e : Nat) (s : DM) : DM :=
  match s.1.cvy.exps.find? (fun x => x.entry == e && x.record.isNone) with
  | none => s
  | some x =>
    if staState s.1 e ≠ stFROZEN then s
    else
      let r := cvyExport e s.1 s.2
      match r.1 with
      | none => (staResume e (setStaState e (staOf r.2 e).recorded (expDel x.addr r.2)), s.2)
      | some b =>
        let y := { x with gen := cvyGen r.2, record := some b }
        hoData y (expPut y r.2, s.2)

/-- The handover command ends with RESULT `r`; a failure counts and raises HO_FAIL. -/
def hoEnd (r : Nat) (d : Dev) : Dev :=
  let d1 := cvyMod (fun u => { u with ho := none }) ((d.put CVY_HO_CMD_BUSY 0).put CVY_HO_CMD_RESULT r)
  if r = 5 then raiseBit pConvoy 6 (count CVY_HO_FAIL_COUNT 0 0 d1) else d1

/-- HO_DATA at the new member (R755): import, thaw, directory, HO_DONE. A record that R380 refuses fails the command. -/
def hoDataTake (g : CvyMsg) (s : DM) : DM :=
  let d := s.1
  let b := padTo 512 (g.body.take 512)
  match d.cvy.ho with
  | none => s
  | some h =>
    if h.peer ≠ g.sender ∨ ofBytes ((b.drop 0x10).take 6) ≠ h.addr then s
    else if wordAt b 0 % 2 ^ 8 ≠ 1 ∨ bitsOf (wordAt b 0) 31 16 ≠ 0x200 ∨ wordAt b 127 ≠ recordCrc b ∨
        !(staState d h.entry == stFREE || staState d h.entry == stPROBED) ∨
        (imageCheck d h.entry (recordImage b) true).isSome then (hoEnd 5 d, s.2)
    else match importKey h.slot (genSlot d g.keygen 1) b d with
      | none => (hoEnd 5 d, s.2)
      | some key =>
        let d1 := importEntry h.slot b key h.entry d
        let d2 := if d1.on CVY_CFG_AUTO_THAW then
          staResume h.entry (setStaState h.entry (staOf d1 h.entry).recorded d1) else d1
        let f := findRec kSTATION (stationKey h.addr) d2 s.2
        let tag := match f.1 with
          | some r => stTag r.2
          | none => 0
        let order := match f.1 with
          | some r => rOrder r.2
          | none => stationOrder d2 h.entry
        let x := writeStation h.entry tag order (f.2.2, s.2)
        let y := cvyTo h.peer 7 0 false (hoBody h.addr) x
        onDev (fun e => hoEnd 0 (cvyEvent 7 h.entry e)) y

/-- HO_DONE at the old member (R755). -/
def hoDoneTake (g : CvyMsg) (d : Dev) : Dev :=
  match expOf d (hoAddr g) with
  | some x =>
    if x.peer = g.sender ∧ x.record.isSome then
      cvyEvent 8 x.entry (expDel x.addr (if staLive d x.entry then staRemove x.entry d else d))
    else d
  | none => d

/-- HO_NAK at the new member. -/
def hoNakTake (g : CvyMsg) (d : Dev) : Dev :=
  match d.cvy.ho with
  | some h => if h.peer = g.sender ∧ h.addr = hoAddr g then hoEnd 5 d else d
  | none => d

/-- CVY_HO_CMD.REQUEST by master `m` (R755). -/
def hoStart (m : Nat) (s : DM) : DM :=
  let d := s.1
  if !isActive d pConvoy || d.on CVY_HO_CMD_BUSY then s
  else
    let addr := d.rd CVY_HO_STA_LO_ADDR + 2 ^ 32 * d.rd CVY_HO_STA_HI_ADDR
    let f := findRec kSTATION (stationKey addr) d s.2
    let no := fun (r : Nat) => (refuseWrite pConvoy 0x41 m (regAddr (pConvoy + 2) 0x064) (f.2.2.put CVY_HO_CMD_RESULT r), s.2)
    match f.1 with
    | none => no 1
    | some r =>
      if rDeleted r.2 then no 1
      else if !isNeighbour d (stServing r.2) then no 3
      else
        let h : CvyIn := ⟨addr, d.rd CVY_HO_STA_HI_ENTRY, d.rd CVY_HO_SLOT_SLOT, stServing r.2⟩
        cvyTo h.peer 5 0 false (hoBody addr)
          (cvyMod (fun u => { u with ho := some h }) ((f.2.2.put CVY_HO_CMD_BUSY 1).put CVY_HO_CMD_RESULT 0), s.2)

/-! ### Record commands (R735, R752) -/

/-- CVY_REC_ADDR. -/
def recAddr (d : Dev) : Nat := d.rd CVY_REC_ADDR_LO_ADDR + 2 ^ 32 * d.rd CVY_REC_ADDR_HI_ADDR

/-- R735: the MEMBER record of `id` with this body would break a limit. -/
def memberLimit (id : Nat) (body : Bytes) (d : Dev) (m : Memory) : Bool :=
  let l := (memberRecs d m).filter (fun e => e.1 != id) ++ [(id, body)]
  decide (15 < (l.filter (fun e => Config.memberWarden e.2)).length) ||
  decide ((l.map (fun e => maxOfCode (Config.memberMax e.2))).foldl min 1024 < l.length)

/-- A refused record command. -/
def recRefuse (m r : Nat) (d : Dev) : Dev :=
  refuseWrite pConvoy 0x40 m (regAddr (pConvoy + 2) 0x054) (d.put CVY_REC_CMD_RESULT r)

/-- What the store does not take, or a kind that R748 does not list, leaves a RESULT that is open. -/
def recOpen (d : Dev) : Dev :=
  let r := draw d
  r.2.put CVY_REC_CMD_RESULT r.1

/-- This member may write records of a kind. -/
def recAllowed (kind : Nat) (d : Dev) (m : Memory) : Bool :=
  kind == kSTATION || (selfWarden d m && d.on CVY_STATUS_AUTHORITY)

/-- CVY_REC_CMD by master `m` with CMD `c`; `host` is what the host's memory holds. -/
def recCommand (m c : Nat) (host : Option Bytes) (s : DM) : DM :=
  if !isActive s.1 pConvoy then s
  else
    let r := spaceRead m (recAddr s.1) 192 host s.1 s.2
    let b := padTo 192 (r.1.getD [])
    let d := r.2
    let kind := rKind b
    if kind = 0 ∨ 4 < kind then onDev recOpen (d, s.2)
    else if c = 2 then
      let f := findRec kind (rKey b) d s.2
      match f.1 with
      | none => (f.2.2.put CVY_REC_CMD_RESULT 1, s.2)
      | some h =>
        let w := spaceWrite m (recAddr d) h.2 f.2.2 s.2
        (w.2.1.put CVY_REC_CMD_RESULT 0, w.2.2)
    else if !recAllowed kind d s.2 then (recRefuse m 2 d, s.2)
    else if c = 1 then
      if kind = kMEMBER ∧ memberLimit (rKey b % 1024) (rBody b) d s.2 then (recRefuse m 4 d, s.2)
      else
        let w := localWrite kind false (rKey b) (rOrder b) (rBody b) (d, s.2)
        onDev (fun e => if w.1.2 then recOpen e else e.put CVY_REC_CMD_RESULT 0) w.2
    else
      let f := findRec kind (rKey b) d s.2
      match f.1 with
      | none => (f.2.2.put CVY_REC_CMD_RESULT 1, s.2)
      | some h =>
        onDev (fun e => e.put CVY_REC_CMD_RESULT 0)
          (localWrite kind true (rKey b) (rOrder h.2) (rBody h.2) (f.2.2, s.2)).2

/-- A write of CVY_REC_CMD by its word; CMD 0 starts nothing. -/
def recCmdWrite (m v : Nat) (host : Option Bytes) (s : DM) : DM := if v % 4 = 0 then s else recCommand m (v % 4) host s

/-! ### Enable and drain (R762, R770) -/

/-- Both keys of generation 0 are VALID. -/
def cvyKeysReady (d : Dev) : Bool := d.on KEY_ATTR_VALID 0 (genSlot d 0 0) && d.on KEY_ATTR_VALID 0 (genSlot d 0 1)

/-- The engine starts: generation 0 active, SEQ at 0, no member heard. -/
def cvyStart (s : DM) : DM :=
  let d := s.1
  let ids := knownMembers d
  let d1 := ids.foldl (fun x i => (x.put CVY_MBR_STATE_STATE 0 0 i).put CVY_MBR_STATE_NEIGHBOUR 0 0 i) d
  cvySettle (cvyMod (fun u => { u with
    members := [], seq := 0, outs := [], owed := [], syncing := [], gens := [(0, 0), (0, 1)], departing := false, plans := [] })
      (d1.put CVY_KEY_GEN_ACTIVE 0), s.2)

/-- A drain begins: DEPART, and the wait for its acknowledgements. -/
def cvyDrain (s : DM) : DM :=
  let s1 := onDev (cvyMod (fun u => { u with departing := true })) s
  if !cvySends s1.1 then onDev (cvyMod (fun u => { u with departing := false })) s1
  else
    let r := cvyMessage 10 1 16 0xFFFF [] s1.1
    let ns := neighbours r.2.2
    let d1 := cvyMod (fun u => { u with outs := u.outs ++ ns.map (fun n => ⟨r.2.1, n, 0, r.1⟩), departing := !ns.isEmpty }) r.2.2
    (cvyLinks d1).foldl (fun x l => cvyEmit l (cvyGroup x.1) r.1 x) (d1, s1.2)

/-- The engine is Off: it holds no message that waits, and ID_CONFLICT clears (R736). A handover it has requested ends at
its timeout (R755). -/
def cvyStop (d : Dev) : Dev :=
  cvyMod (fun u => { u with outs := [], owed := [], syncing := [], departing := false, plans := [] })
    ((d.put CVY_STATUS_STATE 0).put CVY_STATUS_ID_CONFLICT 0)

/-- A soft reset clears the member table and the duplicate state (R770). -/
def cvySoftReset (d : Dev) : Dev := cvyStop (cvyMod (fun u => { u with members := [], evts := [], ho := none }) d)

/-! ### Meanings -/

/-- R743. -/
def execHelloTimer (s : State) : Host.Outcome State Fault Refusal :=
  updMem s (fun d m => if isActive d pConvoy then cvyFlood 1 0 16 (helloBody d) (d, m) else (d, m))

def execHelloRx (s : State) : Host.Outcome State Fault Refusal := cvyReceive 1 helloTake s
def execRecordRx (s : State) : Host.Outcome State Fault Refusal := cvyReceive 2 recordTake s
def execSummaryRx (s : State) : Host.Outcome State Fault Refusal := cvyReceive 4 summaryTake s
def execHoReqRx (s : State) : Host.Outcome State Fault Refusal := cvyReceive 5 hoReqTake s
def execHoDataRx (s : State) : Host.Outcome State Fault Refusal := cvyReceive 6 hoDataTake s
def execHoDoneRx (s : State) : Host.Outcome State Fault Refusal := cvyReceive 7 (fun g => onDev (hoDoneTake g)) s
def execHoNakRx (s : State) : Host.Outcome State Fault Refusal := cvyReceive 8 (fun g => onDev (hoNakTake g)) s
def execDepartRx (s : State) : Host.Outcome State Fault Refusal := cvyReceive 10 departTake s

/-- R745; the acknowledgement of a DEPART is taken in the drain as well (R770). -/
def execAckRx (s : State) : Host.Outcome State Fault Refusal :=
  updMem s (fun d m =>
    if (isActive d pConvoy || d.cvy.departing) && isActive d pCiph then
      onDev (fun e => if e.cvy.departing && e.cvy.outs.all (fun o => be o.frame 1 1 != 10) then
          cvyMod (fun u => { u with departing := false }) e else e)
        (cvySettle (cvyTake 3 (fun g => onDev (ackTake g)) ((handedTo d 11).length + 1) (d, m)))
    else (d, m))

/-- R746. -/
def execMemberAgeSuspect (id : Nat) (s : State) : Host.Outcome State Fault Refusal :=
  updMem s (fun d m =>
    if isActive d pConvoy ∧ memberState d id = 1 ∧ d.rd CVY_TIMERS_SUSPECT_N * hbMs d < memberAge d id then
      cvySettle (cvyEvent 2 id (d.put CVY_MBR_STATE_STATE 2 0 id), m)
    else (d, m))

/-- R746. -/
def execMemberAgeSeparated (id : Nat) (s : State) : Host.Outcome State Fault Refusal :=
  updMem s (fun d m =>
    if isActive d pConvoy ∧ (memberState d id = 1 ∨ memberState d id = 2) ∧ d.rd CVY_TIMERS_SEP_N * hbMs d < memberAge d id then
      cvySettle (memberGone id 3 d, m)
    else (d, m))

/-- R745. -/
def execCvyRetxTimer (dest seq : Nat) (s : State) : Host.Outcome State Fault Refusal :=
  updMem s (fun d m =>
    match d.cvy.outs.find? (fun o => o.dest == dest && o.seq == seq) with
    | none => (d, m)
    | some o =>
      let mine := fun (p : CvyOut) => p.dest == dest && p.seq == seq
      if o.tries < d.rd CVY_RETX_RETX_MAX then
        let d1 := count CVY_RETX_COUNT 0 0 (cvyMod (fun u => { u with
          outs := u.outs.map (fun p => if mine p then { p with tries := p.tries + 1 } else p) }) d)
        if cvySends d1 then cvyEmit (viaOf d1 dest) (memberOf d1 dest).mac o.frame (d1, m) else (d1, m)
      else
        (cvyMod (fun u => { u with outs := u.outs.filter (fun p => !mine p), owed := addOnce u.owed dest }) d, m))

/-- R750: a tombstone is removed: its slot is empty. -/
def execTombExpire (kind rkey : Nat) (s : State) : Host.Outcome State Fault Refusal :=
  updMem s (fun d m =>
    if !isActive d pConvoy then (d, m)
    else
      let f := findRec kind rkey d m
      match f.1 with
      | some h =>
        if rDeleted h.2 then (unitWrite cvyMaster h.1 (List.replicate 256 0) f.2.2 m).2 else (f.2.2, m)
      | none => (f.2.2, m))

/-- R760. -/
def execKeyActivation (gen : Nat) (s : State) : Host.Outcome State Fault Refusal :=
  upd s (fun d =>
    if !isActive d pConvoy || decide (gen ≤ cvyGen d) || !(liveRecs kKEY d s.mem).any (fun r => keyGenOf r == gen && keyDue d r) then d
    else if !genReady d gen then cvyEvent 10 (cvySelf d) d
    else if d.on CVY_STATUS_AUTHORITY then activateGen gen d
    else d.put CVY_STATUS_KEY_HELD 1)

/-- A record command. -/
def recExec (m c : Nat) (host : Option (List Byte)) (s : State) : Host.Outcome State Fault Refusal :=
  updMem s (cmdWriteMem (pConvoy + 2) 0x054 m (fun d mem => recCommand m c host (d, mem)))

def execRecWrite (m : Nat) (host : Option (List Byte)) (s : State) : Host.Outcome State Fault Refusal := recExec m 1 host s
def execRecRead (m : Nat) (host : Option (List Byte)) (s : State) : Host.Outcome State Fault Refusal := recExec m 2 host s
def execRecDelete (m : Nat) (host : Option (List Byte)) (s : State) : Host.Outcome State Fault Refusal := recExec m 3 host s

def execHoRequest (m : Nat) (s : State) : Host.Outcome State Fault Refusal :=
  updMem s (cmdWriteMem (pConvoy + 2) 0x064 m (fun d mem => hoStart m (d, mem)))

/-- R755: HO_REQ goes again. -/
def execHoRetxTimer (s : State) : Host.Outcome State Fault Refusal :=
  updMem s (fun d m => match d.cvy.ho with
    | some h => cvyTo h.peer 5 0 false (hoBody h.addr) (d, m)
    | none => (d, m))

def execHoTimeout (s : State) : Host.Outcome State Fault Refusal :=
  upd s (fun d => if d.cvy.ho.isSome then hoEnd 5 d else d)

/-- R758: the old member takes the station back. -/
def execHoHoldExpire (addr : Nat) (s : State) : Host.Outcome State Fault Refusal :=
  updMem s (fun d m => match expOf d addr with
    | none => (d, m)
    | some x =>
      if x.record.isNone || staState d x.entry != stFROZEN then (d, m)
      else
        let d1 := staResume x.entry (setStaState x.entry (staOf d x.entry).recorded (expDel addr d))
        let f := findRec kSTATION (stationKey addr) d1 m
        let tag := match f.1 with
          | some r => stTag r.2
          | none => 0
        writeStation x.entry tag (stationOrder d1 x.entry) (f.2.2, m))

/-- R770: the drain waits no longer. -/
def execDepartWaitEnd (s : State) : Host.Outcome State Fault Refusal :=
  upd s (fun d => if d.cvy.departing then
    cvyMod (fun u => { u with departing := false, outs := u.outs.filter (fun o => be o.frame 1 1 != 10) }) d else d)

/-- R772: a read of CVY_EVT pops the oldest event. -/
def cvyEvtPop (d : Dev) : Dev :=
  match d.cvy.evts with
  | [] => answer 0 d
  | x :: rest => answer (2 ^ 31 + x.1 * 2 ^ 24 + x.2) (cvyMod (fun u => { u with evts := rest }) d)

def execCvyEvtPop (m : Nat) (s : State) : Host.Outcome State Fault Refusal := upd s (cmdRead pConvoy 0x078 m cvyEvtPop)

/-! ### Station commands, which the directory follows (R753) -/

/-- A write of STA_CMD. -/
def staTop (m v : Nat) (d : Dev) (mem : Memory) : DM := dirFollow d (staCmdAll m v d mem)

def execStaAssoc (m : Nat) (s : State) : Host.Outcome State Fault Refusal :=
  updMem s (cmdWriteMem (pSta + 1) 0x044 m (staTop m 2))

def execStaRemove (m : Nat) (s : State) : Host.Outcome State Fault Refusal :=
  updMem s (cmdWriteMem (pSta + 1) 0x044 m (staTop m 7))

/-- R371: the freeze takes effect; an entry frozen for a handover is exported. -/
def execStaFreezeDone (e : Nat) (s : State) : Host.Outcome State Fault Refusal :=
  updMem s (fun d m => hoFrozen e (staFreezeDone e d, m))

/-- R366. -/
def execStaAgeCheck (s : State) : Host.Outcome State Fault Refusal :=
  updMem s (fun d m => if isActive d pSta then dirFollow d ((staEntries d).foldl staAgeOne d, m) else (d, m))

end Sys2Proof.Machine
end

