-- ==== Sys2Proof/Machine/Radio.lean ====
section
/-! DEFINITION. The radios: channels, calibration, transmit path and receive path (spec/06_radio_phy.md). What needs the
multi-link unit or the air scheduler stands in Wifi.lean. -/

namespace Sys2Proof.Machine

open Sys2Proof

/-- First page of radio `n`. -/
def pRadio (n : Nat) : Nat := 0x30 + 5 * n

def radioOf (d : Dev) (n : Nat) : Radio := tabGet d.radios n {}
def radioMod (n : Nat) (f : Radio → Radio) (d : Dev) : Dev := { d with radios := tabMod d.radios n {} f }

/-- Radio `n` works with 802.11be (R212). -/
def radioEht (d : Dev) (n : Nat) : Bool := govern d (pRadio n) 1 0

/-- Radio A in the reduced form of R105 (R215). -/
def radioReduced (d : Dev) (n : Nat) : Bool := n == 0 && d.rst.reducedA && !isOff d (pRadio 0)

/-- The chains that radio `n` has (R211). -/
def chainsPresent (d : Dev) (n : Nat) : Nat :=
  if n = 0 then 4 else if n = 1 then (if d.variant = .nv9700 then 8 else 4) else 8

/-- The active chains of radio `n` (R213–R215). -/
def activeChains (d : Dev) (n : Nat) : List Nat :=
  if radioReduced d n then [0]
  else (List.range (chainsPresent d n)).filter (fun c => (d.rd RADIO_CFG_CHAIN_MASK n).testBit c)

/-- DL MU-MIMO users of radio `n` (R211, R214). -/
def muUsers (d : Dev) (n : Nat) : Nat :=
  min (activeChains d n).length (if n = 0 then 4 else if n = 1 ∧ d.variant ≠ .nv9700 then 4 else 8)

/-! ### Channels (R211, R216, R217) -/

/-- The staged channel of radio `n`. -/
def stagedChan (d : Dev) (n : Nat) : Chan :=
  ⟨d.rd RADIO_CHAN_CFG_CENTRE n, d.rd RADIO_CHAN_CFG_PRIMARY n, d.rd RADIO_CHAN_CFG_WIDTH n, d.rd RADIO_CHAN_PUNCT_PUNCT n⟩

/-- Whether `c` is a centre of the 802.11 channel grid of radio `n` for width code `w`, within the band. PRESUMED
(IEEE 802.11, Annex E): log entry 60. -/
def gridCentre (n w c : Nat) : Bool :=
  match n, w with
  | 0, 0 => decide (1 ≤ c) && decide (c ≤ 13)
  | 0, 1 => decide (3 ≤ c) && decide (c ≤ 11)
  | 1, 0 => (decide (36 ≤ c) && decide (c ≤ 64) && c % 4 == 0) || (decide (100 ≤ c) && decide (c ≤ 144) && c % 4 == 0) ||
    (decide (149 ≤ c) && decide (c ≤ 177) && c % 4 == 1)
  | 1, 1 => has [38, 46, 54, 62, 102, 110, 118, 126, 134, 142, 151, 159, 167, 175] c
  | 1, 2 => has [42, 58, 106, 122, 138, 155, 171] c
  | 1, 3 => has [50, 114, 163] c
  | 2, 0 => c == 2 || (c % 4 == 1 && decide (c ≤ 233))
  | 2, 1 => c % 8 == 3 && decide (c ≤ 227)
  | 2, 2 => c % 16 == 7 && decide (c ≤ 215)
  | 2, 3 => c % 32 == 15 && decide (c ≤ 207)
  | 2, 4 => c % 32 == 31 && decide (c ≤ 191)
  | _, _ => false

/-- 20 MHz subchannels of width code `w`. -/
def subCount (w : Nat) : Nat := 2 ^ w

/-- The number of the lowest 20 MHz subchannel of a channel. -/
def lowSub (c : Chan) : Int := (c.centre : Int) - 2 * (subCount c.width - 1 : Nat)

/-- The subchannel of the primary. -/
def primarySub (c : Chan) : Option Nat :=
  (List.range (subCount c.width)).find? (fun i => lowSub c + 4 * (i : Int) == (c.primary : Int))

/-- The puncture patterns that 802.11be allows for width code `w`. PRESUMED (IEEE 802.11be): log entry 60. -/
def punctPatterns (w : Nat) : List Nat :=
  match w with
  | 2 => [0, 1, 2, 4, 8]
  | 3 => 0 :: ((List.range 8).map (fun i => 2 ^ i) ++ (List.range 4).map (fun i => 3 * 4 ^ i))
  | 4 => 0 :: ((List.range 8).map (fun i => 3 * 4 ^ i) ++ (List.range 4).map (fun i => 15 * 16 ^ i) ++
      (List.range 6).map (fun i => 0x000F + 3 * 4 ^ (i + 2)) ++ (List.range 6).map (fun i => 0xF000 + 3 * 4 ^ i))
  | _ => [0]

/-- R217: the channel `c` is one that radio `n` may use. -/
def chanValid (d : Dev) (n : Nat) (c : Chan) : Bool :=
  gridCentre n c.width c.centre && (decide (c.width < 4) || radioEht d n) &&
  match primarySub c with
  | none => false
  | some p => !radioEht d n || (has (punctPatterns c.width) c.punct && !c.punct.testBit p)

/-- The channel that radio `n` uses, if any: while Off what the registers hold (R216), in the reduced form 20 MHz centred
on the primary (R215); without 802.11be nothing is punctured (R212). -/
def chanOf (d : Dev) (n : Nat) : Option Chan :=
  let s := if isOff d (pRadio n) then some (stagedChan d n) else (radioOf d n).use
  match s with
  | none => none
  | some c =>
    if radioReduced d n then some ⟨c.primary, c.primary, 0, 0⟩
    else some (if radioEht d n then c else { c with punct := 0 })

/-- Centre frequency in MHz. -/
def chanMHz (n : Nat) (c : Chan) : Nat :=
  match n with
  | 0 => if c.centre = 14 then 2484 else 2407 + 5 * c.centre
  | 1 => 5000 + 5 * c.centre
  | _ => if c.centre = 2 then 5935 else 5950 + 5 * c.centre

/-- The calibration segment of a centre frequency. -/
def segOf (n f : Nat) : Nat :=
  match n with
  | 0 => 0
  | 1 => if f < 5350 then 0 else if f < 5650 then 1 else 2
  | _ => if f < 6425 then 0 else if f < 6875 then 1 else 2

def chanSeg (n : Nat) (c : Chan) : Nat := segOf n (chanMHz n c)

/-- The radio sends and receives: Active, locked, on a channel, and not retuning (R219, R259). -/
def radioUp (d : Dev) (n : Nat) : Bool :=
  decide (n < 3) && isActive d (pRadio n) && d.on RADIO_CHAN_STATUS_LOCKED n && (radioOf d n).retune.isNone &&
  (chanOf d n).isSome

/-- An access to a register of radio `n` by master `m` is refused. -/
def radioRefuse (n off code m : Nat) (d : Dev) : Dev := refuseWrite (pRadio n) code m (regAddr (pRadio n) off) d

/-- R217: the check of an enable; an invalid channel leaves the radio without one. -/
def radioChannelAtStart (n : Nat) (d : Dev) : Dev :=
  let c := stagedChan d n
  if chanValid d n c then
    (radioMod n (fun r => { r with use := some c, apply := none, retune := none }) d).put RADIO_CHAN_STATUS_SEG (chanSeg n c) n
  else
    fault0 (pRadio n) 0x43 0 0 ((radioMod n (fun r => { r with use := none, apply := none, retune := none }) d).put
      RADIO_CHAN_STATUS_RESULT 1 n)

/-! ### Calibration (R224–R229) -/

/-- The chain that opens the round after `c`, by the chains calibrated at once (R224). -/
def nextRound (n c : Nat) : List Nat → Option Nat
  | [] => none
  | x :: l => if x = c then (if n = 0 then l.head? else l.tail.head?) else nextRound n c l

/-- The chains of the round that opens with chain `c`. -/
def roundChains (n c : Nat) (l : List Nat) : List Nat := (l.dropWhile (· != c)).take (if n = 0 then 1 else 2)

/-- The chains that a calibration covers. -/
def calChains (d : Dev) (n : Nat) : CalKind → List Nat
  | .quick => [0]
  | _ => (List.range (chainsPresent d n)).filter (fun c => (d.rd RADIO_CFG_CHAIN_MASK n).testBit c)

/-- A calibration starts: a segment's omits step 1. -/
def calStart (n : Nat) (k : CalKind) (d : Dev) : Dev :=
  (((radioMod n (fun r => { r with cal := some k }) d).put RADIO_CAL_STATUS_RUNNING 1 n).put RADIO_CAL_STATUS_STEP
    (match k with
      | .segment _ => 2
      | _ => 1) n).put RADIO_CAL_STATUS_CHAIN ((calChains d n k).headD 0) n

/-- The status while no calibration runs. -/
def calIdle (n : Nat) (d : Dev) : Dev :=
  (((radioMod n (fun r => { r with cal := none }) d).put RADIO_CAL_STATUS_RUNNING 0 n).put RADIO_CAL_STATUS_STEP 0 n).put
    RADIO_CAL_STATUS_CHAIN 0 n

/-- The segment that calibration `k` of radio `n` covers. -/
def calSegment (d : Dev) (n : Nat) : CalKind → Nat
  | .segment s => s
  | _ => chanSeg n (stagedChan d n)

/-- A calibration of radio `n` ends at the junction temperature `t`. -/
def calEnd (n : Nat) (k : CalKind) (t : Int) (d : Dev) : Dev :=
  let s := calSegment d n k
  let d1 := radioMod n (fun r => { r with calTemp := tabSet r.calTemp s t }) (calIdle n d)
  let d2 := if k = .quick then d1 else d1.put RADIO_CAL_STATUS_SEG_DONE (setBit (d1.rd RADIO_CAL_STATUS_SEG_DONE n) s) n
  raiseBit (pRadio n) 3 d2

/-- The latencies that step 9 measures: chain, transmit, receive (R252, R253). -/
def putLatency (n : Nat) (cs : List Nat) (d : Dev) (l : Nat × Nat × Nat) : Dev :=
  if has cs l.1 then (d.put RADIO_STAMP_TX_LAT_LAT l.2.1 n l.1).put RADIO_STAMP_RX_LAT_LAT l.2.2 n l.1 else d

/-- R224: the step in progress ends. -/
def calStepDone (n : Nat) (t : Int) (lat : List (Nat × Nat × Nat)) (d : Dev) : Dev :=
  match (radioOf d n).cal with
  | none => d
  | some k =>
    let st := d.rd RADIO_CAL_STATUS_STEP n
    let ch := d.rd RADIO_CAL_STATUS_CHAIN n
    let cs := calChains d n k
    let d1 := if st = 2 then d.put RADIO_CHAN_STATUS_LOCKED 1 n else d
    let d2 := if st = 9 then lat.foldl (putLatency n (roundChains n ch cs)) d1 else d1
    let last := if k = .quick then 8 else 9
    if st = 2 && cs.isEmpty then calEnd n k t d2
    else if st < last then d2.put RADIO_CAL_STATUS_STEP (st + 1) n
    else match nextRound n ch cs with
      | some c => (d2.put RADIO_CAL_STATUS_STEP 3 n).put RADIO_CAL_STATUS_CHAIN c n
      | none => calEnd n k t d2

/-- R225: a step overruns: the calibration fails with code 0x40. A failed segment ends its retune. -/
def calFail (n : Nat) (k : CalKind) (d : Dev) : Dev :=
  let idx := 256 * d.rd RADIO_CAL_STATUS_STEP n + d.rd RADIO_CAL_STATUS_CHAIN n
  let d1 := fault0 (pRadio n) 0x40 1 idx (calIdle n d)
  match k with
  | .segment _ => ((radioMod n (fun r => { r with retune := none }) d1).put RADIO_CHAN_STATUS_RESULT 2 n).put
      RADIO_CHAN_STATUS_BUSY 0 n
  | _ => d1

/-- R229: the pieces of steps 5–7 of every chain. -/
def recalPieces (d : Dev) (n : Nat) : List (Nat × Nat) := (activeChains d n).flatMap (fun c => [(c, 5), (c, 6), (c, 7)])

/-- R229: a piece at the junction temperature `t`; `cut` where it is abandoned, to be repeated later. -/
def recalPiece (n : Nat) (t : Int) (cut : Bool) (d : Dev) : Dev :=
  let s := d.rd RADIO_CHAN_STATUS_SEG n
  let r := radioOf d n
  let moved := match tabFind r.calTemp s with
    | some t0 => decide ((d.rd RADIO_CAL_CFG_TEMP_DELTA n : Int) < (t - t0).natAbs)
    | none => false
  let todo := if r.recal.isEmpty && moved then recalPieces d n else r.recal
  if !radioUp d n || !d.on RADIO_CAL_CFG_TRACK_EN n || todo.isEmpty then d
  else if cut then radioMod n (fun r => { r with recal := todo }) d
  else radioMod n (fun r => { r with recal := todo.tail, calTemp := if todo.tail.isEmpty then tabSet r.calTemp s t else r.calTemp }) d

/-! ### Shadow detector (R236–R240) -/

/-- NOISE_FLOOR in 0.25 dBm. -/
def noiseFloor (d : Dev) (n : Nat) : Int := signed 16 (d.rd RADIO_NOISE_FLOOR_NF n)

/-- The reference power for a reception whose signal estimate is `est`, in 0.25 dBm (R236). -/
def refPower (d : Dev) (n : Nat) (est : Int) : Int :=
  if est < noiseFloor d n then noiseFloor d n - 4 * d.rd RADIO_CAPTURE_CFG_CAPTURE_MARGIN n else est

/-- R237, R238: a preamble of power `p` captures the receiver. -/
def captures (d : Dev) (n : Nat) (est p : Int) (inData : Bool) : Bool :=
  decide (refPower d n est + 4 * d.rd RADIO_CAPTURE_CFG_CAPTURE_MARGIN n ≤ p) &&
  (!inData || d.on RADIO_CAPTURE_CFG_CAPTURE_IN_DATA n)

/-- R239, R240: the shadow detector finds a preamble of power `p`; `passed` where the reception had passed its L-SIG or PLCP
header check. -/
def shadowFound (n : Nat) (est p : Int) (inData passed : Bool) (d : Dev) : Dev :=
  if !radioUp d n then d
  else if !captures d n est p inData then count RADIO_CAPTURE_IGNORED_COUNT n 0 d
  else if passed then count RADIO_CAPTURE_ABORT_COUNT n 0 d
  else count RADIO_SHADOW_TAKEOVER_COUNT n 0 d

/-! ### Frequency (R241–R245) -/

/-- R241: the offset table of radio `n` after a measurement of station `e`. -/
def offsetUpdate (n e : Nat) (meas : Int) (d : Dev) : Dev :=
  if !d.on RADIO_STA_OFS_DATA_VALID n e then
    ((d.put RADIO_STA_OFS_DATA_OFFSET (twos 16 meas) n e).put RADIO_STA_OFS_DATA_VALID 1 n e).put RADIO_STA_OFS_DATA_COUNT 1 n e
  else
    let o := signed 16 (d.rd RADIO_STA_OFS_DATA_OFFSET n e)
    (d.put RADIO_STA_OFS_DATA_OFFSET (twos 16 (o + (meas - o) / (2 ^ d.rd RADIO_FREQ_CFG_AVG_SHIFT n : Nat))) n e).put
      RADIO_STA_OFS_DATA_COUNT (min 255 (d.rd RADIO_STA_OFS_DATA_COUNT n e + 1)) n e

/-- The limit of the trim: 25 ppm in units of 0.002 ppm (R244). -/
def trimLimit : Int := 12500

/-- R244: one millisecond of the trim of radio `n`. -/
def trimUpdate (n : Nat) (d : Dev) : Dev :=
  if !d.on RADIO_FREQ_CFG_REF_TRACK n then d
  else if servoState d = stHoldover then d.put RADIO_FREQ_REF_HOLD 1 n
  else
    let r := divOpen (freqNow d) 512 (d.clr RADIO_FREQ_REF_HOLD n)
    let want := clampTo trimLimit r.1
    let now := signed 16 (d.rd RADIO_FREQ_REF_TRIM n)
    let slew : Int := d.rd RADIO_FREQ_CFG_REF_SLEW n
    let next := now + clampTo slew (want - now)
    let hit := next = trimLimit ∨ next = -trimLimit
    let d1 := (r.2.put RADIO_FREQ_REF_TRIM (twos 16 next) n).put RADIO_FREQ_REF_CLAMP (b2n (decide hit)) n
    if hit then raiseBit (pRadio n) 8 d1 else lowerBit (pRadio n) 8 d1

/-! ### Transmit path (R246–R248) -/

/-- The taps of the bank that FIR_COEF addresses, those that are not zero, by number. -/
def stagedTaps (d : Dev) (n : Nat) : Tab Nat :=
  ((List.range 32).flatMap (fun k => [(2 * k, d.rd RADIO_FIR_COEF_TAP_EVEN n k), (2 * k + 1, d.rd RADIO_FIR_COEF_TAP_ODD n k)])).filter
    (fun x => x.2 != 0)

/-- R246: the banks change places at a PPDU boundary. -/
def firSwitch (n : Nat) (d : Dev) : Dev :=
  if !d.on RADIO_FIR_CTRL_PENDING n then d
  else
    let old := (radioOf d n).firBank
    let d1 := radioMod n (fun r => { r with firBank := stagedTaps d n }) d
    let d2 := (List.range 32).foldl (fun x k =>
      (x.put RADIO_FIR_COEF_TAP_EVEN (tabGet old (2 * k) 0) n k).put RADIO_FIR_COEF_TAP_ODD (tabGet old (2 * k + 1) 0) n k) d1
    raiseBit (pRadio n) 6 ((d2.put RADIO_FIR_CTRL_PENDING 0 n).put RADIO_FIR_CTRL_ACTIVE_BANK
      (1 - d.rd RADIO_FIR_CTRL_ACTIVE_BANK n) n)

/-- The breakpoints in use: offset and back-off (R248). -/
def maskPoints (d : Dev) (n : Nat) : List (Nat × Nat) :=
  (List.range (min 32 (d.rd RADIO_MASK_CTRL_COUNT n))).map (fun i => (d.rd RADIO_MASK_PT_OFFSET n i, d.rd RADIO_MASK_PT_BACKOFF n i))

/-- Offsets rise strictly. -/
def ascending : List Int → Bool
  | a :: b :: l => decide (a < b) && ascending (b :: l)
  | _ => true

/-- R248: a write of MASK_CTRL.APPLY by master `m`. -/
def maskApply (m n : Nat) (d : Dev) : Dev :=
  let l := maskPoints d n
  if ascending (l.map (fun x => signed 12 x.1)) then
    radioMod n (fun r => { r with maskNext := some l })
      ((d.put RADIO_MASK_CTRL_REJECTED 0 n).put RADIO_MASK_CTRL_PENDING 1 n)
  else refuseWrite (pRadio n) 0x42 m (regAddr (pRadio n + 3) 0x040) (d.put RADIO_MASK_CTRL_REJECTED 1 n)

/-- R248: a mask that waits takes effect at a PPDU boundary. -/
def maskEffect (n : Nat) (d : Dev) : Dev :=
  match (radioOf d n).maskNext with
  | none => d
  | some l =>
    raiseBit (pRadio n) 6 ((radioMod n (fun r => { r with mask := l, maskNext := none }) d).put RADIO_MASK_CTRL_PENDING 0 n)

/-! ### Stamps (R252, R253) -/

/-- The transmit stamp of a PPDU of radio `n` that starts now, in 2^−16 ns. -/
def stampTx (n : Nat) (d : Dev) : Nat :=
  let c := (activeChains d n).headD 0
  fullAdd (fullNow d) (4096 * (d.rd RADIO_STAMP_TX_LAT_LAT n c + d.rd RADIO_FEM_TX_DELAY_DELAY n c : Nat))

/-- The receive stamp: the earliest among the chains whose SNR is at least 6 dB; open where there is none. -/
def stampRx (n : Nat) (cs : List RxChain) (d : Dev) : Nat × Dev :=
  let one := fun (c : RxChain) => 4096 * ((c.lag : Int) - d.rd RADIO_STAMP_RX_LAT_LAT n c.chain - d.rd RADIO_FEM_RX_DELAY_DELAY n c.chain)
  match cs.filter (fun c => decide (6 ≤ c.snr) && has (activeChains d n) c.chain) with
  | [] => draw d
  | c :: l => (fullAdd (fullNow d) (l.foldl (fun b x => min b (one x)) (one c)), d)

/-- The PTP port of radio `n` takes a stamp while the 802.11 transport is accepted (R529, R532). -/
def ptpRadio (n dir t : Nat) (p : Option (Nat × Nat)) (d : Dev) : Dev :=
  match p with
  | some e => if portUsable d (6 + n) then ptpPush (6 + n) ⟨dir, e.1, e.2, t⟩ d else d
  | none => d

/-! ### Radar (R257) -/

/-- A pulse of power `p` dBm on Radio B. -/
def radarPulse (w : Nat) (p : Int) (d : Dev) : Dev :=
  if !radioUp d 1 || !d.on RADIO_RADAR_CFG_EN 1 || decide (p ≤ signed 8 (d.rd RADIO_RADAR_CFG_THRESH 1)) then d
  else if 64 ≤ (radioOf d 1).radar.length then count RADIO_RADAR_OVF_COUNT 1 0 d
  else
    raiseBit (pRadio 1) 7 (radioMod 1 (fun r => { r with
      radar := r.radar ++ [⟨w % 4096, twos 8 p, nowTotal d % 2 ^ 32⟩] }) d)

/-- A read of RADAR_FIFO by a master: the oldest pulse leaves, and RADAR_TIME holds its stamp. -/
def radarPop (d : Dev) : Dev :=
  match (radioOf d 1).radar with
  | [] => answer 0 d
  | x :: l => answer (2 ^ 31 + 2 ^ 16 * x.width + 2 ^ 8 * x.power)
      ((radioMod 1 (fun r => { r with radar := l }) d).put RADIO_RADAR_TIME_NS32 x.ns32 1)

/-! ### Meanings -/

/-- A write of a command register of radio `n`. -/
def radioWrite (m n sub off : Nat) (f : Dev → Dev) (s : State) : Host.Outcome State Fault Refusal :=
  upd s (fun d => if n < 3 then cmdWrite (pRadio n + sub) off m f d else d)

def execCalStepDone (n : Nat) (temp : Int) (lat : List (Nat × Nat × Nat)) (s : State) : Host.Outcome State Fault Refusal :=
  upd s (fun d => if n < 3 then calStepDone n temp lat d else d)

/-- R228: the results of a piece show in no register. -/
def execCalTrackPiece (_n _chain : Nat) (s : State) : Host.Outcome State Fault Refusal := upd s id

def execShadowCapture (n : Nat) (est power : Int) (inData passed : Bool) (s : State) : Host.Outcome State Fault Refusal :=
  upd s (shadowFound n est power inData passed)

def execRxPowerDrop (n : Nat) (s : State) : Host.Outcome State Fault Refusal :=
  upd s (fun d => if radioUp d n then count RADIO_RX_LOST_COUNT n 0 d else d)

def execNoiseFloorUpdate (n : Nat) (nf : Int) (s : State) : Host.Outcome State Fault Refusal :=
  upd s (fun d => if radioUp d n then d.put RADIO_NOISE_FLOOR_NF (twos 16 nf) n else d)

def execRefTrimUpdate (n : Nat) (s : State) : Host.Outcome State Fault Refusal :=
  upd s (fun d => if radioUp d n then trimUpdate n d else d)

def execFirApply (m n : Nat) (s : State) : Host.Outcome State Fault Refusal :=
  radioWrite m n 2 0x040 (fun d => d.put RADIO_FIR_CTRL_PENDING 1 n) s

def execFirBankSwitch (n : Nat) (s : State) : Host.Outcome State Fault Refusal :=
  upd s (fun d => if n < 3 then firSwitch n d else d)

def execMaskApply (m n : Nat) (s : State) : Host.Outcome State Fault Refusal := radioWrite m n 3 0x040 (maskApply m n) s

def execMaskTakeEffect (n : Nat) (s : State) : Host.Outcome State Fault Refusal :=
  upd s (fun d => if n < 3 then maskEffect n d else d)

def execRadarPulse (width : Nat) (power : Int) (s : State) : Host.Outcome State Fault Refusal := upd s (radarPulse width power)

def execRadarFifoPop (m : Nat) (s : State) : Host.Outcome State Fault Refusal :=
  upd s (cmdRead (pRadio 1 + 4) 0x064 m radarPop)

/-- R259: the PPDU in progress ends; the radio idles until it relocks. -/
def execSynthLockLost (n : Nat) (s : State) : Host.Outcome State Fault Refusal :=
  upd s (fun d => if n < 3 ∧ d.on RADIO_CHAN_STATUS_LOCKED n then
    raiseBit (pRadio n) 5 (fault0 (pRadio n) 0x41 1 0 (d.clr RADIO_CHAN_STATUS_LOCKED n)) else d)

def execSynthRelock (n : Nat) (s : State) : Host.Outcome State Fault Refusal :=
  upd s (fun d => if n < 3 ∧ isActive d (pRadio n) then d.put RADIO_CHAN_STATUS_LOCKED 1 n else d)

end Sys2Proof.Machine
end

