-- ==== Sys2Proof/Machine/Mld.lean ====
section
/-! DEFINITION. Links, link pairs and the STR canceller (spec/07_multilink.md). -/

namespace Sys2Proof.Machine

open Sys2Proof

/-- First page of STRC. -/
def pStrc : Nat := 0x40

def mldMod (f : MldUnit → MldUnit) (d : Dev) : Dev := { d with mld := f d.mld }
def strcMod (f : StrcUnit → StrcUnit) (d : Dev) : Dev := { d with strc := f d.strc }

/-- MLD is accepted for the MLD block and Active (R260, R261). -/
def mldActs (d : Dev) : Bool := isActive d pMld && feat d pMld 1 1

/-- STRC is accepted, and its block exists (R39, R260). -/
def strcAccepted (d : Dev) : Bool := present d pStrc && govern d pStrc 1 2

/-! ### Link pairs (R269–R272) -/

/-- R271: the separation in MHz; 0 while a radio has no channel. -/
def separation (d : Dev) : Nat :=
  match chanOf d 1, chanOf d 2 with
  | some b, some c => let x := chanMHz 1 b; let y := chanMHz 2 c; if x ≤ y then y - x else x - y
  | _, _ => 0

def strcState (d : Dev) : Nat := d.rd STRC_STATUS_STATE
def scOFF : Nat := 0
def scUNTRAINED : Nat := 1
def scTRAINING : Nat := 2
def scTRACKING : Nat := 3
def scFAILED : Nat := 4

/-- Rows 1 to 8 of R270: the mode and the reason, none where no row matches. -/
def pairRow (d : Dev) : Option (Nat × Nat) :=
  if !linkUp d 1 || !linkUp d 2 then some (0, 9)
  else if d.on MLD_CFG_FORCE_NSTR then some (2, 1)
  else if !strcAccepted d then some (2, 2)
  else if !isActive d pStrc || strcState d == scOFF then some (2, 3)
  else if strcState d == scUNTRAINED || strcState d == scTRAINING then some (2, 4)
  else if strcState d == scFAILED then some (2, 5)
  else if separation d < 240 then some (2, 6)
  else if d.on STRC_STATUS_OVER_B || d.on STRC_STATUS_OVER_C then some (2, 7)
  else none

/-- The mode of the pair B–C: 0 not applicable, 1 STR, 2 NSTR. -/
def pairBC (d : Dev) : Nat := d.rd MLD_PAIR_STATUS_BC
def pairNstr (d : Dev) : Bool := pairBC d == 2

/-- The mode of the pair B–C becomes `mode`; each change is to be advertised on every link (R273). -/
def setBC (mode reason : Nat) (d : Dev) : Dev :=
  let d1 := (d.put MLD_PAIR_STATUS_BC mode).put MLD_PAIR_STATUS_BC_REASON reason
  if pairBC d = mode then d1
  else raiseBit pMld 3 (mldMod (fun u => { u with
    changes := [0, 1, 2].map (fun l => (l, tabGet u.changes l 0 + 1)) }) d1)

/-- The pair of link 0 with link `l`: always STR where applicable (R269). -/
def settleA (F : Fld) (l : Nat) (d : Dev) : Dev :=
  let v := b2n (linkUp d 0 && linkUp d l)
  if d.rd F = v then d else raiseBit pMld 3 (d.put F v)

/-- The pairs follow the state of the links and of the canceller; row 9's hold begins when no earlier row matches. -/
def pairSettle (d : Dev) : Dev :=
  let d0 := settleA MLD_PAIR_STATUS_AC 2 (settleA MLD_PAIR_STATUS_AB 1 d)
  match pairRow d0 with
  | some r => setBC r.1 r.2 (mldMod (fun u => { u with hold := none }) d0)
  | none =>
    if pairBC d0 = 1 then d0
    else match d0.mld.hold with
      | some _ => d0
      | none => setBC 2 8 (mldMod (fun u => { u with hold := some d0.tb.elapsed }) d0)

/-- R272: row 9's hold of MLD_STR_HOLD ms ends. -/
def strHoldEnd (d : Dev) : Dev :=
  match d.mld.hold with
  | some t =>
    if pairRow d = none ∧ t + 500000 * d.rd MLD_STR_HOLD_HOLD ≤ d.tb.elapsed then
      setBC 1 0 (mldMod (fun u => { u with hold := none }) d)
    else d
  | none => d

/-! ### Link states (R265–R267) -/

/-- The state of link `l` changes. -/
def setLink (l st : Nat) (d : Dev) : Dev :=
  pairSettle (raiseBit pMld 4 (d.put MLD_LINK_STATUS_STATE st 0 l))

/-- R267: link `l` goes to OFF: it leaves the stations, and the stations that had only it leave the table. -/
def linkOff (l : Nat) (s : DM) : DM :=
  let d := (setLink l 0 s.1).put MLD_LINK_STATUS_TBTT_LEFT 0 0 l
  dirFollow s.1 (staLinkGone l d, s.2)

/-- R265: the radio of link `l` leaves the Active state. -/
def mldRadioLeft (l : Nat) (s : DM) : DM :=
  if linkUp s.1 l then
    linkOff l (raiseBit pMld 5 (count MLD_LINK_LOST_COUNT 0 0 s.1), s.2)
  else s

/-- R291: a drain takes every link to OFF. -/
def mldDrain (s : DM) : DM :=
  [0, 1, 2].foldl (fun x l => if linkState x.1 l = 0 then x else linkOff l x) s

/-- R265: a command code on link `l` by master `m`. -/
def linkCommand (m l c : Nat) (d : Dev) : Dev :=
  let st := linkState d l
  let ok := fun (x : Dev) => x.put MLD_LINK_CMD_RESULT 0 0 l
  if !mldActs d then refuseWrite pMld 0x40 m (regAddr (pMld + 1) (0x044 + 0x10 * l)) (d.put MLD_LINK_CMD_RESULT 1 0 l)
  else if c = 1 ∧ st = 0 then ok (setLink l 1 d)
  else if c = 2 ∧ st = 1 then ok (setLink l 0 d)
  else if c = 2 ∧ st = 2 then
    ok (setLink l 3 (d.put MLD_LINK_STATUS_TBTT_LEFT (max 1 (d.rd MLD_CFG_REMOVE_TBTTS)) 0 l))
  else if c = 3 ∧ st = 3 then ok (setLink l 2 (d.put MLD_LINK_STATUS_TBTT_LEFT 0 0 l))
  else refuseWrite pMld 0x40 m (regAddr (pMld + 1) (0x044 + 0x10 * l)) (d.put MLD_LINK_CMD_RESULT 1 0 l)

/-- A write of LINK_CMD; a CMD of 0 asks for nothing. -/
def linkCmdWrite (m l v : Nat) (d : Dev) : Dev := if v % 8 = 0 then d else linkCommand m l (v % 8) d

/-- R265: the radio of a JOINING link is Active on a valid channel. -/
def linkJoined (l : Nat) (d : Dev) : Dev :=
  if mldActs d && linkState d l == 1 && isActive d (pRadio l) && (chanOf d l).isSome && !radioReduced d l then
    setLink l 2 d
  else d

/-! ### Training and tracking (R283–R292) -/

/-- Sets STRC_STATUS.STATE; while STRC is not Active it reads OFF. -/
def setStrc (st : Nat) (d : Dev) : Dev :=
  pairSettle (d.put STRC_STATUS_STATE (if isActive d pStrc then st else scOFF))

/-- R284: a run starts; `prep` where a preparation runs it. -/
def runStart (prep : Bool) (d : Dev) : Dev :=
  setStrc scTRAINING ((strcMod (fun u => { u with run := some (d.tb.elapsed, prep) }) d).put STRC_STATUS_STEP 1 |>.put
    STRC_STATUS_DIR 0)

/-- A run leaves the status, its duration in STRC_TRAIN_TIME. -/
def runLeave (d : Dev) : Dev :=
  let t := match d.strc.run with
    | some r => (d.tb.elapsed - r.1) / 500
    | none => 0
  ((((strcMod (fun u => { u with run := none }) d).put STRC_STATUS_STEP 0).put STRC_STATUS_DIR 0).put STRC_TRAIN_TIME_TIME t)

/-- A run ends FAILED with an error code. A preparation fails with it. -/
def runFailed (code sev : Nat) (d : Dev) : Dev :=
  let prep := match d.strc.run with
    | some r => r.2
    | none => false
  let d1 := setStrc scFAILED (strcMod (fun u => { u with trained := false }) (runLeave d))
  let d2 := raiseBit pStrc 5 (count STRC_TRAIN_FAIL_COUNT 0 0 (fault0 pStrc code sev 0 d1))
  if prep then unitFail 6 d2 else d2

/-- R289: an accepted CHAN_APPLY on Radio B or C invalidates the training; a run in progress is abandoned and counted. -/
def trainingLost (d : Dev) : Dev :=
  let d1 := strcMod (fun u => { u with trained := false }) d
  let d2 := if d.strc.run.isSome then count STRC_RETRAIN_COUNT 0 0 (runLeave d1) else d1
  setStrc scUNTRAINED d2

/-- A run that nothing else prevents: STRC is Active and none is in progress. -/
def trainNow (d : Dev) : Dev := if isActive d pStrc && strcAccepted d && d.strc.run.isNone then runStart false d else d

/-- R289: a retune of Radio B or C ends. -/
def retrain (d : Dev) : Dev := if d.on STRC_CFG_AUTO_RETRAIN then trainNow d else pairSettle d

/-- R292: STRC becomes Active. -/
def strcStart (d : Dev) : Dev :=
  if d.strc.trained then setStrc scTRACKING d
  else
    let d1 := setStrc scUNTRAINED d
    if d1.on STRC_CFG_AUTO_RETRAIN then trainNow d1 else d1

/-- R292: STRC leaves Active: the pair is NSTR and cancellation stops; training is kept. -/
def strcStop (d : Dev) : Dev :=
  let d1 := if d.strc.run.isSome then runLeave d else d
  pairSettle (((d1.put STRC_STATUS_STATE scOFF).put STRC_STATUS_OVER_B 0).put STRC_STATUS_OVER_C 0)

/-- The figures of a victim chain enter STRC_RES and STRC_LEAK; `v` is 0 for Radio C, 1 for Radio B. -/
def putFig (v : Nat) (d : Dev) (f : StrcFig) : Dev :=
  if v = 0 then
    (((d.put STRC_RES_C_SUPP_D f.suppD 0 f.chain).put STRC_RES_C_SUPP_A f.suppA 0 f.chain).put STRC_RES_C_RESID
      (twos 16 f.resid) 0 f.chain).put STRC_LEAK_C_LEAK (twos 16 f.leak) 0 f.chain
  else
    (((d.put STRC_RES_B_SUPP_D f.suppD 0 f.chain).put STRC_RES_B_SUPP_A f.suppA 0 f.chain).put STRC_RES_B_RESID
      (twos 16 f.resid) 0 f.chain).put STRC_LEAK_B_LEAK (twos 16 f.leak) 0 f.chain

/-- The radio of victim `v`. -/
def victimRadio (v : Nat) : Nat := if v = 0 then 2 else 1

/-- R288: the over chains of victim `v` are judged again. -/
def judgeOver (v : Nat) (d : Dev) : Dev :=
  let n := victimRadio v
  let F := if v = 0 then STRC_STATUS_OVER_C else STRC_STATUS_OVER_B
  let R := if v = 0 then STRC_RES_C_RESID else STRC_RES_B_RESID
  let isOver := fun c => decide (noiseFloor d n + 4 * d.rd STRC_CFG_RESID_MARGIN < signed 16 (d.rd R 0 c))
  let bits := ((activeChains d n).filter isOver).foldl setBit 0
  let new := andNot bits (d.rd F)
  let d1 := d.put F bits
  pairSettle (if new = 0 then d1 else raiseBit pStrc 4 d1)

/-- R286: a fitted chain of the aggressor without a coupled signal, or leakage above −5 dBm at a victim pin. -/
def trainFault (d : Dev) (dir : Nat) (figs : List StrcFig) (silent : List Nat) : Bool :=
  silent.any (fun c => d.on (if dir = 0 then STRC_CPL_B_PRESENT else STRC_CPL_C_PRESENT) 0 c) ||
  figs.any (fun f => decide (-20 < f.leak))

/-- R285: `lost` receptions of the victim link are abandoned in the bursts of direction `dir`. -/
def burstsLose (dir lost : Nat) (d : Dev) : Dev :=
  if isActive d (pRadio (victimRadio dir)) then bump RADIO_RX_LOST_COUNT (victimRadio dir) 0 lost d else d

/-- R284: the step in progress ends. -/
def trainStepDone (figs : List StrcFig) (silent : List Nat) (lost : Nat) (d0 : Dev) : Dev :=
  if d0.strc.run.isNone then d0
  else
    let dir := d0.rd STRC_STATUS_DIR
    let d := burstsLose dir lost d0
    let st := d.rd STRC_STATUS_STEP
    if trainFault d dir figs silent then runFailed 0x41 1 d
    else if st < 4 then d.put STRC_STATUS_STEP (st + 1)
    else
      let d1 := figs.foldl (putFig dir) d
      if dir = 0 then (d1.put STRC_STATUS_STEP 1).put STRC_STATUS_DIR 1
      else
        let d2 := raiseBit pStrc 3 (strcMod (fun u => { u with trained := true }) (runLeave d1))
        if isActive d2 pStrc then judgeOver 1 (judgeOver 0 (setStrc scTRACKING d2)) else d2

/-- R287, R288: a silent symbol in TRACKING; `figs` are the figures that the device now has of the victim's chains. -/
def silentSymbol (v : Nat) (figs : List StrcFig) (d : Dev) : Dev :=
  if isActive d pStrc && strcState d == scTRACKING then judgeOver v (figs.foldl (putFig v) d) else d

/-! ### Medium synchronisation (R278) -/

/-- The other link of the pair B–C. -/
def pairOther (l : Nat) : Option Nat := if l = 1 then some 2 else if l = 2 then some 1 else none

/-- A blind period of link `l` of `us` µs ends. -/
def blindEnd (l us : Nat) (d : Dev) : Dev :=
  if d.rd MLD_MSD_CFG_BLIND_US < us then
    count MLD_MSD_START_COUNT 0 0 (mldMod (fun u => { u with txops := tabSet u.txops l 0 }) (d.put MLD_LINK_STATUS_MSD 1 0 l))
  else d

/-- Medium synchronisation of link `l` ends. -/
def msdEnd (l : Nat) (d : Dev) : Dev := d.clr MLD_LINK_STATUS_MSD 0 l

/-- A soft reset of MLD: every link OFF, and nothing kept. -/
def mldSoftReset (d : Dev) : Dev := mldMod (fun _ => {}) d

/-! ### Meanings -/

/-- A write of LINK_CMD of link `l` with command `c`. -/
def linkWrite (m l c : Nat) (s : State) : Host.Outcome State Fault Refusal :=
  upd s (fun d => if l < 3 then cmdWrite (pMld + 1) (0x044 + 0x10 * l) m (linkCommand m l c) d else d)

def execLinkAdd (m l : Nat) (s : State) : Host.Outcome State Fault Refusal := linkWrite m l 1 s
def execLinkRemove (m l : Nat) (s : State) : Host.Outcome State Fault Refusal := linkWrite m l 2 s
def execLinkCancel (m l : Nat) (s : State) : Host.Outcome State Fault Refusal := linkWrite m l 3 s

def execLinkRadioActive (l : Nat) (s : State) : Host.Outcome State Fault Refusal :=
  upd s (fun d => if l < 3 then linkJoined l d else d)

def execPairStrHoldEnd (s : State) : Host.Outcome State Fault Refusal := upd s strHoldEnd

def execMsdTimerEnd (l : Nat) (s : State) : Host.Outcome State Fault Refusal :=
  upd s (fun d => if l < 3 then msdEnd l d else d)

def execStrcTrain (m : Nat) (s : State) : Host.Outcome State Fault Refusal := upd s (cmdWrite pStrc 0x044 m trainNow)

def execStrcTrainStepDone (figs : List StrcFig) (silent : List Nat) (lost : Nat) (s : State) :
    Host.Outcome State Fault Refusal :=
  upd s (trainStepDone figs silent lost)

/-- R284: the run has not ended within 60 ms, or a step overruns. -/
def execStrcTrainTimeout (s : State) : Host.Outcome State Fault Refusal :=
  upd s (fun d => if d.strc.run.isSome then runFailed 0x40 1 d else d)

def execStrcSilentSymbol (victim : Nat) (figs : List StrcFig) (s : State) : Host.Outcome State Fault Refusal :=
  upd s (silentSymbol victim figs)

end Sys2Proof.Machine
end

