-- ==== Sys2Proof/Machine/Air.lean ====
section
/-! DEFINITION. The air scheduler: the reservation table, plans, and the slots of the grid (spec/08_air_scheduler.md
R294–R348), with the plan messages of spec/20_convoy.md R765. -/

namespace Sys2Proof.Machine

open Sys2Proof

def airMod (f : AirUnit → AirUnit) (d : Dev) : Dev := { d with air := f d.air }

/-- AIRGRID is accepted for AIR (R294, R295), and AIR keeps its grid. -/
def airOn (d : Dev) : Bool := govern d pAir 1 3
def airActs (d : Dev) : Bool := airOn d && isActive d pAir

/-! ### The grid (R297, R300, R301) -/

/-- P, in slots, and A, in periods. -/
def airP (d : Dev) : Nat := max 16 (min 1024 (d.rd AIR_GRID_CFG_PERIOD))
def airA (d : Dev) : Nat := if airCoordinates d then max 2 (min 4 (d.rd AIR_CVY_CFG_AHEAD)) else 1

/-- The instant at which slot `k`, counted from B, starts. -/
def slotInstant (d : Dev) (k : Nat) : Nat := gridBase d + 64000 * k

/-- The number of the slot that holds the instant `t`, none before B. -/
def slotAt (d : Dev) (t : Nat) : Option Nat := if t < gridBase d then none else some ((t - gridBase d) / 64000)

/-- The number of the period that holds the instant `t`; negative before B. -/
def periodAt (d : Dev) (t : Nat) : Int := ((t : Int) - gridBase d) / (64000 * airP d : Nat)

/-! ### Entries (R302–R306) -/

def AirEnt.w (e : AirEnt) (i : Nat) : Nat := e.words.getD i 0
def AirEnt.kind (e : AirEnt) : Nat := bitsOf (e.w 0) 30 29
def AirEnt.dclass (e : AirEnt) : Nat := bitsOf (e.w 0) 28 27
def AirEnt.links (e : AirEnt) : Nat := bitsOf (e.w 0) 26 24
def AirEnt.dirRaw (e : AirEnt) : Nat := bitsOf (e.w 0) 23 22
def AirEnt.ruRaw (e : AirEnt) : Nat := bitsOf (e.w 0) 21 18
def AirEnt.nss (e : AirEnt) : Nat := bitsOf (e.w 0) 17 14
def AirEnt.target (e : AirEnt) : Nat := bitsOf (e.w 0) 10 0
def AirEnt.every (e : AirEnt) : Nat := bitsOf (e.w 1) 24 14
def AirEnt.len (e : AirEnt) : Nat := bitsOf (e.w 1) 13 10 + 1
def AirEnt.first (e : AirEnt) : Nat := bitsOf (e.w 1) 9 0
def AirEnt.rtwt (e : AirEnt) : Bool := (e.w 2).testBit 21
def AirEnt.twt (e : AirEnt) : Bool := (e.w 2).testBit 19
def AirEnt.flow (e : AirEnt) : Nat := bitsOf (e.w 2) 18 16
def AirEnt.gated (e : AirEnt) : Bool := (e.w 2).testBit 11
def AirEnt.gate (e : AirEnt) : Nat := bitsOf (e.w 2) 10 8
def AirEnt.tids (e : AirEnt) : Nat := if bitsOf (e.w 2) 7 0 = 0 then 255 else bitsOf (e.w 2) 7 0

/-- DIR and RU as served: a BSS occurrence is DL over the whole channel (R305). -/
def AirEnt.dir (e : AirEnt) : Nat := if e.kind = 2 then 0 else e.dirRaw
def AirEnt.ru (e : AirEnt) : Nat := if e.kind = 2 then 0xE else e.ruRaw

/-- The stations that an entry serves. -/
def targetsOf (t : AirTable) (e : AirEnt) : List Nat :=
  if e.kind = 0 then [e.target] else if e.kind = 1 then tabGet t.groups e.target [] else []

/-- The entries in order of DCLASS, highest first, and then of index (R312, R314). -/
def byClass (t : AirTable) : List (Nat × AirEnt) :=
  [3, 2, 1, 0].flatMap (fun c => t.ents.filter (fun x => x.2.dclass == c))

/-- `n` units from unit `lo` as a mask. -/
def unitSpan (lo n : Nat) : Nat := (2 ^ n - 1) * 2 ^ lo

/-- The first 26-tone unit of 20 MHz subchannel `i`, and its nine units, in a channel of width code `w`. -/
def subUnit (w i : Nat) : Nat := if w < 2 then 9 * i else 37 * (i / 4) + [0, 9, 19, 28].getD (i % 4) 0
def subUnits (w i : Nat) : Nat := unitSpan (subUnit w i) 9

/-- 40 MHz half `j`, and 80 MHz segment `s`, as units. -/
def halfUnits (w j : Nat) : Nat := if w < 2 then unitSpan 0 18 else unitSpan (37 * (j / 2) + 19 * (j % 2)) 18
def segUnits (s : Nat) : Nat := unitSpan (37 * s) 37

/-- Units of a channel of width code `w` (R306). -/
def unitCount (w : Nat) : Nat := if w < 2 then 9 * 2 ^ w else 37 * 2 ^ (w - 2)

/-- Units of the punctured subchannels. -/
def punctUnits (c : Chan) : Nat :=
  (List.range (subCount c.width)).foldl (fun b i => if c.punct.testBit i then b ||| subUnits c.width i else b) 0

/-- The positions of RU code `ru` on the tone plan of a channel, lowest frequency first. PRESUMED (IEEE 802.11be): log
entry 61. -/
def ruPositions (c : Chan) (ru : Nat) : List Nat :=
  let w := c.width
  let subs := List.range (subCount w)
  let inSub := fun (offs : List Nat) (n : Nat) => subs.flatMap (fun i => offs.map (fun o => unitSpan (subUnit w i + o) n))
  let segs := if w < 2 then [] else List.range (2 ^ (w - 2))
  match ru with
  | 0x0 => (List.range (unitCount w)).map (fun u => 2 ^ u)
  | 0x1 => inSub [0, 2, 5, 7] 2
  | 0x2 => inSub [0, 5] 4
  | 0x3 => subs.map (subUnits w)
  | 0x4 => if w = 0 then [] else (List.range (2 ^ (w - 1))).map (halfUnits w)
  | 0x5 => segs.map segUnits
  | 0x6 => if w < 3 then [] else (List.range (2 ^ (w - 3))).map (fun p => segUnits (2 * p) + segUnits (2 * p + 1))
  | 0x7 => if w < 4 then [] else [unitSpan 0 148]
  | 0x8 => inSub [1, 2, 5] 3
  | 0x9 => inSub [0, 4] 5
  | 0xA => segs.flatMap (fun s =>
      [halfUnits w (2 * s) + subUnits w (4 * s + 2), halfUnits w (2 * s) + subUnits w (4 * s + 3),
       subUnits w (4 * s) + halfUnits w (2 * s + 1), subUnits w (4 * s + 1) + halfUnits w (2 * s + 1)])
  | 0xB => if w < 3 then [] else (List.range (2 ^ (w - 3))).flatMap (fun p =>
      [segUnits (2 * p) + halfUnits w (4 * p + 2), segUnits (2 * p) + halfUnits w (4 * p + 3),
       halfUnits w (4 * p) + segUnits (2 * p + 1), halfUnits w (4 * p + 1) + segUnits (2 * p + 1)])
  | 0xE => [unitSpan 0 (unitCount w) - punctUnits c]
  | _ => []

/-- The 20 MHz subchannels that units touch; a centre unit of 80 MHz touches the two beside it. -/
def subsTouched (w units : Nat) : Nat :=
  (List.range (subCount w)).foldl (fun b i =>
    let wide := if 2 ≤ w ∧ i % 4 = 1 then subUnits w i ||| 2 ^ (37 * (i / 4) + 18)
      else if 2 ≤ w ∧ i % 4 = 2 then subUnits w i ||| 2 ^ (37 * (i / 4) + 18) else subUnits w i
    if units &&& wide = 0 then b else setBit b i) 0

/-- The narrowest width code that carries RU code `ru` (R306). -/
def ruWidth (ru : Nat) : Nat :=
  match ru with
  | 4 => 1 | 5 => 2 | 6 => 3 | 7 => 4 | 0xA => 2 | 0xB => 3 | _ => 0

/-! ### Placement (R307, R308) -/

/-- Minimum LEN for DIR. -/
def minLen (dir : Nat) : Nat := if dir = 0 then 3 else 4

/-- Two runs of slots overlap. -/
def slotsMeet (s n t k : Nat) : Bool := decide (s < t + k) && decide (t < s + n)

/-- Spatial streams of an entry on one RU: one per member of a group, one for a BSS. -/
def streamsOf (t : AirTable) (e : AirEnt) : Nat :=
  if e.kind = 0 then e.nss else if e.kind = 1 then (targetsOf t e).length else 1

/-- The units that an occurrence of `e` at slot `s` takes on link `l` beside those placed, touching no subchannel of
`avoid`. -/
def placeUnits (d : Dev) (t : AirTable) (placed : List AirOcc) (e : AirEnt) (l s avoid : Nat) : Option Nat :=
  match chanOf d l with
  | none => none
  | some c =>
    let near := placed.filter (fun o => o.link == l && slotsMeet s e.len o.start o.len)
    let taken := near.foldl (fun b o => b ||| o.units) (punctUnits c)
    if near.any (fun o => o.start != s || o.len != e.len) then none
    else if (activeChains d l).length < streamsOf t e || (e.kind == 1 && decide (muUsers d l < (targetsOf t e).length)) then none
    else (ruPositions c e.ru).find? (fun u => u != 0 && (u &&& taken) == 0 && (subsTouched c.width u &&& avoid) == 0)

/-- The placed occurrence. -/
def placeOcc (d : Dev) (t : AirTable) (placed : List AirOcc) (i : Nat) (e : AirEnt) (l s avoid : Nat) : Option AirOcc :=
  (placeUnits d t placed e l s avoid).map (fun u => ⟨i, l, s, e.len, e.dclass, e.dir, u⟩)

/-! ### Occurrences (R303, R331) -/

/-- Gate states of list `n` at a later instant `t`, by the lists scheduled to be in force then (R331). -/
def gatePlanned (d : Dev) (n g t : Nat) : Bool :=
  match (gateOf d n).pend with
  | some s => if s ≤ t ∧ gateActs d n then (runStates (adminRun d n s) t).testBit g else gateOpen d n g t
  | none => gateOpen d n g t

/-- The starts of runs of LEN open slots, from slot `j` on. -/
def openStarts (len : Nat) : Nat → List Bool → Nat → List Nat
  | 0, _, _ => []
  | _, [], _ => []
  | f + 1, false :: l, j => openStarts len f l (j + 1)
  | f + 1, true :: l, j =>
    let run := ((true :: l).takeWhile id).length
    if len ≤ run then j :: openStarts len f (l.drop (len - 1)) (j + len)
    else openStarts len f ((true :: l).drop run) (j + run)

/-- The occurrence starts of `e` in a period; a gate-bound entry follows the gate's states `open_` at each slot (R303,
R331). -/
def startsBy (d : Dev) (e : AirEnt) (open_ : Nat → Bool) : List Nat :=
  let p := airP d
  if e.gated then openStarts e.len (p + 1) ((List.range p).map open_) 0
  else if e.every = 0 then (if e.first < p then [e.first] else [])
  else ((List.range p).map (fun k => e.first + k * e.every)).filter (fun s => decide (s < p))

/-- The occurrence starts of `e` on link `l` in period `n`. -/
def occStarts (d : Dev) (e : AirEnt) (l n : Nat) : List Nat :=
  startsBy d e (fun j => gatePlanned d (6 + l) e.gate (slotInstant d (n * airP d + j)))

/-- Those by which an apply finds a home link: by the gate list in force at the apply (R312). -/
def homeStarts (d : Dev) (e : AirEnt) (l n : Nat) : List Nat :=
  startsBy d e (fun j => gateOpen d (6 + l) e.gate (slotInstant d (n * airP d + j)))

/-! ### Links (R314) -/

/-- Link `l` is in service: ACTIVE or REMOVING, or without MLD its radio Active. -/
def airLinkUp (d : Dev) (l : Nat) : Bool :=
  isActive d (pRadio l) && !radioReduced d l && (if govern d pMld 1 1 then linkUp d l else true)

/-- A TID of `tids` of station `s` is mapped to link `l`. -/
def tidMapped (d : Dev) (s l tids : Nat) : Bool :=
  (List.range 8).any (fun t => tids.testBit t && (d.rd STA_W3_TID_MAP 0 s).testBit (3 * t + l))

def airUsable (d : Dev) (t : AirTable) (e : AirEnt) (l : Nat) : Bool :=
  airLinkUp d l && (targetsOf t e).all (fun s => staHasLink d s l && tidMapped d s l e.tids)

/-- The candidate links of an entry in the order C, B, A. -/
def linksOf (e : AirEnt) : List Nat := [2, 1, 0].filter (fun l => e.links.testBit l)

/-! ### Skipped occurrences (R315) -/

/-- An occurrence of entry `i` is skipped. -/
def skipOcc (i : Nat) (e : AirEnt) (d : Dev) : Dev :=
  let d1 := count AIR_OCC_SKIPPED_COUNT 0 0 (satPut AIR_RES_STAT_SKIPS 0 i 1 d)
  if 2 ≤ e.dclass then raiseBit pAir 6 d1 else d1

/-- An occurrence of entry `i` that cannot be placed is skipped; a gate-bound one counts in AIR_GATE_SKIP too (R332). -/
def skipPlace (i : Nat) (e : AirEnt) (d : Dev) : Dev :=
  skipOcc i e (if e.gated then count AIR_GATE_SKIP_COUNT 0 0 d else d)

/-! ### Forming plans (R300, R314) -/

/-- The table that serves period `n`. -/
def tableFor (d : Dev) (n : Nat) : AirTable :=
  match d.air.next with
  | some t => if d.air.effect ≤ n then t else d.air.table
  | none => d.air.table

/-- Entry `i` of a table is SUSPENDED: its words are those of the active table, where it is (R313). -/
def airSuspended (d : Dev) (i : Nat) (e : AirEnt) : Bool :=
  d.rd AIR_RES_STAT_STATE 0 i == 2 && (tabGet d.air.table.ents i {words := []}).words == e.words

/-- One occurrence at slot `s` of period `n`: on its home link, or steered, or skipped. -/
def formOcc (t : AirTable) (i : Nat) (e : AirEnt) (x : List AirOcc × Dev) (s : Nat) : List AirOcc × Dev :=
  let at_ := fun l => if airUsable x.2 t e l then placeOcc x.2 t x.1 i e l s 0 else none
  match ((e.home :: linksOf e).filter (fun l => e.links.testBit l)).findSome? at_ with
  | some o => (x.1 ++ [o], x.2)
  | none => (x.1, skipPlace i e x.2)

/-- One entry. -/
def formEntry (t : AirTable) (n : Nat) (x : List AirOcc × Dev) (ie : Nat × AirEnt) : List AirOcc × Dev :=
  if airSuspended x.2 ie.1 ie.2 || !(targetsOf t ie.2).all (staAssociated x.2) then x
  else (occStarts x.2 ie.2 ie.2.home n).foldl (formOcc t ie.1 ie.2) x

/-- The requested plan of period `n`. -/
def formPlan (n : Nat) (d : Dev) : List AirOcc × Dev :=
  let t := tableFor d n
  (byClass t).foldl (formEntry t n) ([], d)

/-! ### Plan messages (R340, R765) -/

/-- An entry of a PLAN message. -/
def planEntry (d : Dev) (o : AirOcc) : Bytes :=
  let c := (chanOf d o.link).getD ⟨0, 0, 0, 0⟩
  toBE 1 (o.link + 4 * c.width + 32 * o.dclass) ++ toBE 1 c.centre ++ toBE 2 o.start ++ toBE 1 (o.len - 1) ++
    toBE 2 (subsTouched c.width o.units) ++ [0]

/-- The header of part `k` of `parts`, with `n` entries. -/
def planHeader (d : Dev) (period k parts n : Nat) : Bytes :=
  toBE 4 period ++ toBE 2 (airP d) ++ toBE 1 (airA d) ++ toBE 1 k ++ toBE 1 parts ++ [0] ++
    toBE 6 (d.rd AIR_GRID_BASE_S_LO_S + 2 ^ 32 * d.rd AIR_GRID_BASE_S_HI_S) ++ toBE 4 (d.rd AIR_GRID_BASE_NS_NS) ++ toBE 4 n

/-- The requested plan of period `n` goes out in parts of 170 entries, 64 at most. -/
def planPublish (n : Nat) (l : List AirOcc) (s : DM) : DM :=
  let trunc := decide (10880 < l.length)
  let sent := l.take 10880
  let parts := max 1 ((sent.length + 169) / 170)
  let s1 := (List.range parts).foldl (fun x k =>
    let es := (sent.drop (170 * k)).take 170
    cvyFlood 9 (if trunc then 4 else 0) (max 1 (x.1.rd CVY_PLAN_CFG_TTL))
      (planHeader x.1 n k parts es.length ++ es.flatMap (planEntry x.1)) x) s
  onDev (fun d => count CVY_PLAN_TX_COUNT 0 0 (if trunc then count CVY_PLAN_TRUNC_COUNT 0 0 d else d)) s1

/-! ### Neighbours (R339, R341, R342) -/

def nbrOf (d : Dev) (id : Nat) : AirNbr := tabGet d.air.nbrs id {}
def nbrMod (id : Nat) (f : AirNbr → AirNbr) (d : Dev) : Dev := airMod (fun u => { u with nbrs := tabMod u.nbrs id {} f }) d

/-- The links on which a member has been heard in the last 10 s. -/
def nbrLinks (d : Dev) (x : AirNbr) : Tab (Nat × Nat) := x.heard.filter (fun h => decide (d.tb.elapsed ≤ h.2.2 + 5000000000))

/-- RSSI of the latest beacon. -/
def nbrRssi (x : Tab (Nat × Nat)) : Nat := (x.foldl (fun b h => if b.2 ≤ h.2.2 then (h.2.1, h.2.2) else b) (0, 0)).1

/-- Puts a neighbour at its place, the strongest first. -/
def nbrIns (x : Nat × Tab (Nat × Nat)) : List (Nat × Tab (Nat × Nat)) → List (Nat × Tab (Nat × Nat))
  | [] => [x]
  | y :: l => if signed 8 (nbrRssi y.2) < signed 8 (nbrRssi x.2) then x :: y :: l else y :: nbrIns x l

/-- The neighbours kept, the strongest first (R339). -/
def nbrList (d : Dev) : List (Nat × Tab (Nat × Nat)) :=
  let all := (d.air.nbrs.map (fun n => (n.1, nbrLinks d n.2))).filter (fun n => !n.2.isEmpty)
  let k := d.rd AIR_CVY_CFG_NBR_MAX
  (all.foldl (fun l n => nbrIns n l) []).take (if k = 0 ∨ 32 < k then 32 else k)

/-- AIR_CVY_NBR and AIR_CVY_STATUS follow the neighbours. -/
def nbrRefresh (d : Dev) : Dev :=
  let l := nbrList d
  let d1 := (List.range 32).foldl (fun x i =>
    match l[i]? with
    | some n => (((x.put AIR_CVY_NBR_VALID 1 0 i).put AIR_CVY_NBR_RSSI (nbrRssi n.2) 0 i).put AIR_CVY_NBR_LINKS
        (n.2.foldl (fun b h => setBit b h.1) 0) 0 i).put AIR_CVY_NBR_MEMBER n.1 0 i
    | none => (((x.put AIR_CVY_NBR_VALID 0 0 i).put AIR_CVY_NBR_RSSI 0 0 i).put AIR_CVY_NBR_LINKS 0 0 i).put
        AIR_CVY_NBR_MEMBER 0 0 i) d
  (d1.put AIR_CVY_STATUS_NBRS l.length).put AIR_CVY_STATUS_MISMATCH (b2n (l.any (fun n => (nbrOf d n.1).mismatch)))

/-- A beacon of member `id` on an overlapping channel arrives on link `l`. -/
def nbrHeard (l id rssi : Nat) (d : Dev) : Dev :=
  if signed 8 rssi < signed 8 (d.rd AIR_CVY_CFG_NBR_RSSI) then d
  else nbrRefresh (nbrMod id (fun x => { x with heard := tabSet x.heard l (rssi, d.tb.elapsed) }) d)

/-! ### Resolving (R342–R344) -/

/-- The plan of neighbour `id` for period `n`, its latest where it has not come; missing ones are counted, and the third in
a row loses the neighbour. -/
def nbrPlan (n : Nat) (x : List (Nat × NbrOcc) × Dev) (id : Nat) : List (Nat × NbrOcc) × Dev :=
  let b := nbrOf x.2 id
  if b.mismatch then x
  else match tabFind b.plans n with
    | some l => (x.1 ++ l.map (fun o => (id, o)), nbrMod id (fun y => { y with missing := 0 }) x.2)
    | none =>
      let k := b.missing + 1
      let d1 := count AIR_CVY_LOST_COUNT 0 0 (nbrMod id (fun y => { y with missing := k }) x.2)
      let d2 := if k = 3 then raiseBit pAir 8 d1 else d1
      if 3 ≤ k then (x.1, d2) else (x.1 ++ (b.latest.getD []).map (fun o => (id, o)), d2)

/-- The lower edges in MHz of the subchannels `subs` of a channel on link `l`. -/
def subEdges (l : Nat) (c : Chan) (subs : Nat) : List Int :=
  ((List.range (subCount c.width)).filter (fun i => subs.testBit i)).map
    (fun (i : Nat) => (chanMHz l c : Int) - 10 * (subCount c.width : Nat) + 20 * (i : Int))

/-- The subchannels of the channel of link `link` that an occurrence of a neighbour touches while slots `start` to
`start + len` last. -/
def nbrSubs (d : Dev) (link start len : Nat) (o : NbrOcc) : Nat :=
  match chanOf d link with
  | none => 0
  | some c =>
    if link ≠ o.link ∨ !slotsMeet start len o.start o.len then 0
    else
      let theirs := subEdges link ⟨o.centre, 0, o.width, 0⟩ o.subs
      (List.range (subCount c.width)).foldl (fun b i =>
        if (subEdges link c (2 ^ i)).any (fun x => theirs.any (fun y => decide ((x - y).natAbs < 20))) then setBit b i else b) 0

/-- The subchannels of an occurrence of this device that it shares with one of a neighbour, in time and frequency. -/
def sharedSubs (d : Dev) (link start len units : Nat) (o : NbrOcc) : Nat :=
  match chanOf d link with
  | none => 0
  | some c => subsTouched c.width units &&& nbrSubs d link start len o

/-- The neighbour's occurrence keeps its place against one of DCLASS `k` of this device (R343). -/
def nbrWins (d : Dev) (k : Nat) (o : Nat × NbrOcc) : Bool :=
  decide (k < o.2.dclass) || (o.2.dclass == k && decide (o.1 < cvySelf d))

/-- The later slots that a losing occurrence may move to (R344). -/
def laterSlots (d : Dev) (o : AirOcc) : List Nat :=
  ((List.range (d.rd AIR_CVY_CFG_MOVE_MAX)).map (fun k => o.start + k + 1)).filter (fun s => decide (s + o.len ≤ airP d))

/-- One occurrence of the requested plan against the neighbours' plans; `all` is the plan as it stands. -/
def resolveOcc (t : AirTable) (nbrs : List (Nat × NbrOcc)) (x : List AirOcc × Dev) (o : AirOcc) : List AirOcc × Dev :=
  let d := x.2
  let wins := nbrs.filter (fun n => nbrWins d o.dclass n)
  if wins.all (fun n => sharedSubs d o.link o.start o.len o.units n.2 == 0) then x
  else
    let rest := dropFirst (· == o) x.1
    match tabFind t.ents o.entry with
    | none => (rest, d)
    | some e =>
      let theirs := wins.foldl (fun b n => b ||| nbrSubs d o.link o.start o.len n.2) 0
      match placeOcc d t rest o.entry e o.link o.start theirs with
      | some p => (rest ++ [p], count AIR_CVY_YIELD_COUNT 0 0 d)
      | none =>
        let free := fun (p : AirOcc) => nbrs.all (fun n => sharedSubs d p.link p.start p.len p.units n.2 == 0)
        let move := if o.dclass = 3 then none
          else (laterSlots d o).findSome? (fun s => (placeOcc d t rest o.entry e o.link s 0).filter free)
        match move with
        | some p => (rest ++ [p], count AIR_CVY_MOVED_COUNT 0 0 d)
        | none => (rest, skipOcc o.entry e (count AIR_CVY_DROPPED_COUNT 0 0 d))

/-- The plan of period `n` after its neighbours' (R314). -/
def resolvePlan (n : Nat) (asked : List AirOcc) (d : Dev) : List AirOcc × Dev :=
  if !airCoordinates d then (asked, d)
  else
    let d1 := nbrRefresh d
    let r := ((nbrList d1).map (·.1)).foldl (nbrPlan n) ([], d1)
    asked.foldl (resolveOcc (tableFor d n) r.1) (asked, r.2)

/-! ### Plan points and resolve points (R300, R314, R335) -/

/-- Period `p` is formed, and published while coordination is on. -/
def formPeriod (s : DM) (p : Nat) : DM :=
  let r := formPlan p s.1
  let d1 := airMod (fun u => { u with asked := tabSet u.asked p r.1, formed := p + 1 }) r.2
  if airCoordinates d1 then planPublish p r.1 (d1, s.2) else (d1, s.2)

/-- Period `p` is resolved. -/
def resolvePeriod (d : Dev) (p : Nat) : Dev :=
  let r := resolvePlan p (tabGet d.air.asked p []) d
  airMod (fun u => { u with
    plans := tabSet (u.plans.filter (fun x => decide (p ≤ x.1 + 1))) p r.1
    asked := tabDel u.asked p
    resolved := p + 1
    nbrs := u.nbrs.map (fun n => (n.1, { n.2 with plans := n.2.plans.filter (fun x => decide (p < x.1)) })) }) r.2

/-- The periods from `from_` on that are due at `last`, those already past left out. -/
def periodsDue (from_ : Nat) (now last : Int) : List Nat :=
  let a := max from_ now.toNat
  ((List.range 8).map (a + ·)).filter (fun p => decide ((p : Int) ≤ last))

/-- Every plan point and resolve point up to now is taken. -/
def airCatchUp (s : DM) : DM :=
  if s.1.air.first.isNone then s
  else
    let n := periodAt s.1 (nowTotal s.1)
    let s1 := (periodsDue s.1.air.formed n (n + airA s.1)).foldl formPeriod s
    (((periodsDue s1.1.air.resolved n (n + 1)).foldl resolvePeriod s1.1), s1.2)

/-- AIR becomes Active: the first period it serves is the first whose plan point lies ahead (R301). -/
def airStart (d : Dev) : Dev :=
  let p := (periodAt d (nowTotal d) + 1 + airA d).toNat
  airMod (fun u => { u with
    first := some p, formed := p, resolved := p, asked := [], plans := [], last := none, blocks := [], sps := [] }) d

/-- AIR leaves Active: every slot is unreserved (R347). -/
def airStop (d : Dev) : Dev :=
  airMod (fun u => { u with first := none, asked := [], plans := [], last := none, blocks := [], sps := [] })
    (((d.put AIR_GRID_STATUS_RUNNING 0).put AIR_GRID_STATUS_STEP_HOLD 0).put AIR_GRID_STATUS_SLOT 0)

/-! ### Applying a table (R309–R313) -/

/-- The staging table: its valid entries, and the groups with their members. -/
def stagedTable (d : Dev) : AirTable :=
  { ents := (List.range 4096).filterMap (fun i =>
      if (d.rd AIR_RES_W_WORD 0 (4 * i)).testBit 31 then
        some (i, { words := (List.range 4).map (fun k => d.rd AIR_RES_W_WORD 0 (4 * i + k)) }) else none)
    groups := (List.range 256).filterMap (fun g =>
      let l := (List.range 4).flatMap (fun k =>
        (if d.on AIR_GRP_W_VALID_LO 0 (4 * g + k) then [d.rd AIR_GRP_W_MEMBER_LO 0 (4 * g + k)] else []) ++
        (if d.on AIR_GRP_W_VALID_HI 0 (4 * g + k) then [d.rd AIR_GRP_W_MEMBER_HI 0 (4 * g + k)] else []))
      if l.isEmpty then none else some (g, l)) }

/-- REASON 0x1: a reserved encoding. -/
def badCode (e : AirEnt) : Bool :=
  e.kind == 3 || e.dirRaw == 3 || has [0xC, 0xD, 0xF] e.ruRaw || (e.kind == 0 && (e.nss == 0 || decide (8 < e.nss)))

/-- REASON 0x2: FIRST, EVERY, or an occurrence outside the period. -/
def badTiming (d : Dev) (e : AirEnt) : Bool :=
  !e.gated && (decide (airP d ≤ e.first) || decide (airP d < e.every) ||
    (occStarts d e 0 0).any (fun s => decide (airP d < s + e.len)))

/-- REASON 0x4: a link that is missing, or that cannot carry the RU or the streams. -/
def badLinks (d : Dev) (e : AirEnt) : Bool :=
  e.links == 0 || (linksOf e).any (fun l => !present d (pRadio l) || (match chanOf d l with
    | some c => decide (c.width < ruWidth e.ru)
    | none => true) || (e.kind == 0 && decide ((activeChains d l).length < e.nss)))

/-- REASON 0x7: what a gate-bound entry requires (R331). -/
def badGated (d : Dev) (e : AirEnt) : Bool :=
  e.gated && !(govern d pAir 2 4 && e.kind == 0 && e.dirRaw == 0 && (linksOf e).length == 1)

/-- REASON 0x8: the group of an entry. -/
def badGroup (d : Dev) (t : AirTable) (e : AirEnt) : Bool :=
  let l := targetsOf t e
  e.kind == 1 && (l.isEmpty || (linksOf e).any (fun k => decide (muUsers d k < l.length)) ||
    l.any (fun s => !staLive d s) || decide (e.ruRaw < 3))

/-- REASON 0x9: TWT. -/
def badTwt (d : Dev) (t : AirTable) (i : Nat) (e : AirEnt) : Bool :=
  (e.rtwt && !e.twt) || (e.twt && (e.kind != 0 || (e.every != 0 && airP d % e.every != 0) ||
    t.ents.any (fun y => decide (y.1 < i) && y.2.twt && y.2.target == e.target && y.2.flow == e.flow)))

/-- Distinct stations of a table. -/
def tableStations (t : AirTable) (l : List (Nat × AirEnt)) : List Nat :=
  l.foldl (fun b x => (targetsOf t x.2).foldl addOnce b) []

/-- Occurrences per period, each gate-bound entry as P / LEN. -/
def occCount (d : Dev) (e : AirEnt) : Nat := if e.gated then airP d / e.len else (occStarts d e 0 0).length

/-- The first entry at which the sum of `f` over the entries up to it exceeds `top`. -/
def overflowAt (f : List (Nat × AirEnt) → Nat) (top : Nat) (t : AirTable) : Option Nat :=
  ((List.range t.ents.length).find? (fun k => decide (top < f (t.ents.take (k + 1))))).bind (fun k => (t.ents[k]?).map (·.1))

/-- R312: every occurrence of `e` places on link `l` beside those placed. -/
def placesAll (d : Dev) (t : AirTable) (n i : Nat) (e : AirEnt) (l : Nat) (placed : List AirOcc) : Option (List AirOcc) :=
  (homeStarts d e l n).foldl (fun r s => r.bind (fun ps => (placeOcc d t ps i e l s 0).map (fun o => ps ++ [o]))) (some placed)

/-- R312: home links by entry; the entry that has none, if any. -/
def homeLinks (d : Dev) (t : AirTable) (n : Nat) : Tab Nat × Option Nat :=
  let r := (byClass t).foldl (fun (x : Tab Nat × List AirOcc × Option Nat) ie =>
    match (linksOf ie.2).findSome? (fun l => (placesAll d t n ie.1 ie.2 l x.2.1).map (fun ps => (l, ps))) with
    | some h => (x.1 ++ [(ie.1, h.1)], h.2, x.2.2)
    | none => (x.1, x.2.1, some (match x.2.2 with
      | some j => min j ie.1
      | none => ie.1))) ([], [], none)
  (r.1, r.2.2)

/-- The first entry of a table that `p` finds bad. -/
def firstBad (t : AirTable) (p : Nat → AirEnt → Bool) : Option Nat := (t.ents.find? (fun x => p x.1 x.2)).map (·.1)

/-- R310: REASON and ENTRY of a refusal, in the order of the table. -/
def applyRefused (d : Dev) (t : AirTable) (n : Nat) : Option (Nat × Nat) :=
  let r := fun (k : Nat) (o : Option Nat) => o.map (fun i => (k, i))
  (r 1 (firstBad t (fun _ e => badCode e))).orElse fun _ =>
  (r 2 (firstBad t (fun _ e => badTiming d e))).orElse fun _ =>
  (r 3 (firstBad t (fun _ e => decide (e.len < minLen e.dir)))).orElse fun _ =>
  (r 4 (firstBad t (fun _ e => badLinks d e))).orElse fun _ =>
  (r 5 (overflowAt (fun l => (tableStations t l).length) 512 t)).orElse fun _ =>
  (r 6 (homeLinks d t n).2).orElse fun _ =>
  (r 7 (firstBad t (fun _ e => badGated d e))).orElse fun _ =>
  (r 8 ((t.ents.find? (fun x => badGroup d t x.2)).map (fun x => x.2.target % 256))).orElse fun _ =>
  (r 9 (firstBad t (fun i e => badTwt d t i e))).orElse fun _ =>
  r 10 (overflowAt (fun l => (l.map (fun x => occCount d x.2)).sum) 65536 t)

/-- AIR_TBL_TIME in nanoseconds. -/
def tblTime (d : Dev) : Nat :=
  (d.rd AIR_TBL_TIME_S_LO_S + 2 ^ 32 * d.rd AIR_TBL_TIME_S_HI_S) * 1000000000 + d.rd AIR_TBL_TIME_NS_NS

/-- R311: the first period whose start lies at or after AIR_TBL_TIME, and the one at which an apply accepted now takes
effect. -/
def effectPeriods (d : Dev) : Nat × Nat :=
  let len : Int := (64000 * airP d : Nat)
  let a := (-((-((tblTime d : Int) - gridBase d)) / len)).toNat
  (a, max a (periodAt d (nowTotal d) + 1 + airA d).toNat)

/-- R309, R310: a write of AIR_TBL_APPLY by master `m`. -/
def tblApply (m : Nat) (d : Dev) : Dev :=
  if !airOn d then d
  else if d.on AIR_TBL_STATUS_PENDING then refuseWrite pAir 0x41 m (regAddr (pAir + 1) 0x060) d
  else
    let t := stagedTable d
    let n := (effectPeriods d).2
    let d0 := (((d.put AIR_TBL_STATUS_LATE 0).put AIR_TBL_STATUS_REJECTED 0).put AIR_TBL_STATUS_REASON 0).put AIR_TBL_STATUS_ENTRY 0
    match applyRefused d t n with
    | some r =>
      raiseBit pAir 4 (refuseWrite pAir 0x40 m (regAddr (pAir + 1) 0x060)
        (((d0.put AIR_TBL_STATUS_REJECTED 1).put AIR_TBL_STATUS_REASON r.1).put AIR_TBL_STATUS_ENTRY r.2))
    | none =>
      let h := (homeLinks d t n).1
      airMod (fun u => { u with
        next := some { t with ents := t.ents.map (fun x => (x.1, { x.2 with home := tabGet h x.1 3 })) }, effect := n })
        (((d0.put AIR_TBL_STATUS_PENDING 1).put AIR_TBL_STATUS_LATE (b2n (decide ((effectPeriods d).1 < n)))).put
          AIR_TBL_EFFECT_PERIOD n)

/-- The status of entry `i` when the table `t` takes the place of `old` (R313). -/
def entryStatus (old t : AirTable) (d : Dev) (i : Nat) : Dev :=
  match tabFind t.ents i with
  | none => (((d.put AIR_RES_STAT_STATE 0 0 i).put AIR_RES_STAT_HOME 3 0 i).put AIR_RES_STAT_MISSED 0 0 i).put AIR_RES_STAT_SKIPS 0 0 i
  | some e =>
    let d1 := d.put AIR_RES_STAT_HOME e.home 0 i
    if (tabFind old.ents i).map (·.words) = some e.words then d1
    else ((d1.put AIR_RES_STAT_STATE 1 0 i).put AIR_RES_STAT_MISSED 0 0 i).put AIR_RES_STAT_SKIPS 0 0 i

/-- The accepted table takes effect (R311, R313). -/
def tableEffect (d : Dev) : Dev :=
  match d.air.next with
  | none => d
  | some t =>
    let old := d.air.table
    let ids := (old.ents.map (·.1) ++ t.ents.map (·.1)).foldl addOnce []
    let d1 := ids.foldl (entryStatus old t) (airMod (fun u => { u with table := t, next := none }) d)
    raiseBit pAir 3 (((d1.put AIR_TBL_STATUS_PENDING 0).put AIR_TBL_STA_STATIONS (tableStations t t.ents).length).put
      AIR_TBL_OCC_OCC ((t.ents.map (fun x => occCount d x.2)).sum))

/-! ### Service periods (R330) -/

/-- The end of a service period: missed, or not. -/
def spEnd (d : Dev) (p : AirSp) : Dev :=
  if p.heard then d.put AIR_RES_STAT_MISSED 0 0 p.entry
  else
    let k := min 3 (d.rd AIR_RES_STAT_MISSED 0 p.entry + 1)
    let d1 := count AIR_TWT_MISSED_COUNT 0 0 (d.put AIR_RES_STAT_MISSED k 0 p.entry)
    if k = 3 then raiseBit pAir 5 (d1.put AIR_RES_STAT_STATE 2 0 p.entry) else d1

/-- A frame from station `e` on link `l`. -/
def airHeard (e l : Nat) (d : Dev) : Dev :=
  airMod (fun u => { u with sps := u.sps.map (fun p =>
    if p.link = l ∧ (tabFind u.table.ents p.entry).map (·.target) = some e then { p with heard := true } else p) }) d

/-- R330: station `e` is in a service period on link `l` in which it does not count as awake. -/
def twtAsleep (d : Dev) (l e : Nat) : Bool := twtAwake d e l == some false

/-! ### Slots (R315–R322) -/

/-- Slots of link `l` that blocks reserve at or after slot `k`: blocks in progress, and what the plans hold. -/
def planSlots (d : Dev) (l : Nat) : List (Nat × Nat) :=
  (d.air.blocks.filter (fun b => b.link == l && !b.released)).map (fun b => (b.slot, b.len)) ++
  d.air.plans.flatMap (fun p => (p.2.filter (fun o => o.link == l)).map (fun o => (p.1 * airP d + o.start, o.len)))

/-- R315: an occurrence that fails at slot `k` is steered to another link, in slots unreserved there. -/
def steer (t : AirTable) (k : Nat) (o : AirOcc) (e : AirEnt) (d : Dev) : Option AirOcc :=
  ((linksOf e).filter (· != o.link)).findSome? (fun l =>
    if airUsable d t e l && (planSlots d l).all (fun s => !slotsMeet k o.len s.1 s.2) then
      placeOcc d t [] o.entry e l o.start 0 else none)

/-- The manifests of an occurrence: some queue of it has a head that may leave (R304). -/
def occHasContent (d : Dev) (t : AirTable) (e : AirEnt) (l : Nat) : Bool :=
  let open_ := fun q => blockOf d (6 + l) q == 0
  let mine := fun q =>
    if e.kind = 2 then ownerKind d q == 6 && ownerIndex d q == e.target
    else ownerKind d q == 1 && has (targetsOf t e) (ownerIndex d q / 16) && e.tids.testBit (ownerIndex d q % 16)
  (outQueues d (6 + l)).any (fun q => mine q && open_ q)

/-- The occurrences `due` start at slot `k`; one of them is checked again, and where it fails it moves or is skipped. A move
finds the slots of `due`, and those of earlier moves, reserved. Answers the occurrences that stay and those that moved. -/
def recheck (t : AirTable) (k : Nat) (due : List AirOcc) (x : List AirOcc × List AirOcc × Dev) (o : AirOcc) :
    List AirOcc × List AirOcc × Dev :=
  match tabFind t.ents o.entry with
  | none => x
  | some e =>
    if airUsable x.2.2 t e o.link then (x.1 ++ [o], x.2.1, x.2.2)
    else match steer t k o e (airMod (fun u => { u with
        blocks := u.blocks ++ (due ++ x.2.1).map (fun p => ⟨p.link, k, p.len, [p], false, false⟩) }) x.2.2) with
      | some p => (x.1, x.2.1 ++ [p], count AIR_STEERED_COUNT 0 0 x.2.2)
      | none => (x.1, x.2.1, skipPlace o.entry e x.2.2)

/-- R322: occurrences of an EMLSR station that overlap one of a lower entry on another link, in progress, starting now or
planned. -/
def emlsrClash (d : Dev) (t : AirTable) (k : Nat) (all : List AirOcc) (o : AirOcc) : Bool :=
  let st := fun (i : Nat) => match tabFind t.ents i with
    | some e => if e.kind = 0 ∧ d.on STA_W0_EMLSR 0 e.target then some e.target else none
    | none => none
  (st o.entry).isSome && (all.any (fun p => p.link != o.link && decide (p.entry < o.entry) && st p.entry == st o.entry) ||
    d.air.blocks.any (fun b => b.link != o.link && !b.released && decide (k < b.slot + b.len) &&
      b.occs.any (fun p => decide (p.entry < o.entry) && st p.entry == st o.entry)) ||
    d.air.plans.any (fun q => q.2.any (fun p => p.link != o.link && decide (k < q.1 * airP d + p.start) &&
      decide (q.1 * airP d + p.start < k + o.len) && decide (p.entry < o.entry) && st p.entry == st o.entry)))

/-- Occurrences skipped for a reason of their own. -/
def skipAll (t : AirTable) (l : List AirOcc) (d : Dev) : Dev :=
  l.foldl (fun x o => match tabFind t.ents o.entry with
    | some e => skipOcc o.entry e x
    | none => x) d

/-- The highest DCLASS of occurrences. -/
def topClass (l : List AirOcc) : Nat := l.foldl (fun b o => max b o.dclass) 0

/-- R321: two overlapping blocks of an NSTR pair: which of them is skipped, by link; none where they start together with
one LEN and are DL only. -/
def nstrLoser (b c : List AirOcc) (same : Bool) : Option Nat :=
  if same && (b ++ c).all (fun o => o.dir == 0) then none
  else if topClass c < topClass b then some 2 else some 1

/-- A block of link `l` starts at slot `k`: it is released where every occurrence is DL and has nothing to send (R319). -/
def blockStart (t : AirTable) (k l : Nat) (occs : List AirOcc) (d : Dev) : Dev :=
  if occs.isEmpty then d
  else
    let empty := d.on AIR_CFG_RELEASE_EMPTY && occs.all (fun o => o.dir == 0 && (match tabFind t.ents o.entry with
      | some e => !occHasContent d t e l
      | none => true))
    let n := (occs.headD ⟨0, 0, 0, 1, 0, 0, 0⟩).len
    let twt := occs.filterMap (fun o => match tabFind t.ents o.entry with
      | some e => if e.twt then some (⟨o.entry, l, k + o.len, false⟩ : AirSp) else none
      | none => none)
    let d1 := airMod (fun u => { u with blocks := u.blocks ++ [⟨l, k, n, occs, empty, false⟩], sps := u.sps ++ twt }) d
    if empty then count AIR_OCC_RELEASED_COUNT 0 0 d1 else d1

/-- R321 for the blocks of links B and C that would start at slot `k`, against each other and against a block of the other
link that is in progress or that the plan starts before they end. Answers what still starts on B and on C. -/
def nstrSettle (t : AirTable) (k : Nat) (b c : List AirOcc) (d : Dev) : List AirOcc × List AirOcc × Dev :=
  let len := fun (l : List AirOcc) => (l.headD ⟨0, 0, 0, 0, 0, 0, 0⟩).len
  let running := fun (x : Dev) (l : Nat) => x.air.blocks.filter (fun y =>
    y.link == l && !y.released && decide (y.slot < k) && decide (k < y.slot + y.len))
  let soon := fun (x : Dev) (l n : Nat) => x.air.plans.flatMap (fun p => p.2.filter (fun o =>
    o.link == l && decide (k < p.1 * airP x + o.start) && decide (p.1 * airP x + o.start < k + n)))
  let skip := fun (l : List AirOcc) (x : Dev) => count AIR_NSTR_SKIP_COUNT 0 0 (skipAll t l x)
  if !pairNstr d then (b, c, d)
  else
    let one := fun (mine : Nat) (l : List AirOcc) (x : Dev) =>
      let run := running x (3 - mine)
      let other := run.flatMap (·.occs) ++ soon x (3 - mine) (len l)
      if l.isEmpty || other.isEmpty then (l, x)
      else if nstrLoser (if mine = 1 then l else other) (if mine = 1 then other else l) false = some mine then
        (([] : List AirOcc), skip l x)
      else if run.isEmpty || run.any (·.begun) then (l, x)
      else (l, skip (run.flatMap (·.occs)) (airMod (fun u => { u with blocks := u.blocks.filter (fun y => !run.contains y) }) x))
    let r1 := one 1 b d
    let r2 := one 2 c r1.2
    if r1.1.isEmpty || r2.1.isEmpty then (r1.1, r2.1, r2.2)
    else
      match nstrLoser r1.1 r2.1 (len r1.1 == len r2.1) with
      | none => (r1.1, r2.1, r2.2)
      | some 1 => ([], r2.1, skip r1.1 r2.2)
      | some _ => (r1.1, [], skip r2.1 r2.2)

/-- The blocks that start at slot `k`, slot `j` of period `n`. -/
def slotBlocks (k n j : Nat) (d : Dev) : Dev :=
  let t := d.air.table
  let due := (tabGet d.air.plans n []).filter (fun o => o.start == j)
  let d0 := airMod (fun u => { u with plans := u.plans.map (fun p =>
    if p.1 = n then (n, p.2.filter (fun o => o.start != j)) else p) }) d
  let r := ([0, 1, 2].flatMap (fun l => due.filter (fun o => o.link == l))).foldl (recheck t k due) ([], [], d0)
  let all := r.1 ++ r.2.1
  let clash := all.filter (emlsrClash r.2.2 t k all)
  let stay := all.filter (fun o => !has (clash.map (·.entry)) o.entry)
  let d1 := skipAll t clash r.2.2
  let on_ := fun l => stay.filter (fun o => o.link == l)
  let q := nstrSettle t k (on_ 1) (on_ 2) d1
  blockStart t k 2 q.2.1 (blockStart t k 1 q.1 (blockStart t k 0 (on_ 0) q.2.2))

/-- Slots that the plan of a period reserves on link `l`. -/
def reservedSlots (d : Dev) (n l : Nat) : Nat :=
  let p := tabGet d.air.plans n []
  ((List.range (airP d)).filter (fun j => p.any (fun o => o.link == l && decide (o.start ≤ j) && decide (j < o.start + o.len)))).length

/-- A period starts: a table that waits takes effect, and the period's plan is served. -/
def periodStart (n : Nat) (d : Dev) : Dev :=
  let d1 := if d.air.next.isSome && decide (d.air.effect ≤ n) then tableEffect d else d
  [0, 1, 2].foldl (fun x l => x.put AIR_L_RSV_SLOTS (reservedSlots x n l) 0 l) d1

/-- What ends by slot `k`: blocks and service periods. The occurrences of a block whose exchange never began are skipped
(R316). -/
def endsBy (k : Nat) (d : Dev) : Dev :=
  let done := d.air.sps.filter (fun p => decide (p.stop ≤ k))
  let idle := (d.air.blocks.filter (fun b => decide (b.slot + b.len ≤ k) && !b.begun && !b.released)).flatMap (·.occs)
  done.foldl spEnd (airMod (fun u => { u with
    blocks := u.blocks.filter (fun b => decide (k < b.slot + b.len))
    sps := u.sps.filter (fun p => decide (k < p.stop)) }) (skipAll d.air.table idle d))

/-- R297: slot `k` starts. -/
def slotStarts (k : Nat) (d : Dev) : Dev :=
  let n := k / airP d
  let j := k % airP d
  let fresh := match d.air.last with
    | some q => decide (q / airP d < n)
    | none => true
  let d1 := endsBy k (airMod (fun u => { u with last := some k }) d)
  let d2 := if fresh then periodStart n d1 else d1
  let d3 := (((d2.put AIR_PERIOD_NOW_PERIOD n).put AIR_GRID_STATUS_SLOT j).put AIR_GRID_STATUS_RUNNING 1).put AIR_GRID_STATUS_STEP_HOLD 0
  slotBlocks k n j d3

/-- Slot `k` has started before. -/
def slotAgain (k : Nat) (d : Dev) : Bool :=
  match d.air.last with
  | some q => decide (k ≤ q)
  | none => false

/-- The slot that has been reached starts, once every plan point and resolve point up to now is taken. -/
def slotTurn (s : DM) : DM :=
  (slotAt s.1 (nowTotal s.1)).elim s (fun k => if slotAgain k s.1 then s else onDev (slotStarts k) s)

/-- R297–R301: the grid at the present instant: plan points and resolve points are taken, and a slot that has not started
starts. A slot that a backward step has brought back does not start again (R336). -/
def airSlot (s : DM) : DM := if !airActs s.1 then s else slotTurn (airCatchUp s)

/-! ### Access and unreserved time (R316, R323–R325) -/

/-- The block of link `l` that covers the present instant and is not released. -/
def blockNow (d : Dev) (l : Nat) : Option AirBlock :=
  d.air.blocks.find? (fun b => b.link == l && !b.released && decide (nowTotal d < slotInstant d (b.slot + b.len)))

/-- The start of the next block of link `l`. -/
def nextBlock (d : Dev) (l : Nat) : Option Nat :=
  let k := (d.air.plans.flatMap (fun p => (p.2.filter (fun o => o.link == l)).map (fun o => p.1 * airP d + o.start))).filter
    (fun k => decide (nowTotal d < slotInstant d k))
  match k with
  | [] => none
  | a :: l => some (slotInstant d (l.foldl min a))

/-- PIFS of link `l` in ns; `short` with the short slot time on link A. -/
def pifs (l : Nat) (short : Bool) : Nat := if l = 0 then (if short then 19000 else 30000) else 25000

/-- R316: the medium of link `l` has been idle for PIFS: the exchange of its block begins, or the block is skipped. -/
def accessBlock (l : Nat) (short : Bool) (d : Dev) : Dev :=
  match blockNow d l with
  | none => d
  | some b =>
    if b.begun then d
    else
      let idle := nowTotal d - pifs l short
      let late := decide (slotInstant d b.slot < idle)
      let need := b.occs.foldl (fun x o => max x (minLen o.dir)) 0
      let d1 := if late then count AIR_LATE_ACCESS_COUNT 0 0 d else d
      if slotInstant d (b.slot + b.len) < max idle (slotInstant d b.slot) + 64000 * need then
        skipAll d.air.table b.occs (airMod (fun u => { u with blocks := u.blocks.filter (· != b) }) d1)
      else
        bump AIR_OCC_SERVED_COUNT 0 0 b.occs.length (airMod (fun u => { u with blocks := u.blocks.map (fun x =>
          if x = b then { x with begun := true } else x) }) d1)

/-- UL triggers are held while the radios' class is in Throttle or Refuse (R154). -/
def ulThrottled (d : Dev) : Bool := decide (2 ≤ d.rd SERAI_CLASS_STATE_STATE 0 0)

/-- R325: BSRP triggers on every link. -/
def bsrp (d : Dev) : Dev :=
  if !airActs d || !d.on AIR_BSRP_BSRP_MS || ulThrottled d then d
  else ([0, 1, 2].filter (airLinkUp d)).foldl (fun x l => emit (.bsrp l) (count AIR_L_TRIG_COUNT 0 l x)) d

/-- A time of `dur` ns from now on link `l` ends GUARD_US before its next block, or lies within a block whose exchange has
begun (R323, R324). -/
def airFits (d : Dev) (l dur : Nat) : Bool :=
  !airActs d || (match blockNow d l with
    | some b => b.begun && decide (nowTotal d + dur ≤ slotInstant d (b.slot + b.len))
    | none => match nextBlock d l with
      | some t => decide (nowTotal d + dur + 1000 * d.rd AIR_CFG_GUARD_US ≤ t)
      | none => true)

/-- R229, R324: at least `ns` ahead are free of this radio's reserved slots. -/
def airFreeAhead (d : Dev) (l ns : Nat) : Bool :=
  (blockNow d l).isNone && (match nextBlock d l with
    | some t => decide (nowTotal d + ns ≤ t)
    | none => true)

/-- R325, R275, R278: a backoff of link `l` reaches zero; `otherRx` where the other link of the pair is receiving. -/
def edcaTxop (l : Nat) (otherRx : Bool) (d : Dev) : Dev :=
  if !radioUp d l || (airActs d && (blockNow d l).isSome) then d
  else if otherRx && pairNstr d && (pairOther l).isSome then count MLD_NSTR_DEFER_COUNT 0 0 d
  else if d.on MLD_LINK_STATUS_MSD 0 l then mldMod (fun u => { u with txops := tabMod u.txops l 0 (· + 1) }) d
  else d

/-- Medium synchronisation permits another TXOP on link `l`. -/
def txopAllowed (d : Dev) (l : Nat) : Bool :=
  !d.on MLD_LINK_STATUS_MSD 0 l || decide (tabGet d.mld.txops l 0 ≤ d.rd MLD_MSD_CFG_MAX_TXOPS)

/-! ### Steps of the time base (R335–R337) -/

/-- AIR follows a step of the time base that has moved it from the total nanoseconds `old`. -/
def airStep (old : Nat) (s : DM) : DM :=
  if !airActs s.1 then s
  else
    let new := nowTotal s.1
    let d1 := raiseBit pAir 7 s.1
    if old ≤ new then
      let first := match s.1.air.last with
        | some q => q + 1
        | none => (slotAt s.1 old).elim 0 (· + 1)
      let upto := (slotAt s.1 new).elim 0 (· + 1)
      let d2 := bump AIR_SLOT_SKIPPED_COUNT 0 0 (upto - first) d1
      let d3 := if first < upto then
          airMod (fun u => { u with last := some (upto - 1), plans := u.plans.map (fun p =>
            (p.1, p.2.filter (fun o => decide (upto ≤ p.1 * airP s.1 + o.start)))) }) d2 else d2
      airCatchUp (d3, s.2)
    else
      match s.1.air.last with
      | some q =>
        if new < slotInstant s.1 (q + 1) then
          ((airMod (fun u => { u with blocks := [], sps := [] }) d1).put AIR_GRID_STATUS_STEP_HOLD 1, s.2)
        else (d1, s.2)
      | none => (d1, s.2)

/-! ### PLAN messages received (R341, R348, R765) -/

/-- An occurrence entry of a PLAN. -/
def nbrEntry (b : Bytes) : NbrOcc :=
  { link := be b 0 1 % 4, width := be b 0 1 / 4 % 8, centre := be b 1 1, start := be b 2 2, len := be b 4 1 + 1,
    dclass := be b 0 1 / 32 % 4, subs := be b 5 2 }

/-- The entries of a part. -/
def partEntries (b : Bytes) : List Bytes := (List.range ((b.length - 24) / 8)).map (fun i => (b.drop (24 + 8 * i)).take 8)

/-- A part of a plan is malformed. -/
def partBad (b : Bytes) : Bool :=
  decide (b.length < 24) || b.length != 24 + 8 * be b 20 4 || decide (170 < be b 20 4) || be b 9 1 != 0 ||
  be b 8 1 == 0 || decide (64 < be b 8 1) || decide (be b 8 1 ≤ be b 7 1) ||
  (partEntries b).any (fun e => be e 7 1 != 0 || be e 0 1 % 4 == 3 || decide (128 ≤ be e 0 1) || decide (4 < be e 0 1 / 4 % 8) ||
    decide (16 ≤ be e 4 1) || decide (be b 4 2 < be e 2 2 + be e 4 1 + 1))

/-- A complete plan of member `id` reaches the air scheduler. -/
def planArrive (id : Nat) (hdr : Bytes) (l : List NbrOcc) (d : Dev) : Dev :=
  let same := be hdr 4 2 == airP d && be hdr 6 1 == airA d &&
    be hdr 10 6 == d.rd AIR_GRID_BASE_S_LO_S + 2 ^ 32 * d.rd AIR_GRID_BASE_S_HI_S && be hdr 16 4 == d.rd AIR_GRID_BASE_NS_NS
  let d1 := count CVY_PLAN_RX_COUNT 0 0 d
  nbrRefresh (if same then
      nbrMod id (fun x => { x with mismatch := false, plans := tabSet x.plans (be hdr 0 4) l, latest := some l }) d1
    else nbrMod id (fun x => { x with mismatch := true }) d1)

/-- A part of a plan is taken; the last one completes it. -/
def planTake (g : CvyMsg) (s : DM) : DM :=
  let b := g.body
  let id := g.origin
  if !airCoordinates s.1 || !(nbrList s.1).any (fun n => n.1 == id) then s
  else if partBad b then onDev (fault0 pAir 0x42 0 id) s
  else
    let old := tabGet s.1.cvy.plans id (be b 0 4, [])
    let parts := tabSet (if old.1 = be b 0 4 then old.2 else []) (be b 7 1) b
    if (List.range (be b 8 1)).all (fun k => (tabFind parts k).isSome) then
      let l := (List.range (be b 8 1)).flatMap (fun k => (partEntries (tabGet parts k [])).map nbrEntry)
      onDev (fun d => planArrive id b l (cvyMod (fun u => { u with plans := tabDel u.plans id }) d)) s
    else onDev (cvyMod (fun u => { u with plans := tabSet u.plans id (be b 0 4, parts) })) s

/-! ### Commands of the table -/

/-- R330: RESUME of the entry of AIR_RES_IDX; its count of missed periods begins again. -/
def resResume (d : Dev) : Dev :=
  let i := d.rd AIR_RES_IDX_ENTRY
  if airOn d && d.rd AIR_RES_STAT_STATE 0 i == 2 then (d.put AIR_RES_STAT_STATE 1 0 i).put AIR_RES_STAT_MISSED 0 0 i else d

/-- CLR_SKIPS. -/
def resClear (d : Dev) : Dev := if airOn d then d.put AIR_RES_STAT_SKIPS 0 0 (d.rd AIR_RES_IDX_ENTRY) else d

/-- A write of AIR_RES_CMD. -/
def resCmdWrite (v : Nat) (d : Dev) : Dev :=
  let d1 := if v.testBit 1 then resClear d else d
  if v.testBit 0 then resResume d1 else d1

/-- R346: a soft reset of AIR clears the tables with the registers. -/
def airSoftReset (d : Dev) : Dev := airMod (fun _ => {}) d

/-! ### Meanings -/

def execAirSlotStart (s : State) : Host.Outcome State Fault Refusal := updMem s (fun d m => airSlot (d, m))

def execAirBlockAccess (l : Nat) (short : Bool) (s : State) : Host.Outcome State Fault Refusal :=
  upd s (fun d => if airActs d && radioUp d l then accessBlock l short d else d)

def execAirTblApply (m : Nat) (s : State) : Host.Outcome State Fault Refusal := upd s (cmdWrite (pAir + 1) 0x060 m (tblApply m))

def execAirResResume (m : Nat) (s : State) : Host.Outcome State Fault Refusal := upd s (cmdWrite (pAir + 1) 0x058 m resResume)

def execAirResClrSkips (m : Nat) (s : State) : Host.Outcome State Fault Refusal := upd s (cmdWrite (pAir + 1) 0x058 m resClear)

def execBsrpTimer (s : State) : Host.Outcome State Fault Refusal := upd s bsrp

def execEdcaTxop (l : Nat) (otherRx : Bool) (s : State) : Host.Outcome State Fault Refusal := upd s (edcaTxop l otherRx)

def execPlanRx (s : State) : Host.Outcome State Fault Refusal := cvyReceive 9 planTake s

end Sys2Proof.Machine
end

