-- ==== Sys2Proof/Machine/Wifi.lean ====
section
/-! DEFINITION. The radios with what stands above them: channel changes, PPDUs received and sent, and beacons
(spec/06_radio_phy.md R216–R219, R233, R252, with the rules of spec/07_multilink.md, 08_air_scheduler.md,
09_stations.md and 15_cipher.md that a PPDU meets). -/

namespace Sys2Proof.Machine

open Sys2Proof

/-! ### Channel changes (R216–R220, R289, R315) -/

/-- R217, R220: a write of CHAN_APPLY of radio `n` by master `m`. While the radio is Off the write only checks. -/
def chanApply (m n : Nat) (d : Dev) : Dev :=
  let c := stagedChan d n
  if d.on RADIO_CHAN_STATUS_BUSY n then radioRefuse n 0x4C 0x43 m d
  else if !chanValid d n c then radioRefuse n 0x4C 0x43 m (d.put RADIO_CHAN_STATUS_RESULT 1 n)
  else if isOff d (pRadio n) then d.put RADIO_CHAN_STATUS_RESULT 0 n
  else
    let d1 := radioMod n (fun r => { r with apply := some c }) (d.put RADIO_CHAN_STATUS_BUSY 1 n)
    if n = 0 then d1 else trainingLost d1

/-- An apply has taken effect. -/
def chanDone (n : Nat) (d : Dev) : Dev :=
  raiseBit (pRadio n) 4 ((d.put RADIO_CHAN_STATUS_BUSY 0 n).put RADIO_CHAN_STATUS_RESULT 0 n)

/-- The units of a placed occurrence lie on the channel of its link. -/
def chanHolds (d : Dev) (o : AirOcc) : Bool :=
  match chanOf d o.link with
  | some c => (o.units &&& (unitSpan 0 (unitCount c.width) - punctUnits c)) == o.units
  | none => false

/-- R315: an occurrence of period `n` on a link whose channel has changed is checked again: it stays, moves or is
skipped. -/
def recheckOcc (n : Nat) (d : Dev) (o : AirOcc) : Dev :=
  let t := d.air.table
  let others := fun (l : List AirOcc) => l.filter (· != o)
  let set := fun (f : List AirOcc → List AirOcc) (x : Dev) =>
    airMod (fun u => { u with plans := u.plans.map (fun p => if p.1 = n then (n, f p.2) else p) }) x
  match tabFind t.ents o.entry with
  | none => set others d
  | some e =>
    if airUsable d t e o.link && chanHolds d o then d
    else match steer t (n * airP d + o.start) o e d with
      | some q => set (fun l => others l ++ [q]) (count AIR_STEERED_COUNT 0 0 d)
      | none => skipPlace o.entry e (set others d)

/-- The occurrences of link `l` after a change of its channel. -/
def channelRecheck (l : Nat) (d : Dev) : Dev :=
  d.air.plans.foldl (fun x p => (p.2.filter (fun o => o.link == l)).foldl (recheckOcc p.1) x) d

/-- R218, R219: the accepted apply takes effect; a change of CHAN_PUNCT alone needs no retune, and a segment not yet
calibrated is. -/
def retuneStart (n : Nat) (d : Dev) : Dev :=
  match (radioOf d n).apply with
  | none => d
  | some c =>
    let old := (radioOf d n).use
    if old.map (fun o => (o.centre, o.width)) = some (c.centre, c.width) then
      let d1 := chanDone n (radioMod n (fun r => { r with use := some c, apply := none }) d)
      channelRecheck n (if n = 0 then d1 else retrain d1)
    else
      let d1 := radioMod n (fun r => { r with apply := none, retune := some c }) d
      let s := chanSeg n c
      if (d.rd RADIO_CAL_STATUS_SEG_DONE n).testBit s || (radioOf d n).cal.isSome then d1 else calStart n (.segment s) d1

/-- R218: the reception in progress is abandoned. -/
def retuneForceAbort (n : Nat) (d : Dev) : Dev :=
  if (radioOf d n).apply.isSome then count RADIO_RETUNE_ABORT_COUNT n 0 d else d

/-- R219: the retune ends, once no calibration of it runs. -/
def retuneDone (n : Nat) (d : Dev) : Dev :=
  match (radioOf d n).retune with
  | none => d
  | some c =>
    if (radioOf d n).cal.isSome then d
    else
      let d1 := radioMod n (fun r => { r with use := some c, retune := none }) d
      let d2 := chanDone n ((d1.put RADIO_CHAN_STATUS_SEG (chanSeg n c) n).put RADIO_CHAN_STATUS_LOCKED 1 n)
      channelRecheck n (if n = 0 then d2 else retrain d2)

/-! ### Reception (R233, R352–R354, R372–R378, R602) -/

/-- Radio `n` detects PPDUs of format `f` (R211, R212, R215, R230): bit `f` of FORMAT_EN. -/
def rxFormat (d : Dev) (n f : Nat) : Bool :=
  decide (f < 6) && (d.rd RADIO_DETECT_CFG_FORMAT_EN n).testBit f && (f != 5 || radioEht d n) && (f != 0 || n == 0) &&
  (f != 3 || n == 1)

/-- The source of a frame of radio `n` from entry `e`. -/
def radioSrc (n : Nat) (e : Option Nat) : Nat := 0x1000 * n + e.getD 0xFFF

/-- The M of class 0 for a frame from entry `e` (R144, R356). -/
def rxMax (d : Dev) (e : Option Nat) : Nat := match e with
  | some k => d.rd STA_W4_MAX_MPDU 0 k
  | none => 0x0F1F

/-- Admits the frames `fs` of one MPDU and writes them: their manifests, none where one of them is refused. `exc` is the
reason of a frame for software. -/
def rxAdmit (n : Nat) (e : Option Nat) (tc exc t : Nat) : List Bytes → Dev → Memory → Option (List Manifest) × Dev × Memory
  | [], d, m => (some [], d, m)
  | f :: fs, d, m =>
    if d.rst.inboundClosed then (none, d, m)
    else
      let r := admitFrame 0 (max (rxMax d e) f.length) d
      match r.1 with
      | none => (none, r.2, m)
      | some h =>
        let d1 := trimCaravan h f.length r.2
        let m1 := writeFrame d1 h f m
        let st := manifestForm t
        let x : Manifest := { head := h, tc := tc % 8, exc := exc, len := f.length, flags := 2 ^ fStampValid,
                              src := radioSrc n e, stampNs := st.1, stampS := st.2 }
        let q := rxAdmit n e tc exc t fs (clearPoison (frameWords d1 h 0 f.length) d1) m1
        match q.1 with
        | some l => (some (x :: l), q.2.1, q.2.2)
        | none => (none, refDown h q.2.1, q.2.2)

/-- A frame for software: an exception of stage 1, whose reason the spec does not name. -/
def rxToSoftware (n : Nat) (e : Option Nat) (tc t : Nat) (fs : List Bytes) (s : DM) : Bool × DM :=
  let v := draw s.1
  let r := rxAdmit n e tc (0x10 + v.1 % 16) t fs v.2 s.2
  match r.1 with
  | some l => (true, l.foldl (fun y x => toWaystation x y) r.2.1, r.2.2)
  | none => (false, r.2.1, r.2.2)

/-- R354: a unicast frame from an unknown transmitter, which is acknowledged. -/
def rxUnknown (n : Nat) (p : RxPpdu) (s : DM) : Bool × DM :=
  if !p.toUs then (false, s)
  else (true, ((((count STA_UNKNOWN_TA_COUNT 0 0 s.1).put STA_UNKNOWN_LAST_LO_ADDR p.ta).put STA_UNKNOWN_LAST_HI_ADDR
    (p.ta / 2 ^ 32)).put STA_UNKNOWN_LAST_HI_LINK n, s.2))

/-- R360: the MAC of Radio A in the reduced form answers a request itself. -/
def rxFullA (d : Dev) (n : Nat) : Bool := radioReduced d n && decide (32 ≤ linkAStations d)

/-- The PN of an MPDU whose MIC verifies, or that is not protected. -/
def rxPnOf (u : RxMpdu) : Option Nat := u.pn.map (·.1)
def rxMicFails (u : RxMpdu) : Bool := match u.pn with
  | some x => !x.2
  | none => false

/-- The PN of an MPDU is above RX_PN of TID `t`. -/
def rxFresh (d : Dev) (e t : Nat) (u : RxMpdu) : Bool := match u.pn with
  | some x => decide (rxPn d e t < x.1)
  | none => true

/-- The frame that the duplicate cache keeps (R377). -/
def dupKeep (e t : Nat) (u : RxMpdu) (d : Dev) : Dev :=
  staMod e (fun s => { s with dup := tabSet s.dup (min 8 t) (u.sn, u.frag) }) d

/-- R377, R602: a unicast frame of TID `t` from entry `e` outside any agreement. `soft` where software takes it. -/
def rxPlain (n e t tm : Nat) (u : RxMpdu) (soft group : Bool) (fs : List Bytes) (s : DM) : Bool × DM :=
  if !group && dupCached s.1 e t u.sn u.frag u.retry then (true, (dupDiscard s.1, s.2))
  else if rxMicFails u then (true, (count CIPH_AUTH_FAIL_COUNT 0 0 (dupKeep e t u s.1), s.2))
  else if !rxFresh s.1 e t u then (true, (dupKeep e t u (count CIPH_REPLAY_COUNT 0 0 s.1), s.2))
  else
    let tc := if t < 8 then t else 0
    let took := fun (d : Dev) => (pnAccept e t (rxPnOf u) (dupKeep e t u d)).2
    if soft || u.moreFrag || u.frag != 0 then
      let q := rxToSoftware n (some e) tc tm fs s
      if q.1 then (true, onDev took q.2) else q
    else
      let q := rxAdmit n (some e) tc 0 tm fs s.1 s.2
      match q.1 with
      | some l => (true, (l.foldl (fun y x => toWaystation x y) (took q.2.1), q.2.2))
      | none => (false, q.2)

/-- R373, R374: a QoS data MPDU under an agreement. -/
def rxAgreed (n e t tm : Nat) (u : RxMpdu) (fs : List Bytes) (s : DM) : Bool × DM :=
  match baVerdict s.1 e t u.sn with
  | .dup => (true, (dupDiscard s.1, s.2))
  | .full => (false, (raiseBit pSta 5 (count STA_REORDER_FULL_COUNT 0 0 s.1), s.2))
  | .want =>
    if rxMicFails u then (true, (count CIPH_AUTH_FAIL_COUNT 0 0 (baTake e t u.sn none [] s.1), s.2))
    else
      let q := rxAdmit n (some e) t 0 tm fs s.1 s.2
      match q.1 with
      | some l => (true, (baTake e t u.sn (rxPnOf u) l q.2.1, q.2.2))
      | none => (false, (q.2.1, q.2.2))

/-- A data MPDU from entry `e`, by its state (R352). -/
def rxData (n e tm : Nat) (u : RxMpdu) (qos group eapol : Bool) (fs : List Bytes) (s : DM) : Bool × DM :=
  let st := staState s.1 e
  let t := if qos then min 8 u.tid else 8
  if st = stFROZEN then (false, s)
  else if st = stPENDING then (true, s)
  else if st = stASSOC ∧ !eapol then (true, onDev (count STA_PORT_CLOSED_COUNT 0 0) s)
  else if qos && !group && baOn s.1 e t then rxAgreed n e t tm u fs s
  else rxPlain n e t tm u false group fs s

/-- One MPDU with a right FCS, from entry `e` if known: whether it was acknowledged or needed no acknowledgement. -/
def rxMpdu (n : Nat) (p : RxPpdu) (e : Option Nat) (tm : Nat) (u : RxMpdu) (s : DM) : Bool × DM :=
  let known := match e with
    | some k => if staState s.1 k = stPROBED then none else some k
    | none => none
  match u.kind with
  | .beacon member overlaps => (true, if overlaps then onDev (nbrHeard n member p.rssi) s else s)
  | .probeReq body =>
    let d1 := if e.isNone && isActive s.1 pSta then staProbe n p.ta p.rssi s.1 else s.1
    rxToSoftware n (match e with
      | some k => some k
      | none => staLookup d1 n p.ta) 0 tm [body] (d1, s.2)
  | .request assoc body =>
    if assoc && rxFullA s.1 n then (true, onDev (count STA_ASSOC_REFUSED_COUNT 0 0) s)
    else match known with
      | some k => rxPlain n k 8 tm u true false [body] s
      | none => rxToSoftware n none 0 tm [body] s
  | .mgmt group body =>
    match known with
    | some k => rxPlain n k 8 tm u true group [body] s
    | none => if group then (true, s) else rxUnknown n p s
  | .data qos group eapol fs =>
    match known with
    | some k => rxData n k tm u qos group eapol fs s
    | none => if group then (true, s) else rxUnknown n p s
  | .barReq =>
    match known with
    | some k => if staState s.1 k = stFROZEN then (false, s) else (true, onDev (barReceive k (min 8 u.tid) u.sn) s)
    | none => rxUnknown n p s
  | .psPoll =>
    match known with
    | some k => (true, onDev (psPoll k n) s)
    | none => rxUnknown n p s
  | .other =>
    match known with
    | some _ => (true, s)
    | none => rxUnknown n p s

/-- The MPDUs of a PPDU in their order: whether one of them was acknowledged or needed no acknowledgement. -/
def rxMpdus (n : Nat) (p : RxPpdu) (e : Option Nat) (tm : Nat) : List RxMpdu → DM → Bool × DM
  | [], s => (false, s)
  | u :: us, s =>
    let r := if u.fcsOk then rxMpdu n p e tm u s else (false, s)
    let q := rxMpdus n p e tm us r.2
    (r.1 || q.1, q.2)

/-- A probe request with a right FCS: all that a PROBED entry is heard by (R352, R357). -/
def rxProbe (u : RxMpdu) : Bool := u.fcsOk && (match u.kind with
  | .probeReq _ => true
  | _ => false)

/-- R364: a data frame of a trigger-enabled AC from a dozing station starts an unscheduled service period. -/
def rxTriggers (e n : Nat) (p : RxPpdu) (d : Dev) : Dev :=
  let trig := p.mpdus.any (fun u => u.fcsOk && (match u.kind with
    | .data true false _ _ => triggers d e (min 8 u.tid)
    | _ => false))
  if p.doze && trig then uspStart e n d else d

/-- R233: a PPDU arrives at radio `n`. -/
def ppduRx (n : Nat) (p : RxPpdu) (s : DM) : DM :=
  if !radioUp s.1 n || !rxFormat s.1 n p.format then s
  else if !p.headerOk then onDev (count RADIO_HDR_FAIL_COUNT n 0) s
  else
    let d1 := msdEnd n (count RADIO_RX_PPDU_COUNT n 0 s.1)
    let st := stampRx n p.chains d1
    let d2 := ptpRadio n 0 st.1 p.ptp st.2
    if p.mpdus.isEmpty then (d2, s.2)
    else if p.mpdus.all (fun u => !u.fcsOk) then (count STA_FCS_ERR_COUNT 0 n d2, s.2)
    else
      let e := if isActive d2 pSta then staLookup d2 n p.ta else none
      let d3 := match e with
        | some k => if staState d2 k ≠ stPROBED ∨ p.mpdus.any rxProbe = true then
            airHeard k n (staHeard k n p.rssi (if staAssociated d2 k then offsetUpdate n k p.offset d2 else d2)) else d2
        | none => d2
      let r := rxMpdus n p e st.1 p.mpdus (d3, s.2)
      match e with
      | some k => if r.1 && decide (2 ≤ staState r.2.1 k) then
          onDev (fun d => rxTriggers k n p (setDoze k n p.doze d)) r.2 else r.2
      | none => r.2

/-! ### Transmission (R252, R139, R324, R368–R371, R601) -/

/-- The station entry and TID of the queue of `x`, none for a BSS's queue. -/
def txStation (d : Dev) (x : Manifest) : Option (Nat × Nat) :=
  if ownerKind d x.queue = 1 then some (ownerIndex d x.queue / 16, ownerIndex d x.queue % 16) else none

/-- The sequence number of a new MPDU (R368). -/
def txSn (x : Manifest) (d : Dev) : Nat × Dev :=
  match txStation d x with
  | some q => nextSn q.1 q.2 d
  | none =>
    let b := ownerIndex d x.queue
    let sn := tabGet d.sta.bssSn b 0
    (sn, { d with sta := { d.sta with bssSn := tabSet d.sta.bssSn b ((sn + 1) % 4096) } })

/-- The key slot that protects `x` (R601). -/
def txSlot (d : Dev) (x : Manifest) : Option Nat :=
  match txStation d x with
  | some q => if d.on STA_W4_KEY_VALID 0 q.1 then some (d.rd STA_W4_KEY_SLOT 0 q.1) else none
  | none => let b := ownerIndex d x.queue; if d.on KEY_GTK_EN 0 b then some (d.rd KEY_GTK_SLOT 0 b) else none

/-- The frame of `x` is dropped by the radio. -/
def txDrop (x : Manifest) (d : Dev) : Dev := refDown x.head (frameDropped x d)

/-- What a PPDU carries of an MPDU: the MPDU, whether it stands among those handed to the radio for the first time, and
whether its FCS is inverted. -/
structure TxPart where
  u : TxMpdu
  o : OutMpdu
  bad : Bool
  deriving DecidableEq, Repr

/-- A new MPDU begins: its number and its PN (R368, R601), unless it is dropped. -/
def txNew (u : TxMpdu) (x : Manifest) (d : Dev) : Option TxPart × Dev :=
  let gone := match txStation d x with
    | some q => !staAssociated d q.1
    | none => false
  if gone then (none, txDrop x d)
  else
    let c := if framePoisoned d x.head 0 x.len then drawBit d else (false, d)
    let poison := framePoisoned d x.head 0 x.len
    if c.1 then (none, txDrop x c.2)
    else
      let k := match txSlot c.2 x with
        | none => (some none, c.2)
        | some s => let r := drawPn s c.2
          (match r.1 with
            | some pn => some (some (s, pn, c.2.rd KEY_ATTR_GEN 0 s))
            | none => none, r.2)
      match k.1 with
      | none => (none, txDrop x (count CIPH_EXH_DROP_COUNT 0 0 k.2))
      | some key =>
        let n := txSn x k.2
        let tid := match txStation d x with
          | some q => q.2
          | none => 0
        (some ⟨u, { tid := tid, sn := n.1, x := x, tries := 0, since := d.tb.elapsed, key := key }, poison⟩, n.2)

/-- An MPDU is sent again, unless its key has changed (R601). -/
def txAgain (u : TxMpdu) (e : Nat) (o : OutMpdu) (d : Dev) : Option TxPart × Dev :=
  let stale := match o.key with
    | some k => d.rd KEY_ATTR_GEN 0 k.1 != k.2.2
    | none => false
  if stale then (none, dropOut e o (count CIPH_STALE_DROP_COUNT 0 0 d))
  else (some ⟨u, o, framePoisoned d o.x.head 0 o.x.len⟩, (takeOut e o.tid o.sn d).2)

/-- The entry and MPDU that awaits acknowledgement with head cell `h`. -/
def txFindOut (d : Dev) (h : Nat) : Option (Nat × OutMpdu) :=
  d.sta.stations.findSome? (fun s => (s.2.outst.find? (fun o => o.x.head == h)).map (fun o => (s.1, o)))

/-- No transmission on link `n` to the station of `x` starts while a FREEZE is in progress or it is FROZEN (R352, R371), or
while it has not yet announced itself in its service period (R330). -/
def txHeld (d : Dev) (n : Nat) (x : Manifest) : Bool :=
  match txStation d x with
  | some q => (staOf d q.1).stopping || staState d q.1 == stFROZEN || twtAsleep d n q.1
  | none => false

/-- The originator window of the TID of `x` holds no further number, with the MPDUs `l` of the PPDU so far. -/
def txWindowFull (l : List TxPart) (d : Dev) (x : Manifest) : Bool :=
  match txStation d x with
  | none => false
  | some q =>
    let next := d.rd TX_SN_SN 0 (ti q.1 q.2)
    let mine := l.filter (fun a => txStation d a.o.x == some q)
    let out := (staOf d q.1).outst.filter (fun o => o.tid == q.2) ++ mine.map (·.o)
    d.on BA_TX_EN 0 (ti q.1 q.2) &&
      out.any (fun o => decide (max 1 (min 1024 (d.rd BA_TX_SIZE 0 (ti q.1 q.2))) ≤ snDist o.sn next))

/-- R500: a PPDU of `dur` µs that starts now ends by the next close of the gate of the group of `x`. -/
def txEndsByClose (d : Dev) (n dur : Nat) (x : Manifest) : Bool :=
  match gateClose d (6 + n) (qGroup d x.queue) (nowTotal d) with
  | some c => decide (nowTotal d + 1000 * dur ≤ c)
  | none => true

/-- An MPDU of a PPDU of `dur` µs: taken from what stands before the radio, or from what awaits acknowledgement. -/
def txPart (n dur : Nat) (r : List TxPart × Dev) (u : TxMpdu) : List TxPart × Dev :=
  let keep := fun (q : Option TxPart × Dev) => (match q.1 with
    | some a => r.1 ++ [a]
    | none => r.1, q.2)
  match takeHanded (6 + n) (fun x => x.head == u.head && txEndsByClose r.2 n dur x && !txHeld r.2 n x &&
      !txWindowFull r.1 r.2 x) r.2 with
  | (some x, d1) => keep (txNew u x d1)
  | (none, _) =>
    match txFindOut r.2 u.head with
    | some o =>
      if (staOf r.2 o.1).stopping || twtAsleep r.2 n o.1 || !txEndsByClose r.2 n dur o.2.x then r
      else keep (txAgain u o.1 o.2 r.2)
    | none => r

/-- A descriptor that waits for the egress stamp takes it (R199). -/
def txStamp (t : Nat) (d : Dev) (a : TxPart) : Dev :=
  let st := manifestForm t
  let x := a.o.x
  ringResult x (b2n (flagOf x fLate && d.rd QMGR_Q_CFG_LATE_POLICY 0 x.queue == 1)) st.1 st.2 d

/-- The MPDU after the PPDU: acknowledged or sent without asking, its egress read is complete (R369); else it waits, or is
dropped (R370). -/
def txSettle (d : Dev) (a : TxPart) : Dev :=
  match txStation d a.o.x with
  | some q =>
    if !a.u.solicits || a.u.acked then egressDone a.o.x d
    else mpduUnacked q.1 a.o.tid a.o.sn
      (staMod q.1 (fun s => { s with outst := s.outst ++ [{ a.o with tries := a.o.tries + 1 }] }) d)
  | none => egressDone a.o.x d

/-- The stations of MPDUs that solicit an acknowledgement, and whether one of theirs was acknowledged. -/
def txResults (d : Dev) (l : List TxPart) : List (Nat × Bool) :=
  let asked := l.filter (fun a => a.u.solicits)
  let es := (asked.filterMap (fun a => (txStation d a.o.x).map (·.1))).foldl addOnce []
  es.map (fun e => (e, asked.any (fun a => a.u.acked && (txStation d a.o.x).map (·.1) == some e)))

/-- R279: an exchange with an EMLSR station on link `n`. -/
def txEmlsr (n : Nat) (d : Dev) (e : Nat) : Dev :=
  if !d.on STA_W0_EMLSR 0 e then d
  else
    let d1 := match (staOf d e).emlLink with
      | some l => if l = n then d else count MLD_EMLSR_SWITCH_COUNT 0 0 d
      | none => d
    staMod e (fun s => { s with emlLink := some n }) d1

/-- R370: the BlockAckReq that precedes an A-MPDU after a hole. -/
def txBar (n : Nat) (d : Dev) (a : TxPart) : Dev :=
  match txStation d a.o.x with
  | some q =>
    if has (staOf d q.1).bars q.2 then
      emit (.blockAckReq n q.1 q.2 (origStart d q.1 q.2)) (staMod q.1 (fun s => { s with bars := s.bars.filter (· != q.2) }) d)
    else d
  | none => d

/-- A PPDU of the parts `l` goes out at radio `n`. -/
def ppduSend (n : Nat) (p : TxPpdu) (l : List TxPart) (d : Dev) (m : Memory) : Dev :=
  let d0 := l.foldl (txBar n) d
  let t := stampTx n d0
  let d1 := emit (.ppdu n (l.map (fun a => (readFrame d0 m a.o.x.head 0 a.o.x.len, a.o.sn, a.o.key.map (fun k => k.2.1), a.bad))))
    (count RADIO_TX_PPDU_COUNT n 0 d0)
  let d2 := match p.kind with
    | .su => count AIR_L_SU_COUNT 0 n d1
    | .mu => count AIR_L_MU_COUNT 0 n d1
    | .trigger => count AIR_L_TRIG_COUNT 0 n d1
    | .response => d1
  let res := txResults d2 l
  let d3 := ptpRadio n 1 t p.ptp (l.foldl (txStamp t) d2)
  let d4 := (res.map (·.1)).foldl (txEmlsr n) (l.foldl txSettle d3)
  let d5 := res.foldl (fun x r => ppduResult r.1 n r.2 x) d4
  match pairOther n with
  | some o => if pairNstr d5 then blindEnd o p.dur d5 else d5
  | none => d5

/-- A PPDU may begin on radio `n` now: an immediate response always, another by R324, R278 and R154. -/
def txMayBegin (d : Dev) (n : Nat) (p : TxPpdu) : Bool :=
  match p.kind with
  | .response => true
  | k => airFits d n (1000 * p.dur) && (k == .su || (airActs d && (k != .trigger || !ulThrottled d))) &&
    ((blockNow d n).isSome || txopAllowed d n)

/-- R252: a PPDU is sent by radio `n`, as far as R275 lets it begin. -/
def ppduTx (n : Nat) (p : TxPpdu) (s : DM) : DM :=
  let other := p.otherRx && pairNstr s.1 && (pairOther n).isSome
  if !radioUp s.1 n || !txMayBegin s.1 n p then s
  else if other && p.kind != .response then onDev (count MLD_NSTR_DEFER_COUNT 0 0) s
  else
    let d1 := if other then count MLD_NSTR_RX_ABORT_COUNT 0 0 s.1 else s.1
    let r := p.mpdus.foldl (txPart n p.dur) ([], d1)
    if r.1.isEmpty && !p.mpdus.isEmpty then (r.2, s.2) else (ppduSend n p r.1 r.2 s.2, s.2)

/-! ### Beacons (R266, R273, R329, R364) -/

/-- A station whose set-up links all doze and for which a queue holds a manifest. -/
def timWaits (d : Dev) (e : Nat) : Bool :=
  staAssociated d e && [0, 1, 2].all (fun l => !staHasLink d e l || d.on L_ADDR_HI_DOZE 0 (lk e l)) &&
  (staQueues d e).any (fun q => !(qList d q).isEmpty)

/-- The TIM bits of link `l`: BSS and AID. -/
def timOf (d : Dev) (l : Nat) : List (Nat × Nat) :=
  ((staEntries d).filter (fun e => staHasLink d e l && timWaits d e)).map (fun e =>
    (if staMld d e then 16 * l else d.rd STA_W0_BSS 0 e, d.rd STA_W0_AID 0 e))

/-- The restricted TWT periods that the beacons of link `l` advertise (R329). -/
def rtwtOf (d : Dev) (l : Nat) : List (Nat × Nat × Nat) :=
  if !airActs d then []
  else d.air.table.ents.flatMap (fun x => if x.2.rtwt && x.2.home == l then
    (occStarts d x.2 l (d.rd AIR_PERIOD_NOW_PERIOD)).map (fun s => (s, x.2.len, x.2.tids)) else [])

/-- The advertised mode of the pair B–C (R273). -/
def advertisedBC (d : Dev) : Nat := if d.variant = .nv9700 then pairBC d else 2

/-- The beacon of link `l` at its TBTT, where radio and link are up (R266, R273, R329). -/
def beaconSend (l : Nat) (d : Dev) : Dev :=
  if !radioUp d l || (mldActs d && !linkUp d l) then d
  else
    let k := tabGet d.mld.changes l 0
    let n := (tabGet d.mld.bpcc l 0 + k) % 256
    let d1 := if mldActs d then mldMod (fun u => { u with changes := tabSet u.changes l 0, bpcc := tabSet u.bpcc l n }) d else d
    let gone := ([0, 1, 2].filter (fun x => linkState d x == 3)).map (fun x => (x, d.rd MLD_LINK_STATUS_TBTT_LEFT 0 x))
    emit (.beacon l gone (advertisedBC d) n (timOf d l) (rtwtOf d l)) d1

/-- R266: a TBTT of link `l`: its beacon, and TBTT_LEFT of a link that is REMOVING. -/
def tbtt (l : Nat) (s : DM) : DM :=
  if 3 ≤ l then s
  else
    let d := beaconSend l s.1
    if linkState d l = 3 then
      let left := d.rd MLD_LINK_STATUS_TBTT_LEFT 0 l - 1
      if left = 0 then linkOff l (d, s.2) else (d.put MLD_LINK_STATUS_TBTT_LEFT left 0 l, s.2)
    else (d, s.2)

/-! ### Meanings -/

def execChanApply (m n : Nat) (s : State) : Host.Outcome State Fault Refusal := radioWrite m n 0 0x04C (chanApply m n) s

def execRetuneStart (n : Nat) (s : State) : Host.Outcome State Fault Refusal :=
  upd s (fun d => if n < 3 then retuneStart n d else d)

def execRetuneForceAbort (n : Nat) (s : State) : Host.Outcome State Fault Refusal :=
  upd s (fun d => if n < 3 then retuneForceAbort n d else d)

def execRetuneDone (n : Nat) (s : State) : Host.Outcome State Fault Refusal :=
  upd s (fun d => if n < 3 then retuneDone n d else d)

def execTempRecalPiece (n : Nat) (temp : Int) (cut : Bool) (s : State) : Host.Outcome State Fault Refusal :=
  upd s (fun d => if n < 3 && airFreeAhead d n 250000 then recalPiece n temp cut d else d)

def execPpduRx (n : Nat) (p : RxPpdu) (s : State) : Host.Outcome State Fault Refusal := updMem s (fun d m => ppduRx n p (d, m))

def execPpduTx (n : Nat) (p : TxPpdu) (s : State) : Host.Outcome State Fault Refusal := updMem s (fun d m => ppduTx n p (d, m))

def execTbtt (l : Nat) (s : State) : Host.Outcome State Fault Refusal := updMem s (fun d m => tbtt l (d, m))

end Sys2Proof.Machine
end

