-- ==== Sys2Proof/Machine/Blocks.lean ====
section
/-! DEFINITION. Enable, start, drain and soft reset of every block (spec/02_register_model.md R70–R75, R819; the
conditions of spec/03_bringup.md R105–R107, R112, R125; the start, drain and soft-reset rules of the block chapters). -/

namespace Sys2Proof.Machine

open Sys2Proof

/-- The first page of every block that R38 lists. -/
def blockPages : List Nat :=
  [0, 1, 2, 3, 4, 8, 0x10, 0x18, 0x20, 0x30, 0x35, 0x3A, 0x40, 0x44, 0x48, 0x50, 0x58, 0x5C, 0x60, 0x70, 0x7C, 0x80,
   0x84, 0x88, 0x8C, 0x90, 0x98] ++ (List.range 8).map (0xA0 + ·) ++ [0xB0, 0xB4] ++ (List.range 8).map (0xC0 + ·) ++
  (List.range 6).map (0xC8 + ·) ++ [0xCE, 0xD0, 0xE0, 0xE1, 0xE2, 0xE3, 0xF0]

/-! ### FEAT and governing bits (R44, R60) -/

/-- Bit `b` of offered word `w` as a bit at position `k`. -/
def featBit (d : Dev) (w b k : Nat) : Nat := if (offered d.variant w).testBit b then 2 ^ k else 0

/-- FEAT of the block at first page `p`, as the block chapters state it. -/
def featWord (d : Dev) (p : Nat) : Nat :=
  if p = pSerai then featBit d 3 1 0
  else if p = pRing then featBit d 2 7 0
  else if p = 0x30 then 2 ^ 0 + 2 ^ 8 * chainsPresent d 0
  else if p = 0x35 then 2 ^ 1 + 2 ^ 3 + 2 ^ 4 + 2 ^ 8 * chainsPresent d 1
  else if p = 0x3A then 2 ^ 2 + 2 ^ 3 + 2 ^ 8 * chainsPresent d 2
  else if p = pMld then featBit d 1 1 0
  else if p = pAir then featBit d 3 6 0 + featBit d 2 4 1
  else if p = pSta then featBit d 1 1 0 + featBit d 0 10 1
  else if p = pOp then featBit d 1 5 0
  else if p = pWay then featBit d 2 0 0 + featBit d 2 0 1 + featBit d 2 0 2
  else if p = pTm then featBit d 2 3 0 + featBit d 2 2 1
  else if p = pTime then featBit d 2 5 0
  else if p = pRtc then featBit d 2 6 0
  else if p = pCiph then featBit d 3 3 0 + featBit d 3 4 1
  else if p = 0xB0 ∨ p = 0xB4 then featBit d 3 2 0
  else if 0xC8 ≤ p ∧ p < 0xCE then featBit d 2 2 0
  else 0

/-- The governing bit of the block at first page `p`, as word and bit (R60). -/
def governBit (p : Nat) : Option (Nat × Nat) :=
  if p = 0x30 ∨ p = 0x35 ∨ p = 0x3A then some (1, 0)
  else if p = pMld then some (1, 1)
  else if p = pStrc then some (1, 2)
  else if p = pAir then some (1, 3)
  else if p = pOp ∨ p = pOm then some (1, 4)
  else if p = pWay then some (2, 0)
  else if p = pGate then some (2, 1)
  else if p = pDrover then some (3, 0)
  else if p = pConvoy then some (3, 5)
  else none

/-! ### Units (SYS_UNIT_STATE) -/

/-- The unit that the block at first page `p` prepares as, if any. -/
def unitOf (p : Nat) : Option Nat :=
  if p = pTime then some 0
  else if p = 0xB0 then some 1
  else if p = 0xB4 then some 2
  else if p = 0x30 then some 3
  else if p = 0x35 then some 4
  else if p = 0x3A then some 5
  else if p = pStrc then some 6
  else if p = pOp ∨ p = pOm then some 7
  else if 0xC0 ≤ p ∧ p < 0xC8 then some (8 + (p - 0xC0))
  else none

/-- The block at `p` is enabled in the reduced form of R105. -/
def reducedForm (d : Dev) (p : Nat) : Bool :=
  (p == 0x30 && d.rst.reducedA) || (p == 0xC8 && d.rst.reducedEth0)

/-- A preparation of the block's unit runs and holds it in Starting (R112). -/
def unitHolds (d : Dev) (p : Nat) : Bool :=
  match unitOf p with
  | some u => unitState d u == 1 && !reducedForm d p
  | none => false

/-- The unit of lane `n` is READY. -/
def laneReady (d : Dev) (n : Nat) : Bool := unitReady d (8 + n)

/-- The condition under which a Starting block at `p` may become Active (R105, R110, R112, and the chapters). -/
def mayStart (d : Dev) (p : Nat) : Bool :=
  !unitHolds d p &&
  (if p = 0x30 then
      (radioOf d 0).use.isSome && (if d.rst.reducedA then !d.rst.quickCal else unitReady d 3)
    else if p = 0x35 then (radioOf d 1).use.isSome && unitReady d 4
    else if p = 0x3A then (radioOf d 2).use.isSome && unitReady d 5
    else if p = pStrc then unitReady d 6 && feat d pStrc 1 2
    else if p = pOp then unitReady d 7 && feat d pOp 1 4
    else if p = pOm then unitReady d 7 && feat d pOm 1 4 && isActive d pOp
    else if p = pAir then unitReady d 3 && unitReady d 4 && unitReady d 5 && unitReady d 1
    else if p = pConvoy then feat d pConvoy 3 5 && unitReady d 1 && unitReady d 0 && cvyKeysReady d
    else if 0xC0 ≤ p ∧ p < 0xC8 then laneReady d (p - 0xC0)
    else if p = 0xC8 ∧ d.rst.reducedEth0 then true
    else if 0xC8 ≤ p ∧ p < 0xCE then
      laneReady d (macLane d (p - 0xC8)) && protoEth (d.rd LANE_CFG_PROTO (macLane d (p - 0xC8))) &&
        !prbsOn d (macLane d (p - 0xC8))
    else if p = 0xCE then
      !(List.range 8).any (fun n => prbsOn d n && laneOwner d n == 0xCE)
    else true)

/-! ### Starting -/

/-- The number of the radio at page `p`. -/
def radioAt (p : Nat) : Nat := (p - 0x30) / 5

/-- A radio enters Starting: its channel is checked (R217); a channel other than the one trained for ends the canceller's
training (R292); Radio A takes the reduced form before its unit is READY and runs the quick calibration (R106, R107). -/
def radioStarts (n : Nat) (d : Dev) : Dev :=
  let d1 := radioChannelAtStart n d
  let d2 := if n ≠ 0 ∧ (radioOf d1 n).use ≠ (radioOf d n).use then trainingLost d1 else d1
  let reduced := n == 0 && !unitReady d 3
  let d3 : Dev := if n = 0 then { d2 with rst := { d2.rst with reducedA := reduced, quickCal := reduced } } else d2
  if reduced ∧ (radioOf d3 0).cal = none then calStart 0 .quick d3 else d3

/-- What an entry to Starting does beside taking the committed features (R62). -/
def startHook (p : Nat) (d : Dev) : Dev :=
  if p = 0x30 ∨ p = 0x35 ∨ p = 0x3A then radioStarts (radioAt p) d
  else if p = 0xC8 then { d with rst := { d.rst with reducedEth0 := !laneReady d 0 } }
  else if p = pConvoy ∧ !cvyKeysReady d then cvyEvent 0xA (cvySelf d) d
  else d

/-- The block at `p` enters Starting. -/
def enterStarting (p : Nat) (d : Dev) : Dev := startHook p (takeFeatures p (setBlockState p .starting d))

/-- What becoming Active does. -/
def activeHook (p : Nat) (s : DM) : DM :=
  if p = pRing then onDev ringsStart s
  else if p = 0x30 ∨ p = 0x35 ∨ p = 0x3A ∨ p = pMld then onDev pairSettle s
  else if p = pStrc then onDev strcStart s
  else if p = pAir then onDev airStart s
  else if p = pWay then onDev wayStart s
  else if p = pTime then onDev servoFollow s
  else if p = pDrover ∨ (0xA0 ≤ p ∧ p < 0xA8) then dispatchAll s
  else if p = 0xB0 ∨ p = 0xB4 then onDev (fun d => d.put DRAM_STATUS_SELF_REFRESH 0 ((p - 0xB0) / 4)) s
  else if 0xC0 ≤ p ∧ p < 0xC8 then onDev (laneStart (p - 0xC0)) s
  else if p = 0xC8 ∧ s.1.rst.reducedEth0 then onDev reducedStart s
  else if p = pConvoy then cvyStart s
  else if p = pGpio then onDev gpioFollow s
  else if p = pPmb then onDev pmbStart s
  else if p = pUart then onDev uartFollow s
  else if p = pPace then onDev paceStart s
  else s

/-- The block at `p` becomes Active: ACTIVE_UP (R70). -/
def becomeActive (p : Nat) (s : DM) : DM := activeHook p (onDev (fun d => raiseBit p 2 (setBlockState p .active d)) s)

/-- Bryn enables the Serai during VERIFY, where nothing else does (R171). -/
def brynEnables (d : Dev) (p : Nat) : Bool := p == pSerai && isOff d p && level d == lvVERIFY

/-- R70: the start-up of the block at `p` is done. -/
def startUpDone (p : Nat) (s : DM) : DM :=
  if present s.1 p && firstPage p == p && !inSoftReset s.1 p &&
      ((blockState s.1 p == .starting && mayStart s.1 p) || brynEnables s.1 p) then becomeActive p s
  else s

/-! ### Draining -/

/-- Core `n` stops: it is no longer halted by its own instruction. -/
def coreStopped (n : Nat) (s : DM) : DM :=
  onDev (fun d => { d with rst := { d.rst with halted := d.rst.halted.filter (· != n) } }.put CORE_STATUS_HALTED 0 n) s

/-- What a drain does as it begins, the block having been Active. -/
def drainHook (p : Nat) (s : DM) : DM :=
  if p = pQmgr then onDev qmgrDrain s
  else if p = pRing then ringsStop s.1 s.2
  else if p = 0x30 ∨ p = 0x35 ∨ p = 0x3A then onDev pairSettle (mldRadioLeft (radioAt p) s)
  else if p = pStrc then onDev strcStop s
  else if p = pMld then mldDrain s
  else if p = pAir then onDev airStop s
  else if p = pOp ∨ p = pOm then onDev outrDrain s
  else if p = pGate then onDev gateDrain s
  else if p = pTime then onDev timeInactive s
  else if p = pRtc then onDev netAbandon s
  else if p = pCiph then onDev ciphDrain s
  else if p = pDrover then droverDrain s
  else if 0xA0 ≤ p ∧ p < 0xA8 then coreLeft (p - 0xA0) (coreStopped (p - 0xA0) s)
  else if 0xC0 ≤ p ∧ p < 0xC8 then onDev (laneStop (p - 0xC0)) s
  else if p = pConvoy then cvyDrain s
  else if p = pDiag then onDev snapEnd s
  else s

/-- EN goes to 0 in Starting or Active: a drain begins. -/
def beginDrain (p : Nat) (s : DM) : DM :=
  let active := isActive s.1 p
  let s1 := onDev (setBlockState p .draining) s
  if active then drainHook p s1 else s1

/-- CTRL.EN goes to 0 (R70). -/
def enFalls (p : Nat) (s : DM) : DM :=
  match blockState s.1 p with
  | .starting | .active => beginDrain p s
  | .drainingRestart => onDev (setBlockState p .draining) s
  | _ => s

/-- Caravans of manifests inside the pipeline are freed. -/
def wayDiscard (d : Dev) : Dev :=
  let heads := d.way.parked.map (fun w => w.ctx.x) ++ d.way.excs.map (fun e => e.ctx.x)
  heads.foldl (fun e x => refDown x.head (frameDropped x e)) (wayMod (fun w => { w with parked := [], excs := [] }) d)

/-- The drain of the block at `p` has no work left that another command ends. -/
def drainMayEnd (d : Dev) (p : Nat) : Bool :=
  if p = pSerai then d.ser.use.isEmpty
  else if p = pWay then d.way.parked.isEmpty && (d.way.excs.isEmpty || level d == lvSTOPPING)
  else if p = pCiph then d.ciph.jobs.all (fun r => r.2.isEmpty)
  else if p = pKey then !d.regs.any (fun e => e.1.reg == 0x8C050 && e.1.lo == 31)
  else if p = pPmb then d.edge.pmb.isNone
  else if p = pSpi then d.edge.spi.isNone
  else if p = 0xCE then d.pcie.ob.isNone
  else true

/-- What the end of a drain leaves. -/
def offHook (p : Nat) (d : Dev) : Dev :=
  if p = pQmgr then qmgrEmpty d
  else if p = 0x30 then { d with rst := { d.rst with reducedA := false, quickCal := false } }
  else if p = pWay then wayDiscard d
  else if p = pDrover then droverDrainEnd d
  else if p = 0xB0 ∨ p = 0xB4 then dramDrainEnd ((p - 0xB0) / 4) d
  else if p = 0xC8 ∧ d.rst.reducedEth0 then
    (let e := laneStop 8 d
     { e with rst := { e.rst with reducedEth0 := false } })
  else if p = pConvoy then cvyStop d
  else if p = pUart then edgeMod (fun e => { e with uartTx := [], uartRx := [] }) d
  else d

/-- R70: the drain of the block at `p` ends. -/
def drainEnds (p : Nat) (d : Dev) : Dev :=
  let done := fun (x : Dev) => raiseBit p 1 x
  match blockState d p with
  | .draining => if drainMayEnd d p then done (setBlockState p .off (offHook p d)) else d
  | .drainingRestart => if drainMayEnd d p then done (enterStarting p (offHook p d)) else d
  | _ => d

/-! ### Soft reset (R73, R74) -/

/-- A register value that a soft reset of the block at `p` keeps. -/
def softKeeps (d : Dev) (p : Nat) (k : Key) : Bool :=
  let off := k.reg % 4096
  firstPage (k.reg / 4096) != p || off == 0x000 || off == 0x004 || off == 0x008 || off == 0x030 || keyRws k ||
  keyLocked d k || diagKept k || (k.reg == pDiag * 4096 + 0x080 && k.lo == 30) ||
  (p == pKey && (match fieldOf k with
    | some F => F.count == 8192 && (decide (k.idx < 16) || F.key 0 k.idx == KEY_ATTR_GEN.key 0 k.idx)
    | none => false))

/-- The Serai with every cell that is not quarantined free (R173). -/
def seraiSoftReset (d : Dev) : Dev := { d with ser := { quar := d.ser.quar, poison := d.ser.poison } }

/-- A DRAM channel over a soft reset: its devices keep their contents in self-refresh (R702). -/
def dramSoftReset (c : Nat) (d : Dev) : Dev :=
  (chanMod c (fun k => { initPtr := k.initPtr, initRun := k.initRun }) d).put DRAM_STATUS_SELF_REFRESH 1 c

/-- What a soft reset clears beyond registers. -/
def softHook (p : Nat) (d : Dev) : Dev :=
  if p = pSerai then seraiSoftReset d
  else if p = pQmgr then { d with q := { d.q with lists := [], removing := [], filled := [], tags := [] } }
  else if p = pRing then { d with q := { d.q with rings := [] } }
  else if p = 0x30 ∨ p = 0x35 ∨ p = 0x3A then radioMod (radioAt p) (fun r => { calTemp := r.calTemp }) d
  else if p = pStrc then strcMod (fun _ => {}) d
  else if p = pMld then mldSoftReset d
  else if p = pAir then airSoftReset d
  else if p = pSta then staSoftReset d
  else if p = pOm then outrSoftReset d
  else if p = pWay then waySoftReset d
  else if p = pTm then tmSoftReset d
  else if p = pGate then tmMod (fun t => { t with gates := [] }) d
  else if p = pTime then timeSoftReset d
  else if p = pCiph then ciphSoftReset d
  else if p = pKey then keySoftReset d
  else if p = pDrover then droverSoftReset d
  else if p = 0xB0 ∨ p = 0xB4 then dramSoftReset ((p - 0xB0) / 4) d
  else if 0xC0 ≤ p ∧ p < 0xC8 then laneMod (p - 0xC0) (fun _ => {}) d
  else if 0xC8 ≤ p ∧ p < 0xCE then ethMod (p - 0xC8) (fun _ => {}) d
  else if p = pConvoy then cvySoftReset d
  else if p = pPmb then edgeMod (fun e => { e with pmb := none, volts := [] }) d
  else if p = pSpi then edgeMod (fun e => { e with spi := none }) d
  else if p = pUart then edgeMod (fun e => { e with uartTx := [], uartRx := [] }) d
  else d

/-- What the block's units show after its registers are reset: pair states and Serai classes follow what is left. -/
def softAfter (p : Nat) (d : Dev) : Dev :=
  if p = pSerai then settle d
  else if p = 0x35 ∨ p = 0x3A ∨ p = 0x30 ∨ p = pMld ∨ p = pStrc then pairSettle d
  else if 0xB0 ≤ p ∧ p < 0xB8 then d.put DRAM_STATUS_SELF_REFRESH 1 ((p - 0xB0) / 4)
  else if p = pPmb then alertFollow d
  else d

/-- R73: CTRL.SOFT_RST is written with 1: a drain completes, registers and state return to reset, and the block is Off. -/
def softReset (p : Nat) (s : DM) : DM :=
  let s1 := enFalls p s
  let d1 := if isOff s1.1 p then s1.1 else offHook p s1.1
  let d2 := softHook p d1
  let d3 : Dev := { d2 with
    regs := d2.regs.filter (fun e => softKeeps d2 p e.1)
    sh := { d2.sh with
      frozenCounts := d2.sh.frozenCounts.filter (fun e => countPage e != p)
      frozenErrs := d2.sh.frozenErrs.filter (fun e => e.page != p) } }
  ((softAfter p d3).put HDR_CTRL_SOFT_RST 1 p, s1.2)

/-- R73: the soft reset of the block at `p` completes. -/
def softResetComplete (p : Nat) (d : Dev) : Dev := d.put HDR_CTRL_SOFT_RST 0 p

/-! ### Writes of CTRL -/

/-- Master `m`'s write of CTRL at page `p` reaches the block: granted, present, on the first page, and not locked; else
what becomes of it. BRYN's page 0 is not subject to the tables and is written as Bryn's chapter states. -/
def ctrlWrite (m p : Nat) (f : DM → DM) (s : DM) : DM :=
  if p != pBryn && !pageWritable s.1 m p then (customsRefuse .regs m .write (regAddr p 0x00C) s.1, s.2)
  else if !present s.1 p then (absentWrite m p s.1, s.2)
  else if firstPage p ≠ p then
    (if inSoftReset s.1 p then (refuseWrite 0 0x02 m (regAddr p 0x00C) s.1, s.2) else s)
  else if ctrlLocked s.1 p then (refuseWrite p 0x03 m (regAddr p 0x00C) s.1, s.2)
  else f s

/-- CTRL.EN cannot change: the block works whatever EN holds (R614, R819). -/
def enFixed (p : Nat) : Bool := alwaysOn p || p == pBryn

/-- The entry of core `n` lies in a region that grants it execute rights (R663). -/
def coreEntry (d : Dev) (n : Nat) : Nat := d.rd CORE_ENTRY_LO_ADDR n + 2 ^ 32 * d.rd CORE_ENTRY_HI_ADDR n
def coreEntryOk (d : Dev) (n : Nat) : Bool :=
  let a := coreEntry d n
  match regionOf a with
  | .serai => customsGrant d .serai ((a - seraiBase) / 256) ((a - seraiBase) / 256) n .fetch
  | .dram => customsGrant d .dram (a / 4096) (a / 4096) n .fetch
  | _ => false

/-- Effects of EN ← 1 by master `m` (R70, R74, R125, R663, R704). -/
def enRises (m p : Nat) (s : DM) : DM :=
  let d := s.1
  let wrong := fun (page code : Nat) => (refuseWrite page code m (regAddr p 0x00C) d, s.2)
  if enFixed p || inSoftReset d p then s
  else if level d = lvSTOPPING ∧ has d.rst.drained p then wrong 0 0x40
  else match blockState d p with
    | .off =>
      if 0xA1 ≤ p ∧ p < 0xA8 ∧ !coreEntryOk d (p - 0xA0) then wrong p 0x43
      else if 0xC0 ≤ p ∧ p < 0xC8 ∧ !laneValid d (p - 0xC0) then wrong p 0x42
      else onDev (enterStarting p) s
    | .draining => onDev (setBlockState p .drainingRestart) s
    | _ => s

/-- Effects of EN ← 0. -/
def enClears (p : Nat) (s : DM) : DM := if enFixed p then s else enFalls p s

/-- Effects of a write of CTRL.FREEZE (R71, R75). -/
def freezeSet (p : Nat) (v : Bool) (d : Dev) : Dev :=
  if ignoresSoft p || inSoftReset d p then d else thaw (d.put HDR_CTRL_FREEZE (b2n v) p)

/-- Effects of CTRL.SOFT_RST ← 1 (R73, R75). A soft reset in progress goes on. -/
def softRises (p : Nat) (s : DM) : DM := if ignoresSoft p || inSoftReset s.1 p then s else softReset p s

/-- A write of the word `v` to CTRL. -/
def ctrlWord (m p v : Nat) (s : DM) : DM :=
  if v.testBit 1 && !ignoresSoft p then softRises p s
  else
    let s1 := onDev (freezeSet p (v.testBit 2)) s
    if v.testBit 0 then enRises m p s1 else enClears p s1

/-- The word CTRL reads (R75, R819). -/
def ctrlValue (d : Dev) (p : Nat) : Nat :=
  d.rd HDR_CTRL_EN p + 2 * d.rd HDR_CTRL_SOFT_RST p + 4 * d.rd HDR_CTRL_FREEZE p

/-! ### Meanings -/

def execCtrlEnSet (m page : Nat) (s : State) : Host.Outcome State Fault Refusal :=
  updMem s (fun d mem => ctrlWrite m page (enRises m page) (d, mem))
def execCtrlEnClear (m page : Nat) (s : State) : Host.Outcome State Fault Refusal :=
  updMem s (fun d mem => ctrlWrite m page (enClears page) (d, mem))
def execCtrlSoftRst (m page : Nat) (s : State) : Host.Outcome State Fault Refusal :=
  updMem s (fun d mem => ctrlWrite m page (softRises page) (d, mem))
def execCtrlFreezeWrite (m page v : Nat) (s : State) : Host.Outcome State Fault Refusal :=
  updMem s (fun d mem => ctrlWrite m page (onDev (freezeSet page (v.testBit 0))) (d, mem))
def execSoftResetComplete (page : Nat) (s : State) : Host.Outcome State Fault Refusal :=
  upd s (fun d => if d.on HDR_CTRL_SOFT_RST page then softResetComplete page d else d)
def execStartUpDone (page : Nat) (s : State) : Host.Outcome State Fault Refusal :=
  updMem s (fun d mem => startUpDone page (d, mem))
def execDrainEnd (page : Nat) (s : State) : Host.Outcome State Fault Refusal := upd s (drainEnds page)

end Sys2Proof.Machine
end

