-- ==== Sys2Proof/Machine/TimeSteps.lean ====
section
/-! DEFINITION. Phase steps of the time base and the units that follow them (spec/13_time.md R541, R542, R544, R545, R549;
R335, R336, R411, R450, R516, R570, R658). -/

namespace Sys2Proof.Machine

open Sys2Proof

/-- The count moves by `amt`; the step is counted, its amount shown in nanoseconds, and STEP raised (R542). -/
def stepCount (amt : Int) (d : Dev) : Dev :=
  let ns := divOpen amt nsUnit { d with tb := { d.tb with count := wrapTime ((d.tb.count : Int) + amt) } }
  raiseBit pTime 3 (count TIME_STEPS_COUNT 0 0 (ns.2.put TIME_LAST_STEP_NS (sat32 ns.1)))

/-- The units that follow a step from total nanoseconds `old` without touching memory. -/
def followStep (old : Nat) (d : Dev) : Dev :=
  let d1 := gatesStep (netSpoil d)
  let d2 := if nowTotal d1 < old then policersBack (shapersBack d1) else d1
  (List.range 8).foldl (fun x e => evtStep old (nowTotal d) e x) (outrStep old d2)

/-- A step of the time base. -/
def stepBase (amt : Int) (d : Dev) : Dev := followStep (nowTotal d) (stepCount amt d)

/-- The units that follow a step and may store to memory: the air scheduler, then the Drover's timers (R81). -/
def followMem (old : Nat) (s : DM) : DM := timersStep old (airStep old s)

/-- An effect on the device that may step the time. -/
def withStep (f : Dev → Dev) (s : DM) : DM :=
  let d := f s.1
  if d.tb.count = s.1.tb.count then (d, s.2) else followMem (nowTotal s.1) (d, s.2)

/-- TIME_SET as units of the count. -/
def timeSetCount (d : Dev) : Nat :=
  ((d.rd TIME_SET_S_LO_S + 2 ^ 32 * d.rd TIME_SET_S_HI_S) * 1000000000 + d.rd TIME_SET_NS_NS) * nsUnit

/-- R541: TIME_CMD.SET. -/
def timeSet (s : DM) : DM :=
  let d := stepBase ((timeSetCount s.1 : Int) - s.1.tb.count) s.1
  followMem (nowTotal s.1) ({ d with tb := { d.tb with residue := 0 } }, s.2)

/-- R541: TIME_CMD.STEP. -/
def timeStep (s : DM) : DM :=
  followMem (nowTotal s.1) (stepBase (signed 32 (s.1.rd TIME_ADJ_NS) * nsUnit) s.1, s.2)

/-- A write of TIME_CMD by master `m`, in the order of its bits. -/
def timeCmdWord (m v : Nat) (s : DM) : DM :=
  let s1 := if v.testBit 0 then timeSet s else s
  let s2 := if v.testBit 1 then timeStep s1 else s1
  let d3 := if v.testBit 2 then slewStart m s2.1 else s2.1
  (if v.testBit 3 then d3.put TIME_STATUS_ASYM_SUSPECT 0 else d3, s2.2)

/-- R533: a write of TIME_SMP_PUSH by master `m`. -/
def smpPush (m : Nat) (s : DM) : DM := withStep (samplePush stepBase m) s

/-- R544: the reference returns. -/
def referenceBack (d : Dev) : Dev :=
  refSeen true (d.put TIME_STATUS_REF_LOST 0)

/-- A write to a register of TIME at page `p` that may store to memory. -/
def timeWriteMem (m p off : Nat) (f : DM → DM) (s : State) : Host.Outcome State Fault Refusal :=
  updMem s (cmdWriteMem (pTime + p) off m (fun d mem => f (d, mem)))

def execTimeCmdSet (m : Nat) (s : State) : Host.Outcome State Fault Refusal := timeWriteMem m 0 0x060 timeSet s
def execTimeCmdStep (m : Nat) (s : State) : Host.Outcome State Fault Refusal := timeWriteMem m 0 0x060 timeStep s
def execTimeSmpPush (m : Nat) (s : State) : Host.Outcome State Fault Refusal := timeWriteMem m 1 0x054 (smpPush m) s
def execPpsInEdge (falling : Bool) (s : State) : Host.Outcome State Fault Refusal :=
  updMem s (fun d m => withStep (ppsIn stepBase falling) (d, m))
def execReferenceReturn (s : State) : Host.Outcome State Fault Refusal :=
  updAlways s (fun d => if frozen d then refSeen true d else referenceBack d)

end Sys2Proof.Machine
end

