-- ==== Sys2Proof/Machine/Bringup.lean ====
section
/-! DEFINITION. Reset, boot, preparation, watchdog and shut-down (spec/03_bringup.md; the boot rules of spec/16_bryn.md;
R616, R701, R783, R786). -/

namespace Sys2Proof.Machine

open Sys2Proof

/-- Changes the bring-up state. -/
def rstMod (f : Bringup → Bringup) (d : Dev) : Dev := { d with rst := f d.rst }

/-! ### Reset inputs (R92, R783, R786, R822) -/

/-- PWR_GOOD goes low, or monitors assert. -/
def powerFails (low : Bool) (mons : List Nat) (s : DM) : DM :=
  requestCold (2 ^ cPower) (onDev (rstMod (fun r => { r with
    pwrGood := r.pwrGood && !low, counting := false
    monitors := (mons.filter (· < 3)).foldl addOnce r.monitors })) s)

/-- RESET_N is held low. -/
def resetBallLow (s : DM) : DM := requestCold (2 ^ cBall) (onDev (rstMod (fun r => { r with resetN := false, counting := false })) s)

/-- The sensor trips. -/
def thermalTrips (s : DM) : DM := requestCold (2 ^ cThermal) (onDev (rstMod (fun r => { r with hot := true })) s)

/-- A write of SYS_RESET_CTRL by master `m` (R92, R126). -/
def resetCtrl (m v : Nat) (s : DM) : DM :=
  if bitsOf v 31 16 ≠ 0xD4A7 then (refuseWrite 0 0x41 m (regAddr 0 0x054) s.1, s.2)
  else match v % 4 with
    | 1 => requestWarm (2 ^ cSwWarm) s
    | 2 => requestCold (2 ^ cSwCold) s
    | _ => s

/-- A reset request on the debug port. -/
def debugReset (s : DM) : DM := if portOpen s.1 then requestWarm (2 ^ cDebug) s else s

/-! ### PCIe (R100, R119, R706) -/

/-- A register of the PCIE page or of a host ring, which R100 returns to reset. LOCK and FEAT_ACCEPT stay (R45, R60). -/
def pcieResets (k : Key) : Bool :=
  let p := k.reg / 4096
  let off := k.reg % 4096
  (p == pPcie && off != 0x008 && off != 0x030) || (decide (0x21 ≤ p) && decide (p ≤ 0x25))

/-- PERST_N is low: the PCIE page and the host rings return to reset; what the rings hold is discarded. -/
def pcieReset (d : Dev) : Dev :=
  if !d.rst.epStrap then d
  else
    let d1 := pcieDown (rstMod (fun r => { r with perstN := false, pcieTraining := false }) d)
    let d2 := d1.q.rings.foldl (fun e r =>
      freeCellsOf r.2.claimed (match r.2.retry with
        | some y => refDown y.head e
        | none => e)) d1
    { d2 with
      regs := d2.regs.filter (fun e => !pcieResets e.1)
      pcie := {}
      q := { d2.q with rings := [] } }
      |>.put PCIE_CFG_MODE 1 |>.put SYS_RESET_CAUSE_CAUSE (d.rd SYS_RESET_CAUSE_CAUSE ||| 2 ^ cPcie)

/-- Lanes of the strapped width: 4 onward. -/
def strapLanes (d : Dev) : List Nat := [4, 5, 6, 7].take (2 ^ min 2 d.rst.epWidth)

/-- Bryn sets PROTO to PCIe on a lane and enables it. -/
def strapLane (d : Dev) (n : Nat) : Dev :=
  laneStart n (raiseBit (pLane n) 2 (setBlockState (pLane n) .active (takeFeatures (pLane n) (d.put LANE_CFG_PROTO 7 n))))

/-- R119: link training starts. -/
def pcieTrains (d : Dev) : Dev :=
  if d.rst.epStrap && !d.rst.pcieTraining && present d pPcie then
    (strapLanes d).foldl strapLane
      ((rstMod (fun r => { r with perstN := true, pcieTraining := true }) d).put PCIE_CFG_WIDTH (min 2 d.rst.epWidth))
  else d

/-! ### Boot (R114–R118, R616, R618, R623–R629) -/

/-- Bits of the boot configuration's first word. -/
def uartRecovDis (d : Dev) : Bool := (tabGet d.bryn.bootCfg 0 0).testBit 16
def pcieRecovDis (d : Dev) : Bool := (tabGet d.bryn.bootCfg 0 0).testBit 17

/-- Bryn grants the host its window and marks the endpoint ready. -/
def openHostPath (d : Dev) : Dev := (rstMod (fun r => { r with recovOpen := true }) d).put PCIE_CFG_EP_READY 1

/-- SERVICE_LEVEL becomes RECOVERY, and each recovery source that is not disabled opens; none in SCRAPPED. -/
def enterRecovery (d : Dev) : Dev :=
  let d1 := setLevel lvRECOVERY (rstMod (fun r => { r with recovOpen := false }) d)
  if d1.rst.epStrap && !pcieRecovDis d1 && d1.bryn.lc != lcSCRAPPED then openHostPath d1 else d1

/-- VERIFY goes on with the reference present: a boot from the PCIe host opens its path. -/
def verifyBegins (d : Dev) : Dev :=
  if d.bryn.lc = lcSCRAPPED then enterRecovery d
  else if d.rst.brynHeld || !d.rst.refPresent then d
  else if d.rst.bootMode = 1 ∧ d.rst.epStrap then openHostPath d
  else d

/-- The straps and what the release starts afresh. `epoch` is the boot epoch of this reset. -/
def sampleStraps (boot : Nat) (ep : Bool) (width epoch : Nat) (d : Dev) : Dev :=
  let src := if boot % 4 = 3 then 0 else boot % 4
  let d1 := rstMod (fun r => { r with
    asserted := false, causes := 0, counting := false, bootMode := src, epStrap := ep
    epWidth := min 2 (width % 4), releaseTick := d.tb.elapsed, brynHeld := false }) d
  ((d1.put SYS_STATUS_BOOT_SRC src).put PCIE_CFG_MODE (b2n ep)).put CIPH_BOOT_EPOCH_EPOCH epoch

/-- The conditions of R822 for the release. -/
def releaseOk (r : Bringup) : Bool := r.asserted && r.pwrGood && r.resetN && r.monitors.isEmpty && !r.hot

/-- R822: the internal reset releases. An OTP fault requests a cold reset, and after three in a row holds Bryn (R616). -/
def resetReleases (boot : Nat) (ep : Bool) (width : Nat) (otpFault : Bool) (s : DM) : DM :=
  if !releaseOk s.1.rst then s
  else
    let v := draw s.1
    let d1 := sampleStraps boot ep width v.1 v.2
    let d2 := if d1.bryn.wiping then wipe d1 else d1
    if otpFault then
      let n := d2.rst.otpFaults
      let d3 := fault0 pBryn 0x42 2 0 d2
      if n < 3 then requestCold (2 ^ cBryn) (rstMod (fun r => { r with otpFaults := n + 1 }) d3, s.2)
      else (rstMod (fun r => { r with brynHeld := true }) d3, s.2)
    else (verifyBegins (alertFollow (rstMod (fun r => { r with otpFaults := 0 }) d2)), s.2)

/-- Region `r` of a target covers granules `a` to `z`, with these rights of masters 0–31. -/
def putRegion (t : CustomsTarget) (r a z rd wr ex : Nat) (d : Dev) : Dev :=
  let w := fun (off hi v : Nat) (x : Dev) => x.put (customsFld t off hi) v 0 r
  w 0x28 0 1 (w 0x20 31 ex (w 0x24 31 0 (w 0x18 31 wr (w 0x1C 31 0 (w 0x10 31 rd (w 0x14 31 0
    (w 0xC 15 0 (w 8 31 z (w 4 15 0 (w 0 31 a d))))))))))

/-- What Bryn grants cores 0–7: the image's cells, and every register page except BRYN (R118). Which regions hold the grants
is open. -/
def bootGrants (first last : Nat) (d : Dev) : Dev :=
  putRegion .regs 1 0x94 0x1FF 0xFF 0xFF 0 (putRegion .regs 0 0 0x8F 0xFF 0xFF 0 (putRegion .serai 0 first last 0xFF 0 0xFF d))

/-- Bryn enables core 0 at the image's entry point. -/
def releaseCore0 (entry : Nat) (d : Dev) : Dev :=
  enterStarting 0xA0 ((d.put CORE_ENTRY_LO_ADDR (entry % 2 ^ 32) 0).put CORE_ENTRY_HI_ADDR (entry / 2 ^ 32) 0)

/-- The payload goes to cells of the cores' class; where they lie is open. -/
def placeImage (pay : Bytes) (s : DM) : Nat × DM :=
  let n := (pay.length + 255) / 256
  let v := draw s.1
  let base := v.1 % (cellCount - n + 1)
  let cells := (List.range n).map (base + ·)
  let d1 := settle (useCells 3 cells (charge 3 n v.2))
  let a := seraiBase + 256 * base
  (base, (coverWrite a pay.length (rstMod (fun r => { r with bootCells := cells }) d1), memWrite s.2 a pay))

/-- R118, R629: an image has verified. -/
def bootPasses (b : Bytes) (s : DM) : DM :=
  let d1 := fillKeys ((measure b s.1).put BRYN_LC_SET_IN_USE (hdrSigner b))
  let s1 := if isActive d1 pSerai then (d1, s.2) else becomeActive pSerai (d1, s.2)
  let pay := slice b headerBytes (hdrLen b)
  let r := placeImage pay s1
  let d2 := releaseCore0 (seraiBase + 256 * r.1 + hdrEntry b)
    (bootGrants r.1 (r.1 + (pay.length + 255) / 256 - 1) (rstMod (fun x => { x with recovOpen := false, recovGo := none }) r.2.1))
  (setLevel lvREDUCED (d2.put SYS_BOOT_TIME_TIME ((d2.tb.elapsed - d2.rst.releaseTick) / 500)), r.2.2)

/-- Bryn can verify: the reference is present and nothing holds it. -/
def brynReads (d : Dev) : Bool := d.rst.refPresent && !d.rst.brynHeld && d.bryn.lc != lcSCRAPPED

/-- An image from the UART or the host ends verification. At VERIFY a failure leaves no image to try (R117). -/
def otherImage (b : Bytes) (s : DM) : DM :=
  let c := imageFail s.1 kBoot (some b)
  if c = 0 then bootPasses b s
  else if level s.1 = lvVERIFY then (enterRecovery ((rstMod (fun r => { r with recovGo := none }) s.1).put BRYN_BOOT_STATUS_PRI_FAIL c), s.2)
  else (raiseBit pBryn 4 ((rstMod (fun r => { r with recovGo := none }) s.1).put BRYN_BOOT_STATUS_RECOV_FAIL c), s.2)

/-- An image from flash ends verification: the primary one, then the backup (R117, R625). -/
def flashImage (b : Option Bytes) (s : DM) : DM :=
  let d := s.1
  let c := imageFail d kBoot b
  if c = 0 then bootPasses (b.getD []) (d.put SYS_STATUS_SLOT (b2n d.rst.backup), s.2)
  else if d.rst.backup then (enterRecovery (d.put BRYN_BOOT_STATUS_BAK_FAIL c), s.2)
  else ((rstMod (fun r => { r with backup := true }) d).put BRYN_BOOT_STATUS_PRI_FAIL c, s.2)

/-- R623: Bryn ends verifying an image: the host's, once GO has been written, or the one in flash. -/
def imageEnds (b : Option Bytes) (s : DM) : DM :=
  if !brynReads s.1 then s
  else match s.1.rst.recovGo with
    | some n => otherImage (memRead s.2 seraiBase n) s
    | none => if level s.1 = lvVERIFY ∧ s.1.rst.bootMode = 0 then flashImage b s else s

/-- R628: an image has arrived over the UART. -/
def uartImage (b : Bytes) (s : DM) : DM :=
  let d := s.1
  if !brynReads d then s
  else if (level d = lvVERIFY ∧ d.rst.bootMode = 2) ∨ (level d = lvRECOVERY ∧ !uartRecovDis d) then otherImage b s
  else s

/-- R628: a write of BRYN_RECOV by master `m`. -/
def recovWrite (m v : Nat) (d : Dev) : Dev :=
  if (if m = 17 then d.rst.recovOpen else brynTakes d m 0) then
    (if v.testBit 31 && d.rst.recovOpen && d.rst.recovGo.isNone then
      rstMod (fun r => { r with recovGo := some (min (bitsOf v 22 0) (16408 * 256)) }) d else d)
  else refuseWrite pBryn 0x01 m (regAddr pBryn 0x060) d

/-! ### Preparations (R109–R114) -/

/-- The calibration of a preparation begins: where a reduced Radio A has run steps 1 and 2, with step 3 (R112). -/
def prepBegin (u : Nat) (d : Dev) : Dev :=
  if u = 3 ∧ d.rst.reducedA ∧ !isOff d 0x30 then
    (if d.rst.quickCal then d else (calStart 0 .prep d).put RADIO_CAL_STATUS_STEP 3 0)
  else if 3 ≤ u ∧ u ≤ 5 then calStart (u - 3) .prep d
  else if u = 6 then runStart true d
  else if u = 7 then outrCalStart d
  else d

/-- Unit `u` becomes READY: UNIT_READY; the units that waited for it begin (R103, R111). -/
def unitIsReady (u : Nat) (d : Dev) : Dev :=
  let d1 := raiseBit 0 4 (d.put SYS_UNIT_STATE_UNIT 2 0 u)
  let begun := (List.range 16).filter (fun v => unitState d1 v == 1 && has (unitNeeds v) u && !unitWaits d1 v)
  levelFollow (begun.foldl (fun e v => prepBegin v e) d1)

/-- A new preparation of unit `u`. -/
def prepUnit (u : Nat) (d : Dev) : Dev :=
  let d1 := d.put SYS_UNIT_STATE_UNIT 1 0 u
  if unitWaits d1 u then d1 else prepBegin u d1

/-- A block of unit `u` is Active in its full form (R113). -/
def unitInUse (d : Dev) (u : Nat) : Bool :=
  (isActive d (unitPage u) && !reducedForm d (unitPage u)) || (u == 7 && isActive d pOm)

/-- Bit `u` of a write of SYS_PREP_START by master `m`. -/
def prepBit (m u : Nat) (d : Dev) : Dev :=
  if !unitPresent d u || unitState d u == 1 then d
  else if unitInUse d u then refuseWrite 0 0x42 m (regAddr 0 0x048) d
  else prepUnit u d

/-- A write of SYS_PREP_START by master `m` (R112); the first bit written at REDUCED enters JOINING (R101). -/
def prepWrite (m v : Nat) (d : Dev) : Dev :=
  let us := (List.range 16).filter (fun u => decide (1 ≤ u) && v.testBit u && unitPresent d u)
  let d1 := if !us.isEmpty && level d == lvREDUCED then setLevel lvJOINING d else d
  us.foldl (fun e u => prepBit m u e) d1

/-- What a preparation runs has come to its end. -/
def prepEnded (d : Dev) (u : Nat) : Bool :=
  if u = 0 then d.rst.refPresent
  else if u = 1 ∨ u = 2 then false
  else if u ≤ 5 then (radioOf d (u - 3)).cal != some .prep && (u != 3 || !d.rst.quickCal)
  else if u = 6 then d.strc.run.isNone
  else if u = 7 then !d.on OP_CAL_STATUS_RUNNING
  else true

/-- R109: the preparation of unit `u` ends READY. -/
def prepDone (u : Nat) (d : Dev) : Dev :=
  if unitState d u = 1 ∧ !unitWaits d u ∧ prepEnded d u then unitIsReady u d else d

/-- What records the reason of a preparation that has run out of time. -/
def prepReason (u : Nat) (d : Dev) : Dev :=
  if 3 ≤ u ∧ u ≤ 5 then (if (radioOf d (u - 3)).cal = some .prep then calFail (u - 3) .prep d else d)
  else if u = 7 then
    (if d.on OP_CAL_STATUS_RUNNING then fault0 pOp 0x40 1 (256 * d.rd OP_CAL_STATUS_STEP) (outrCalIdle d) else d)
  else if 8 ≤ u then fault0 (pLane (u - 8)) 0x41 1 0 d
  else d

/-- R110: a preparation that has not ended within its cold maximum fails. -/
def prepTimeout (u : Nat) (d : Dev) : Dev :=
  if unitState d u = 1 ∧ !unitWaits d u then
    (if u = 6 ∧ d.strc.run.isSome then runFailed 0x40 1 d else unitFail u (prepReason u d))
  else d

/-- R225: a step overruns; a preparation fails with it. -/
def calOverrun (n : Nat) (d : Dev) : Dev :=
  match (radioOf d n).cal with
  | none => d
  | some k =>
    let e := calFail n k d
    if k = .prep then unitFail (3 + n) e else e

/-- R107: the quick calibration ends and the reduced BSS starts; a preparation that waited for it goes on. -/
def quickDone (t : Int) (s : DM) : DM :=
  if !s.1.rst.quickCal then s
  else
    let d1 := rstMod (fun r => { r with quickCal := false }) s.1
    let d2 := if (radioOf d1 0).cal = some .quick then calEnd 0 .quick t (d1.put RADIO_CHAN_STATUS_LOCKED 1 0) else d1
    let d3 := if unitState d2 3 = 1 ∧ !unitWaits d2 3 ∧ (radioOf d2 0).cal = none then prepBegin 3 d2 else d2
    if blockState d3 0x30 == .starting && mayStart d3 0x30 then becomeActive 0x30 (d3, s.2) else (d3, s.2)

/-- R114: the reference has been absent since the release. -/
def referenceAbsent (d : Dev) : Dev :=
  if level d = lvVERIFY ∧ unitState d 0 = 1 then unitFail 0 (rstMod (fun r => { r with refPresent := false }) d) else d

/-- R114: the reference appears: TIMEBASE prepares by itself and VERIFY goes on. -/
def referenceAppears (d : Dev) : Dev :=
  if d.rst.refPresent then d
  else
    let d1 := (rstMod (fun r => { r with refPresent := true }) d).put TIME_STATUS_REF_LOST 0
    let d2 := if unitState d1 0 = 3 then d1.put SYS_UNIT_STATE_UNIT 1 0 0 else d1
    if level d2 = lvVERIFY then verifyBegins d2 else d2

/-! ### DRAM training (R701) -/

/-- A line of channel `c` has already been initialised before a warm reset, which the engine does not repeat (R684). -/
def initKept (d : Dev) (c : Nat) : Bool := d.rst.warmPrep && !(chan d c).initPtr.isEmpty

/-- DRAM_TRN_DONE with RESULT PASS, and with FAIL: the channel is PREPARING. -/
def trnPass (c : Nat) (d : Dev) : Dev :=
  if unitState d (1 + c) = 1 ∧ !unitWaits d (1 + c) then
    unitIsReady (1 + c) (if initKept d c then d else chanMod c (fun k => { k with initRun := true }) d)
  else d
def trnFail (c : Nat) (d : Dev) : Dev := if unitState d (1 + c) = 1 then unitFail (1 + c) d else d

/-- A write of DRAM_TRN_DONE. -/
def trnDoneWrite (c v : Nat) (d : Dev) : Dev :=
  match v % 4 with
  | 1 => trnPass c d
  | 2 => trnFail c d
  | _ => d

/-! ### Watchdog (R120–R122) -/

def wdogRestart (d : Dev) : Dev := rstMod (fun r => { r with wdogTick := d.tb.elapsed }) d

/-- A write of SYS_WDOG_KICK. -/
def wdogKickWrite (v : Nat) (d : Dev) : Dev := if v % 2 ^ 16 = 0xC3A5 then wdogRestart d else d

/-- Expiry takes ACTION. -/
def wdogExpires (s : DM) : DM :=
  if !s.1.on SYS_WDOG_CFG_EN then s
  else match s.1.rd SYS_WDOG_CFG_ACTION with
    | 0 => (wdogRestart (raiseBit 0 6 s.1), s.2)
    | a => requestAction a (2 ^ cWatchdog) s

/-! ### Orderly shut-down (R123–R126, R823) -/

/-- The blocks that a phase drains. -/
def phaseBlocks (k : Nat) : List Nat :=
  match k with
  | 1 => [pConvoy]
  | 2 => [pWay, pDrover]
  | 3 => [pQmgr, pTm, pGate, pAir, 0x30, 0x35, 0x3A, pOp, pOm] ++ (List.range 6).map (0xC8 + ·) ++ [pRing, pPcie]
  | 4 => (List.range 8).map (0xA0 + ·) ++ [pCiph, pKey]
  | 5 => [pSerai, 0xB0, 0xB4]
  | _ => []

/-- The blocks `ps` drain; from now on they cannot be enabled (R125). -/
def stopBlocks (ps : List Nat) (s : DM) : DM :=
  let l := ps.filter (present s.1)
  l.foldl (fun x p => enFalls p x) (onDev (rstMod (fun r => { r with drained := l.foldl addOnce r.drained })) s)

/-- Cores that run. -/
def runningCores (d : Dev) : List Nat :=
  (List.range 8).filter (fun n => present d (0xA0 + n) && isActive d (0xA0 + n) && !has d.rst.halted n)

/-- Phase 4's drain of cores, CIPH and KEY begins. -/
def drainCores (s : DM) : DM :=
  if s.1.rst.coreDrain then s
  else stopBlocks (phaseBlocks 4) (onDev (rstMod (fun r => { r with coreDrain := true })) s)

/-- Every core has halted. -/
def coresSettle (s : DM) : DM :=
  if s.1.rd SYS_STATUS_STOP_PHASE = 4 ∧ (runningCores s.1).isEmpty then drainCores s else s

/-- The working keys, which are those that Bryn has not filled, are zeroised. -/
def zeroiseWorking (d : Dev) : Dev := ((d.ciph.keys.map (·.1)).filter (16 ≤ ·)).foldl (fun e s => zeroiseSlot s e) d

/-- The end of the shut-down (R124). -/
def finalAction (s : DM) : DM :=
  match s.1.rst.stopMode with
  | 0 => s
  | 1 => onDev (rstMod (fun r => { r with pwrOff := true })) s
  | 2 => requestWarm (2 ^ cStop + 2 ^ cSwWarm) s
  | _ => requestCold (2 ^ cStop + 2 ^ cSwCold) s

/-- Phase `k` begins. -/
def phaseBegins (k : Nat) (s : DM) : DM :=
  let s1 := onDev (fun d => d.put SYS_STATUS_STOP_PHASE k) s
  if k = 1 then stopBlocks (phaseBlocks 1) (onDev (rstMod (fun r => { r with inboundClosed := true })) s1)
  else if k = 2 then stopBlocks (phaseBlocks 2) s1
  else if k = 4 then coresSettle (onDev (raiseBit 0 7) s1)
  else if k = 5 then
    stopBlocks (phaseBlocks 5)
      (onDev (fun d => rstMod (fun r => { r with bootCells := [] }) (freeCellsOf d.rst.bootCells d)) s1)
  else if k = 6 then finalAction s1
  else s1

/-- Every action of phase `k` has completed and every drain of its blocks has ended. -/
def phaseDone (d : Dev) (k : Nat) : Bool :=
  (phaseBlocks k).all (fun p => !present d p || isOff d p) &&
  (if k = 3 then d.rst.graceOver else if k = 4 then d.rst.coreDrain else true)

/-- R123: the phase in progress ends and the next begins. -/
def phaseEnds (s : DM) : DM :=
  let k := s.1.rd SYS_STATUS_STOP_PHASE
  if level s.1 = lvSTOPPING ∧ 1 ≤ k ∧ k < 6 ∧ phaseDone s.1 k then
    phaseBegins (k + 1) (if k = 4 then onDev zeroiseWorking s else s)
  else s

/-- A write of SYS_SHUTDOWN by master `m`. -/
def shutdownWrite (m v : Nat) (s : DM) : DM :=
  if level s.1 = lvSTOPPING then s
  else if bitsOf v 31 16 ≠ 0xD4A7 then (refuseWrite 0 0x41 m (regAddr 0 0x068) s.1, s.2)
  else if !v.testBit 0 then s
  else phaseBegins 1 (onDev (fun d => setLevel lvSTOPPING (rstMod (fun r => { r with
    stopMode := bitsOf v 2 1, stopGrace := bitsOf v 15 8, drained := [], graceOver := false, coreDrain := false }) d)) s)

/-- The grace of phase 3 ends: its blocks drain. -/
def graceEnds (s : DM) : DM :=
  if level s.1 = lvSTOPPING ∧ s.1.rd SYS_STATUS_STOP_PHASE = 3 ∧ !s.1.rst.graceOver then
    stopBlocks (phaseBlocks 3) (onDev (rstMod (fun r => { r with graceOver := true })) s)
  else s

/-- 10 ms of phase 4 have passed. -/
def coreTimeout (s : DM) : DM :=
  if level s.1 = lvSTOPPING ∧ s.1.rd SYS_STATUS_STOP_PHASE = 4 then drainCores s else s

/-- Core `n` executes the halt instruction. -/
def coreHalts (n : Nat) (s : DM) : DM :=
  if n < 8 ∧ present s.1 (0xA0 + n) ∧ isActive s.1 (0xA0 + n) then
    coresSettle (onDev (fun d => (rstMod (fun r => { r with halted := addOnce r.halted n }) d).put CORE_STATUS_HALTED 1 n) s)
  else s

/-! ### Meanings -/

/-- A write by master `m` to a register of SYS that may store to memory or reset the device. -/
def sysWrite (m off : Nat) (f : DM → DM) (s : State) : Host.Outcome State Fault Refusal :=
  updMem s (cmdWriteMem 0 off m (fun d mem => f (d, mem)))

def execPowerOnReset (pwrLow : Bool) (monitors : List Nat) (s : State) : Host.Outcome State Fault Refusal :=
  updMemAlways s (fun d m => powerFails pwrLow monitors (d, m))
def execSupplyMonitorRelease (n : Nat) (s : State) : Host.Outcome State Fault Refusal :=
  updAlways s (rstMod (fun r => { r with monitors := r.monitors.filter (· != n) }))
def execResetBall (s : State) : Host.Outcome State Fault Refusal := updMemAlways s (fun d m => resetBallLow (d, m))
def execResetInputsHigh (s : State) : Host.Outcome State Fault Refusal :=
  updAlways s (rstMod (fun r => { r with pwrGood := true, resetN := true, counting := r.asserted }))
def execSwResetWarm (m key : Nat) (s : State) : Host.Outcome State Fault Refusal :=
  sysWrite m 0x054 (resetCtrl m (2 ^ 16 * (key % 2 ^ 16) + 1)) s
def execSwResetCold (m key : Nat) (s : State) : Host.Outcome State Fault Refusal :=
  sysWrite m 0x054 (resetCtrl m (2 ^ 16 * (key % 2 ^ 16) + 2)) s
def execWarmResetAssert (s : State) : Host.Outcome State Fault Refusal := updMemAlways s (fun d m => warmAssert (d, m))
def execInternalResetRelease (boot : Nat) (ep : Bool) (width : Nat) (otpFault : Bool) (s : State) :
    Host.Outcome State Fault Refusal := updMemAlways s (fun d m => resetReleases boot ep width otpFault (d, m))
def execThermalTrip (s : State) : Host.Outcome State Fault Refusal := updMemAlways s (fun d m => thermalTrips (d, m))
def execThermalRecover (s : State) : Host.Outcome State Fault Refusal :=
  updAlways s (rstMod (fun r => { r with hot := false }))
def execDebugResetRequest (s : State) : Host.Outcome State Fault Refusal := updMem s (fun d m => debugReset (d, m))
def execPcieFundamentalReset (s : State) : Host.Outcome State Fault Refusal := upd s pcieReset
def execPcieTrainingStart (s : State) : Host.Outcome State Fault Refusal := upd s pcieTrains

def execPrepStart (m v : Nat) (s : State) : Host.Outcome State Fault Refusal :=
  sysWrite m 0x048 (onDev (prepWrite m v)) s
def execPreparationDone (u : Nat) (s : State) : Host.Outcome State Fault Refusal := upd s (prepDone u)
def execPreparationTimeout (u : Nat) (s : State) : Host.Outcome State Fault Refusal := upd s (prepTimeout u)
def execCalStepOverrun (n : Nat) (s : State) : Host.Outcome State Fault Refusal := upd s (calOverrun n)
def execQuickCalDone (temp : Int) (s : State) : Host.Outcome State Fault Refusal :=
  updMem s (fun d m => quickDone temp (d, m))
def execReferenceAbsentAtReset (s : State) : Host.Outcome State Fault Refusal := upd s referenceAbsent
def execReferenceAppear (s : State) : Host.Outcome State Fault Refusal :=
  updAlways s (fun d => if frozen d then refSeen true d else referenceAppears d)
def execTrnDonePass (m c : Nat) (s : State) : Host.Outcome State Fault Refusal :=
  upd s (cmdWrite (pDram c + 2) 0x070 m (trnPass c))
def execTrnDoneFail (m c : Nat) (s : State) : Host.Outcome State Fault Refusal :=
  upd s (cmdWrite (pDram c + 2) 0x070 m (trnFail c))

def execBootImageVerified (image : Option (List Byte)) (s : State) : Host.Outcome State Fault Refusal :=
  updMem s (fun d m => imageEnds image (d, m))
def execUartImageArrived (image : List Byte) (s : State) : Host.Outcome State Fault Refusal :=
  updMem s (fun d m => uartImage image (d, m))
def execBrynRecovGo (m v : Nat) (s : State) : Host.Outcome State Fault Refusal := upd s (recovWrite m v)

def execWdogKick (m v : Nat) (s : State) : Host.Outcome State Fault Refusal := sysWrite m 0x05C (onDev (wdogKickWrite v)) s
def execWdogHalfTimeout (s : State) : Host.Outcome State Fault Refusal :=
  upd s (fun d => if d.on SYS_WDOG_CFG_EN then raiseBit 0 6 d else d)
def execWdogExpire (s : State) : Host.Outcome State Fault Refusal := updMem s (fun d m => wdogExpires (d, m))

def execShutdownStart (m v : Nat) (s : State) : Host.Outcome State Fault Refusal :=
  sysWrite m 0x068 (shutdownWrite m (setBit v 0)) s
def execShutdownPhaseEnd (s : State) : Host.Outcome State Fault Refusal := updMem s (fun d m => phaseEnds (d, m))
def execShutdownGraceEnd (s : State) : Host.Outcome State Fault Refusal := updMem s (fun d m => graceEnds (d, m))
def execShutdownCoreTimeout (s : State) : Host.Outcome State Fault Refusal := updMem s (fun d m => coreTimeout (d, m))
def execCoreHalt (n : Nat) (s : State) : Host.Outcome State Fault Refusal := updMem s (fun d m => coreHalts n (d, m))

end Sys2Proof.Machine
end

