-- ==== Sys2Proof/Machine/Operands.lean ====
section
/-! DEFINITION. Which field, and which element of it, a word of the register space holds: regular arrays, packed fields,
and the fields that an index register selects (spec/02_register_model.md R41, R42 and the register tables of the
chapters). -/

namespace Sys2Proof.Machine

open Sys2Proof

/-- The index that the index registers of a page select for its indexed fields at `off`, where `w` tells a write from a
read: the staging words of STA are written at their own place and read from the active entry. -/
def selIndex (w : Bool) (d : Dev) (h n off : Nat) : Nat :=
  let sta := d.rd STA_IDX_ENTRY
  if h = 0x03 then d.rd INTR_ROUTE_IDX_SOURCE
  else if h = 0x18 then d.rd QMGR_Q_IDX_QUEUE
  else if h = 0x34 then d.rd RADIO_STA_OFS_IDX_ENTRY n
  else if h = 0x49 then (if off < 0x80 then d.rd AIR_RES_IDX_ENTRY else d.rd AIR_GRP_IDX_GROUP)
  else if h = 0x51 then (if w then staging else sta)
  else if h = 0x52 then (if w then staging else sta)
  else if h = 0x53 then 9 * sta + min 8 (d.rd STA_TID_TID)
  else if h = 0x5D then d.rd OM_LINK_IDX_LINK
  else if h = 0x5E then d.rd NBR_IDX_ENTRY
  else if h = 0x63 then
    (if off = 0x064 then d.rd WAY_STA_IDX_STATION
     else if off = 0x06C then d.rd WAY_BSS_IDX_BSS
     else if off = 0x074 then d.rd WAY_VLAN_IDX_VLAN
     else 16 * d.rd WAY_FLOOD_IDX_GROUP + d.rd WAY_FLOOD_IDX_MEMBER)
  else if h = 0x64 then d.rd WAY_POL_IDX_POLICER
  else if h = 0x65 then d.rd WAY_ACL_IDX_RULE
  else if h = 0x70 then d.rd TM_OUT_IDX_OUTPUT
  else if h = 0x71 then d.rd TM_Q_IDX_QUEUE
  else if h = 0x72 then 8 * d.rd TM_GRP_IDX_OUTPUT + d.rd TM_GRP_IDX_GROUP
  else if h = 0x73 then d.rd TM_SHP_IDX_SHAPER
  else if h = 0x7C then d.rd GATE_IDX_LIST
  else if h = 0x7D then 1024 * d.rd GATE_IDX_LIST + d.rd GATE_ENT_IDX_ENTRY
  else if h = 0x89 then d.rd CIPH_CTX_IDX_CTX
  else if h = 0x8C then d.rd KEY_IDX_SLOT
  else if h = 0x99 then d.rd DRV_TASK_IDX_TASK
  else if h = 0x9B then d.rd DRV_TMR_IDX_TIMER
  else if h = 0xB2 then d.rd DRAM_DLY_IDX_LANE n
  else if h = 0xD1 then d.rd CVY_MBR_IDX_MEMBER
  else if h = 0xF0 then d.rd DIAG_LOG_IDX_ENTRY
  else 0

/-- Registers that a packed field of step `pack` and `count` elements occupies. -/
def packWords (F : Fld) : Nat := (F.count * F.pack + 31) / 32

/-- Element of a regular array of step `step` at byte `off`, below `top`. -/
def strideElem (F : Fld) (off step top : Nat) : Option Nat :=
  if F.off ≤ off ∧ (off - F.off) % step = 0 ∧ (off - F.off) / step < top then some ((off - F.off) / step) else none

/-- Instance and element of field `F` that the word at byte `off` of page `p` holds. -/
def Fld.elemAt (w : Bool) (d : Dev) (F : Fld) (p off : Nat) : Option (Nat × Nat) :=
  if F.perPage ≠ 0 then (strideElem F off F.stride F.perPage).map (fun e => (0, (p - F.page) * F.perPage + e))
  else
    let n := instOf p
    if F.pack ≠ 0 then (strideElem F off 4 (packWords F)).map (fun e => (n, e * (32 / F.pack)))
    else if F.stride ≠ 0 then
      (strideElem F off F.stride F.count).map (fun e =>
        (n, if F.win = 1 then e else selIndex w d F.page n off * F.count + e))
    else if F.off = off then some (n, if F.count = 1 then 0 else selIndex w d F.page n off)
    else none

/-- A field at a word, with its instance and element. -/
structure Slot where
  fld : Fld
  inst : Nat
  idx : Nat

/-- The fields that the word at byte `off` of page `p` holds. -/
def slotsAt (w : Bool) (d : Dev) (p off : Nat) : List Slot :=
  (pageFlds (homePage p)).filterMap (fun F => (F.elemAt w d p off).map (fun x => ⟨F, x.1, x.2⟩))

/-- The bits of a word that a field shows; fields with access WO and W1S read zero (R14). -/
def Slot.word (d : Dev) (x : Slot) : Nat :=
  if x.fld.pack ≠ 0 then
    ((List.range (32 / x.fld.pack)).map (fun k =>
      if x.idx + k < x.fld.count then d.rd x.fld x.inst (x.idx + k) * 2 ^ (x.fld.pack * k) else 0)).sum
  else match x.fld.acc with
    | .wo => 0
    | .w1s => 0
    | _ => d.rd x.fld x.inst x.idx * 2 ^ x.fld.lo

/-- The word that the stored fields at `off` of page `p` spell. -/
def plainWord (d : Dev) (p off : Nat) : Nat := ((slotsAt false d p off).map (Slot.word d)).sum

/-- The value that the word `v` brings to a field. -/
def Slot.part (v : Nat) (x : Slot) : Nat := bitsOf v x.fld.hi x.fld.lo

/-- The effect of the word `v` on a field by its access code (R14). -/
def Slot.write (v : Nat) (d : Dev) (x : Slot) : Dev :=
  match x.fld.acc with
  | .rw => d.put x.fld (x.part v) x.inst x.idx
  | .rws => d.put x.fld (x.part v) x.inst x.idx
  | .rwl => d.put x.fld (x.part v) x.inst x.idx
  | .w1c => d.put x.fld (andNot (d.rd x.fld x.inst x.idx) (x.part v)) x.inst x.idx
  | _ => d

/-- A write of the word `v` to the stored fields at `off` of page `p`, but those whose lowest bit is in `skip`. -/
def putWord (skip : List Nat) (p off v : Nat) (d : Dev) : Dev :=
  ((slotsAt true d p off).filter (fun x => !has skip x.fld.lo)).foldl (Slot.write v) d

/-- Software can write the field. -/
def Slot.writable (x : Slot) : Bool := x.fld.acc != .ro

/-- A write of `v` may not go through because of the fields that satisfy `held`: every writable field of the register does,
or one of them would change. -/
def writeHeld (d : Dev) (held : Slot → Bool) (p off v : Nat) : Bool :=
  let l := (slotsAt true d p off).filter Slot.writable
  l.any held && (l.all held || l.any (fun x => held x && d.rd x.fld x.inst x.idx != x.part v))

end Sys2Proof.Machine
end

