-- ==== Sys2Proof/Machine/Flags.lean ====
section
/-! DEFINITION. What registers show that no stored field holds: status bits and levels computed from the state, the
header of a page, registers that read zero, and the interrupt causes that stand while a condition holds. -/

namespace Sys2Proof.Machine

open Sys2Proof

/-- `x` is the field `F`. -/
def Slot.is (x : Slot) (F : Fld) : Bool := x.fld.page == F.page && x.fld.off == F.off && x.fld.lo == F.lo

/-- INTR_PENDk. -/
def pendWord (d : Dev) (k : Nat) : Nat :=
  ((List.range 32).map (fun b => if numberOn d (32 * k + b) then 2 ^ b else 0)).sum

/-- Milliseconds since tick `t`, saturating. -/
def msSince (d : Dev) (t : Nat) : Nat := min (2 ^ 32 - 1) ((d.tb.elapsed - t) / 500000)

/-- STA_W7 of entry `e`; before its first frame the spec gives no age, and the value is open. -/
def idleMs (d : Dev) (e : Nat) : Nat :=
  if staState d e = stFREE then 0
  else if (staOf d e).last.isEmpty then Config.freeValue d.drawn % 2 ^ 32 else msSince d (lastHeard d e)

/-- L_RX_AGE of link `l` of entry `e`, open before its first frame there. -/
def linkAge (d : Dev) (e l : Nat) : Nat :=
  if staState d e = stFREE then 0
  else match tabFind (staOf d e).last l with
    | some t => msSince d t
    | none => Config.freeValue d.drawn % 2 ^ 32

/-- Entry `k` of GATE_ENT as the BANK selected shows it (R497): field INTERVAL, OP or STATES. -/
def gateEntry (d : Dev) (f : GateEnt → Nat) (i : Nat) : Nat :=
  match (gateOf d (i / 1024)).run with
  | some r => ((r.ents[i % 1024]?).map f).getD 0
  | none => 0

/-- The status fields of the blocks of the fabric, the Serai and the queues that are computed from the state. -/
def viewFabric (d : Dev) (x : Slot) : Option Nat :=
  if x.is DEV_FEAT_OFFER then some (offered d.variant x.idx)
  else if x.is DRV_FEAT_ACCEPT then (if x.idx = 0 ∨ 4 ≤ x.idx then some 0 else none)
  else if x.is INTR_PEND_LEVEL then some (pendWord d x.idx)
  else if x.is SERAI_FREE_CELLS then some (freeCells d)
  else if x.is SERAI_SHARED_FREE_CELLS then some (freeShared d).toNat
  else if x.is SERAI_QUAR_COUNT then some d.ser.quar.length
  else if x.is CLS_LIMIT_NOW_LIMIT_NOW then some (limitNow d x.idx)
  else if x.is QMGR_Q_DEPTH_DEPTH then some (qList d x.idx).length
  else if x.is QMGR_STORE_FREE then some (storeFree d)
  else if x.is DIAG_SUM_PAGE then some (diagSum d x.idx)
  else if x.is GPIO_IN_IN then some d.edge.gpio
  else if x.is PMB_STATUS_ALERT then some (b2n d.edge.alert)
  else if x.is UART_STATUS_TX_LEVEL then some d.edge.uartTx.length
  else if x.is UART_STATUS_RX_LEVEL then some d.edge.uartRx.length
  else none

/-- The status fields of the Drover, the cores, the Waystation, the traffic manager and the gates. -/
def viewFlow (d : Dev) (x : Slot) : Option Nat :=
  if x.is DRV_POST_FREE_ENT_FREE then some (1024 - d.sh.posts.length)
  else if x.is DRV_ITEM_HELD_HELD then some (itemCount d)
  else if x.is DRV_TASK_MASK_MASK then some (taskOf d x.idx).mask
  else if x.is DRV_TASK_ITEMS_IN_SERVICE then some (b2n (taskOf d x.idx).service.isSome)
  else if x.is DRV_TASK_ITEMS_COUNT then some (taskOf d x.idx).items.length
  else if x.is CORE_STATUS_GATED then some (b2n (isOff d (pCore x.inst) && d.on CORE_PWR_OFF_MODE x.inst))
  else if x.is WAY_OUT_FLOWS then some (d.way.flows.filter (fun e => e.2 != 0)).length
  else if x.is WAY_CT_HOT_HOT then some d.way.hot.length
  else if x.is WAY_BR_COUNT_ENTRIES then some (brCount d)
  else if x.is TM_OUT_STATUS_BUSY then some (b2n !(handedTo d x.idx).isEmpty)
  else if x.is TM_Q_STATUS_BLOCK then some (blockReport d x.idx)
  else if x.is GATE_ENT_INTERVAL_INTERVAL then
    (if d.on GATE_ENT_IDX_BANK then some (gateEntry d GateEnt.interval x.idx) else none)
  else if x.is GATE_ENT_OP_OP then (if d.on GATE_ENT_IDX_BANK then some (gateEntry d GateEnt.op x.idx) else none)
  else if x.is GATE_ENT_OP_STATES then (if d.on GATE_ENT_IDX_BANK then some (gateEntry d GateEnt.states x.idx) else none)
  else none

/-- The status fields of the radios' blocks, the stations, the edges, the Convoy, the time and the RTC. -/
def viewAir (d : Dev) (x : Slot) : Option Nat :=
  if x.is STRC_SEP_SEP then some (separation d)
  else if x.is OM_SEEN_COUNT then some (seenCount d)
  else if x.is CVY_MBR_AGE_MS then some (memberAge d x.idx)
  else if x.is STA_W7_IDLE_MS then some (idleMs d x.idx)
  else if x.is L_RX_AGE_MS then some (linkAge d (x.idx / 3) (x.idx % 3))
  else if x.is STA_BSS_ADDR_HI_MLD then some (b2n (mldOn d && x.idx % 16 == 0))
  else if x.is TIME_NOW_S_LO_S then some (fullS (fullNow d))
  else if x.is TIME_NOW_S_HI_S then some (fullS (fullNow d) / 2 ^ 32)
  else if x.is TIME_NOW_FRAC_FRAC then some (fullFrac (fullNow d))
  else if x.is RTC_STATUS_TRIM_SRC then some (trimSrc d)
  else if x.is RTC_STATUS_VBAT_LOW then some (b2n (vbatLow d))
  else if x.is RTC_TRIM_TRIM then some (twos 16 (activeTrim d))
  else none

/-- The bits of a word that a field shows. -/
def Slot.show (d : Dev) (x : Slot) : Nat :=
  match (viewFabric d x <|> viewFlow d x <|> viewAir d x) with
  | some v => v % 2 ^ x.fld.width * 2 ^ x.fld.lo
  | none => x.word d

/-- The register at `off` of page `p` stands apart: it reads zero and ignores writes (R213, R295, R349, R517, R732, and the
register tables of GATE, the radios, TIME and DRAM). -/
def regHidden (w : Bool) (d : Dev) (p off : Nat) : Bool :=
  let h := homePage p
  let n := instOf p
  let block := decide (0x040 ≤ off)
  if 0x48 ≤ h ∧ h < 0x50 then block && !airOn d
  else if 0xD0 ≤ h ∧ h < 0xD4 then block && !govern d pConvoy 3 5
  else if h = 0x7C then block && (!gateFeat d || (decide (0x044 ≤ off) && decide (off < 0x088) && decide (9 ≤ d.rd GATE_IDX_LIST)))
  else if h = 0x7D then block && (!gateFeat d || (decide (0x044 ≤ off) && decide (9 ≤ d.rd GATE_IDX_LIST)) ||
    (w && decide (0x044 ≤ off) && d.on GATE_ENT_IDX_BANK))
  else if h = 0x31 then decide (0x080 + 0x10 * chainsPresent d n ≤ off) && decide (off < 0x100)
  else if h = 0x34 then
    (decide (0x060 ≤ off) && decide (off < 0x070) && n != 1) ||
    (off == 0x04C && decide (stationCount d.variant ≤ d.rd RADIO_STA_OFS_IDX_ENTRY n))
  else if h = 0x51 then !w && decide (0x060 ≤ off) && decide (off < 0x088) && decide (stationCount d.variant ≤ d.rd STA_IDX_ENTRY)
  else if h = 0x52 then !w && block && decide (stationCount d.variant ≤ d.rd STA_IDX_ENTRY)
  else if h = 0x53 then decide (0x044 ≤ off) && decide (off < 0x05C) && decide (stationCount d.variant ≤ d.rd STA_IDX_ENTRY)
  else if h = 0x81 then decide (0x140 ≤ off) && decide (off < 0x1A0) && decide (off % 0x20 < 8)
  else if h = 0xB0 then off == 0x044 && n == 1
  else false

/-- The word that the register at `off` of page `p` shows. -/
def blockWord (d : Dev) (p off : Nat) : Nat :=
  if regHidden false d p off then 0 else ((slotsAt false d p off).map (Slot.show d)).sum

/-! ### The page header (R42–R46) -/

/-- BLOCK of ID: the first page of the block, for a family that of instance 0. -/
def idBlock (p : Nat) : Nat :=
  let f := firstPage p
  if 0x30 ≤ f ∧ f < 0x40 then 0x30
  else if 0xA0 ≤ f ∧ f < 0xA8 then 0xA0
  else if 0xB0 ≤ f ∧ f < 0xB8 then 0xB0
  else if 0xC0 ≤ f ∧ f < 0xC8 then 0xC0
  else if 0xC8 ≤ f ∧ f < 0xCE then 0xC8
  else f

/-- ID of page `p`: the design version is 0x20. -/
def idWord (p : Nat) : Nat := 2 ^ 16 * idBlock p + 2 ^ 8 * instOf (firstPage p) + 0x20

/-- STATUS of the block at first page `p`; ERROR mirrors ERR_CODE.VALID. -/
def statusWord (d : Dev) (p : Nat) : Nat :=
  d.rd HDR_STATUS_ACTIVE p + 2 * d.rd HDR_STATUS_DRAINING p + 4 * d.rd HDR_STATUS_RESTART_PENDING p +
  8 * d.rd HDR_ERR_CODE_VALID p

/-- ERR_CODE. -/
def errCodeWord (d : Dev) (p : Nat) : Nat :=
  2 ^ 31 * d.rd HDR_ERR_CODE_VALID p + 2 ^ 24 * d.rd HDR_ERR_CODE_MORE p + 2 ^ 16 * d.rd HDR_ERR_CODE_SEVERITY p +
  2 ^ 14 * d.rd HDR_ERR_CODE_KIND p + 2 ^ 8 * d.rd HDR_ERR_CODE_MASTER p + d.rd HDR_ERR_CODE_CODE p

/-- The header word at `off` of page `p`; of a further page, ID alone reads as on the first (R43). -/
def headerWord (d : Dev) (p off : Nat) : Nat :=
  if off = 0 then idWord p
  else if firstPage p ≠ p then 0
  else match off with
    | 0x004 => featWord d p
    | 0x008 => d.rd HDR_FEAT_ACCEPT_ACCEPT p
    | 0x00C => ctrlValue d p
    | 0x010 => statusWord d p
    | 0x014 => d.rd HDR_INT_RAW_RAW p
    | 0x018 => d.rd HDR_INT_EN_EN p
    | 0x01C => intStat d p
    | 0x024 => errCodeWord d p
    | 0x028 => d.rd HDR_ERR_ADDR_LO_ADDR p
    | 0x02C => d.rd HDR_ERR_ADDR_HI_ADDR p
    | 0x030 => 2 ^ 17 * d.rd HDR_LOCK_CTRL p + 2 ^ 16 * d.rd HDR_LOCK_CFG p
    | _ => 0

/-! ### Causes that stand while a condition holds -/

/-- The bits of INT_RAW of the block at first page `p` whose condition holds at this moment: a write of 1 does not clear
them. DEDUCED from "raised while" and "stays raised until". -/
def levelCauses (d : Dev) (p : Nat) : Nat :=
  let bit := fun (b : Bool) (k : Nat) => if b then 2 ^ k else 0
  if p = pRing then bit (d.rd HR_EVENT_PEND_RING 0 0 != 0 || d.rd HR_EVENT_PEND_RING 0 1 != 0) 3
  else if p = pSta then bit (!d.sta.evts.isEmpty) 3
  else if p = pWay then bit (!d.way.expiry.isEmpty) 3
  else if p = 0xB0 ∨ p = 0xB4 then bit (!(chan d (instOf p)).log.isEmpty) 5
  else if p = pTime then bit (fifoHeld d) 8 + bit (capHeld d) 9
  else if 0xA0 ≤ p ∧ p < 0xA8 then bit (!coreBusy d (p - 0xA0) && !(slotOf d (p - 0xA0)).isEmpty) 5
  else if p = 0x30 ∨ p = 0x35 ∨ p = 0x3A then bit (d.on RADIO_FREQ_REF_CLAMP (instOf p)) 8
  else if p = pPmb then bit d.edge.alert 3
  else if p = pGpio then bit (d.rd GPIO_INT_F_F &&& d.rd GPIO_INT_EN_EN != 0) 3
  else if p = pUart then
    bit (isActive d pUart && !d.edge.uartRx.isEmpty) 3 + bit (isActive d pUart && decide (d.edge.uartTx.length ≤ 16)) 4
  else 0

/-- A write of `v` to INT_RAW. -/
def intRawClear (p v : Nat) (d : Dev) : Dev :=
  withLines p (fun x => x.put HDR_INT_RAW_RAW (andNot (x.rd HDR_INT_RAW_RAW p) (andNot v (levelCauses x p))) p) d

/-- A write of 1 to ERR_CODE.VALID: VALID, MORE, every field of ERR_CODE and ERR_ADDR clear (R46). -/
def errClear (p : Nat) (d : Dev) : Dev :=
  [HDR_ERR_CODE_VALID, HDR_ERR_CODE_MORE, HDR_ERR_CODE_SEVERITY, HDR_ERR_CODE_KIND, HDR_ERR_CODE_MASTER, HDR_ERR_CODE_CODE,
    HDR_ERR_ADDR_LO_ADDR, HDR_ERR_ADDR_HI_ADDR].foldl (fun e F => e.put F 0 p) d

end Sys2Proof.Machine
end

