-- ==== Sys2Proof/Machine/Bus.lean ====
section
/-! DEFINITION. What a write of a register does beside its fields: the registers that start an action, page by page, as the
block chapters state them. -/

namespace Sys2Proof.Machine

open Sys2Proof

/-- The fields of the word take the value (R14). -/
def plain (p off v : Nat) (s : DM) : DM := onDev (putWord [] p off v) s

/-- The element of an array of registers that begins at `base` with step `step`, of which `off` is byte `k`. -/
def armAt (off base step count k : Nat) : Option Nat :=
  if base + k ≤ off ∧ (off - (base + k)) % step = 0 ∧ (off - (base + k)) / step < count then some ((off - (base + k)) / step)
  else none

/-- A write discarded with a code of the block's own. -/
def discardWith (code m p off : Nat) (s : DM) : DM := onDev (refuseWrite (firstPage p) code m (regAddr p off)) s

/-- R40: SYS_ABSENT_CLR.CLR clears the count of writes to absent pages. -/
def absentClear (v : Nat) (d : Dev) : Dev :=
  if v.testBit 0 then ((d.put SYS_ABSENT_HITS_COUNT 0).put SYS_ABSENT_LAST_MASTER 0).put SYS_ABSENT_LAST_PAGE 0 else d

/-! ### SYSFEAT (R55–R61) -/

/-- Device bit `b` of word `w` is in the words `l` of DRV_FEAT1–3. -/
def wordsHave (l : List Nat) (w b : Nat) : Bool := (l.getD (w - 1) 0).testBit b

/-- The requirements of R57 in the order of their bits: word and bit, and the word and bit it requires. -/
def requirements : List ((Nat × Nat) × (Nat × Nat)) :=
  [((1, 1), (1, 0)), ((1, 2), (1, 1)), ((1, 5), (1, 4)), ((2, 2), (2, 1)), ((2, 4), (2, 1)), ((2, 4), (1, 3)),
   ((3, 6), (3, 5)), ((3, 6), (1, 3))]

/-- The lowest bit of `l` whose requirement is not in `l`. -/
def unmet (l : List Nat) : Option (Nat × Nat) :=
  (requirements.find? (fun r => wordsHave l r.1.1 r.1.2 && !wordsHave l r.2.1 r.2.2)).map (·.1)

/-- R59: a write of SYSFEAT_COMMIT by master `m`. -/
def commitWrite (m v : Nat) (d : Dev) : Dev :=
  if d.on SYSFEAT_STATUS_COMMITTED then refuseWrite 1 0x03 m (regAddr 1 0x080) d
  else if !v.testBit 0 then d
  else if d.sh.commit.isSome then refuseWrite 1 0x03 m (regAddr 1 0x080) d
  else
    let l := [1, 2, 3].map (fun w => d.rd DRV_FEAT_ACCEPT 0 w)
    let k := [1, 2, 3].map (fun w => d.rd DRV_FEAT_ACCEPT 0 w &&& offered d.variant w)
    let d1 := ((((d.put SYSFEAT_STATUS_DEP_BIT 0).put SYSFEAT_STATUS_DEP_WORD 0).put SYSFEAT_STATUS_REJECTED 0).put
      SYSFEAT_STATUS_MASKED (b2n (l != k)))
    let d2 := [1, 2, 3].foldl (fun e w => e.put DRV_FEAT_ACCEPT (k.getD (w - 1) 0) 0 w) d1
    { d2 with sh := { d2.sh with commit := some k } }

/-- R60: FEAT_ACCEPT of the block at first page `p` at a successful commit. -/
def commitPage (p : Nat) (d : Dev) : Dev :=
  if !present d p then d
  else
    let on := match governBit p with
      | some (w, b) => (d.rd DRV_FEAT_ACCEPT 0 w).testBit b
      | none => true
    d.put HDR_FEAT_ACCEPT_ACCEPT (if on then d.rd HDR_FEAT_ACCEPT_ACCEPT p &&& featWord d p else 0) p

/-- R59, R60: the commit in progress ends. -/
def commitDone (d : Dev) : Dev :=
  match d.sh.commit with
  | none => d
  | some l =>
    let d1 : Dev := { d with sh := { d.sh with commit := none } }
    match unmet l with
    | some (w, b) => ((d1.put SYSFEAT_STATUS_REJECTED 1).put SYSFEAT_STATUS_DEP_WORD w).put SYSFEAT_STATUS_DEP_BIT b
    | none => levelFollow (blockPages.foldl (fun e p => commitPage p e) (d1.put SYSFEAT_STATUS_COMMITTED 1))

/-! ### Pages of the fabric and the queues -/

/-- SYS. -/
def sysPageWrite (m off v : Nat) (s : DM) : DM :=
  if off = 0x048 then onDev (prepWrite m v) s
  else if off = 0x04C then onDev levelFollow (plain 0 off v s)
  else if off = 0x054 then resetCtrl m v s
  else if off = 0x058 then
    onDev (fun d => if d.on SYS_WDOG_CFG_EN && !s.1.on SYS_WDOG_CFG_EN then wdogRestart d else d) (plain 0 off v s)
  else if off = 0x05C then onDev (wdogKickWrite v) s
  else if off = 0x068 then shutdownWrite m v s
  else if off = 0x0F8 then onDev (absentClear v) s
  else plain 0 off v s

/-- SYSFEAT: DRV_FEAT0 and DRV_FEAT4–7 ignore writes; DRV_FEAT is closed while a commit is in progress (R59). -/
def sysfeatPageWrite (m off v : Nat) (s : DM) : DM :=
  if off = 0x080 then onDev (commitWrite m v) s
  else match armAt off 0x060 4 8 0 with
    | some w => if w = 0 ∨ 4 ≤ w then s else if s.1.sh.commit.isSome then discardWith 0x03 m 1 off s else plain 1 off v s
    | none => plain 1 off v s

/-- PACE: the voltage set and the flags follow (R84–R88). -/
def pacePageWrite (off v : Nat) (s : DM) : DM :=
  onDev (if off = 0x044 then vsetFollow else paceFollow) (plain 8 off v s)

/-- SERAI page 0. -/
def seraiPageWrite (m off v : Nat) (s : DM) : DM :=
  if off = 0x040 then
    onDev (fun d => if d.on SERAI_CFG_SCRUB_EN then d else { d with ser := { d.ser with scrubPos := 0 } })
      (plain pSerai off v s)
  else if off = 0x058 then onDev (quarRelease v) s
  else if off = 0x060 then onDev (classApply v) s
  else match armAt off 0x080 0x10 8 0, armAt off 0x080 0x10 8 8, armAt off 0x080 0x10 8 0xC with
    | some w, _, _ => onDev (allocReq m w v) s
    | _, some w, _ => onDev (allocNext m w v) s
    | _, _, some w => onDev (allocFree m w v) s
    | _, _, _ => plain pSerai off v s

/-- SERAI page 2 (R157, R158). -/
def spillPageWrite (m off v : Nat) (s : DM) : DM :=
  if off = 0x040 then
    onDev (fun d => if v.testBit 0 = d.on SPILL_CFG_EN then d else if v.testBit 0 then spillEnable m d else spillDisable d) s
  else if 0x044 ≤ off ∧ off < 0x050 ∧ (s.1.on SPILL_CFG_EN ∨ s.1.on SPILL_OUT_CARAVANS) then discardWith 0x04 m 0x12 off s
  else plain 0x12 off v s

/-- QMGR page 0. QMGR_Q_CFG is open only while its queue is DISABLED. -/
def qmgrPageWrite (m off v : Nat) (s : DM) : DM :=
  if off = 0x060 then onDev (qCmdWrite m v) s
  else if off = 0x044 ∧ qState s.1 (qSelected s.1) ≠ qDisabled then discardWith 0x42 m pQmgr off s
  else plain pQmgr off v s

/-- The registers of ring `n`: static fields change only while the ring is off (R204), and the enable acts. -/
def ringRegWrite (m p n off v : Nat) (d : Dev) (mem : Memory) : DM :=
  let k := (off - 0x100) % 0x40
  if k = 0x20 then ringArm n v d mem
  else if d.on HR_CFG_EN 0 n && writeHeld d (fun x => x.fld.stat) p off v then
    (refuseWrite pRing 0x40 m (regAddr p off) d, mem)
  else if k = 0 then
    let s : DM := (putWord [31] p off v d, mem)
    if v.testBit 31 then (if d.on HR_CFG_EN 0 n then s else onDev (ringEnable n) s)
    else if d.on HR_CFG_EN 0 n then ringDisable n s.1 s.2 else s
  else (putWord [] p off v d, mem)

/-- The ring whose registers lie at `off` of page `p` of HOSTRING's pages 1 to 4. -/
def ringAt (p off : Nat) : Nat := 16 * (p - 0x21) + (off - 0x100) / 0x40

/-- HOSTRING pages 1 to 4. -/
def ringsPageWrite (m p off v : Nat) (s : DM) : DM :=
  if 0x100 ≤ off ∧ off < 0x500 then
    ringGuard m (ringAt p off) (ringRegWrite m p (ringAt p off) off v) s.1 s.2
  else s

/-- HOSTRING page 5: the doorbells. -/
def ringIdxPageWrite (m off v : Nat) (s : DM) : DM :=
  match armAt off 0x100 8 64 0 with
  | some n => ringGuard m n (fun d mem => (doorbell m n v d mem, mem)) s.1 s.2
  | none => s

/-! ### Pages of the radios, multi-link, the air grid and the stations -/

/-- The pages of radio `n`; `k` is the page within the radio. -/
def radioPageWrite (m p n k off v : Nat) (s : DM) : DM :=
  if k = 0 ∧ off = 0x040 then
    plain p off (if s.1.variant ≠ .nv9700 ∧ n = 1 then v % 16 else v) s
  else if k = 0 ∧ off = 0x05C then plain p off (v &&& RADIO_DETECT_CFG_FORMAT_EN.reset n 0) s
  else if k = 0 ∧ off = 0x04C then (if v.testBit 0 then onDev (chanApply m n) s else s)
  else if k = 2 ∧ off = 0x040 then
    onDev (fun d => if v.testBit 31 then d.put RADIO_FIR_CTRL_PENDING 1 n else d) (plain p off v s)
  else if k = 3 ∧ off = 0x040 then onDev (fun d => if v.testBit 31 then maskApply m n d else d) (plain p off v s)
  else if k = 4 ∧ off = 0x04C then
    onDev (fun d => if v.testBit 31 then d else d.put RADIO_STA_OFS_DATA_COUNT 0 n (d.rd RADIO_STA_OFS_IDX_ENTRY n))
      (plain p off v s)
  else plain p off v s

/-- STRC. -/
def strcPageWrite (off v : Nat) (s : DM) : DM :=
  if off = 0x044 then (if v.testBit 0 then onDev trainNow s else s) else onDev pairSettle (plain pStrc off v s)

/-- MLD. -/
def mldPageWrite (m p off v : Nat) (s : DM) : DM :=
  match (if p = pMld + 1 then armAt off 0x040 0x10 3 4 else none) with
  | some l => onDev (linkCmdWrite m l v) s
  | none => onDev pairSettle (plain p off v s)

/-- AIR: while an apply is pending, staging and AIR_TBL_APPLY are closed (R309). -/
def airPageWrite (m p off v : Nat) (s : DM) : DM :=
  let staging := (decide (0x044 ≤ off) && decide (off < 0x054)) || (decide (0x084 ≤ off) && decide (off < 0x094)) || off == 0x060
  if p ≠ pAir + 1 then plain p off v s
  else if staging && s.1.on AIR_TBL_STATUS_PENDING then discardWith 0x41 m p off s
  else if off = 0x058 then onDev (resCmdWrite v) s
  else if off = 0x060 then (if v.testBit 0 then onDev (tblApply m) s else s)
  else plain p off v s

/-- STA. TX_SN is open only in PENDING and FROZEN. -/
def staPageWrite (m p off v : Nat) (s : DM) : DM :=
  let st := staState s.1 (s.1.rd STA_IDX_ENTRY)
  if p = pSta + 1 ∧ off = 0x044 then staTop m v s.1 s.2
  else if p = pSta + 3 ∧ off = 0x044 then onDev (baRxWrite v) s
  else if p = pSta + 3 ∧ off = 0x050 ∧ st ≠ stPENDING ∧ st ≠ stFROZEN then s
  else plain p off v s

/-- OUTRMAC. -/
def outrPageWrite (m p off v : Nat) (s : DM) : DM :=
  if p = pOm + 1 then
    (match armAt off 0x040 4 8 0 with
      | some k => onDev (sfWrite m k v) s
      | none => plain p off v s)
  else if p = pOm + 2 ∧ off = 0x044 then onDev (nbrCmdWrite m v) s
  else if p = pOm + 2 ∧ off = 0x05C then onDev (nbrDriftWrite v) s
  else plain p off v s

/-! ### Pages of the Waystation, the traffic manager and the gates -/

/-- WAY. -/
def wayPageWrite (m p off v : Nat) (s : DM) : DM :=
  if p = pWay + 1 ∧ off = 0x090 then onDev (tblInv (v % 2 ^ 16)) s
  else if p = pWay + 1 ∧ off = 0x094 then ctCmdWrite m v s.1 s.2
  else if p = pWay + 2 ∧ off = 0x050 then onDev (brCmdWrite m v) s
  else if p = pWay + 4 ∧ off = 0x088 then onDev (polBurst v) s
  else if p = pWay + 5 ∧ off = 0x044 then onDev (aclCmdWrite m v) s
  else plain p off v s

/-- TM. -/
def tmPageWrite (m p off v : Nat) (s : DM) : DM :=
  if p = pTm + 1 ∧ off = 0x044 ∧ qState s.1 (s.1.rd TM_Q_IDX_QUEUE) ≠ qDisabled then discardWith 0x41 m p off s
  else if p = pTm + 3 ∧ off = 0x058 then
    (if v.testBit 0 then onDev (fun d => shaperApply m (d.rd TM_SHP_IDX_SHAPER) d) s else s)
  else plain p off v s

/-- GATE: while a commit of the list is pending, its admin registers are closed (R498). -/
def gatePageWrite (m p off v : Nat) (s : DM) : DM :=
  let n := s.1.rd GATE_IDX_LIST
  let admin := (p == pGate && decide (0x048 ≤ off) && decide (off < 0x05C)) || (p == pGate + 1 && decide (0x044 ≤ off))
  if admin && s.1.on GATE_STATUS_PENDING 0 n then discardWith 0x41 m p off s
  else if p = pGate ∧ off = 0x044 then onDev (gateEn n (bitsOf v 31 31)) (onDev (putWord [31] p off v) s)
  else if p = pGate ∧ off = 0x060 then
    let s1 := if v.testBit 1 then onDev (gateCmd gateCancel) s else s
    if v.testBit 0 then onDev (gateCmd (gateCommit m)) s1 else s1
  else plain p off v s

/-! ### Pages of the time and the RTC -/

/-- TIME. -/
def timePageWrite (m p off v : Nat) (s : DM) : DM :=
  if p = pTime ∧ off = 0x060 then timeCmdWord m v s
  else if p = pTime ∧ off = 0x064 ∧ s.1.on TIME_SERVO_CFG_EN then discardWith 0x40 m p off s
  else if p = pTime ∧ off = 0x068 then onDev servoFollow (plain p off v s)
  else if p = pTime + 1 ∧ off = 0x054 then (if v.testBit 0 then smpPush m s else s)
  else match (if p = pTime + 3 then armAt off 0x100 0x20 8 0 else none) with
    | some e => onDev (if v.testBit 31 then evtEnable m e else evtDisable e) (onDev (putWord [31] p off v) s)
    | none => plain p off v s

/-- RTC. -/
def rtcPageWrite (m off v : Nat) (s : DM) : DM :=
  if 0x040 ≤ off ∧ off < 0x064 then onDev (holdWrite ((off - 0x040) / 4) v) s
  else if off = 0x064 then (if v.testBit 0 then onDev (applyWrite m) s else s)
  else if off = 0x068 then
    onDev (fun d => if v.testBit 31 then osfWrite d else d) (onDev (putWord [31] pRtc off v) s)
  else if off = 0x094 then
    onDev (fun d => if d.on RTC_PER_EN && !s.1.on RTC_PER_EN then rtcMod (fun r => { r with per := 0 }) d else d)
      (plain pRtc off v s)
  else if off = 0x098 ∨ (0x0C0 ≤ off ∧ off < 0x100) then onDev (curveFollow m off) (plain pRtc off v s)
  else plain pRtc off v s

/-! ### Pages of the cipher engine, the keys, the Drover and the cores -/

/-- CIPH. -/
def ciphPageWrite (m p off v : Nat) (s : DM) : DM :=
  if p = pCiph + 1 ∧ off = 0x064 then
    onDev (match v % 4 with
      | 1 => ctxWriteEff m
      | 2 => ctxReadEff m
      | 3 => ctxInvalidateEff m
      | _ => id) s
  else if p = pCiph + 2 then
    (match armAt off 0x040 0x20 8 0, armAt off 0x040 0x20 8 0xC with
      | some n, _ => onDev (crEnable n (v.testBit 31)) (onDev (putWord [31] p off v) s)
      | _, some n => onDev (crDoorbellEff m n v) s
      | _, _ => plain p off v s)
  else plain p off v s

/-- A write of KEY_CMD; 0 starts nothing, and an undefined code is refused (R820) where the spec names no RESULT. -/
def keyCmdWrite (m v : Nat) (s : DM) : DM :=
  let d := s.1
  let mem := s.2
  match v % 8 with
  | 0 => s
  | 1 => keyCommand m true (keyLoadEff m none) d mem
  | 2 => keyCommand m false (keySealEff m none) d mem
  | 3 => keyCommand m false (keyExportEff m) d mem
  | 4 => keyCommand m true (keyDeriveEff m) d mem
  | 5 => keyCommand m true keyEraseEff d mem
  | _ => keyCommand m false (fun k e x => (keyRefuseOpen m k e, x)) d mem

/-- KEY page 0, its KEY_PN pair apart. -/
def keyPageWrite (m off v : Nat) (s : DM) : DM := if off = 0x050 then keyCmdWrite m v s else plain pKey off v s

/-- DROVER page 1. -/
def taskPageWrite (m off v : Nat) (s : DM) : DM :=
  if off = 0x044 then taskCmd m v s
  else if off = 0x054 then taskSetWrite v s
  else if off = 0x058 then onDev (taskClrWrite v) s
  else plain (pDrover + 1) off v s

/-- DROVER page 2: window `n` answers core `n` alone; `mask` is the _LO part of DRV_CMD. -/
def drvWindowPageWrite (m off mask v : Nat) (s : DM) : DM :=
  let n := (off - 0x040) / 0x40
  let k := (off - 0x040) % 0x40
  if off < 0x040 ∨ 8 ≤ n then s
  else if k = 0xC then
    (match v % 4 with
      | 1 => turnWrite m n (.wait mask (v.testBit 4)) s
      | 2 => turnWrite m n .yield s
      | 3 => turnWrite m n .preempted s
      | _ => windowAccess m n (0x040 + k) 1 id s)
  else if k = 0x34 then
    (if v % 4 = 0 then windowAccess m n (0x040 + k) 1 id s else disposeWrite m n (v % 4) s)
  else windowAccess m n (0x040 + k) 1 (plain (pDrover + 2) off v) s

/-- DROVER pages 3 and 4. -/
def drvPageWrite (p off v : Nat) (s : DM) : DM :=
  if p = pDrover + 3 ∧ off = 0x044 then timerCfgWrite v s
  else if p = pDrover + 4 ∧ off = 0x040 then
    onDev (fun d => if v.testBit 31 then ledgerEnable d else if d.on DRV_LEDGER_CFG_EN then ledgerDisable d else d)
      (onDev (putWord [31] p off v) s)
  else plain p off v s

/-! ### Pages of the DRAM, the lanes, PCI Express, the Convoy and the package -/

/-- DRAM channel `c`; `k` is the page within the channel. -/
def dramPageWrite (m p c k off v : Nat) (s : DM) : DM :=
  if k = 2 ∧ off = 0x040 then
    onDev (fun d => if v % 16 = 0 then d else trnHelper m c (v % 16) d) (plain p off v s)
  else if k = 2 ∧ off = 0x070 then onDev (trnDoneWrite c v) s
  else if k = 3 ∧ off = 0x04C then onDev (fun d => if v.testBit 1 then migCommand m c d else d) (plain p off v s)
  else plain p off v s

/-- LANE `n`. LANE_CFG of the lanes of an endpoint is Bryn's (R706). -/
def lanePageWrite (m p n off v : Nat) (s : DM) : DM :=
  if off = 0x040 ∧ s.1.rst.epStrap ∧ 4 ≤ n ∧ m ≠ 16 then s
  else if off = 0x04C then onDev (lpbkWrite m n v) s
  else if off = 0x050 then onDev (prbsWrite m n v) s
  else plain p off v s

/-- The message of vector `v` goes out if it is pending and nothing masks it (R53). -/
def msixUnmask (v : Nat) (d : Dev) : Dev :=
  if d.on PCIE_MSIX_PBA_PEND 0 v && !d.on PCIE_MSIX_CTL_MASK 0 v && d.pcie.msixEnable && !d.pcie.msixFnMask then
    msixFire v (d.put PCIE_MSIX_PBA_PEND 0 0 v)
  else d

/-- PCIE. -/
def pciePageWrite (off v : Nat) (s : DM) : DM :=
  if off = 0x05C then onDev (obWrite v) s
  else match armAt off 0x800 0x10 64 0xC with
    | some k => onDev (msixUnmask k) (plain pPcie off v s)
    | none => plain pPcie off v s

/-- CONVOY. -/
def cvyPageWrite (m p off v : Nat) (s : DM) : DM :=
  if p = pConvoy + 2 ∧ off = 0x054 then recCmdWrite m v none s
  else if p = pConvoy + 2 ∧ off = 0x064 then (if v.testBit 0 then hoStart m s else s)
  else plain p off v s

/-- GPIO. -/
def gpioPageWrite (off v : Nat) (s : DM) : DM :=
  if off = 0x04C then onDev (gpioSet v) s
  else if off = 0x050 then onDev (gpioClr v) s
  else onDev gpioFollow (plain pGpio off v s)

/-- SPI belongs to Bryn until SERVICE_LEVEL reaches REDUCED (R806). -/
def spiPageWrite (m off v : Nat) (s : DM) : DM :=
  if !spiTakes s.1 m then s
  else if off = 0x048 then onDev (spiCmdWrite m v) s
  else plain pSpi off v s

/-- DIAG. -/
def diagPageWrite (off v : Nat) (s : DM) : DM :=
  if off = 0x088 then
    let s1 := plain pDiag off v s
    let s2 := if v.testBit 1 then onDev snapStart s1 else s1
    if v.testBit 2 then onDev snapEnd s2 else s2
  else if off = 0x0BC then onDev (logClear v) s
  else plain pDiag off v s

/-- The effect of a write of `v` by master `m` to the register at `off` of page `p`, whose guards let it through; `lo` is
the word held for its _LO partner (R78). -/
def blockWrite (m p off lo v : Nat) (s : DM) : DM :=
  let h := homePage p
  let n := instOf p
  if p = 0 then sysPageWrite m off v s
  else if p = 1 then sysfeatPageWrite m off v s
  else if p = 8 then pacePageWrite off v s
  else if p = 0x10 then seraiPageWrite m off v s
  else if p = 0x12 then spillPageWrite m off v s
  else if p = 0x18 then qmgrPageWrite m off v s
  else if h = 0x21 then ringsPageWrite m p off v s
  else if p = 0x25 then ringIdxPageWrite m off v s
  else if 0x30 ≤ h ∧ h < 0x35 then radioPageWrite m p n (h - 0x30) off v s
  else if p = 0x40 then strcPageWrite off v s
  else if p = 0x44 ∨ p = 0x45 then mldPageWrite m p off v s
  else if 0x48 ≤ p ∧ p < 0x50 then airPageWrite m p off v s
  else if 0x50 ≤ p ∧ p < 0x58 then staPageWrite m p off v s
  else if 0x5C ≤ p ∧ p < 0x60 then outrPageWrite m p off v s
  else if 0x60 ≤ p ∧ p < 0x70 then wayPageWrite m p off v s
  else if 0x70 ≤ p ∧ p < 0x7C then tmPageWrite m p off v s
  else if p = 0x7C ∨ p = 0x7D then gatePageWrite m p off v s
  else if 0x80 ≤ p ∧ p < 0x84 then timePageWrite m p off v s
  else if p = 0x84 then rtcPageWrite m off v s
  else if 0x88 ≤ p ∧ p < 0x8C then ciphPageWrite m p off v s
  else if p = 0x8C then keyPageWrite m off v s
  else if p = 0x99 then taskPageWrite m off v s
  else if p = 0x9A then drvWindowPageWrite m off lo v s
  else if p = 0x9B ∨ p = 0x9C then drvPageWrite p off v s
  else if h = 0xA0 then (if off = 0x050 then onDev (coreDbgWrite m n v) s else plain p off v s)
  else if 0xB0 ≤ h ∧ h < 0xB4 then dramPageWrite m p n (h - 0xB0) off v s
  else if h = 0xC0 then lanePageWrite m p n off v s
  else if p = 0xCE then pciePageWrite off v s
  else if 0xD0 ≤ p ∧ p < 0xD4 then cvyPageWrite m p off v s
  else if p = 0xE0 then gpioPageWrite off v s
  else if p = 0xE1 then (if off = 0x048 then onDev (pmbXferWrite m v) s else plain p off v s)
  else if p = 0xE2 then spiPageWrite m off v s
  else if p = 0xE3 then (if off = 0x048 then onDev (uartTxWrite m v) s else plain p off v s)
  else if p = 0xF0 then diagPageWrite off v s
  else plain p off v s

/-- A write to one register of a pair that the block's own rules turn away: rings (R63, R204), windows of the Drover, the
spill region (R157) and pending gate lists (R498). -/
def pairStop (m p off v : Nat) (s : DM) : Option DM :=
  if homePage p = 0x21 then
    let n := ringAt p off
    if !customsGrant s.1 .rings n n m .write then some (onDev (customsRefuse .rings m .write n) s)
    else if s.1.on HR_CFG_EN 0 n && writeHeld s.1 (fun x => x.fld.stat) p off v then some (discardWith 0x40 m p off s)
    else none
  else if p = 0x9A ∧ m ≠ (off - 0x040) / 0x40 then some (windowAccess m ((off - 0x040) / 0x40) (0x040 + (off - 0x040) % 0x40) 1 id s)
  else if p = 0x12 ∧ (s.1.on SPILL_CFG_EN ∨ s.1.on SPILL_OUT_CARAVANS) then some (discardWith 0x04 m 0x12 off s)
  else if p = pGate ∧ 0x048 ≤ off ∧ off < 0x05C ∧ s.1.on GATE_STATUS_PENDING 0 (s.1.rd GATE_IDX_LIST) then
    some (discardWith 0x41 m p off s)
  else none

/-- The write of the _HI register of a pair brings both parts into effect together (R78). -/
def pairEffect (m p off lo v : Nat) (s : DM) : DM :=
  if p = pKey ∧ off = 0x04C then onDev (fun d => pnWrite m (keySel d) (lo + 2 ^ 32 * (v % 2 ^ 16)) d) s
  else blockWrite m p off lo v (onDev (putWord [] p (off - 4) lo) s)

end Sys2Proof.Machine
end

