-- ==== Sys2Proof/Machine/Access.lean ====
section
/-! DEFINITION. Accesses on the fabric: reads and writes of registers in the order of their checks, accesses by masters to
the address map, requests of the PCIe host, and the debug port's memory access (spec/01_architecture.md R27–R35,
spec/02_register_model.md R39–R46, R60, R63–R78; spec/19_lanes.md R727; spec/22_faults_diagnostics.md R817). -/

namespace Sys2Proof.Machine

open Sys2Proof

/-! ### Held and latched parts of pairs (R78) -/

/-- The word that master `m` has written to a _LO register and not yet completed. -/
def heldLo (d : Dev) (m a : Nat) : Option Nat := (d.sh.heldLo.find? (fun e => e.1 == (m, a))).map (·.2)

/-- Forgets a held word. -/
def dropLo (m a : Nat) (d : Dev) : Dev :=
  { d with sh := { d.sh with heldLo := d.sh.heldLo.filter (fun e => e.1 != (m, a)) } }

/-- Holds a word for the same master's next write of the _HI partner. -/
def holdLo (m a v : Nat) (d : Dev) : Dev :=
  { d with sh := { d.sh with heldLo := ((m, a), v) :: d.sh.heldLo.filter (fun e => e.1 != (m, a)) } }

/-- The value latched for master `m`'s next read of a register. -/
def latchOf (d : Dev) (m a : Nat) : Option Nat := (d.sh.latched.find? (fun e => e.1 == (m, a))).map (·.2)

/-- Forgets a latched value. -/
def dropLatch (m a : Nat) (d : Dev) : Dev :=
  { d with sh := { d.sh with latched := d.sh.latched.filter (fun e => e.1 != (m, a)) } }

/-! ### Writes of registers -/

/-- A field that LOCK.CFG of its block locks (R45, R578). -/
def Slot.lockable (x : Slot) : Bool := x.fld.lockable || (x.is RTC_BKP_DATA && decide (8 ≤ x.idx))

/-- A field that the commit has closed (R14, R61); DRV_FEAT0 and DRV_FEAT4–7 take no write at all. -/
def Slot.closed (x : Slot) : Bool := x.fld.acc == .rwl && !(x.is DRV_FEAT_ACCEPT && (x.idx == 0 || decide (4 ≤ x.idx)))

/-- The code with which a write of `v` to a block's register is discarded (R45, R61, R72), if any. -/
def blockRefusal (d : Dev) (p off v : Nat) : Option Nat :=
  if cfgLocked d p && writeHeld d Slot.lockable p off v then some 0x03
  else if d.on SYSFEAT_STATUS_COMMITTED && (slotsAt true d p off).any Slot.closed then some 0x03
  else if !isOff d (firstPage p) && homePage p != 0x21 && writeHeld d (fun x => x.fld.stat) p off v then some 0x04
  else none

/-- A write of the _HI register at `off` with the word `lo` held for its _LO partner, none where none is held and the
partner keeps its value. -/
def pairWrite (m p off : Nat) (lo : Option Nat) (v : Nat) (s : DM) : DM :=
  let l := lo.getD (plainWord s.1 p (off - 4))
  match blockRefusal s.1 p (off - 4) l, pairStop m p off v s with
  | some c, _ => discardWith c m p off s
  | none, some s' => s'
  | none, none => pairEffect m p off l v s

/-- A write to a register of a block's page from 0x040 on. -/
def blockStore (m p off v : Nat) (s : DM) : DM :=
  let a := regAddr p off
  if regHidden true s.1 p off then s
  else match blockRefusal s.1 p off v with
    | some c => discardWith c m p off (onDev (dropLo m (a - 4)) s)
    | none =>
      if isLo p off then
        (match pairStop m p off v s with
          | some s' => s'
          | none => onDev (holdLo m a v) s)
      else if 4 ≤ off ∧ isLo p (off - 4) then pairWrite m p off (heldLo s.1 m (a - 4)) v (onDev (dropLo m (a - 4)) s)
      else blockWrite m p off 0 v s

/-- A write to a header register of page `p` other than CTRL; the header of a further page takes none (R43). -/
def headerStore (m p off v : Nat) (d : Dev) : Dev :=
  if firstPage p ≠ p then d
  else if off = 0x008 then
    (if d.on SYSFEAT_STATUS_COMMITTED then refuseWrite p 0x03 m (regAddr p off) d else d.put HDR_FEAT_ACCEPT_ACCEPT v p)
  else if off = 0x014 then intRawClear p v d
  else if off = 0x018 then withLines p (fun x => x.put HDR_INT_EN_EN v p) d
  else if off = 0x020 then raise p (v % 2 ^ 32) d
  else if off = 0x024 then (if v.testBit 31 then errClear p d else d)
  else if off = 0x030 then
    (d.putIf (v.testBit 1) HDR_LOCK_CTRL 1 p).putIf (v.testBit 0) HDR_LOCK_CFG 1 p
  else d

/-- A write to BRYN page 0, which Bryn itself judges (R634). -/
def brynStore (m off v : Nat) (s : DM) : DM :=
  let a := regAddr pBryn off
  if off = 0x048 then brynCommand false (v % 256) m (bitsOf v 31 16) (bitsOf v 15 8) s
  else if off = 0x060 then onDev (recovWrite m v) s
  else if off < 0x040 ∧ brynTakes s.1 m 0 then
    (if off = 0x00C then
      (if ctrlLocked s.1 pBryn then (refuseWrite pBryn 0x03 m a s.1, s.2) else ctrlWord m pBryn v s)
     else onDev (headerStore m pBryn off v) s)
  else if off = 0x054 ∧ brynTakes s.1 m 0 then onDev (holdLo m a v) s
  else if off = 0x058 then
    onDev (fun d =>
      let e := match heldLo d m (a - 4) with
        | some l => brynPlainWrite m 0x054 l (dropLo m (a - 4) d)
        | none => d
      brynPlainWrite m off v e) s
  else onDev (brynPlainWrite m off v) s

/-- A write of the word `v` by master `m` to the register at `off` of page `p`: the customs tables, presence, a soft reset,
and then the register's own rules. -/
def regStore (m p off v : Nat) (s : DM) : DM :=
  if p = pBryn then brynStore m off v s
  else if off = 0x00C then ctrlWrite m p (ctrlWord m p v) s
  else if !writeTaken s.1 m p then onDev (writeLost p off m) s
  else if off < 0x040 then onDev (headerStore m p off v) s
  else blockStore m p off v s

/-! ### Reads of registers -/

/-- The words that a pop latches: they keep what the last pop left (R530). -/
def latchOnly (p off : Nat) : Bool :=
  (p == pTime + 2 && decide (0x040 ≤ off) && decide (8 ≤ (off - 0x040) % 0x20) && decide ((off - 0x040) % 0x20 ≤ 0x10)) ||
  (p == pTime + 3 && decide (0x080 ≤ off) && decide (off < 0x100) && decide (8 ≤ off % 0x10)) ||
  ((p == 0xB3 || p == 0xB7) && (off == 0x060 || off == 0x064))

/-- The word a register shows at this moment, whoever reads it. -/
def presentWord (d : Dev) (p off : Nat) : Nat :=
  if off < 0x040 then headerWord d p off
  else if p = pBryn then brynValue d off
  else blockWord d p off

/-- The _LO register of a pair, those of the header and of BRYN among them. -/
def isLoAny (p off : Nat) : Bool := isLo p off || off == 0x028

/-- A read without an effect of its own: a latched value first, and a _LO register latches its _HI partner (R78). -/
def plainRead (m p off : Nat) (d : Dev) : Dev :=
  let a := regAddr p off
  let v := (latchOf d m a).getD (presentWord d p off)
  if latchOnly p off then
    answer (if p = pTime + 3 ∧ off % 0x10 = 0xC then
      v % 2 ^ 16 + 2 ^ 16 * d.rd CAP_S_HI_CAP_OVF 0 ((off - 0x08C) / 0x10) else v) d
  else
    let d1 := dropLatch m a d
    answer v (if isLoAny p off && !((latchOf d m a).isSome && (latchOf d m (a + 4)).isSome) then
      latch m (a + 4) (presentWord d p (off + 4)) d1 else d1)

/-- The register at `off` of page `p` is the one that holds field `F`. -/
def isReg (F : Fld) (p off : Nat) : Bool := homePage p == F.page && off == F.off

/-- A read of a register of a block that has an effect, or none of its own. -/
def blockRead (m p off : Nat) (s : DM) : DM :=
  let n := instOf p
  if isReg STA_EVT_VALID p off then onDev staEvtPop s
  else if isReg OM_EVT_VALID p off then onDev outrEvtPop s
  else if isReg CVY_EVT_VALID p off then onDev cvyEvtPop s
  else if isReg WAY_CT_EXPIRY_VALID p off then onDev ctExpiryPop s
  else if isReg UART_RX_VALID p off then onDev uartPop s
  else if isReg DRAM_ERR_LOG_VALID p off then onDev (dramLogPop m n) s
  else if isReg TIME_NOW_NS_NS p off then onDev (timeNowRead m) s
  else if isReg RADIO_RADAR_FIFO_VALID p off ∧ n = 1 then onDev radarPop s
  else if p = pTime + 3 ∧ off = 0x04C then
    onDev (fun d => plainRead m p off (latch m (regAddr p 0x054) (presentWord d p 0x054)
      (latch m (regAddr p 0x050) (presentWord d p 0x050) d))) s
  else if p = pRtc ∧ 0x040 ≤ off ∧ off < 0x064 then onDev (snapReadOpen ((off - 0x040) / 4)) s
  else match (if p = pTime + 2 then armAt off 0x040 0x20 9 4 else none), (if p = pTime + 3 then armAt off 0x080 0x10 8 4 else none) with
    | some k, _ => onDev (ptpPop m k) s
    | _, some c => onDev (capturePop m c) s
    | _, _ => onDev (plainRead m p off) s

/-- A read of a register of an allocation window (R175) or a Drover window, which answers its own core alone. -/
def windowRead (m p off : Nat) (s : DM) : DM :=
  if p = pSerai then
    onDev (fun d => windowWrite m ((off - 0x080) / 0x10) ((off - 0x080) % 0x10) 0 (plainRead m p off) (answer 0 d)) s
  else
    let n := (off - 0x040) / 0x40
    let k := 0x040 + (off - 0x040) % 0x40
    windowAccess m n k 0 (if k = 0x050 then itemRead n else if k = 0x078 then slotTake n else onDev (plainRead m p off)) s

/-- A read by master `m` of the register at `off` of page `p`. -/
def regLoad (m p off : Nat) (s : DM) : DM :=
  let d := s.1
  if p = pBryn then onDev (plainRead m p off) s
  else if !pageReadable d m p then onDev (readLost p off m) s
  else if !present d p then onDev (answer 0) s
  else if off < 0x040 then onDev (plainRead m p off) s
  else if regHidden false d p off then onDev (answer 0) s
  else if p = pBryn + 1 then onDev (answer (brynOtpValue d m off)) s
  else if p = pSerai ∧ 0x080 ≤ off ∧ off < 0x100 then windowRead m p off s
  else if p = 0x9A ∧ off < 0x240 then windowRead m p off s
  else
    let ring := if homePage p = 0x21 ∧ 0x100 ≤ off ∧ off < 0x500 then some (ringAt p off)
      else if p = 0x25 ∧ 0x100 ≤ off ∧ off < 0x300 then some ((off - 0x100) / 8)
      else none
    match ring with
    | some n =>
      if customsGrant d .rings n n m .read then onDev (plainRead m p off) s
      else onDev (fun x => { answer 0 (customsRefuse .rings m .read n x) with
        sh := { (answer 0 (customsRefuse .rings m .read n x)).sh with blocked := true } }) s
    | none => blockRead m p off s

/-! ### Accesses to the address map -/

/-- The result of a read as its master receives it. -/
def deliver (bs : Bytes) (poison blocked : Bool) (d : Dev) : Dev :=
  { d with sh := { d.sh with readData := bs, readPoison := poison, blocked := blocked } }

/-- Words of the register space that `n` bytes at `a` touch, as addresses. -/
def wordsOf (a n : Nat) : List Nat :=
  if n = 0 then [] else (List.range ((a + n - 1) / 4 - a / 4 + 1)).map (fun i => (a / 4 + i) * 4)

/-- The word at `w` of a write of `bs` at `a`; bytes that the write does not carry are open. -/
def storeWord (a : Nat) (bs : Bytes) (w : Nat) (d : Dev) : Nat × Dev :=
  if a ≤ w ∧ w + 4 ≤ a + bs.length then (ofBytes ((bs.drop (w - a)).take 4), d)
  else
    let r := draw d
    (ofBytes ((List.range 4).map (fun i =>
      if a ≤ w + i then bs.getD (w + i - a) (BitVec.ofNat 8 (r.1 / 256 ^ i)) else BitVec.ofNat 8 (r.1 / 256 ^ i))), r.2)

/-- The word at `w` of a write of `bs` at register address `a` goes to its register. -/
def storeOne (m a : Nat) (bs : Bytes) (x : DM) (w : Nat) : DM :=
  let r := storeWord a bs w x.1
  regStore m ((w - regBase) / 4096) ((w - regBase) % 4096) r.1 (r.2, x.2)

/-- A write of `bs` at register address `a`, word by word. -/
def regStoreBytes (m a : Nat) (bs : Bytes) (s : DM) : DM := (wordsOf a bs.length).foldl (storeOne m a bs) s

/-- A read of `n` bytes at register address `a`, word by word. -/
def regLoadBytes (m a n : Nat) (s : DM) : DM :=
  let r := (wordsOf a n).foldl (fun (x : Bytes × Bool × DM) w =>
    let o := w - regBase
    let y := regLoad m (o / 4096) (o % 4096) x.2.2
    (x.1 ++ y.1.sh.readData, x.2.1 || y.1.sh.blocked, y)) ([], false, s)
  onDev (deliver ((r.1.drop (a % 4)).take n) false r.2.1) r.2.2

/-- An access to memory that is served at once: by a unit, the PCIe host or the debug port. -/
def memoryNow (m : Nat) (write : Bool) (a n : Nat) (bs : Bytes) (s : DM) : DM :=
  let kind := if write then AccKind.write else AccKind.read
  let v := memVerdict s.1 m kind a n
  if v ≠ .granted then (deliver (if write then [] else List.replicate n 0) false true (blockAccess v m kind a s.1), s.2)
  else if write then (deliver [] false false (coverWrite a n s.1), memWrite s.2 a bs)
  else (deliver (memRead s.2 a n) (poisonedAt s.1 a n) false s.1, s.2)

/-- An access to the boot ROM: Bryn alone reads it, and its bytes are open; every other access is captured on SYS (R30). -/
def romAccess (m : Nat) (kind : AccKind) (a n : Nat) (d : Dev) : Dev :=
  if m = 16 ∧ kind = .read then
    let r := draw d
    deliver (toBytes n r.1) false false r.2
  else deliver (List.replicate n 0) false true (report ⟨0, 0x01, 0, kindCode kind, m, a⟩ d)

/-- An access by master `m` to the address map, decoded by its first and last byte (R27, R28). -/
def mapAccess (m : Nat) (kind : AccKind) (a n : Nat) (bs : Bytes) (queued : Bool) (s : DM) : DM :=
  if n = 0 then s
  else if regionOf a ≠ regionOf (a + n - 1) then
    onDev (fun d => deliver (List.replicate n 0) false true (blockOutside m kind a d)) s
  else match regionOf a with
    | .none => onDev (fun d => deliver (List.replicate n 0) false true (blockOutside m kind a d)) s
    | .rom => onDev (romAccess m kind a n) s
    | .regs =>
      (match kind with
        | .fetch => onDev (fun d => deliver (List.replicate n 0) false true (customsRefuse .regs m .fetch a d)) s
        | .write => regStoreBytes m a bs s
        | .read => regLoadBytes m a n s)
    | r =>
      let v := memVerdict s.1 m kind a n
      if v ≠ .granted then (deliver (List.replicate n 0) false true (blockAccess v m kind a s.1), s.2)
      else if r = .dram ∧ queued then
        dramAccess m (kind == .write) a (if kind = .write then bs else List.replicate n 0) s.1 s.2
      else if kind = .write then memoryNow m true a n bs s
      else (deliver (memRead s.2 a n) (poisonedAt s.1 a n) false s.1, s.2)

/-- An access to an indexed target is checked by the index (R63–R65). -/
def indexAccess (t : CustomsTarget) (m : Nat) (kind : AccKind) (i n : Nat) (d : Dev) : Dev :=
  if customsGrant d t i i m kind then d
  else deliver (List.replicate n 0) false true (customsRefuse t m kind i d)

/-- An access by a master. -/
def access (a : Access) (s : DM) : DM :=
  match a.target with
  | .addr x => mapAccess a.master a.kind x (if a.kind = .write then a.data.length else a.len) a.data true s
  | .keySlot i => onDev (indexAccess .keyStore a.master a.kind i a.len) s
  | .context i => onDev (indexAccess .contexts a.master a.kind i a.len) s
  | .ring i => onDev (indexAccess .rings a.master a.kind i a.len) s

/-! ### Errors of the cores' caches (R669) -/

/-- The uncorrectable line at `a` is written back by core `n`: its bytes are open, and it carries the marks of poison. A
line that the core may not write was never dirty. -/
def cacheWriteBack (n a : Nat) (s : DM) : DM :=
  let b := a - a % 64
  if memVerdict s.1 n .write b 64 ≠ .granted then s
  else
    let r := draw s.1
    let mark := fun (d : Dev) =>
      if seraiBase ≤ b then setPoison ((b - seraiBase) / 32 + 1) (setPoison ((b - seraiBase) / 32) d)
      else dramPoison (b / 64) d
    (mark (coverWrite b 64 r.2), memWrite s.2 b (toBytes 64 r.1))

/-- Core `n` counts a cache error in `F` and captures it with code `code`, for the access at `a`. -/
def cacheCount (n : Nat) (F : Fld) (code sev : Nat) (kind : AccKind) (a : Nat) (d : Dev) : Dev :=
  raiseBit (pCore n) 6 (report ⟨pCore n, code, sev, kindCode kind, n, a⟩ (count F n 0 d))

/-- A load of `len` bytes ends in the poisoned-load error; what it delivers is open. -/
def poisonedLoad (kind : AccKind) (len : Nat) (d : Dev) : Dev :=
  if kind = .write then d
  else
    let r := draw d
    deliver (toBytes len r.1) true false r.2

/-- Core `n` meets one error of its caches in an access of `len` bytes at `a`. -/
def cacheError (n : Nat) (kind : AccKind) (a len : Nat) (s : DM) (e : CacheErr) : DM :=
  match e with
  | .l1Clean => onDev (cacheCount n CORE_CE_COUNT 0x40 0 kind a) s
  | .l2Corrected => onDev (cacheCount n CORE_CE_COUNT 0x41 0 kind a) s
  | .uncorrectable => onDev (fun d => poisonedLoad kind len (cacheCount n CORE_UE_COUNT 0x42 1 kind a d)) s
  | .writeBack l => onDev (cacheCount n CORE_UE_COUNT 0x42 1 .write l) (cacheWriteBack n l s)

/-- The access at `a` goes through the caches of core `m`: a core that is present and not Off, and memory. -/
def throughCache (d : Dev) (m a : Nat) : Bool :=
  decide (m < 8) && present d (pCore m) && !isOff d (pCore m) &&
  (regionOf a == .dram || regionOf a == .serai) && !d.sh.blocked

/-- An access by a master, with what a core's caches find. -/
def cachedAccess (a : Access) (s : DM) : DM :=
  let x := access a s
  match a.target with
  | .addr p => if throughCache x.1 a.master p then a.cache.foldl (cacheError a.master a.kind p a.len) x else x
  | _ => x

/-! ### The PCIe host and the debug port -/

/-- R628: what the PCIe host may reach while its path of recovery or of a boot at VERIFY is open: it writes the cells at
the start of the Serai, and BRYN_RECOV. -/
def recovReach (write : Bool) (a n : Nat) : Bool :=
  write && ((decide (seraiBase ≤ a) && decide (a + n ≤ seraiBase + 16408 * 256)) || (a == regAddr pBryn 0x060 && n == 4))

/-- The host's BARs answer within the grants of R628 alone: during RECOVERY and a boot from the PCIe host at VERIFY. -/
def barsLimited (d : Dev) : Bool :=
  level d == lvRECOVERY || (level d == lvVERIFY && d.rst.bootMode == 1)

/-- The physical address of an inbound request, none where the function has no such window (R32, R727). -/
def inboundAddr (d : Dev) (bar : Option Nat) (a : Nat) : Option Nat :=
  match bar with
  | none => if d.on PCIE_CFG_MODE then none else some a
  | some 0 => if d.on PCIE_CFG_MODE ∧ a < 0x200000 then some (regBase + a) else none
  | some 2 => if d.on PCIE_CFG_MODE ∧ a < 0x2000000 then some (seraiBase + a) else none
  | some _ => none

/-- The function answers requests: its page is Active and its link is up, and as an endpoint it is marked ready. -/
def pcieAnswers (d : Dev) : Bool :=
  isActive d pPcie && d.on PCIE_STATUS_DL_UP && (!d.on PCIE_CFG_MODE || d.on PCIE_CFG_EP_READY)

/-- R32, R727: an inbound request is an access of master 17. -/
def inbound (bar : Option Nat) (a : Nat) (write : Bool) (n : Nat) (bs : Bytes) (s : DM) : DM :=
  let d := s.1
  let len := if write then bs.length else n
  let kind := if write then AccKind.write else AccKind.read
  let reply := fun (x : DM) =>
    if write then x else onDev (fun e => emit (.pcieReply (!e.sh.blocked) e.sh.readData) e) x
  match inboundAddr d bar a with
  | none => onDev (emit (.pcieReply false [])) s
  | some x =>
    if !pcieAnswers d then onDev (emit (.pcieReply false [])) s
    else if bar.isSome ∧ barsLimited d then
      (if d.rst.recovOpen && recovReach write x len then
        (if seraiBase ≤ x ∧ x < regBase then (coverWrite x len d, memWrite s.2 x bs)
         else onDev (recovWrite 17 (ofBytes bs)) s)
       else
        let t := if x < regBase then CustomsTarget.serai else .regs
        reply (deliver (List.replicate len 0) false true (customsRefuse t 17 kind x d), s.2))
    else reply (mapAccess 17 kind x len bs false s)

/-- R817: one access of 32 bits as master 19, while the port is open; the data and ERROR await the next Capture-DR. -/
def memap (a : Nat) (write : Bool) (v : Nat) (s : DM) : DM :=
  if !portOpen s.1 then onDev tapBypass s
  else
    let x := mapAccess 19 (if write then .write else .read) a 4 (toBytes 4 v) false (onDev (deliver [] false false) s)
    let r := if write then v % 2 ^ 32 else ofBytes x.1.sh.readData
    onDev (fun d => emit (.tdo 82 (a % 2 ^ 48 + 2 ^ 48 * b2n write + 2 ^ 49 * r + 2 ^ 81 * b2n d.sh.blocked))
      (tapMod (fun t => { t with data := r, error := d.sh.blocked, mode := .normal }) d)) x

/-! ### Meanings -/

/-- A write of the word `v` at address `a` by master `m`. -/
def wordWrite (m a v : Nat) (s : DM) : DM :=
  if regionOf a = .regs ∧ a % 4 = 0 then regStore m ((a - regBase) / 4096) ((a - regBase) % 4096) (v % 2 ^ 32) s
  else mapAccess m .write a 4 (toBytes 4 v) true s

/-- A write of a register by its page and offset. -/
def pageWrite (m p off v : Nat) (s : State) : Host.Outcome State Fault Refusal :=
  updMem s (fun d mem => regStore m p off (v % 2 ^ 32) (d, mem))

def execRegWrite (m addr v : Nat) (s : State) : Host.Outcome State Fault Refusal :=
  updMem s (fun d mem => wordWrite m addr v (d, mem))

/-- R40: the customs tables are asked first; a page that is present takes no effect of this row. -/
def execAbsentPageWrite (m page : Nat) (s : State) : Host.Outcome State Fault Refusal :=
  upd s (fun d => if present d page then d
    else if pageWritable d m page then absentWrite m page d
    else customsRefuse .regs m .write (regAddr page 0x040) d)

def execAbsentClr (m v : Nat) (s : State) : Host.Outcome State Fault Refusal := pageWrite m 0 0x0F8 v s
def execIntTestWrite (m page v : Nat) (s : State) : Host.Outcome State Fault Refusal := pageWrite m page 0x020 v s
def execErrCodeClear (m page : Nat) (s : State) : Host.Outcome State Fault Refusal := pageWrite m page 0x024 (2 ^ 31) s
def execLockSetCfg (m page : Nat) (s : State) : Host.Outcome State Fault Refusal := pageWrite m page 0x030 1 s
def execLockSetCtrl (m page : Nat) (s : State) : Host.Outcome State Fault Refusal := pageWrite m page 0x030 2 s

/-- R52: the oldest held edge enters the event-post queue once it has room. -/
def execIntrHeldPost (s : State) : Host.Outcome State Fault Refusal :=
  upd s (fun d => match d.sh.heldLines with
    | [] => d
    | n :: l => if postRoom d then { postHeld n d with sh := { (postHeld n d).sh with heldLines := l } } else d)

def execMasterAccess (a : Access) (s : State) : Host.Outcome State Fault Refusal :=
  updMem s (fun d mem => cachedAccess a (d, mem))

def execSysfeatCommit (m v : Nat) (s : State) : Host.Outcome State Fault Refusal := pageWrite m 1 0x080 v s
def execCommitComplete (s : State) : Host.Outcome State Fault Refusal := upd s commitDone

def execPcieInboundRequest (bar : Option Nat) (a : Nat) (write : Bool) (len : Nat) (data : List Byte) (s : State) :
    Host.Outcome State Fault Refusal :=
  updMem s (fun d mem => inbound bar a write len data (d, mem))

def execTapMemap (a : Nat) (write : Bool) (v : Nat) (s : State) : Host.Outcome State Fault Refusal :=
  updMem s (fun d mem => memap a write v (d, mem))

end Sys2Proof.Machine
end

