-- ==== Sys2Proof/Machine/Dispatch.lean ====
section
/-! DEFINITION. The dispatch of a command to its meaning, one arm per constructor. -/

namespace Sys2Proof.Machine

open Sys2Proof

def exec (i : Instr) (s : State) : Host.Outcome State Fault Refusal :=
  match i with
  | .regWrite m addr v => Sys2Proof.Machine.execRegWrite m addr v s
  | .absentPageWrite m page => Sys2Proof.Machine.execAbsentPageWrite m page s
  | .absentClr m v => Sys2Proof.Machine.execAbsentClr m v s
  | .ctrlEnSet m page => Sys2Proof.Machine.execCtrlEnSet m page s
  | .ctrlEnClear m page => Sys2Proof.Machine.execCtrlEnClear m page s
  | .ctrlSoftRst m page => Sys2Proof.Machine.execCtrlSoftRst m page s
  | .softResetComplete page => Sys2Proof.Machine.execSoftResetComplete page s
  | .ctrlFreezeWrite m page v => Sys2Proof.Machine.execCtrlFreezeWrite m page v s
  | .startUpDone page => Sys2Proof.Machine.execStartUpDone page s
  | .drainEnd page => Sys2Proof.Machine.execDrainEnd page s
  | .intTestWrite m page v => Sys2Proof.Machine.execIntTestWrite m page v s
  | .errCodeClear m page => Sys2Proof.Machine.execErrCodeClear m page s
  | .lockSetCfg m page => Sys2Proof.Machine.execLockSetCfg m page s
  | .lockSetCtrl m page => Sys2Proof.Machine.execLockSetCtrl m page s
  | .intrHeldPost => Sys2Proof.Machine.execIntrHeldPost s
  | .masterAccess a => Sys2Proof.Machine.execMasterAccess a s
  | .sysfeatCommit m v => Sys2Proof.Machine.execSysfeatCommit m v s
  | .commitComplete => Sys2Proof.Machine.execCommitComplete s
  | .paceWindowEnd counts => Sys2Proof.Machine.execPaceWindowEnd counts s
  | .governorInterval => Sys2Proof.Machine.execGovernorInterval s
  | .cellAdmit cls size => Sys2Proof.Machine.execCellAdmit cls size s
  | .seraiTransfer port m write off data mask errs errs2 => Sys2Proof.Machine.execSeraiTransfer port m write off data mask errs errs2 s
  | .allocFree m win v => Sys2Proof.Machine.execAllocFree m win v s
  | .allocReq m win v => Sys2Proof.Machine.execAllocReq m win v s
  | .allocNext m win v => Sys2Proof.Machine.execAllocNext m win v s
  | .scrubRead errs => Sys2Proof.Machine.execScrubRead errs s
  | .quarRelease m v => Sys2Proof.Machine.execQuarRelease m v s
  | .classApply m v => Sys2Proof.Machine.execClassApply m v s
  | .spillEnable m => Sys2Proof.Machine.execSpillEnable m s
  | .spillRegionReady => Sys2Proof.Machine.execSpillRegionReady s
  | .spillCaravan => Sys2Proof.Machine.execSpillCaravan s
  | .spillReturn q => Sys2Proof.Machine.execSpillReturn q s
  | .spillDisable m => Sys2Proof.Machine.execSpillDisable m s
  | .enqueue u x further => Sys2Proof.Machine.execEnqueue u x further s
  | .qEnable m => Sys2Proof.Machine.execQEnable m s
  | .qPause m => Sys2Proof.Machine.execQPause m s
  | .qResume m => Sys2Proof.Machine.execQResume m s
  | .qFlush m => Sys2Proof.Machine.execQFlush m s
  | .qDisable m => Sys2Proof.Machine.execQDisable m s
  | .qRemovalDone q => Sys2Proof.Machine.execQRemovalDone q s
  | .ringEnable m n => Sys2Proof.Machine.execRingEnable m n s
  | .ringClaimDone n => Sys2Proof.Machine.execRingClaimDone n s
  | .ringDisable m n => Sys2Proof.Machine.execRingDisable m n s
  | .hrDoorbell m n v => Sys2Proof.Machine.execHrDoorbell m n v s
  | .txDescProcess n host => Sys2Proof.Machine.execTxDescProcess n host s
  | .ringEnqueueRetry n => Sys2Proof.Machine.execRingEnqueueRetry n s
  | .txDescComplete n idx => Sys2Proof.Machine.execTxDescComplete n idx s
  | .txManifestEntry n => Sys2Proof.Machine.execTxManifestEntry n s
  | .rxRingDeliver n hostOk => Sys2Proof.Machine.execRxRingDeliver n hostOk s
  | .ringFire n => Sys2Proof.Machine.execRingFire n s
  | .hrArm m n v => Sys2Proof.Machine.execHrArm m n v s
  | .timeCmdSet m => Sys2Proof.Machine.execTimeCmdSet m s
  | .timeCmdStep m => Sys2Proof.Machine.execTimeCmdStep m s
  | .timeCmdSlew m => Sys2Proof.Machine.execTimeCmdSlew m s
  | .timeCmdClrAsym m => Sys2Proof.Machine.execTimeCmdClrAsym m s
  | .slewDone => Sys2Proof.Machine.execSlewDone s
  | .timeSmpPush m => Sys2Proof.Machine.execTimeSmpPush m s
  | .servoHoldTimeout => Sys2Proof.Machine.execServoHoldTimeout s
  | .timeNowRead m => Sys2Proof.Machine.execTimeNowRead m s
  | .timeFifoPop m p => Sys2Proof.Machine.execTimeFifoPop m p s
  | .referenceLoss => Sys2Proof.Machine.execReferenceLoss s
  | .referenceReturn => Sys2Proof.Machine.execReferenceReturn s
  | .ppsInEdge falling => Sys2Proof.Machine.execPpsInEdge falling s
  | .ppsOutSecond => Sys2Proof.Machine.execPpsOutSecond s
  | .ppsOutPulseEnd => Sys2Proof.Machine.execPpsOutPulseEnd s
  | .captureEdge c falling => Sys2Proof.Machine.execCaptureEdge c falling s
  | .capturePop m c => Sys2Proof.Machine.execCapturePop m c s
  | .evtEnable m e => Sys2Proof.Machine.execEvtEnable m e s
  | .evtInstant e => Sys2Proof.Machine.execEvtInstant e s
  | .evtPulseEnd e => Sys2Proof.Machine.execEvtPulseEnd e s
  | .dramRequestServe c sub act parity errs => Sys2Proof.Machine.execDramRequestServe c sub act parity errs s
  | .dramRefresh c => Sys2Proof.Machine.execDramRefresh c s
  | .rtBurstDeclare m a n => Sys2Proof.Machine.execRtBurstDeclare m a n s
  | .selfRefreshEntry c => Sys2Proof.Machine.execSelfRefreshEntry c s
  | .selfRefreshExit c => Sys2Proof.Machine.execSelfRefreshExit c s
  | .rhWindowStart c => Sys2Proof.Machine.execRhWindowStart c s
  | .dramScrubRead c errs => Sys2Proof.Machine.execDramScrubRead c errs s
  | .dramInitLine c => Sys2Proof.Machine.execDramInitLine c s
  | .migStart m c => Sys2Proof.Machine.execMigStart m c s
  | .migCopyLine c errs => Sys2Proof.Machine.execMigCopyLine c errs s
  | .dramErrLogPop m c => Sys2Proof.Machine.execDramErrLogPop m c s
  | .trnMrw m c => Sys2Proof.Machine.execTrnMrw m c s
  | .trnMrr m c => Sys2Proof.Machine.execTrnMrr m c s
  | .trnMpc m c => Sys2Proof.Machine.execTrnMpc m c s
  | .trnCsSample m c => Sys2Proof.Machine.execTrnCsSample m c s
  | .trnCaSample m c => Sys2Proof.Machine.execTrnCaSample m c s
  | .trnWlevel m c => Sys2Proof.Machine.execTrnWlevel m c s
  | .trnPatWrite m c => Sys2Proof.Machine.execTrnPatWrite m c s
  | .trnRdCompare m c => Sys2Proof.Machine.execTrnRdCompare m c s
  | .trnEyeScan m c => Sys2Proof.Machine.execTrnEyeScan m c s
  | .trnHelperDone c data mask cnt points => Sys2Proof.Machine.execTrnHelperDone c data mask cnt points s
  | .trnDonePass m c => Sys2Proof.Machine.execTrnDonePass m c s
  | .trnDoneFail m c => Sys2Proof.Machine.execTrnDoneFail m c s
  | .wayManifestIn => Sys2Proof.Machine.execWayManifestIn s
  | .wayTableFetchDone line bad => Sys2Proof.Machine.execWayTableFetchDone line bad s
  | .wayReturn => Sys2Proof.Machine.execWayReturn s
  | .wayExcPost => Sys2Proof.Machine.execWayExcPost s
  | .brAgeScan => Sys2Proof.Machine.execBrAgeScan s
  | .ctScan => Sys2Proof.Machine.execCtScan s
  | .ctHotWriteback e => Sys2Proof.Machine.execCtHotWriteback e s
  | .ctExpiryPop m => Sys2Proof.Machine.execCtExpiryPop m s
  | .ctInsert m e => Sys2Proof.Machine.execCtInsert m e s
  | .ctDelete m e => Sys2Proof.Machine.execCtDelete m e s
  | .brLookup m => Sys2Proof.Machine.execBrLookup m s
  | .brInsert m => Sys2Proof.Machine.execBrInsert m s
  | .brDelete m => Sys2Proof.Machine.execBrDelete m s
  | .brFlushDynamic m => Sys2Proof.Machine.execBrFlushDynamic m s
  | .tblInv m lines => Sys2Proof.Machine.execTblInv m lines s
  | .aclWrite m => Sys2Proof.Machine.execAclWrite m s
  | .aclRead m => Sys2Proof.Machine.execAclRead m s
  | .polBurstWrite m v => Sys2Proof.Machine.execPolBurstWrite m v s
  | .staCreate m => Sys2Proof.Machine.execStaCreate m s
  | .staAssoc m => Sys2Proof.Machine.execStaAssoc m s
  | .staAuthorize m => Sys2Proof.Machine.execStaAuthorize m s
  | .staUpdate m => Sys2Proof.Machine.execStaUpdate m s
  | .staFreeze m => Sys2Proof.Machine.execStaFreeze m s
  | .staFreezeDone e => Sys2Proof.Machine.execStaFreezeDone e s
  | .staThaw m => Sys2Proof.Machine.execStaThaw m s
  | .staRemove m => Sys2Proof.Machine.execStaRemove m s
  | .staRemoveDone e => Sys2Proof.Machine.execStaRemoveDone e s
  | .probeAgeExpire e => Sys2Proof.Machine.execProbeAgeExpire e s
  | .staAgeCheck => Sys2Proof.Machine.execStaAgeCheck s
  | .mpduLifetimeExpire e tid sn => Sys2Proof.Machine.execMpduLifetimeExpire e tid sn s
  | .baRxWrite m v => Sys2Proof.Machine.execBaRxWrite m v s
  | .reorderTimeout e tid => Sys2Proof.Machine.execReorderTimeout e tid s
  | .staEvtPop m => Sys2Proof.Machine.execStaEvtPop m s
  | .tmDecision o => Sys2Proof.Machine.execTmDecision o s
  | .airOccDequeue l q => Sys2Proof.Machine.execAirOccDequeue l q s
  | .launchEligible q => Sys2Proof.Machine.execLaunchEligible q s
  | .shaperApply m => Sys2Proof.Machine.execShaperApply m s
  | .gateCommit m => Sys2Proof.Machine.execGateCommit m s
  | .gateCancel m => Sys2Proof.Machine.execGateCancel m s
  | .gateTakeover n => Sys2Proof.Machine.execGateTakeover n s
  | .gateChange n => Sys2Proof.Machine.execGateChange n s
  | .shaperHoldEnd sub => Sys2Proof.Machine.execShaperHoldEnd sub s
  | .keyLoad m host => Sys2Proof.Machine.execKeyLoad m host s
  | .keySeal m host => Sys2Proof.Machine.execKeySeal m host s
  | .keyExport m => Sys2Proof.Machine.execKeyExport m s
  | .keyDerive m => Sys2Proof.Machine.execKeyDerive m s
  | .keyErase m => Sys2Proof.Machine.execKeyErase m s
  | .keyEraseDone slot => Sys2Proof.Machine.execKeyEraseDone slot s
  | .keyPnWrite m pn => Sys2Proof.Machine.execKeyPnWrite m pn s
  | .ctxWrite m => Sys2Proof.Machine.execCtxWrite m s
  | .ctxRead m => Sys2Proof.Machine.execCtxRead m s
  | .ctxInvalidate m => Sys2Proof.Machine.execCtxInvalidate m s
  | .crDoorbell m n v => Sys2Proof.Machine.execCrDoorbell m n v s
  | .ciphJobStart r host hostState => Sys2Proof.Machine.execCiphJobStart r host hostState s
  | .ciphJobComplete r => Sys2Proof.Machine.execCiphJobComplete r s
  | .ciphManifestPass r => Sys2Proof.Machine.execCiphManifestPass r s
  | .staExport m => Sys2Proof.Machine.execStaExport m s
  | .staImport m => Sys2Proof.Machine.execStaImport m s
  | .taskCreate m => Sys2Proof.Machine.execTaskCreate m s
  | .taskStart m => Sys2Proof.Machine.execTaskStart m s
  | .taskCancel m => Sys2Proof.Machine.execTaskCancel m s
  | .taskDelete m => Sys2Proof.Machine.execTaskDelete m s
  | .taskSetPrio m => Sys2Proof.Machine.execTaskSetPrio m s
  | .taskFlagSet m v => Sys2Proof.Machine.execTaskFlagSet m v s
  | .taskFlagClr m v => Sys2Proof.Machine.execTaskFlagClr m v s
  | .eventPost => Sys2Proof.Machine.execEventPost s
  | .drvWait m n mask all => Sys2Proof.Machine.execDrvWait m n mask all s
  | .drvYield m n => Sys2Proof.Machine.execDrvYield m n s
  | .drvPreempted m n => Sys2Proof.Machine.execDrvPreempted m n s
  | .drvSlotTake m n => Sys2Proof.Machine.execDrvSlotTake m n s
  | .drvItemTake m n => Sys2Proof.Machine.execDrvItemTake m n s
  | .disposeReturn m n => Sys2Proof.Machine.execDisposeReturn m n s
  | .disposeQueue m n => Sys2Proof.Machine.execDisposeQueue m n s
  | .disposeDiscard m n => Sys2Proof.Machine.execDisposeDiscard m n s
  | .disposeDone t => Sys2Proof.Machine.execDisposeDone t s
  | .drvTimerFire n => Sys2Proof.Machine.execDrvTimerFire n s
  | .timerArm m v => Sys2Proof.Machine.execTimerArm m v s
  | .timerDisarm m v => Sys2Proof.Machine.execTimerDisarm m v s
  | .laneSignalDetect n => Sys2Proof.Machine.execLaneSignalDetect n s
  | .laneTrainDone n ok gen width => Sys2Proof.Machine.execLaneTrainDone n ok gen width s
  | .laneLockAchieved n => Sys2Proof.Machine.execLaneLockAchieved n s
  | .laneLockTimeout n => Sys2Proof.Machine.execLaneLockTimeout n s
  | .laneAutonegDone n ok full speed => Sys2Proof.Machine.execLaneAutonegDone n ok full speed s
  | .capxInterval n => Sys2Proof.Machine.execCapxInterval n s
  | .capxFrameRx n frame fcsOk => Sys2Proof.Machine.execCapxFrameRx n frame fcsOk s
  | .capxTimeout n => Sys2Proof.Machine.execCapxTimeout n s
  | .upshiftTimeout n => Sys2Proof.Machine.execUpshiftTimeout n s
  | .linkHoldExpire n => Sys2Proof.Machine.execLinkHoldExpire n s
  | .laneLos n tx rx => Sys2Proof.Machine.execLaneLos n tx rx s
  | .laneLol n tx rx => Sys2Proof.Machine.execLaneLol n tx rx s
  | .lpbkModeWrite m n v => Sys2Proof.Machine.execLpbkModeWrite m n v s
  | .prbsEnableWrite m n v => Sys2Proof.Machine.execPrbsEnableWrite m n v s
  | .prbsInjOne m n => Sys2Proof.Machine.execPrbsInjOne m n s
  | .ethFrameRx p quarter frame fcsOk => Sys2Proof.Machine.execEthFrameRx p quarter frame fcsOk s
  | .pauseExpire p prio => Sys2Proof.Machine.execPauseExpire p prio s
  | .ethFrameTx p quarter frags => Sys2Proof.Machine.execEthFrameTx p quarter frags s
  | .xoffRefresh p prio => Sys2Proof.Machine.execXoffRefresh p prio s
  | .preemptVerifyTimeout p => Sys2Proof.Machine.execPreemptVerifyTimeout p s
  | .preemptVerifyResponse p => Sys2Proof.Machine.execPreemptVerifyResponse p s
  | .pcieInboundRequest bar a write len data => Sys2Proof.Machine.execPcieInboundRequest bar a write len data s
  | .pcieObMemRead m be => Sys2Proof.Machine.execPcieObMemRead m be s
  | .pcieObMemWrite m be => Sys2Proof.Machine.execPcieObMemWrite m be s
  | .pcieObCfgRead m be => Sys2Proof.Machine.execPcieObCfgRead m be s
  | .pcieObCfgWrite m be => Sys2Proof.Machine.execPcieObCfgWrite m be s
  | .pcieCompletion status data => Sys2Proof.Machine.execPcieCompletion status data s
  | .pcieCompletionTimeout ring => Sys2Proof.Machine.execPcieCompletionTimeout ring s
  | .pcieLinkDown => Sys2Proof.Machine.execPcieLinkDown s
  | .epReadyWrite m => Sys2Proof.Machine.execEpReadyWrite m s
  | .prbsCheckerLocked n => Sys2Proof.Machine.execPrbsCheckerLocked n s
  | .prbsCheckerUnlocked n errs => Sys2Proof.Machine.execPrbsCheckerUnlocked n errs s
  | .helloTimer => Sys2Proof.Machine.execHelloTimer s
  | .helloRx => Sys2Proof.Machine.execHelloRx s
  | .recordRx => Sys2Proof.Machine.execRecordRx s
  | .ackRx => Sys2Proof.Machine.execAckRx s
  | .summaryRx => Sys2Proof.Machine.execSummaryRx s
  | .hoReqRx => Sys2Proof.Machine.execHoReqRx s
  | .hoDataRx => Sys2Proof.Machine.execHoDataRx s
  | .hoDoneRx => Sys2Proof.Machine.execHoDoneRx s
  | .hoNakRx => Sys2Proof.Machine.execHoNakRx s
  | .planRx => Sys2Proof.Machine.execPlanRx s
  | .departRx => Sys2Proof.Machine.execDepartRx s
  | .memberAgeSuspect id => Sys2Proof.Machine.execMemberAgeSuspect id s
  | .memberAgeSeparated id => Sys2Proof.Machine.execMemberAgeSeparated id s
  | .cvyRetxTimer dest seq => Sys2Proof.Machine.execCvyRetxTimer dest seq s
  | .tombExpire kind rkey => Sys2Proof.Machine.execTombExpire kind rkey s
  | .keyActivation gen => Sys2Proof.Machine.execKeyActivation gen s
  | .recWrite m host => Sys2Proof.Machine.execRecWrite m host s
  | .recRead m host => Sys2Proof.Machine.execRecRead m host s
  | .recDelete m host => Sys2Proof.Machine.execRecDelete m host s
  | .hoRequest m => Sys2Proof.Machine.execHoRequest m s
  | .hoRetxTimer => Sys2Proof.Machine.execHoRetxTimer s
  | .hoTimeout => Sys2Proof.Machine.execHoTimeout s
  | .hoHoldExpire addr => Sys2Proof.Machine.execHoHoldExpire addr s
  | .departWaitEnd => Sys2Proof.Machine.execDepartWaitEnd s
  | .cvyEvtPop m => Sys2Proof.Machine.execCvyEvtPop m s
  | .calStepDone n temp lat => Sys2Proof.Machine.execCalStepDone n temp lat s
  | .calTrackPiece n chain => Sys2Proof.Machine.execCalTrackPiece n chain s
  | .shadowCapture n est power inData passed => Sys2Proof.Machine.execShadowCapture n est power inData passed s
  | .rxPowerDrop n => Sys2Proof.Machine.execRxPowerDrop n s
  | .noiseFloorUpdate n nf => Sys2Proof.Machine.execNoiseFloorUpdate n nf s
  | .refTrimUpdate n => Sys2Proof.Machine.execRefTrimUpdate n s
  | .firApply m n => Sys2Proof.Machine.execFirApply m n s
  | .firBankSwitch n => Sys2Proof.Machine.execFirBankSwitch n s
  | .maskApply m n => Sys2Proof.Machine.execMaskApply m n s
  | .maskTakeEffect n => Sys2Proof.Machine.execMaskTakeEffect n s
  | .radarPulse width power => Sys2Proof.Machine.execRadarPulse width power s
  | .radarFifoPop m => Sys2Proof.Machine.execRadarFifoPop m s
  | .synthLockLost n => Sys2Proof.Machine.execSynthLockLost n s
  | .synthRelock n => Sys2Proof.Machine.execSynthRelock n s
  | .linkAdd m l => Sys2Proof.Machine.execLinkAdd m l s
  | .linkRemove m l => Sys2Proof.Machine.execLinkRemove m l s
  | .linkCancel m l => Sys2Proof.Machine.execLinkCancel m l s
  | .linkRadioActive l => Sys2Proof.Machine.execLinkRadioActive l s
  | .pairStrHoldEnd => Sys2Proof.Machine.execPairStrHoldEnd s
  | .msdTimerEnd l => Sys2Proof.Machine.execMsdTimerEnd l s
  | .strcTrain m => Sys2Proof.Machine.execStrcTrain m s
  | .strcTrainStepDone figs silent lost => Sys2Proof.Machine.execStrcTrainStepDone figs silent lost s
  | .strcTrainTimeout => Sys2Proof.Machine.execStrcTrainTimeout s
  | .strcSilentSymbol victim figs => Sys2Proof.Machine.execStrcSilentSymbol victim figs s
  | .airSlotStart => Sys2Proof.Machine.execAirSlotStart s
  | .airBlockAccess l short => Sys2Proof.Machine.execAirBlockAccess l short s
  | .airTblApply m => Sys2Proof.Machine.execAirTblApply m s
  | .airResResume m => Sys2Proof.Machine.execAirResResume m s
  | .airResClrSkips m => Sys2Proof.Machine.execAirResClrSkips m s
  | .bsrpTimer => Sys2Proof.Machine.execBsrpTimer s
  | .edcaTxop l otherRx => Sys2Proof.Machine.execEdcaTxop l otherRx s
  | .chanApply m n => Sys2Proof.Machine.execChanApply m n s
  | .retuneStart n => Sys2Proof.Machine.execRetuneStart n s
  | .retuneForceAbort n => Sys2Proof.Machine.execRetuneForceAbort n s
  | .retuneDone n => Sys2Proof.Machine.execRetuneDone n s
  | .calStepOverrun n => Sys2Proof.Machine.execCalStepOverrun n s
  | .tempRecalPiece n temp cut => Sys2Proof.Machine.execTempRecalPiece n temp cut s
  | .ppduRx n p => Sys2Proof.Machine.execPpduRx n p s
  | .ppduTx n p => Sys2Proof.Machine.execPpduTx n p s
  | .tbtt l => Sys2Proof.Machine.execTbtt l s
  | .outrFrameRx p => Sys2Proof.Machine.execOutrFrameRx p s
  | .outrCapture est power passed => Sys2Proof.Machine.execOutrCapture est power passed s
  | .outrRxLost => Sys2Proof.Machine.execOutrRxLost s
  | .outrCalStepDone overrun lat => Sys2Proof.Machine.execOutrCalStepDone overrun lat s
  | .outrTimeslot => Sys2Proof.Machine.execOutrTimeslot s
  | .outrFrameTx nbr t => Sys2Proof.Machine.execOutrFrameTx nbr t s
  | .outrAckTimeout nbr => Sys2Proof.Machine.execOutrAckTimeout nbr s
  | .outrRxWindowEnd => Sys2Proof.Machine.execOutrRxWindowEnd s
  | .nbrCreate m => Sys2Proof.Machine.execNbrCreate m s
  | .nbrUpdate m => Sys2Proof.Machine.execNbrUpdate m s
  | .nbrRemove m => Sys2Proof.Machine.execNbrRemove m s
  | .nbrResync m => Sys2Proof.Machine.execNbrResync m s
  | .nbrAgeExpire e => Sys2Proof.Machine.execNbrAgeExpire e s
  | .extListen e => Sys2Proof.Machine.execExtListen e s
  | .cslSequence e t wake => Sys2Proof.Machine.execCslSequence e t wake s
  | .rfsDelivery e t copies acked => Sys2Proof.Machine.execRfsDelivery e t copies acked s
  | .omEvtPop m => Sys2Proof.Machine.execOmEvtPop m s
  | .backupPowerUp => Sys2Proof.Machine.execBackupPowerUp s
  | .supplySwitch battery vbat => Sys2Proof.Machine.execSupplySwitch battery vbat s
  | .crystalStop => Sys2Proof.Machine.execCrystalStop s
  | .vbatLowReset => Sys2Proof.Machine.execVbatLowReset s
  | .rtcSecond => Sys2Proof.Machine.execRtcSecond s
  | .rtcSnapshotRead m r sub => Sys2Proof.Machine.execRtcSnapshotRead m r sub s
  | .rtcSnapshotExpire => Sys2Proof.Machine.execRtcSnapshotExpire s
  | .rtcHoldWrite m r v => Sys2Proof.Machine.execRtcHoldWrite m r v s
  | .rtcApply m => Sys2Proof.Machine.execRtcApply m s
  | .rtcApplyTakeEffect => Sys2Proof.Machine.execRtcApplyTakeEffect s
  | .osfClear m => Sys2Proof.Machine.execOsfClear m s
  | .netWindowEnd t => Sys2Proof.Machine.execNetWindowEnd t s
  | .tempSample temp => Sys2Proof.Machine.execTempSample temp s
  | .crystalRestart => Sys2Proof.Machine.execCrystalRestart s
  | .brynVerify m => Sys2Proof.Machine.execBrynVerify m s
  | .brynAttest m => Sys2Proof.Machine.execBrynAttest m s
  | .brynIdExport m => Sys2Proof.Machine.execBrynIdExport m s
  | .brynArbAdvance m key arg => Sys2Proof.Machine.execBrynArbAdvance m key arg s
  | .brynOwnerProgram m key arg => Sys2Proof.Machine.execBrynOwnerProgram m key arg s
  | .brynOwnerRevoke m key arg => Sys2Proof.Machine.execBrynOwnerRevoke m key arg s
  | .brynLcDeploy m key => Sys2Proof.Machine.execBrynLcDeploy m key s
  | .brynOtpWrite m key arg => Sys2Proof.Machine.execBrynOtpWrite m key arg s
  | .brynChallenge m => Sys2Proof.Machine.execBrynChallenge m s
  | .brynUnlock m key => Sys2Proof.Machine.execBrynUnlock m key s
  | .brynDebugOpen m => Sys2Proof.Machine.execBrynDebugOpen m s
  | .brynScrap m key => Sys2Proof.Machine.execBrynScrap m key s
  | .brynSyskeyLoad m key arg => Sys2Proof.Machine.execBrynSyskeyLoad m key arg s
  | .brynCmdDone fails => Sys2Proof.Machine.execBrynCmdDone fails s
  | .coreHaltReq m n halt => Sys2Proof.Machine.execCoreHaltReq m n halt s
  | .coreStep m n => Sys2Proof.Machine.execCoreStep m n s
  | .pmbVoltageCmd => Sys2Proof.Machine.execPmbVoltageCmd s
  | .pmbXferGo m v => Sys2Proof.Machine.execPmbXferGo m v s
  | .pmbXferDone result data => Sys2Proof.Machine.execPmbXferDone result data s
  | .pmbSclTimeout => Sys2Proof.Machine.execPmbSclTimeout s
  | .pmbAlert low => Sys2Proof.Machine.execPmbAlert low s
  | .gpioBallEvent n level => Sys2Proof.Machine.execGpioBallEvent n level s
  | .gpioSet m v => Sys2Proof.Machine.execGpioSet m v s
  | .gpioClr m v => Sys2Proof.Machine.execGpioClr m v s
  | .spiCmdGo m v => Sys2Proof.Machine.execSpiCmdGo m v s
  | .spiCmdDone data => Sys2Proof.Machine.execSpiCmdDone data s
  | .uartTxWrite m v => Sys2Proof.Machine.execUartTxWrite m v s
  | .uartCharSent => Sys2Proof.Machine.execUartCharSent s
  | .uartCharRx c err => Sys2Proof.Machine.execUartCharRx c err s
  | .uartRxPop m => Sys2Proof.Machine.execUartRxPop m s
  | .tapIdcode => Sys2Proof.Machine.execTapIdcode s
  | .tapStatus => Sys2Proof.Machine.execTapStatus s
  | .tapBrynbox j write v => Sys2Proof.Machine.execTapBrynbox j write v s
  | .tapMemap a write v => Sys2Proof.Machine.execTapMemap a write v s
  | .tapExtest balls cells => Sys2Proof.Machine.execTapExtest balls cells s
  | .tapSamplePreload balls cells => Sys2Proof.Machine.execTapSamplePreload balls cells s
  | .tapHighz => Sys2Proof.Machine.execTapHighz s
  | .tapClamp => Sys2Proof.Machine.execTapClamp s
  | .tapBypass => Sys2Proof.Machine.execTapBypass s
  | .fatalGraceEnd => Sys2Proof.Machine.execFatalGraceEnd s
  | .diagSnapTrigger m => Sys2Proof.Machine.execDiagSnapTrigger m s
  | .diagSnapRelease m => Sys2Proof.Machine.execDiagSnapRelease m s
  | .snapHoldExpire => Sys2Proof.Machine.execSnapHoldExpire s
  | .diagLogClr m v => Sys2Proof.Machine.execDiagLogClr m v s
  | .powerOnReset pwrLow monitors => Sys2Proof.Machine.execPowerOnReset pwrLow monitors s
  | .supplyMonitorRelease n => Sys2Proof.Machine.execSupplyMonitorRelease n s
  | .resetBall => Sys2Proof.Machine.execResetBall s
  | .resetInputsHigh => Sys2Proof.Machine.execResetInputsHigh s
  | .swResetWarm m key => Sys2Proof.Machine.execSwResetWarm m key s
  | .swResetCold m key => Sys2Proof.Machine.execSwResetCold m key s
  | .warmResetAssert => Sys2Proof.Machine.execWarmResetAssert s
  | .internalResetRelease boot ep width otpFault => Sys2Proof.Machine.execInternalResetRelease boot ep width otpFault s
  | .thermalTrip => Sys2Proof.Machine.execThermalTrip s
  | .thermalRecover => Sys2Proof.Machine.execThermalRecover s
  | .debugResetRequest => Sys2Proof.Machine.execDebugResetRequest s
  | .pcieFundamentalReset => Sys2Proof.Machine.execPcieFundamentalReset s
  | .prepStart m v => Sys2Proof.Machine.execPrepStart m v s
  | .preparationDone u => Sys2Proof.Machine.execPreparationDone u s
  | .preparationTimeout u => Sys2Proof.Machine.execPreparationTimeout u s
  | .referenceAbsentAtReset => Sys2Proof.Machine.execReferenceAbsentAtReset s
  | .referenceAppear => Sys2Proof.Machine.execReferenceAppear s
  | .pcieTrainingStart => Sys2Proof.Machine.execPcieTrainingStart s
  | .bootImageVerified image => Sys2Proof.Machine.execBootImageVerified image s
  | .brynRecovGo m v => Sys2Proof.Machine.execBrynRecovGo m v s
  | .uartImageArrived image => Sys2Proof.Machine.execUartImageArrived image s
  | .quickCalDone temp => Sys2Proof.Machine.execQuickCalDone temp s
  | .wdogKick m v => Sys2Proof.Machine.execWdogKick m v s
  | .wdogHalfTimeout => Sys2Proof.Machine.execWdogHalfTimeout s
  | .wdogExpire => Sys2Proof.Machine.execWdogExpire s
  | .shutdownStart m v => Sys2Proof.Machine.execShutdownStart m v s
  | .shutdownPhaseEnd => Sys2Proof.Machine.execShutdownPhaseEnd s
  | .shutdownGraceEnd => Sys2Proof.Machine.execShutdownGraceEnd s
  | .shutdownCoreTimeout => Sys2Proof.Machine.execShutdownCoreTimeout s
  | .coreHalt n => Sys2Proof.Machine.execCoreHalt n s

end Sys2Proof.Machine
end

