-- ==== Sys2Proof/Machine/Tick.lean ====
section
/-! DEFINITION. What the device does when no command waits: one tick of the time base (spec/13_time.md R521), and the
transfers that wait at a Serai port (spec/04_serai.md R135). DESIGN CHOICE (log entry 3). -/

namespace Sys2Proof.Machine

open Sys2Proof

/-- The transfers that wait complete while their ports have room (R135). -/
def drainPorts (s : DM) : DM :=
  let r := portDrain s.1.ser.portWait s.1 s.2
  ({ r.2.1 with ser := { r.2.1.ser with portWait := r.1 } }, r.2.2)

/-- The internal reset holds the time base at zero, but for a warm reset, over which it keeps counting (R98, R522). -/
def baseHeld (d : Dev) : Bool := d.rst.asserted && !d.rst.warmPrep

/-- One 2 ns tick with no command waiting. -/
def idleTick (s : DM) : DM :=
  if baseHeld s.1 then s
  else
    let d := timeTick s.1
    if frozen d then (d, s.2) else drainPorts (d, s.2)

end Sys2Proof.Machine
end

