-- ==== Sys2Proof/Machine/Step.lean ====
section
/-! DEFINITION. One step of the machine: the command at the front of the queue, or a tick where none waits. -/

namespace Sys2Proof.Machine

open Sys2Proof

/-- A step takes the command at the front of the queue and carries it out; with none waiting, 2 ns pass (log entry 3). -/
def step (s : State) : Host.Outcome State Fault Refusal :=
  match s.pending with
  | [] => .next { s with dev := (idleTick (s.dev, s.mem)).1, mem := (idleTick (s.dev, s.mem)).2 }
  | c :: rest => exec c { s with pending := rest }

/-- The state with the command that a table word spells at the front of the queue; no row of the table gives bits, so
the state as it is. -/
def State.withFetchWord (s : State) (nbits w : Nat) : State :=
  match decodeTableWord nbits w with
  | some c => { s with pending := c :: s.pending }
  | none => s

end Sys2Proof.Machine
end

