-- ==== Sys2Proof/WellFormed.lean ====
section
/-! DEFINITION. Which commands are well formed: operands within the widths and ranges that the spec gives them. -/

namespace Sys2Proof

/-- A master that issues accesses: 22 and above are reserved (R33, R34). -/
def masterOk (m : Nat) : Bool := decide (m < 22)

/-- A register word. -/
def wordOk (v : Nat) : Bool := decide (v < 2 ^ 32)

/-- A page of the register space (R12). -/
def pageOk (p : Nat) : Bool := decide (p < 512)

/-- A register's address: in the register space, at a multiple of four (R12, R13). -/
def regAddrOk (a : Nat) : Bool := decide (0xF000000000 ≤ a) && decide (a < 0xF000200000) && a % 4 == 0

/-- Queues, rings, stations, neighbours, members, radios, cores and units by number. -/
def queueOk (q : Nat) : Bool := decide (q < 16384)
def ringOk (n : Nat) : Bool := decide (n < 64)
def stationOk (e : Nat) : Bool := decide (e < 2048)
def neighbourOk (e : Nat) : Bool := decide (e < 1024)
def memberOk (i : Nat) : Bool := decide (i < 1024)
def radioOk (n : Nat) : Bool := decide (n < 3)
def coreOk (n : Nat) : Bool := decide (n < 8)
def unitOk (u : Nat) : Bool := decide (u < 16)

/-- A symbol error lies in the 34-symbol codeword and is not zero. -/
def symOk (e : SymErr) : Bool := decide (e.pos < 34) && e.err != 0

/-- A symbol error of a DRAM line lies in one of eight ten-symbol codewords and is not zero. -/
def lineErrOk (e : LineErr) : Bool := decide (e.cw < 8) && decide (e.pos < 10) && e.err != 0

/-- An access touches a byte, and a write brings as many bytes as it touches (R65). -/
def accessOk (a : Access) : Bool :=
  masterOk a.master && decide (0 < a.len) && (a.kind != .write || a.data.length == a.len) &&
  (a.cache.isEmpty || decide (a.master < 8))

/-- The operands of a command are within their ranges. -/
def Instr.wf : Instr → Bool
  | .regWrite m addr v => masterOk m && regAddrOk addr && wordOk v
  | .absentPageWrite m page => masterOk m && pageOk page
  | .absentClr m v => masterOk m && wordOk v
  | .ctrlEnSet m page => masterOk m && pageOk page
  | .ctrlEnClear m page => masterOk m && pageOk page
  | .ctrlSoftRst m page => masterOk m && pageOk page
  | .softResetComplete page => pageOk page
  | .ctrlFreezeWrite m page v => masterOk m && pageOk page && decide (v < 2)
  | .startUpDone page => pageOk page
  | .drainEnd page => pageOk page
  | .intTestWrite m page v => masterOk m && pageOk page && wordOk v
  | .errCodeClear m page => masterOk m && pageOk page
  | .lockSetCfg m page => masterOk m && pageOk page
  | .lockSetCtrl m page => masterOk m && pageOk page
  | .intrHeldPost => true
  | .masterAccess a => accessOk a
  | .sysfeatCommit m v => masterOk m && wordOk v
  | .commitComplete => true
  | .paceWindowEnd _ => true
  | .governorInterval => true
  | .cellAdmit cls size => decide (cls < 8) && decide (0 < size)
  | .seraiTransfer port m _ off data mask errs errs2 => decide (port < 16) && masterOk m && decide (off < 2 ^ 25) && off % 64 == 0 && decide (data.length = 64) && decide (mask.length = 64) && errs.all symOk && errs2.all symOk
  | .allocFree m win v => masterOk m && decide (win < 8) && wordOk v
  | .allocReq m win v => masterOk m && decide (win < 8) && wordOk v
  | .allocNext m win v => masterOk m && decide (win < 8) && wordOk v
  | .scrubRead errs => errs.all symOk
  | .quarRelease m v => masterOk m && wordOk v
  | .classApply m v => masterOk m && wordOk v
  | .spillEnable m => masterOk m
  | .spillRegionReady => true
  | .spillCaravan => true
  | .spillReturn q => queueOk q
  | .spillDisable m => masterOk m
  | .enqueue _ x _ => queueOk x.queue
  | .qEnable m => masterOk m
  | .qPause m => masterOk m
  | .qResume m => masterOk m
  | .qFlush m => masterOk m
  | .qDisable m => masterOk m
  | .qRemovalDone q => queueOk q
  | .ringEnable m n => masterOk m && ringOk n
  | .ringClaimDone n => ringOk n
  | .ringDisable m n => masterOk m && ringOk n
  | .hrDoorbell m n v => masterOk m && ringOk n && wordOk v
  | .txDescProcess n _ => ringOk n
  | .ringEnqueueRetry n => ringOk n
  | .txDescComplete n idx => ringOk n && decide (idx < 2 ^ 16)
  | .txManifestEntry n => ringOk n
  | .rxRingDeliver n _ => ringOk n
  | .ringFire n => ringOk n
  | .hrArm m n v => masterOk m && ringOk n && wordOk v
  | .timeCmdSet m => masterOk m
  | .timeCmdStep m => masterOk m
  | .timeCmdSlew m => masterOk m
  | .timeCmdClrAsym m => masterOk m
  | .slewDone => true
  | .timeSmpPush m => masterOk m
  | .servoHoldTimeout => true
  | .timeNowRead m => masterOk m
  | .timeFifoPop m p => masterOk m && decide (p < 9)
  | .referenceLoss => true
  | .referenceReturn => true
  | .ppsInEdge _ => true
  | .ppsOutSecond => true
  | .ppsOutPulseEnd => true
  | .captureEdge c _ => decide (c < 8)
  | .capturePop m c => masterOk m && decide (c < 8)
  | .evtEnable m e => masterOk m && decide (e < 8)
  | .evtInstant e => decide (e < 8)
  | .evtPulseEnd e => decide (e < 8)
  | .dramRequestServe c s _ _ errs => decide (c < 2) && decide (s < 2) && errs.all lineErrOk
  | .dramRefresh c => decide (c < 2)
  | .rtBurstDeclare m a n => masterOk m && decide (a < 2 ^ 38) && decide (0 < n)
  | .selfRefreshEntry c => decide (c < 2)
  | .selfRefreshExit c => decide (c < 2)
  | .rhWindowStart c => decide (c < 2)
  | .dramScrubRead c errs => decide (c < 2) && errs.all lineErrOk
  | .dramInitLine c => decide (c < 2)
  | .migStart m c => masterOk m && decide (c < 2)
  | .migCopyLine c errs => decide (c < 2) && errs.all lineErrOk
  | .dramErrLogPop m c => masterOk m && decide (c < 2)
  | .trnMrw m c => masterOk m && decide (c < 2)
  | .trnMrr m c => masterOk m && decide (c < 2)
  | .trnMpc m c => masterOk m && decide (c < 2)
  | .trnCsSample m c => masterOk m && decide (c < 2)
  | .trnCaSample m c => masterOk m && decide (c < 2)
  | .trnWlevel m c => masterOk m && decide (c < 2)
  | .trnPatWrite m c => masterOk m && decide (c < 2)
  | .trnRdCompare m c => masterOk m && decide (c < 2)
  | .trnEyeScan m c => masterOk m && decide (c < 2)
  | .trnHelperDone c data mask cnt points => decide (c < 2) && wordOk data && wordOk mask && wordOk cnt && wordOk points
  | .trnDonePass m c => masterOk m && decide (c < 2)
  | .trnDoneFail m c => masterOk m && decide (c < 2)
  | .wayManifestIn => true
  | .wayTableFetchDone line _ => decide (line < 2 ^ 38) && line % 64 == 0
  | .wayReturn => true
  | .wayExcPost => true
  | .brAgeScan => true
  | .ctScan => true
  | .ctHotWriteback e => decide (e < 2 ^ 24)
  | .ctExpiryPop m => masterOk m
  | .ctInsert m e => masterOk m && decide (e < 2 ^ 24)
  | .ctDelete m e => masterOk m && decide (e < 2 ^ 24)
  | .brLookup m => masterOk m
  | .brInsert m => masterOk m
  | .brDelete m => masterOk m
  | .brFlushDynamic m => masterOk m
  | .tblInv m lines => masterOk m && decide (lines < 2 ^ 24)
  | .aclWrite m => masterOk m
  | .aclRead m => masterOk m
  | .polBurstWrite m v => masterOk m && wordOk v
  | .staCreate m => masterOk m
  | .staAssoc m => masterOk m
  | .staAuthorize m => masterOk m
  | .staUpdate m => masterOk m
  | .staFreeze m => masterOk m
  | .staFreezeDone e => stationOk e
  | .staThaw m => masterOk m
  | .staRemove m => masterOk m
  | .staRemoveDone e => stationOk e
  | .probeAgeExpire e => stationOk e
  | .staAgeCheck => true
  | .mpduLifetimeExpire e tid sn => stationOk e && decide (tid < 9) && decide (sn < 4096)
  | .baRxWrite m v => masterOk m && wordOk v
  | .reorderTimeout e tid => stationOk e && decide (tid < 9)
  | .staEvtPop m => masterOk m
  | .tmDecision o => decide (o < 16)
  | .airOccDequeue l q => decide (l < 3) && queueOk q
  | .launchEligible q => queueOk q
  | .shaperApply m => masterOk m
  | .gateCommit m => masterOk m
  | .gateCancel m => masterOk m
  | .gateTakeover n => decide (n < 16)
  | .gateChange n => decide (n < 16)
  | .shaperHoldEnd s => decide (s < 4096)
  | .keyLoad m _ => masterOk m
  | .keySeal m _ => masterOk m
  | .keyExport m => masterOk m
  | .keyDerive m => masterOk m
  | .keyErase m => masterOk m
  | .keyEraseDone slot => decide (slot < 8192)
  | .keyPnWrite m pn => masterOk m && decide (pn < 2 ^ 48)
  | .ctxWrite m => masterOk m
  | .ctxRead m => masterOk m
  | .ctxInvalidate m => masterOk m
  | .crDoorbell m n v => masterOk m && decide (8 ≤ n) && decide (n < 16) && wordOk v
  | .ciphJobStart r _ _ => decide (r < 16)
  | .ciphJobComplete r => decide (8 ≤ r) && decide (r < 16)
  | .ciphManifestPass r => decide (r < 4)
  | .staExport m => masterOk m
  | .staImport m => masterOk m
  | .taskCreate m => masterOk m
  | .taskStart m => masterOk m
  | .taskCancel m => masterOk m
  | .taskDelete m => masterOk m
  | .taskSetPrio m => masterOk m
  | .taskFlagSet m v => masterOk m && wordOk v
  | .taskFlagClr m v => masterOk m && wordOk v
  | .eventPost => true
  | .drvWait m n mask _ => masterOk m && coreOk n && wordOk mask
  | .drvYield m n => masterOk m && coreOk n
  | .drvPreempted m n => masterOk m && coreOk n
  | .drvSlotTake m n => masterOk m && coreOk n
  | .drvItemTake m n => masterOk m && coreOk n
  | .disposeReturn m n => masterOk m && coreOk n
  | .disposeQueue m n => masterOk m && coreOk n
  | .disposeDiscard m n => masterOk m && coreOk n
  | .disposeDone t => decide (t < 4096)
  | .drvTimerFire n => decide (n < 1024)
  | .timerArm m v => masterOk m && wordOk v
  | .timerDisarm m v => masterOk m && wordOk v
  | .laneSignalDetect n => decide (n ≤ 8)
  | .laneTrainDone n _ gen width => decide (n ≤ 8) && decide (gen < 16) && decide (width < 64)
  | .laneLockAchieved n => decide (n ≤ 8)
  | .laneLockTimeout n => decide (n ≤ 8)
  | .laneAutonegDone n _ _ speed => decide (n ≤ 8) && decide (speed < 8)
  | .capxInterval n => decide (n < 8)
  | .capxFrameRx n _ _ => decide (n < 8)
  | .capxTimeout n => decide (n < 8)
  | .upshiftTimeout n => decide (n ≤ 8)
  | .linkHoldExpire n => decide (n ≤ 8)
  | .laneLos n _ _ => decide (n ≤ 8)
  | .laneLol n _ _ => decide (n ≤ 8)
  | .lpbkModeWrite m n v => masterOk m && decide (n < 8) && wordOk v
  | .prbsEnableWrite m n v => masterOk m && decide (n < 8) && wordOk v
  | .prbsInjOne m n => masterOk m && decide (n < 8)
  | .ethFrameRx p quarter _ _ => decide (p < 6) && decide (quarter < 8)
  | .pauseExpire p prio => decide (p < 6) && decide (prio ≤ 8)
  | .ethFrameTx p quarter frags => decide (p < 6) && decide (quarter < 8) && decide (0 < frags)
  | .xoffRefresh p prio => decide (p < 6) && decide (prio ≤ 8)
  | .preemptVerifyTimeout p => decide (p < 6)
  | .preemptVerifyResponse p => decide (p < 6)
  | .pcieInboundRequest bar a _ len data => bar.all (fun b => decide (b < 6)) && decide (a < 2 ^ 40) && decide (0 < len) && decide (len ≤ 4096) && decide (data.length ≤ len)
  | .pcieObMemRead m be => masterOk m && decide (be < 16)
  | .pcieObMemWrite m be => masterOk m && decide (be < 16)
  | .pcieObCfgRead m be => masterOk m && decide (be < 16)
  | .pcieObCfgWrite m be => masterOk m && decide (be < 16)
  | .pcieCompletion status data => decide (status < 3) && wordOk data
  | .pcieCompletionTimeout ring => ring.all ringOk
  | .pcieLinkDown => true
  | .epReadyWrite m => masterOk m
  | .prbsCheckerLocked n => decide (n < 8)
  | .prbsCheckerUnlocked n errs => decide (n < 8) && decide (64 ≤ errs)
  | .helloTimer => true
  | .helloRx => true
  | .recordRx => true
  | .ackRx => true
  | .summaryRx => true
  | .hoReqRx => true
  | .hoDataRx => true
  | .hoDoneRx => true
  | .hoNakRx => true
  | .planRx => true
  | .departRx => true
  | .memberAgeSuspect id => memberOk id
  | .memberAgeSeparated id => memberOk id
  | .cvyRetxTimer dest seq => memberOk dest && wordOk seq
  | .tombExpire kind rkey => decide (kind < 16) && decide (rkey < 2 ^ 64)
  | .keyActivation gen => decide (gen < 256)
  | .recWrite m _ => masterOk m
  | .recRead m _ => masterOk m
  | .recDelete m _ => masterOk m
  | .hoRequest m => masterOk m
  | .hoRetxTimer => true
  | .hoTimeout => true
  | .hoHoldExpire addr => decide (addr < 2 ^ 48)
  | .departWaitEnd => true
  | .cvyEvtPop m => masterOk m
  | .calStepDone n _ lat => radioOk n && lat.all (fun x => decide (x.1 < 8))
  | .calTrackPiece n chain => radioOk n && decide (chain < 8)
  | .shadowCapture n _ _ _ _ => radioOk n
  | .rxPowerDrop n => radioOk n
  | .noiseFloorUpdate n _ => radioOk n
  | .refTrimUpdate n => radioOk n
  | .firApply m n => masterOk m && radioOk n
  | .firBankSwitch n => radioOk n
  | .maskApply m n => masterOk m && radioOk n
  | .maskTakeEffect n => radioOk n
  | .radarPulse _ _ => true
  | .radarFifoPop m => masterOk m
  | .synthLockLost n => radioOk n
  | .synthRelock n => radioOk n
  | .linkAdd m l => masterOk m && decide (l < 3)
  | .linkRemove m l => masterOk m && decide (l < 3)
  | .linkCancel m l => masterOk m && decide (l < 3)
  | .linkRadioActive l => decide (l < 3)
  | .pairStrHoldEnd => true
  | .msdTimerEnd l => decide (l < 3)
  | .strcTrain m => masterOk m
  | .strcTrainStepDone _ _ _ => true
  | .strcTrainTimeout => true
  | .strcSilentSymbol victim _ => decide (victim < 2)
  | .airSlotStart => true
  | .airBlockAccess l _ => decide (l < 3)
  | .airTblApply m => masterOk m
  | .airResResume m => masterOk m
  | .airResClrSkips m => masterOk m
  | .bsrpTimer => true
  | .edcaTxop l _ => decide (l < 3)
  | .chanApply m n => masterOk m && radioOk n
  | .retuneStart n => radioOk n
  | .retuneForceAbort n => radioOk n
  | .retuneDone n => radioOk n
  | .calStepOverrun n => radioOk n
  | .tempRecalPiece n _ _ => radioOk n
  | .ppduRx n _ => radioOk n
  | .ppduTx n _ => radioOk n
  | .tbtt l => decide (l < 3)
  | .outrFrameRx _ => true
  | .outrCapture _ _ _ => true
  | .outrRxLost => true
  | .outrCalStepDone _ _ => true
  | .outrTimeslot => true
  | .outrFrameTx nbr _ => decide (nbr < 1024)
  | .outrAckTimeout nbr => decide (nbr < 1024)
  | .outrRxWindowEnd => true
  | .nbrCreate m => masterOk m
  | .nbrUpdate m => masterOk m
  | .nbrRemove m => masterOk m
  | .nbrResync m => masterOk m
  | .nbrAgeExpire e => neighbourOk e
  | .extListen e => neighbourOk e
  | .cslSequence e _ _ => neighbourOk e
  | .rfsDelivery e _ copies _ => neighbourOk e && decide (0 < copies)
  | .omEvtPop m => masterOk m
  | .backupPowerUp => true
  | .supplySwitch _ _ => true
  | .crystalStop => true
  | .vbatLowReset => true
  | .rtcSecond => true
  | .rtcSnapshotRead m r sub => masterOk m && decide (r ≤ 8) && decide (sub < 32768)
  | .rtcSnapshotExpire => true
  | .rtcHoldWrite m r v => masterOk m && decide (1 ≤ r) && decide (r ≤ 8) && wordOk v
  | .rtcApply m => masterOk m
  | .rtcApplyTakeEffect => true
  | .osfClear m => masterOk m
  | .netWindowEnd _ => true
  | .tempSample _ => true
  | .crystalRestart => true
  | .brynVerify m => masterOk m
  | .brynAttest m => masterOk m
  | .brynIdExport m => masterOk m
  | .brynArbAdvance m key arg => masterOk m && decide (key < 2 ^ 16) && decide (arg < 256)
  | .brynOwnerProgram m key arg => masterOk m && decide (key < 2 ^ 16) && decide (arg < 256)
  | .brynOwnerRevoke m key arg => masterOk m && decide (key < 2 ^ 16) && decide (arg < 256)
  | .brynLcDeploy m key => masterOk m && decide (key < 2 ^ 16)
  | .brynOtpWrite m key arg => masterOk m && decide (key < 2 ^ 16) && decide (arg < 256)
  | .brynChallenge m => masterOk m
  | .brynUnlock m key => masterOk m && decide (key < 2 ^ 16)
  | .brynDebugOpen m => masterOk m
  | .brynScrap m key => masterOk m && decide (key < 2 ^ 16)
  | .brynSyskeyLoad m key arg => masterOk m && decide (key < 2 ^ 16) && decide (arg < 256)
  | .brynCmdDone _ => true
  | .coreHaltReq m n _ => masterOk m && coreOk n
  | .coreStep m n => masterOk m && coreOk n
  | .pmbVoltageCmd => true
  | .pmbXferGo m v => masterOk m && wordOk v
  | .pmbXferDone result data => decide (result < 4) && result != 2 && wordOk data
  | .pmbSclTimeout => true
  | .pmbAlert _ => true
  | .gpioBallEvent n _ => decide (n < 32)
  | .gpioSet m v => masterOk m && wordOk v
  | .gpioClr m v => masterOk m && wordOk v
  | .spiCmdGo m v => masterOk m && wordOk v
  | .spiCmdDone _ => true
  | .uartTxWrite m v => masterOk m && wordOk v
  | .uartCharSent => true
  | .uartCharRx c err => decide (c < 256) && decide (err < 8)
  | .uartRxPop m => masterOk m
  | .tapIdcode => true
  | .tapStatus => true
  | .tapBrynbox j _ v => decide (j < 256) && wordOk v
  | .tapMemap a _ v => decide (a < 2 ^ 40) && wordOk v
  | .tapExtest _ _ => true
  | .tapSamplePreload _ _ => true
  | .tapHighz => true
  | .tapClamp => true
  | .tapBypass => true
  | .fatalGraceEnd => true
  | .diagSnapTrigger m => masterOk m
  | .diagSnapRelease m => masterOk m
  | .snapHoldExpire => true
  | .diagLogClr m v => masterOk m && wordOk v
  | .powerOnReset _ monitors => monitors.all (fun x => decide (x < 3))
  | .supplyMonitorRelease n => decide (n < 3)
  | .resetBall => true
  | .resetInputsHigh => true
  | .swResetWarm m key => masterOk m && decide (key < 2 ^ 16)
  | .swResetCold m key => masterOk m && decide (key < 2 ^ 16)
  | .warmResetAssert => true
  | .internalResetRelease boot _ width _ => decide (boot < 4) && decide (width < 8)
  | .thermalTrip => true
  | .thermalRecover => true
  | .debugResetRequest => true
  | .pcieFundamentalReset => true
  | .prepStart m v => masterOk m && wordOk v
  | .preparationDone u => unitOk u
  | .preparationTimeout u => unitOk u
  | .referenceAbsentAtReset => true
  | .referenceAppear => true
  | .pcieTrainingStart => true
  | .bootImageVerified _ => true
  | .brynRecovGo m v => masterOk m && wordOk v
  | .uartImageArrived _ => true
  | .quickCalDone _ => true
  | .wdogKick m v => masterOk m && wordOk v
  | .wdogHalfTimeout => true
  | .wdogExpire => true
  | .shutdownStart m v => masterOk m && wordOk v
  | .shutdownPhaseEnd => true
  | .shutdownGraceEnd => true
  | .shutdownCoreTimeout => true
  | .coreHalt n => coreOk n

/-- The master that a command names. -/
def Instr.master? : Instr → Option Nat
  | .regWrite m _ _ => some m
  | .absentPageWrite m _ => some m
  | .absentClr m _ => some m
  | .ctrlEnSet m _ => some m
  | .ctrlEnClear m _ => some m
  | .ctrlSoftRst m _ => some m
  | .softResetComplete _ => none
  | .ctrlFreezeWrite m _ _ => some m
  | .startUpDone _ => none
  | .drainEnd _ => none
  | .intTestWrite m _ _ => some m
  | .errCodeClear m _ => some m
  | .lockSetCfg m _ => some m
  | .lockSetCtrl m _ => some m
  | .intrHeldPost => none
  | .masterAccess a => some a.master
  | .sysfeatCommit m _ => some m
  | .commitComplete => none
  | .paceWindowEnd _ => none
  | .governorInterval => none
  | .cellAdmit _ _ => none
  | .seraiTransfer _ m _ _ _ _ _ _ => some m
  | .allocFree m _ _ => some m
  | .allocReq m _ _ => some m
  | .allocNext m _ _ => some m
  | .scrubRead _ => none
  | .quarRelease m _ => some m
  | .classApply m _ => some m
  | .spillEnable m => some m
  | .spillRegionReady => none
  | .spillCaravan => none
  | .spillReturn _ => none
  | .spillDisable m => some m
  | .enqueue _ _ _ => none
  | .qEnable m => some m
  | .qPause m => some m
  | .qResume m => some m
  | .qFlush m => some m
  | .qDisable m => some m
  | .qRemovalDone _ => none
  | .ringEnable m _ => some m
  | .ringClaimDone _ => none
  | .ringDisable m _ => some m
  | .hrDoorbell m _ _ => some m
  | .txDescProcess _ _ => none
  | .ringEnqueueRetry _ => none
  | .txDescComplete _ _ => none
  | .txManifestEntry _ => none
  | .rxRingDeliver _ _ => none
  | .ringFire _ => none
  | .hrArm m _ _ => some m
  | .timeCmdSet m => some m
  | .timeCmdStep m => some m
  | .timeCmdSlew m => some m
  | .timeCmdClrAsym m => some m
  | .slewDone => none
  | .timeSmpPush m => some m
  | .servoHoldTimeout => none
  | .timeNowRead m => some m
  | .timeFifoPop m _ => some m
  | .referenceLoss => none
  | .referenceReturn => none
  | .ppsInEdge _ => none
  | .ppsOutSecond => none
  | .ppsOutPulseEnd => none
  | .captureEdge _ _ => none
  | .capturePop m _ => some m
  | .evtEnable m _ => some m
  | .evtInstant _ => none
  | .evtPulseEnd _ => none
  | .dramRequestServe _ _ _ _ _ => none
  | .dramRefresh _ => none
  | .rtBurstDeclare m _ _ => some m
  | .selfRefreshEntry _ => none
  | .selfRefreshExit _ => none
  | .rhWindowStart _ => none
  | .dramScrubRead _ _ => none
  | .dramInitLine _ => none
  | .migStart m _ => some m
  | .migCopyLine _ _ => none
  | .dramErrLogPop m _ => some m
  | .trnMrw m _ => some m
  | .trnMrr m _ => some m
  | .trnMpc m _ => some m
  | .trnCsSample m _ => some m
  | .trnCaSample m _ => some m
  | .trnWlevel m _ => some m
  | .trnPatWrite m _ => some m
  | .trnRdCompare m _ => some m
  | .trnEyeScan m _ => some m
  | .trnHelperDone _ _ _ _ _ => none
  | .trnDonePass m _ => some m
  | .trnDoneFail m _ => some m
  | .wayManifestIn => none
  | .wayTableFetchDone _ _ => none
  | .wayReturn => none
  | .wayExcPost => none
  | .brAgeScan => none
  | .ctScan => none
  | .ctHotWriteback _ => none
  | .ctExpiryPop m => some m
  | .ctInsert m _ => some m
  | .ctDelete m _ => some m
  | .brLookup m => some m
  | .brInsert m => some m
  | .brDelete m => some m
  | .brFlushDynamic m => some m
  | .tblInv m _ => some m
  | .aclWrite m => some m
  | .aclRead m => some m
  | .polBurstWrite m _ => some m
  | .staCreate m => some m
  | .staAssoc m => some m
  | .staAuthorize m => some m
  | .staUpdate m => some m
  | .staFreeze m => some m
  | .staFreezeDone _ => none
  | .staThaw m => some m
  | .staRemove m => some m
  | .staRemoveDone _ => none
  | .probeAgeExpire _ => none
  | .staAgeCheck => none
  | .mpduLifetimeExpire _ _ _ => none
  | .baRxWrite m _ => some m
  | .reorderTimeout _ _ => none
  | .staEvtPop m => some m
  | .tmDecision _ => none
  | .airOccDequeue _ _ => none
  | .launchEligible _ => none
  | .shaperApply m => some m
  | .gateCommit m => some m
  | .gateCancel m => some m
  | .gateTakeover _ => none
  | .gateChange _ => none
  | .shaperHoldEnd _ => none
  | .keyLoad m _ => some m
  | .keySeal m _ => some m
  | .keyExport m => some m
  | .keyDerive m => some m
  | .keyErase m => some m
  | .keyEraseDone _ => none
  | .keyPnWrite m _ => some m
  | .ctxWrite m => some m
  | .ctxRead m => some m
  | .ctxInvalidate m => some m
  | .crDoorbell m _ _ => some m
  | .ciphJobStart _ _ _ => none
  | .ciphJobComplete _ => none
  | .ciphManifestPass _ => none
  | .staExport m => some m
  | .staImport m => some m
  | .taskCreate m => some m
  | .taskStart m => some m
  | .taskCancel m => some m
  | .taskDelete m => some m
  | .taskSetPrio m => some m
  | .taskFlagSet m _ => some m
  | .taskFlagClr m _ => some m
  | .eventPost => none
  | .drvWait m _ _ _ => some m
  | .drvYield m _ => some m
  | .drvPreempted m _ => some m
  | .drvSlotTake m _ => some m
  | .drvItemTake m _ => some m
  | .disposeReturn m _ => some m
  | .disposeQueue m _ => some m
  | .disposeDiscard m _ => some m
  | .disposeDone _ => none
  | .drvTimerFire _ => none
  | .timerArm m _ => some m
  | .timerDisarm m _ => some m
  | .laneSignalDetect _ => none
  | .laneTrainDone _ _ _ _ => none
  | .laneLockAchieved _ => none
  | .laneLockTimeout _ => none
  | .laneAutonegDone _ _ _ _ => none
  | .capxInterval _ => none
  | .capxFrameRx _ _ _ => none
  | .capxTimeout _ => none
  | .upshiftTimeout _ => none
  | .linkHoldExpire _ => none
  | .laneLos _ _ _ => none
  | .laneLol _ _ _ => none
  | .lpbkModeWrite m _ _ => some m
  | .prbsEnableWrite m _ _ => some m
  | .prbsInjOne m _ => some m
  | .ethFrameRx _ _ _ _ => none
  | .pauseExpire _ _ => none
  | .ethFrameTx _ _ _ => none
  | .xoffRefresh _ _ => none
  | .preemptVerifyTimeout _ => none
  | .preemptVerifyResponse _ => none
  | .pcieInboundRequest _ _ _ _ _ => none
  | .pcieObMemRead m _ => some m
  | .pcieObMemWrite m _ => some m
  | .pcieObCfgRead m _ => some m
  | .pcieObCfgWrite m _ => some m
  | .pcieCompletion _ _ => none
  | .pcieCompletionTimeout _ => none
  | .pcieLinkDown => none
  | .epReadyWrite m => some m
  | .prbsCheckerLocked _ => none
  | .prbsCheckerUnlocked _ _ => none
  | .helloTimer => none
  | .helloRx => none
  | .recordRx => none
  | .ackRx => none
  | .summaryRx => none
  | .hoReqRx => none
  | .hoDataRx => none
  | .hoDoneRx => none
  | .hoNakRx => none
  | .planRx => none
  | .departRx => none
  | .memberAgeSuspect _ => none
  | .memberAgeSeparated _ => none
  | .cvyRetxTimer _ _ => none
  | .tombExpire _ _ => none
  | .keyActivation _ => none
  | .recWrite m _ => some m
  | .recRead m _ => some m
  | .recDelete m _ => some m
  | .hoRequest m => some m
  | .hoRetxTimer => none
  | .hoTimeout => none
  | .hoHoldExpire _ => none
  | .departWaitEnd => none
  | .cvyEvtPop m => some m
  | .calStepDone _ _ _ => none
  | .calTrackPiece _ _ => none
  | .shadowCapture _ _ _ _ _ => none
  | .rxPowerDrop _ => none
  | .noiseFloorUpdate _ _ => none
  | .refTrimUpdate _ => none
  | .firApply m _ => some m
  | .firBankSwitch _ => none
  | .maskApply m _ => some m
  | .maskTakeEffect _ => none
  | .radarPulse _ _ => none
  | .radarFifoPop m => some m
  | .synthLockLost _ => none
  | .synthRelock _ => none
  | .linkAdd m _ => some m
  | .linkRemove m _ => some m
  | .linkCancel m _ => some m
  | .linkRadioActive _ => none
  | .pairStrHoldEnd => none
  | .msdTimerEnd _ => none
  | .strcTrain m => some m
  | .strcTrainStepDone _ _ _ => none
  | .strcTrainTimeout => none
  | .strcSilentSymbol _ _ => none
  | .airSlotStart => none
  | .airBlockAccess _ _ => none
  | .airTblApply m => some m
  | .airResResume m => some m
  | .airResClrSkips m => some m
  | .bsrpTimer => none
  | .edcaTxop _ _ => none
  | .chanApply m _ => some m
  | .retuneStart _ => none
  | .retuneForceAbort _ => none
  | .retuneDone _ => none
  | .calStepOverrun _ => none
  | .tempRecalPiece _ _ _ => none
  | .ppduRx _ _ => none
  | .ppduTx _ _ => none
  | .tbtt _ => none
  | .outrFrameRx _ => none
  | .outrCapture _ _ _ => none
  | .outrRxLost => none
  | .outrCalStepDone _ _ => none
  | .outrTimeslot => none
  | .outrFrameTx _ _ => none
  | .outrAckTimeout _ => none
  | .outrRxWindowEnd => none
  | .nbrCreate m => some m
  | .nbrUpdate m => some m
  | .nbrRemove m => some m
  | .nbrResync m => some m
  | .nbrAgeExpire _ => none
  | .extListen _ => none
  | .cslSequence _ _ _ => none
  | .rfsDelivery _ _ _ _ => none
  | .omEvtPop m => some m
  | .backupPowerUp => none
  | .supplySwitch _ _ => none
  | .crystalStop => none
  | .vbatLowReset => none
  | .rtcSecond => none
  | .rtcSnapshotRead m _ _ => some m
  | .rtcSnapshotExpire => none
  | .rtcHoldWrite m _ _ => some m
  | .rtcApply m => some m
  | .rtcApplyTakeEffect => none
  | .osfClear m => some m
  | .netWindowEnd _ => none
  | .tempSample _ => none
  | .crystalRestart => none
  | .brynVerify m => some m
  | .brynAttest m => some m
  | .brynIdExport m => some m
  | .brynArbAdvance m _ _ => some m
  | .brynOwnerProgram m _ _ => some m
  | .brynOwnerRevoke m _ _ => some m
  | .brynLcDeploy m _ => some m
  | .brynOtpWrite m _ _ => some m
  | .brynChallenge m => some m
  | .brynUnlock m _ => some m
  | .brynDebugOpen m => some m
  | .brynScrap m _ => some m
  | .brynSyskeyLoad m _ _ => some m
  | .brynCmdDone _ => none
  | .coreHaltReq m _ _ => some m
  | .coreStep m _ => some m
  | .pmbVoltageCmd => none
  | .pmbXferGo m _ => some m
  | .pmbXferDone _ _ => none
  | .pmbSclTimeout => none
  | .pmbAlert _ => none
  | .gpioBallEvent _ _ => none
  | .gpioSet m _ => some m
  | .gpioClr m _ => some m
  | .spiCmdGo m _ => some m
  | .spiCmdDone _ => none
  | .uartTxWrite m _ => some m
  | .uartCharSent => none
  | .uartCharRx _ _ => none
  | .uartRxPop m => some m
  | .tapIdcode => none
  | .tapStatus => none
  | .tapBrynbox _ _ _ => none
  | .tapMemap _ _ _ => none
  | .tapExtest _ _ => none
  | .tapSamplePreload _ _ => none
  | .tapHighz => none
  | .tapClamp => none
  | .tapBypass => none
  | .fatalGraceEnd => none
  | .diagSnapTrigger m => some m
  | .diagSnapRelease m => some m
  | .snapHoldExpire => none
  | .diagLogClr m _ => some m
  | .powerOnReset _ _ => none
  | .supplyMonitorRelease _ => none
  | .resetBall => none
  | .resetInputsHigh => none
  | .swResetWarm m _ => some m
  | .swResetCold m _ => some m
  | .warmResetAssert => none
  | .internalResetRelease _ _ _ _ => none
  | .thermalTrip => none
  | .thermalRecover => none
  | .debugResetRequest => none
  | .pcieFundamentalReset => none
  | .prepStart m _ => some m
  | .preparationDone _ => none
  | .preparationTimeout _ => none
  | .referenceAbsentAtReset => none
  | .referenceAppear => none
  | .pcieTrainingStart => none
  | .bootImageVerified _ => none
  | .brynRecovGo m _ => some m
  | .uartImageArrived _ => none
  | .quickCalDone _ => none
  | .wdogKick m _ => some m
  | .wdogHalfTimeout => none
  | .wdogExpire => none
  | .shutdownStart m _ => some m
  | .shutdownPhaseEnd => none
  | .shutdownGraceEnd => none
  | .shutdownCoreTimeout => none
  | .coreHalt _ => none

end Sys2Proof
end

