-- ==== Sys2Proof/Safety.lean ====
section
/-! DEFINITION. The terms in which claims are made: sound states, what a command leaves, and what it does. -/

namespace Sys2Proof.Machine

open Sys2Proof

/-- Memory is in its canonical form. -/
def State.memCanonical (s : State) : Bool := Memory.wf s.mem

/-- Every command that waits is well formed. -/
def State.queueWf (s : State) : Bool := s.pending.all Instr.wf

/-- A sound state: canonical memory, and a queue of well-formed commands. -/
def State.sound (s : State) : Bool := s.memCanonical && s.queueWf

/-- The device answers command `c` with a next state of which `P` holds. -/
def Acts (c : Instr) (s : State) (P : State → Prop) : Prop := ∃ t, exec c s = .next t ∧ P t

/-- What a command leaves when it touches no memory: every byte, and the commands that wait. -/
def Quiet (s t : State) : Prop := t.mem = s.mem ∧ t.pending = s.pending

/-- No register field outside the pages `ps` has changed. -/
def OffPages (ps : List Nat) (d e : Dev) : Prop :=
  ∀ k : Key, ps.contains (k.reg / 4096) = false → regLook k e.regs = regLook k d.regs

/-- No register field but those at the homes `ks` has changed. -/
def OffKeys (ks : List Key) (d e : Dev) : Prop := ∀ k : Key, k ∉ ks → regLook k e.regs = regLook k d.regs

/-- The device without its registers, the state shared by all pages, what it has shown outside, and the model's counter of
open values: the units. -/
def Dev.units (d : Dev) : Dev := { d with regs := [], sh := {}, out := [], drawn := 0 }

/-- The parts of the state beside the registers: the units, memory, and the commands that wait. The state that all pages
share, the outputs and the counter of open values are not among them. -/
inductive Part where
  | variant | rst | tb | time | rtc | ser | q | way | radios | mld | strc | air | sta | outr | tm | ciph | bryn | drv | pcie | lanes | eth | dram | cvy | edge | memory | waiting
  deriving DecidableEq, Repr

/-- A part is the same in `t` as in `s`. -/
def Part.same : Part → State → State → Prop
  | .variant, s, t => t.dev.variant = s.dev.variant
  | .rst, s, t => t.dev.rst = s.dev.rst
  | .tb, s, t => t.dev.tb = s.dev.tb
  | .time, s, t => t.dev.time = s.dev.time
  | .rtc, s, t => t.dev.rtc = s.dev.rtc
  | .ser, s, t => t.dev.ser = s.dev.ser
  | .q, s, t => t.dev.q = s.dev.q
  | .way, s, t => t.dev.way = s.dev.way
  | .radios, s, t => t.dev.radios = s.dev.radios
  | .mld, s, t => t.dev.mld = s.dev.mld
  | .strc, s, t => t.dev.strc = s.dev.strc
  | .air, s, t => t.dev.air = s.dev.air
  | .sta, s, t => t.dev.sta = s.dev.sta
  | .outr, s, t => t.dev.outr = s.dev.outr
  | .tm, s, t => t.dev.tm = s.dev.tm
  | .ciph, s, t => t.dev.ciph = s.dev.ciph
  | .bryn, s, t => t.dev.bryn = s.dev.bryn
  | .drv, s, t => t.dev.drv = s.dev.drv
  | .pcie, s, t => t.dev.pcie = s.dev.pcie
  | .lanes, s, t => t.dev.lanes = s.dev.lanes
  | .eth, s, t => t.dev.eth = s.dev.eth
  | .dram, s, t => t.dev.dram = s.dev.dram
  | .cvy, s, t => t.dev.cvy = s.dev.cvy
  | .edge, s, t => t.dev.edge = s.dev.edge
  | .memory, s, t => t.mem = s.mem
  | .waiting, s, t => t.pending = s.pending

/-- From `s` to `t` nothing has changed but the parts `parts`, registers of the pages `pages`, the state shared by all pages
and the outputs. -/
def Changes (parts : List Part) (pages : List Nat) (s t : State) : Prop :=
  (∀ p : Part, p ∉ parts → p.same s t) ∧ OffPages pages s.dev t.dev

/-- From `s` to `t` only the parts `parts` have changed among the parts; registers of any page may have. -/
def ChangesParts (parts : List Part) (s t : State) : Prop := ∀ p : Part, p ∉ parts → p.same s t

/-- Only registers of the pages `ps`, the state shared by all pages and outputs have changed: no unit, no memory. -/
def OnlyPages (ps : List Nat) (s t : State) : Prop := Changes [] ps s t

/-- Only the register fields at the homes `ks` have changed. -/
def OnlyKeys (ks : List Key) (s t : State) : Prop :=
  Quiet s t ∧ OffKeys ks s.dev t.dev ∧ { t.dev with regs := [] } = { s.dev with regs := [] }

/-- A write of CTRL at page `p` by master `m` reaches the block there: granted, present, the block's first page, unlocked. -/
def ctrlReaches (d : Dev) (m p : Nat) : Bool :=
  (p == pBryn || pageWritable d m p) && present d p && firstPage p == p && !ctrlLocked d p

/-- Error `e` stands captured at its page: the fields of ERR_CODE and ERR_ADDR are its own (R46). -/
def Captured (e : ErrRec) (d : Dev) : Prop :=
  d.on HDR_ERR_CODE_VALID e.page = true ∧ d.rd HDR_ERR_CODE_CODE e.page = e.code % 256 ∧
  d.rd HDR_ERR_CODE_SEVERITY e.page = e.sev % 4 ∧ d.rd HDR_ERR_CODE_KIND e.page = e.kind % 4 ∧
  d.rd HDR_ERR_CODE_MASTER e.page = e.master % 64 ∧
  d.rd HDR_ERR_ADDR_LO_ADDR e.page = e.addr % 2 ^ 32 ∧ d.rd HDR_ERR_ADDR_HI_ADDR e.page = e.addr / 2 ^ 32 % 2 ^ 16

/-- The fields of a captured error at page `p` are the same. -/
def SameCapture (p : Nat) (d e : Dev) : Prop :=
  ∀ F ∈ [HDR_ERR_CODE_VALID, HDR_ERR_CODE_CODE, HDR_ERR_CODE_SEVERITY, HDR_ERR_CODE_KIND, HDR_ERR_CODE_MASTER,
    HDR_ERR_ADDR_LO_ADDR, HDR_ERR_ADDR_HI_ADDR], e.rd F p = d.rd F p

/-- Pages on which an event of page `p` shows: the page itself, DIAG and the MSI-X pending bits. -/
def eventPages (p : Nat) : List Nat := [p, 0xF0, 0xCE]

/-- Pages of the Ethernet MACs, which answer a change of class 1's state with pause frames (R723). -/
def ethPages : List Nat := [0xC8, 0xC9, 0xCA, 0xCB, 0xCC, 0xCD]

/-- Pages that a change of the Serai's occupancy reaches: SERAI, the class registers, the MACs and the events. -/
def chargePages : List Nat := eventPages 0x10 ++ 0x11 :: ethPages

end Sys2Proof.Machine
end

