-- ==== Sys2Proof/Certificates/Slice0/Obligations.lean ====
section
/-! DEFINITION. The statements about the model, each citing the rules of the spec that it formalises. -/

open Sys2Proof Sys2Proof.Machine

/-- For every command and state, a step with that command at the front of the queue is the command's effect on the state
with the rest of the queue; with no command waiting, a step leaves the queue empty and answers a next state (the
model's choice of one tick, log entry 3). -/
def Obligations.StepRunsTheFrontCommand : Prop :=
  (∀ (s : State) (c : Instr) (rest : List Instr), step { s with pending := c :: rest } = exec c { s with pending := rest }) ∧
  (∀ s : State, s.pending = [] → ∃ t, step s = .next t ∧ t.pending = [])

/-- From every state whose memory is in canonical form and whose waiting commands are all well formed, whatever its
registers hold, a step that answers a next state gives such a state again. The canonical form is the model's (log
entry 2): the bytes of the address map, each listed once in rising order and none equal to what an unlisted byte
reads as. -/
def Obligations.EveryStepKeepsStateSound : Prop :=
  ∀ s t : State, s.sound = true → step s = .next t → t.sound = true

/-- After reset memory lists nothing, no command waits, the state is sound, SYS_RESET_CAUSE shows the power-on bit
alone, and every block whose CTRL.EN is not held at 1 is Off (a power-on reset is the model's choice of reset, log
entry 1). -/
def Obligations.ResetIsSound : Prop :=
  State.reset.sound = true ∧ State.reset.mem = [] ∧ State.reset.pending = [] ∧
  State.reset.dev.rd SYS_RESET_CAUSE_CAUSE = 1 ∧
  (∀ p, p < 256 → alwaysOn p = false → p ≠ pBryn → isOff State.reset.dev p = true)

/-- Every command, on every state and with every operand, answers a next state in which the same commands wait in the
same order. Errors are captured and reported as the spec says and never stop the device. -/
def Obligations.EveryCommandAnswersANextState : Prop :=
  ∀ (c : Instr) (s : State), Acts c s (fun t => t.pending = s.pending)

/-- While the internal reset is asserted, or a warm reset has been requested and every input is closed, every command
leaves the whole state as it is, but for the commands of the reset inputs, of the backup domain, of the test access
port and of the balls, named here. That accesses find no unit in reset is the model's reading (log entry 4). -/
def Obligations.FrozenDeviceIgnoresCommands : Prop :=
  ∀ (c : Instr) (s : State), frozen s.dev = true →
    (match c with
      | .powerOnReset _ _ | .supplyMonitorRelease _ | .resetBall | .resetInputsHigh | .warmResetAssert
      | .internalResetRelease _ _ _ _ | .thermalTrip | .thermalRecover | .backupPowerUp | .supplySwitch _ _
      | .crystalStop | .vbatLowReset | .rtcSecond | .rtcApplyTakeEffect | .tempSample _ | .crystalRestart
      | .tapIdcode | .tapStatus | .tapExtest _ _ | .tapSamplePreload _ _ | .tapHighz | .tapClamp | .tapBypass
      | .gpioBallEvent _ _ | .pmbAlert _ | .referenceLoss | .referenceReturn | .referenceAppear => True
      | _ => exec c s = .next s)

/-- An access of a master other than 16 is granted exactly when, for the granule of its first byte and for that of its
last, there is an enabled region that contains the granule, no lower-numbered enabled region contains it, and the
region grants the master that kind of access; so a granule in no enabled region grants nothing. Master 16, Bryn, is
always granted. The device asks with the granules of the first and of the last byte: of 256 bytes in the Serai, of 4
KB in DRAM. -/
def Obligations.CustomsTablesDecide : Prop :=
  (∀ (d : Dev) (t : CustomsTarget) (g1 g2 m : Nat) (k : AccKind), m ≠ 16 →
    (customsGrant d t g1 g2 m k = true ↔ ∀ g ∈ [g1, g2], ∃ r, r < 16 ∧ regionOn d t r = true ∧
      regionFirst d t r ≤ g ∧ g ≤ regionLast d t r ∧ regionGrants d t r m k = true ∧
      ∀ q, q < r → ¬(regionOn d t q = true ∧ regionFirst d t q ≤ g ∧ g ≤ regionLast d t q))) ∧
  (∀ (d : Dev) (t : CustomsTarget) (g1 g2 : Nat) (k : AccKind), customsGrant d t g1 g2 16 k = true) ∧
  (∀ (d : Dev) (m a n : Nat) (k : AccKind), seraiBase ≤ a → a + n ≤ seraiBase + 0x2000000 → 0 < n →
    (memVerdict d m k a n = .granted ↔
      customsGrant d .serai ((a - seraiBase) / 256) ((a + n - 1 - seraiBase) / 256) m k = true)) ∧
  (∀ (d : Dev) (m a n : Nat) (k : AccKind), a + n ≤ 0x4000000000 → 0 < n → memVerdict d m k a n = .granted →
    customsGrant d .dram (a / 4096) ((a + n - 1) / 4096) m k = true)

/-- An error reported by a block whose capture is not held (FREEZE and snapshots, R71, hold it): with ERR_CODE.VALID at
0 it sets VALID and fills every field of ERR_CODE and ERR_ADDR; with VALID at 1 it increments MORE, which saturates,
and leaves every captured field as it was. -/
def Obligations.FirstErrorIsCaptured : Prop :=
  ∀ (d : Dev) (e : ErrRec), holding d e.page = false →
    (d.on HDR_ERR_CODE_VALID e.page = false → Captured e (report e d)) ∧
    (d.on HDR_ERR_CODE_VALID e.page = true →
      SameCapture e.page d (report e d) ∧
      (report e d).rd HDR_ERR_CODE_MORE e.page = satAdd 127 (d.rd HDR_ERR_CODE_MORE e.page) 1 % 128)

/-- For every block and each of its four lines, the line is asserted exactly while some bit 8n to 8n + 7 of INT_STAT is
1; INT_STAT is INT_RAW where INT_EN enables it. -/
def Obligations.InterruptLinesFollowStatus : Prop :=
  ∀ (d : Dev) (p n : Nat), n < 4 →
    (lineOn d p n = true ↔ ∃ i, i < 8 ∧ (d.rd HDR_INT_RAW_RAW p).testBit (8 * n + i) = true ∧
      (d.rd HDR_INT_EN_EN p).testBit (8 * n + i) = true)

/-- On a device that is not in reset: a granted write to an absent page, by its own command or as a register write of
any offset, counts in SYS_ABSENT_HITS, records the master and the page, and changes nothing else; one that the
customs tables refuse counts in CUSTOMS_VIOL instead and leaves SYS_ABSENT_HITS. A granted write of 1 to
SYS_ABSENT_CLR clears the three fields and nothing else. On a device that is not in reset, for the first page of
every present block but BRYN whose soft reset is over: a granted write of INT_TEST sets exactly the bits written in
INT_RAW, one of ERR_CODE.VALID clears the whole capture, one of LOCK.SET_CFG or SET_CTRL sets that lock and no other
field, and a register write of INT_EN stores the word. A write of the plain register PMB_DATA stores its 16 bits and
nothing else; one that would change the static register PMB_CFG outside Off is discarded and captured with code
0x04. A held rising edge enters the event-post queue as soon as it has room. -/
def Obligations.PageWritesAct : Prop :=
  ∀ s : State, frozen s.dev = false →
    (∀ m page, page < 512 → present s.dev page = false → pageWritable s.dev m page = true →
      (∀ c : Instr, c = .absentPageWrite m page ∨
          (∃ off v, off < 4096 ∧ off % 4 = 0 ∧ page ≠ pBryn ∧ c = .regWrite m (regAddr page off) v) →
        Acts c s (fun t =>
          t.dev.rd SYS_ABSENT_HITS_COUNT = satAdd (2 ^ 32 - 1) (s.dev.rd SYS_ABSENT_HITS_COUNT) 1 % 2 ^ 32 ∧
          t.dev.rd SYS_ABSENT_LAST_MASTER = m % 64 ∧ t.dev.rd SYS_ABSENT_LAST_PAGE = page ∧
          OnlyKeys [SYS_ABSENT_HITS_COUNT.key 0 0, SYS_ABSENT_LAST_MASTER.key 0 0, SYS_ABSENT_LAST_PAGE.key 0 0] s t))) ∧
    (∀ m page, present s.dev page = false → pageWritable s.dev m page = false → Acts (.absentPageWrite m page) s (fun t =>
      t.dev.rd SYS_ABSENT_HITS_COUNT = s.dev.rd SYS_ABSENT_HITS_COUNT ∧
      t.dev.rd CUSTOMS_VIOL_COUNT 0 2 = satAdd (2 ^ CUSTOMS_VIOL_COUNT.width - 1) (s.dev.rd CUSTOMS_VIOL_COUNT 0 2) 1 %
        2 ^ CUSTOMS_VIOL_COUNT.width ∧ OnlyPages (eventPages 0 ++ [7]) s t)) ∧
    (∀ m v, writeTaken s.dev m 0 = true → v.testBit 0 = true → Acts (.absentClr m v) s (fun t =>
      t.dev.rd SYS_ABSENT_HITS_COUNT = 0 ∧ t.dev.rd SYS_ABSENT_LAST_MASTER = 0 ∧ t.dev.rd SYS_ABSENT_LAST_PAGE = 0 ∧
      OnlyKeys [SYS_ABSENT_HITS_COUNT.key 0 0, SYS_ABSENT_LAST_MASTER.key 0 0, SYS_ABSENT_LAST_PAGE.key 0 0] s t)) ∧
    (∀ m p v, writeTaken s.dev m p = true → firstPage p = p → p ≠ pBryn →
      Acts (.intTestWrite m p v) s (fun t =>
        (∀ i, i < 32 → (t.dev.rd HDR_INT_RAW_RAW p).testBit i = ((s.dev.rd HDR_INT_RAW_RAW p).testBit i || v.testBit i)) ∧
        OnlyPages [p, 0xCE] s t) ∧
      Acts (.errCodeClear m p) s (fun t =>
        (∀ F ∈ [HDR_ERR_CODE_VALID, HDR_ERR_CODE_MORE, HDR_ERR_CODE_SEVERITY, HDR_ERR_CODE_KIND, HDR_ERR_CODE_MASTER,
          HDR_ERR_CODE_CODE, HDR_ERR_ADDR_LO_ADDR, HDR_ERR_ADDR_HI_ADDR], t.dev.rd F p = 0) ∧ OnlyPages [p] s t) ∧
      Acts (.lockSetCfg m p) s (fun t => t.dev.rd HDR_LOCK_CFG p = 1 ∧ OnlyKeys [HDR_LOCK_CFG.key p 0] s t) ∧
      Acts (.lockSetCtrl m p) s (fun t => t.dev.rd HDR_LOCK_CTRL p = 1 ∧ OnlyKeys [HDR_LOCK_CTRL.key p 0] s t) ∧
      Acts (.regWrite m (regAddr p 0x018) v) s (fun t =>
        t.dev.rd HDR_INT_EN_EN p = v % 2 ^ 32 ∧ OnlyPages [p, 0xCE] s t)) ∧
    (∀ m v, writeTaken s.dev m pPmb = true → Acts (.regWrite m (regAddr pPmb 0x04C) v) s (fun t =>
      t.dev.rd PMB_DATA_DATA = v % 2 ^ 16 ∧ OnlyKeys [PMB_DATA_DATA.key 0 0] s t)) ∧
    (∀ m v, writeTaken s.dev m pPmb = true → cfgLocked s.dev pPmb = false → isOff s.dev pPmb = false →
      heldLo s.dev m (regAddr pPmb 0x03C) = none →
      exec (.regWrite m (regAddr pPmb 0x040) v) s =
        .next { s with dev := refuseWrite pPmb 0x04 m (regAddr pPmb 0x040) s.dev }) ∧
    (∀ n l, s.dev.sh.heldLines = n :: l → postRoom s.dev = true → n < 1024 → Acts .intrHeldPost s (fun t =>
      t.dev.sh = { s.dev.sh with heldLines := l, posts := s.dev.sh.posts ++
        [⟨s.dev.rd INTR_ROUTE_DATA_TASK 0 n, s.dev.rd INTR_ROUTE_DATA_TARGET 0 n % 32, none⟩] } ∧ Changes [] [] s t))

/-- On a device that is not in reset: a granted write of SYSFEAT_COMMIT with none committed or in progress masks each
accepted word with the offered one, sets MASKED where that changed a word, and starts the commit; after a commit the
write changes nothing but for the capture of code 0x03. The commit in progress ends COMMITTED when every accepted
feature has what it requires, and otherwise REJECTED with the word and bit of the lowest one that has not, COMMITTED
as it was. -/
def Obligations.FeatureCommitActs : Prop :=
  ∀ s : State, frozen s.dev = false →
    (∀ m v, writeTaken s.dev m 1 = true → s.dev.on SYSFEAT_STATUS_COMMITTED = false → s.dev.sh.commit = none →
      v.testBit 0 = true → Acts (.sysfeatCommit m v) s (fun t =>
        t.dev.sh.commit = some ([1, 2, 3].map (fun w => s.dev.rd DRV_FEAT_ACCEPT 0 w &&& offered s.dev.variant w)) ∧
        (∀ w ∈ [1, 2, 3], t.dev.rd DRV_FEAT_ACCEPT 0 w = s.dev.rd DRV_FEAT_ACCEPT 0 w &&& offered s.dev.variant w) ∧
        (t.dev.on SYSFEAT_STATUS_MASKED = true ↔ ∃ w ∈ [1, 2, 3],
          s.dev.rd DRV_FEAT_ACCEPT 0 w &&& offered s.dev.variant w ≠ s.dev.rd DRV_FEAT_ACCEPT 0 w) ∧
        t.dev.rd SYSFEAT_STATUS_REJECTED = 0 ∧ Changes [] [1] s t)) ∧
    (∀ m v, writeTaken s.dev m 1 = true → s.dev.on SYSFEAT_STATUS_COMMITTED = true →
      exec (.sysfeatCommit m v) s = .next { s with dev := refuseWrite 1 0x03 m (regAddr 1 0x080) s.dev }) ∧
    (∀ l, s.dev.sh.commit = some l → Acts .commitComplete s (fun t =>
      t.dev.sh.commit = none ∧
      ((∀ r ∈ requirements, wordsHave l r.1.1 r.1.2 = true → wordsHave l r.2.1 r.2.2 = true) →
        t.dev.on SYSFEAT_STATUS_COMMITTED = true) ∧
      (∀ r ∈ requirements, wordsHave l r.1.1 r.1.2 = true → wordsHave l r.2.1 r.2.2 = false →
        t.dev.on SYSFEAT_STATUS_REJECTED = true ∧
        t.dev.rd SYSFEAT_STATUS_COMMITTED = s.dev.rd SYSFEAT_STATUS_COMMITTED) ∧
      ChangesParts [] s t))

/-- On a device that is not in reset: a granted write of a master to the Serai window stores its bytes, in order from
its address, and no other byte of memory; a granted read answers the bytes there and changes none; a refused access
is blocked, answers zeros, stores nothing and counts in CUSTOMS_VIOL. A cache error that a running core meets is
counted in CORE_CE, or, uncorrectable, in CORE_UE with the load poisoned; an uncorrectable line written back is
poisoned in every byte, and no other byte of memory changes. A request of the PCIe host through the Serai BAR of an
endpoint that answers is such an access of master 17. -/
def Obligations.FabricAccessesAct : Prop :=
  ∀ s : State, frozen s.dev = false → s.memCanonical = true → ∀ (m a : Nat), seraiBase ≤ a →
    (∀ bs : Bytes, bs ≠ [] → a + bs.length ≤ seraiBase + 0x2000000 →
      (memVerdict s.dev m .write a bs.length = .granted →
        Acts (.masterAccess ⟨m, .write, .addr a, bs.length, bs, []⟩) s (fun t =>
          (∀ x, memGet t.mem x = if a ≤ x ∧ x < a + bs.length then bs.getD (x - a) 0 else memGet s.mem x) ∧
          t.dev.sh.blocked = false ∧ ChangesParts [.ser, .memory] s t ∧ t.dev.regs = s.dev.regs)) ∧
      (memVerdict s.dev m .write a bs.length ≠ .granted →
        Acts (.masterAccess ⟨m, .write, .addr a, bs.length, bs, []⟩) s (fun t =>
          t.dev.sh.blocked = true ∧
          t.dev.rd CUSTOMS_VIOL_COUNT 0 0 = satAdd (2 ^ CUSTOMS_VIOL_COUNT.width - 1) (s.dev.rd CUSTOMS_VIOL_COUNT 0 0) 1 %
            2 ^ CUSTOMS_VIOL_COUNT.width ∧ OnlyPages (eventPages 0x10 ++ [7]) s t))) ∧
    (∀ n, 0 < n → a + n ≤ seraiBase + 0x2000000 →
      (memVerdict s.dev m .read a n = .granted →
        Acts (.masterAccess ⟨m, .read, .addr a, n, [], []⟩) s (fun t =>
          t.dev.sh.readData = memRead s.mem a n ∧ t.dev.sh.blocked = false ∧ Changes [] [] s t)) ∧
      (memVerdict s.dev m .read a n ≠ .granted →
        Acts (.masterAccess ⟨m, .read, .addr a, n, [], []⟩) s (fun t =>
          t.dev.sh.readData = List.replicate n 0 ∧ t.dev.sh.blocked = true ∧ OnlyPages (eventPages 0x10 ++ [7]) s t))) ∧
    (∀ n, 0 < n → a + n ≤ seraiBase + 0x2000000 → memVerdict s.dev m .read a n = .granted → m < 8 →
      present s.dev (pCore m) = true → isOff s.dev (pCore m) = false → holding s.dev (pCore m) = false →
      (∀ e ∈ [CacheErr.l1Clean, .l2Corrected], Acts (.masterAccess ⟨m, .read, .addr a, n, [], [e]⟩) s (fun t =>
        t.dev.rd CORE_CE_COUNT m = satAdd (2 ^ 32 - 1) (s.dev.rd CORE_CE_COUNT m) 1 % 2 ^ 32 ∧
        t.dev.sh.readData = memRead s.mem a n ∧ OnlyPages (eventPages (pCore m)) s t)) ∧
      Acts (.masterAccess ⟨m, .read, .addr a, n, [], [.uncorrectable]⟩) s (fun t =>
        t.dev.rd CORE_UE_COUNT m = satAdd (2 ^ 32 - 1) (s.dev.rd CORE_UE_COUNT m) 1 % 2 ^ 32 ∧
        t.dev.sh.readPoison = true ∧ OnlyPages (eventPages (pCore m)) s t) ∧
      (∀ l, seraiBase ≤ l → memVerdict s.dev m .write (l - l % 64) 64 = .granted →
        Acts (.masterAccess ⟨m, .read, .addr a, n, [], [.writeBack l]⟩) s (fun t =>
          (∀ x, l - l % 64 ≤ x → x < l - l % 64 + 64 → poisonedAt t.dev x 1 = true) ∧
          (∀ x, ¬(l - l % 64 ≤ x ∧ x < l - l % 64 + 64) → memGet t.mem x = memGet s.mem x) ∧
          Changes [.ser, .memory] (eventPages (pCore m)) s t))) ∧
    (∀ bs : Bytes, bs ≠ [] → a + bs.length ≤ seraiBase + 0x2000000 → s.dev.on PCIE_CFG_MODE = true →
      pcieAnswers s.dev = true → barsLimited s.dev = false → memVerdict s.dev 17 .write a bs.length = .granted →
      Acts (.pcieInboundRequest (some 2) (a - seraiBase) true bs.length bs) s (fun t =>
        (∀ x, memGet t.mem x = if a ≤ x ∧ x < a + bs.length then bs.getD (x - a) 0 else memGet s.mem x) ∧
        ChangesParts [.ser, .memory] s t ∧ t.dev.regs = s.dev.regs)) ∧
    (∀ n, 0 < n → a + n ≤ seraiBase + 0x2000000 → s.dev.on PCIE_CFG_MODE = true → pcieAnswers s.dev = true →
      barsLimited s.dev = false → memVerdict s.dev 17 .read a n = .granted →
      Acts (.pcieInboundRequest (some 2) (a - seraiBase) false n []) s (fun t =>
        t.dev.out = s.dev.out ++ [.pcieReply true (memRead s.mem a n)] ∧ Changes [] [] s t))

/-- On a device that is not in reset and not STOPPING, for every block whose CTRL.EN is not fixed, whose soft reset is
over and which a granted, unlocked write of CTRL reaches: EN ← 1 takes Off to Starting (CORE1–7 and lanes have
conditions of their own) and a drain to a pending restart, and changes nothing in the other states; EN ← 0 takes
Starting to Draining with no other change than that page's, a pending restart back to Draining, and an Active block
(DIAG apart, whose drain adds what a snapshot held) to Draining. A Starting block whose conditions hold becomes
Active and raises ACTIVE_UP. A drain with no work left ends Off, or Starting where a restart is pending, and raises
DRAINED. -/
def Obligations.BlockStatesMove : Prop :=
  ∀ s : State, frozen s.dev = false →
    (∀ m p, ctrlReaches s.dev m p = true → enFixed p = false → inSoftReset s.dev p = false → level s.dev ≠ lvSTOPPING →
      (blockState s.dev p = .off → ¬(0xA1 ≤ p ∧ p < 0xA8) → ¬(0xC0 ≤ p ∧ p < 0xC8) →
        Acts (.ctrlEnSet m p) s (fun t => blockState t.dev p = .starting ∧ t.mem = s.mem)) ∧
      (blockState s.dev p = .draining → Acts (.ctrlEnSet m p) s (fun t =>
        blockState t.dev p = .drainingRestart ∧ Changes [] [p] s t)) ∧
      (blockState s.dev p = .starting ∨ blockState s.dev p = .active ∨ blockState s.dev p = .drainingRestart →
        exec (.ctrlEnSet m p) s = .next s) ∧
      (blockState s.dev p = .starting → Acts (.ctrlEnClear m p) s (fun t =>
        blockState t.dev p = .draining ∧ Changes [] [p] s t)) ∧
      (blockState s.dev p = .active → p ≠ pDiag → Acts (.ctrlEnClear m p) s (fun t => blockState t.dev p = .draining)) ∧
      (blockState s.dev p = .drainingRestart → Acts (.ctrlEnClear m p) s (fun t =>
        blockState t.dev p = .draining ∧ Changes [] [p] s t)) ∧
      (blockState s.dev p = .off ∨ blockState s.dev p = .draining → exec (.ctrlEnClear m p) s = .next s)) ∧
    (∀ p, present s.dev p = true → firstPage p = p → inSoftReset s.dev p = false → blockState s.dev p = .starting →
      mayStart s.dev p = true → Acts (.startUpDone p) s (fun t =>
        blockState t.dev p = .active ∧ (t.dev.rd HDR_INT_RAW_RAW p).testBit 2 = true)) ∧
    (∀ p, drainMayEnd s.dev p = true →
      (blockState s.dev p = .draining → Acts (.drainEnd p) s (fun t =>
        blockState t.dev p = .off ∧ (t.dev.rd HDR_INT_RAW_RAW p).testBit 1 = true ∧ t.mem = s.mem)) ∧
      (blockState s.dev p = .drainingRestart → Acts (.drainEnd p) s (fun t =>
        blockState t.dev p = .starting ∧ (t.dev.rd HDR_INT_RAW_RAW p).testBit 1 = true ∧ t.mem = s.mem)))

/-- On a device that is not in reset, for every block that honours SOFT_RST and that a granted, unlocked write of CTRL
reaches: SOFT_RST ← 1 leaves the block Off with SOFT_RST reading 1, INT_EN and ERR_CODE.VALID clear, FEAT_ACCEPT and
both locks as they were, and memory as it was when it starts in Off. While SOFT_RST reads 1 a granted register write
to the block other than to CTRL is discarded and captured on SYS with code 0x02, and EN ← 1 changes nothing. The
completion clears SOFT_RST alone. Setting FREEZE with nothing accumulated changes that field alone; clearing it on
UART adds the errors counted meanwhile to UART_OVR. -/
def Obligations.SoftResetAndFreezeAct : Prop :=
  ∀ s : State, frozen s.dev = false →
    (∀ m p, ctrlReaches s.dev m p = true → ignoresSoft p = false →
      (inSoftReset s.dev p = false → Acts (.ctrlSoftRst m p) s (fun t =>
        t.dev.rd HDR_CTRL_SOFT_RST p = 1 ∧ isOff t.dev p = true ∧ t.dev.rd HDR_INT_EN_EN p = 0 ∧
        t.dev.on HDR_ERR_CODE_VALID p = false ∧ t.dev.rd HDR_FEAT_ACCEPT_ACCEPT p = s.dev.rd HDR_FEAT_ACCEPT_ACCEPT p ∧
        t.dev.rd HDR_LOCK_CFG p = s.dev.rd HDR_LOCK_CFG p ∧ t.dev.rd HDR_LOCK_CTRL p = s.dev.rd HDR_LOCK_CTRL p ∧
        (isOff s.dev p = true → t.mem = s.mem))) ∧
      (inSoftReset s.dev p = true → exec (.ctrlEnSet m p) s = .next s ∧ exec (.ctrlSoftRst m p) s = .next s) ∧
      (inSoftReset s.dev p = false → s.dev.sh.frozenCounts = [] → s.dev.sh.frozenErrs = [] →
        Acts (.ctrlFreezeWrite m p 1) s (fun t =>
          t.dev.rd HDR_CTRL_FREEZE p = 1 ∧ OnlyKeys [HDR_CTRL_FREEZE.key p 0] s t))) ∧
    (∀ m p off v, p < 512 → off < 4096 → off % 4 = 0 → off ≠ 0x00C → p ≠ pBryn → pageWritable s.dev m p = true →
      present s.dev p = true → inSoftReset s.dev p = true →
      exec (.regWrite m (regAddr p off) v) s = .next { s with dev := refuseWrite 0 0x02 m (regAddr p off) s.dev }) ∧
    (∀ p, s.dev.on HDR_CTRL_SOFT_RST p = true → Acts (.softResetComplete p) s (fun t =>
      t.dev.rd HDR_CTRL_SOFT_RST p = 0 ∧ OnlyKeys [HDR_CTRL_SOFT_RST.key p 0] s t)) ∧
    (∀ m n, ctrlReaches s.dev m pUart = true → inSoftReset s.dev pUart = false → s.dev.on DIAG_STATUS_SNAP = false →
      s.dev.sh.frozenErrs = [] → s.dev.sh.frozenCounts = [(UART_OVR_COUNT.key 0 0, n)] →
      Acts (.ctrlFreezeWrite m pUart 0) s (fun t =>
        t.dev.rd UART_OVR_COUNT = satAdd (2 ^ 32 - 1) (s.dev.rd UART_OVR_COUNT) n % 2 ^ 32 ∧
        t.dev.rd HDR_CTRL_FREEZE pUart = 0 ∧ t.dev.sh.frozenCounts = [] ∧ Changes [] [pUart] s t))

/-- Whatever FREEZE or a snapshot holds: a correctable error counts in DIAG_CNT_CE and takes no log entry; a contained
or fatal one with fewer than 16 entries taken fills the next entry with its page, severity, code and master and the
time base, and otherwise counts in DIAG_LOG_OVF. A fatal report from a page other than BRYN sets FATAL and GRACE,
and fixes the action of the grace's end unless a grace is already in progress. (DIAG itself not frozen, so that its
counters do not hold.) -/
def Obligations.ReportsReachDiag : Prop :=
  ∀ (d : Dev) (e : ErrRec), holding d pDiag = false → d.rd DIAG_STATUS_LOG_COUNT ≤ 16 →
    (e.sev = 0 → (report e d).rd DIAG_CNT_CE_COUNT =
        satAdd (2 ^ DIAG_CNT_CE_COUNT.width - 1) (d.rd DIAG_CNT_CE_COUNT) 1 % 2 ^ DIAG_CNT_CE_COUNT.width ∧
      (report e d).rd DIAG_STATUS_LOG_COUNT = d.rd DIAG_STATUS_LOG_COUNT) ∧
    (e.sev ≠ 0 → e.sev < 4 → d.rd DIAG_STATUS_LOG_COUNT < 16 →
      (report e d).rd DIAG_STATUS_LOG_COUNT = d.rd DIAG_STATUS_LOG_COUNT + 1 ∧
      (report e d).on DIAG_LOG_W0_VALID 0 (d.rd DIAG_STATUS_LOG_COUNT) = true ∧
      (report e d).rd DIAG_LOG_W0_SEVERITY 0 (d.rd DIAG_STATUS_LOG_COUNT) = e.sev ∧
      (report e d).rd DIAG_LOG_W0_CODE 0 (d.rd DIAG_STATUS_LOG_COUNT) = e.code % 256 ∧
      (report e d).rd DIAG_LOG_NS_NS 0 (d.rd DIAG_STATUS_LOG_COUNT) = nowNs d % 2 ^ 32) ∧
    (e.sev ≠ 0 → d.rd DIAG_STATUS_LOG_COUNT = 16 → (report e d).rd DIAG_LOG_OVF_COUNT =
      satAdd (2 ^ DIAG_LOG_OVF_COUNT.width - 1) (d.rd DIAG_LOG_OVF_COUNT) 1 % 2 ^ DIAG_LOG_OVF_COUNT.width) ∧
    (2 ≤ e.sev → e.page ≠ pBryn →
      (report e d).on DIAG_STATUS_FATAL = true ∧ (report e d).on DIAG_STATUS_GRACE = true ∧
      (report e d).sh.graceAction =
        if d.on DIAG_STATUS_GRACE then d.sh.graceAction else d.rd DIAG_FATAL_CFG_ACTION)

/-- On a device that is not in reset: a granted trigger of DIAG_SNAP while DIAG is Active and no snapshot holds starts
one, latches the time base and raises SNAP_DONE, and a trigger while one holds changes nothing; a granted release,
and the end of HOLD_MS, end it. A granted write of 1 to DIAG_LOG_CLR clears FATAL, the log count, DIAG_LOG_OVF and
the three counters and changes DIAG's page alone. The end of a grace clears GRACE and takes the action fixed when it
started: nothing more, a warm reset requested with cause bit 9, or a cold reset at once with cause bit 9, which
loses memory. At the end of a window each of the 16 points that its variant has shows ten times its handshakes
divided by the window in microseconds, rounded down, and every other point shows 0; PACE's page changes alone. While
the governor runs, at its interval a voltage above VMAX′ is commanded to VMAX′, one below VMIN′ to VMIN′, and within
them, with the lowest governing ratio below the margin, it rises by the step, at most to VMAX′; while it is not
running nothing changes. -/
def Obligations.DiagAndPaceAct : Prop :=
  ∀ s : State, frozen s.dev = false →
    (∀ m, writeTaken s.dev m pDiag = true → isActive s.dev pDiag = true → s.dev.on DIAG_STATUS_SNAP = false →
      Acts (.diagSnapTrigger m) s (fun t => t.dev.on DIAG_STATUS_SNAP = true ∧
        t.dev.rd DIAG_SNAP_NS_NS = nowNs s.dev % 2 ^ 32 ∧ t.dev.rd DIAG_SNAP_S_S = nowS s.dev % 2 ^ 32 ∧
        (t.dev.rd HDR_INT_RAW_RAW pDiag).testBit 4 = true ∧ OnlyPages [pDiag, 0xCE] s t)) ∧
    (∀ m, writeTaken s.dev m pDiag = true → isActive s.dev pDiag = true → s.dev.on DIAG_STATUS_SNAP = true →
      exec (.diagSnapTrigger m) s = .next s) ∧
    (s.dev.on DIAG_STATUS_SNAP = true → s.dev.sh.frozenCounts = [] → s.dev.sh.frozenErrs = [] →
      (∀ m, writeTaken s.dev m pDiag = true → Acts (.diagSnapRelease m) s (fun t =>
        t.dev.on DIAG_STATUS_SNAP = false ∧ OnlyKeys [DIAG_STATUS_SNAP.key 0 0] s t)) ∧
      Acts .snapHoldExpire s (fun t => t.dev.on DIAG_STATUS_SNAP = false ∧ OnlyKeys [DIAG_STATUS_SNAP.key 0 0] s t)) ∧
    (∀ m v, writeTaken s.dev m pDiag = true → v.testBit 0 = true → Acts (.diagLogClr m v) s (fun t =>
      (∀ F ∈ [DIAG_STATUS_FATAL, DIAG_STATUS_LOG_COUNT, DIAG_LOG_OVF_COUNT, DIAG_CNT_CE_COUNT, DIAG_CNT_CONT_COUNT,
        DIAG_CNT_FATAL_COUNT], t.dev.rd F = 0) ∧ (∀ k, k < 16 → t.dev.on DIAG_LOG_W0_VALID 0 k = false) ∧
      t.dev.rd DIAG_STATUS_GRACE = s.dev.rd DIAG_STATUS_GRACE ∧ OnlyPages [pDiag] s t)) ∧
    (s.dev.on DIAG_STATUS_GRACE = true →
      (s.dev.sh.graceAction = 0 → Acts .fatalGraceEnd s (fun t =>
        t.dev.on DIAG_STATUS_GRACE = false ∧ OnlyKeys [DIAG_STATUS_GRACE.key 0 0] s t)) ∧
      (s.dev.sh.graceAction = 1 → Acts .fatalGraceEnd s (fun t =>
        t.dev.on DIAG_STATUS_GRACE = false ∧ t.dev.rst.warmPending = true ∧ t.dev.rst.causes = s.dev.rst.causes ||| 2 ^ 9 ∧
        t.mem = s.mem)) ∧
      (2 ≤ s.dev.sh.graceAction → Acts .fatalGraceEnd s (fun t =>
        t.dev.rst.asserted = true ∧ (t.dev.rd SYS_RESET_CAUSE_CAUSE).testBit 9 = true ∧ t.mem = []))) ∧
    (∀ counts, Acts (.paceWindowEnd counts) s (fun t =>
      (∀ p, p < 16 → t.dev.rd PACE_VALUE_VALUE 0 p =
        (if p < 8 ∨ present s.dev (0xA0 + (p - 8)) = true then
          10 * counts.getD p 0 / max 1 (min 1000 (s.dev.rd PACE_WINDOW_WINDOW)) else 0) % 2 ^ 16) ∧
      OnlyPages [8, 0xCE] s t)) ∧
    (governorOn s.dev = false → exec .governorInterval s = .next s) ∧
    (governorOn s.dev = true → paceVmax s.dev < s.dev.rd PACE_VNOW_VNOW → Acts .governorInterval s (fun t =>
      t.dev.rd PACE_VNOW_VNOW = paceVmax s.dev ∧ Changes [.edge] [8, 0xCE] s t)) ∧
    (governorOn s.dev = true → s.dev.rd PACE_VNOW_VNOW < paceVmin s.dev → Acts .governorInterval s (fun t =>
      t.dev.rd PACE_VNOW_VNOW = paceVmin s.dev ∧ Changes [.edge] [8, 0xCE] s t)) ∧
    (governorOn s.dev = true → paceVmin s.dev ≤ s.dev.rd PACE_VNOW_VNOW → s.dev.rd PACE_VNOW_VNOW ≤ paceVmax s.dev →
      paceLow s.dev (s.dev.rd PACE_GOV_MARGIN_UP) = true → Acts .governorInterval s (fun t =>
        t.dev.rd PACE_VNOW_VNOW = min (s.dev.rd PACE_VNOW_VNOW + max 1 (s.dev.rd PACE_GOV_VSTEP)) (paceVmax s.dev) ∧
        Changes [.edge] [8, 0xCE] s t))

/-- Whatever the device does: PWR_GOOD low or a supply monitor, RESET_N low, and a thermal trip each assert the internal
reset at once, and so does a granted software reset with the key and the cold action on a device that is not in
reset. After it the cause bit of the source is set in SYS_RESET_CAUSE, LAST_WARM is 0, no byte of memory is listed,
registers other than the backup domain's and the causes are at reset, those of the backup domain (RTC from 0x040)
and the lifecycle are as they were, and the variant and the balls are unchanged. A wrong key changes nothing but the
capture of code 0x41. -/
def Obligations.ColdResetsAct : Prop :=
  ∀ s : State,
    (∀ c b, ((∃ low mons, c = .powerOnReset low mons ∧ b = 0) ∨ (c = .resetBall ∧ b = 1) ∨ (c = .thermalTrip ∧ b = 5) ∨
        (∃ m key, frozen s.dev = false ∧ writeTaken s.dev m 0 = true ∧ key % 2 ^ 16 = 0xD4A7 ∧ c = .swResetCold m key ∧ b = 2)) →
      Acts c s (fun t => t.dev.rst.asserted = true ∧ t.mem = [] ∧ (t.dev.rd SYS_RESET_CAUSE_CAUSE).testBit b = true ∧
        t.dev.rd SYS_STATUS_LAST_WARM = 0 ∧
        (∀ k : Key, k.reg / 4096 ≠ pRtc → k ≠ SYS_RESET_CAUSE_CAUSE.key 0 0 → k ≠ SYS_STATUS_LAST_WARM.key 0 0 →
          regLook k t.dev.regs = none) ∧
        (∀ k : Key, k.reg / 4096 = pRtc → 0x40 ≤ k.reg % 4096 → regLook k t.dev.regs = regLook k s.dev.regs) ∧
        t.dev.variant = s.dev.variant ∧ t.dev.bryn.lc = s.dev.bryn.lc ∧ t.dev.edge.gpio = s.dev.edge.gpio)) ∧
    (∀ m key, frozen s.dev = false → writeTaken s.dev m 0 = true → key % 2 ^ 16 ≠ 0xD4A7 →
      exec (.swResetCold m key) s = .next { s with dev := refuseWrite 0 0x41 m (regAddr 0 0x054) s.dev } ∧
      exec (.swResetWarm m key) s = .next { s with dev := refuseWrite 0 0x41 m (regAddr 0 0x054) s.dev })

/-- On a device that is not in reset: a granted software reset with the key and the warm action, and a reset request on
the open debug port, request a warm reset with cause bits 3 and 8 and change nothing else; the closed port changes
nothing. The assertion that follows shows the pending causes and LAST_WARM, keeps the committed features,
FEAT_ACCEPT, the locks, the customs regions and the RTC's backup registers, and loses of memory exactly what no
READY channel holds; with none requested it does nothing. -/
def Obligations.WarmResetsAct : Prop :=
  ∀ s : State,
    (frozen s.dev = false →
      (∀ m key, writeTaken s.dev m 0 = true → key % 2 ^ 16 = 0xD4A7 → Acts (.swResetWarm m key) s (fun t =>
        t.dev.rst = { s.dev.rst with warmPending := true, causes := s.dev.rst.causes ||| 2 ^ 3 } ∧ Changes [.rst] [] s t)) ∧
      (portOpen s.dev = true → Acts .debugResetRequest s (fun t =>
        t.dev.rst = { s.dev.rst with warmPending := true, causes := s.dev.rst.causes ||| 2 ^ 8 } ∧ Changes [.rst] [] s t)) ∧
      (portOpen s.dev = false → exec .debugResetRequest s = .next s)) ∧
    (s.dev.rst.warmPending = false → exec .warmResetAssert s = .next s) ∧
    (s.dev.rst.warmPending = true → Acts .warmResetAssert s (fun t =>
      t.dev.rst.asserted = true ∧ t.dev.rst.warmPending = false ∧ t.dev.rd SYS_STATUS_LAST_WARM = 1 ∧
      (∀ b, b < 11 → s.dev.rst.causes.testBit b = true → (t.dev.rd SYS_RESET_CAUSE_CAUSE).testBit b = true) ∧
      (∀ k : Key, (k.reg / 4096 = 1 ∧ 0x40 ≤ k.reg % 4096) ∨ k.reg % 4096 = 8 ∨ k.reg % 4096 = 0x30 ∨
          (4 ≤ k.reg / 4096 ∧ k.reg / 4096 ≤ 6 ∧ 0x100 ≤ k.reg % 4096) →
        k ≠ RTC_STATUS_NET_VALID.key 0 0 → regLook k t.dev.regs = regLook k s.dev.regs) ∧
      (∀ a, memGet t.mem a = if warmLoses s.dev a then 0 else memGet s.mem a) ∧
      t.dev.variant = s.dev.variant ∧ t.dev.bryn.lc = s.dev.bryn.lc))

/-- The reset inputs change their own levels alone. While an input, a monitor or the heat holds the reset, its release
does nothing; otherwise, without an OTP fault, it ends the reset and takes the boot source (3 acting as 0) and the
endpoint strap as sampled, with memory as it was; an OTP fault resets again and counts, and after three in a row
holds Bryn. PERST_N low on a strapped endpoint that is not in reset returns the registers of PCIE and of the host
rings to reset with MODE 1, empties the rings and shows cause bit 7; without the strap it does nothing. Link
training of a strapped endpoint starts with the strapped width, and lane 4 is Active with PROTO 7. -/
def Obligations.ResetReleaseActs : Prop :=
  ∀ s : State,
    (∀ n, Acts (.supplyMonitorRelease n) s (fun t =>
      t.dev.rst = { s.dev.rst with monitors := s.dev.rst.monitors.filter (· != n) } ∧ Changes [.rst] [] s t)) ∧
    Acts .resetInputsHigh s (fun t => t.dev.rst =
      { s.dev.rst with pwrGood := true, resetN := true, counting := s.dev.rst.asserted } ∧ Changes [.rst] [] s t) ∧
    Acts .thermalRecover s (fun t => t.dev.rst = { s.dev.rst with hot := false } ∧ Changes [.rst] [] s t) ∧
    (∀ boot ep width fault, releaseOk s.dev.rst = false → exec (.internalResetRelease boot ep width fault) s = .next s) ∧
    (∀ boot ep width, releaseOk s.dev.rst = true → Acts (.internalResetRelease boot ep width false) s (fun t =>
      t.dev.rst.asserted = false ∧ t.dev.rst.bootMode = (if boot % 4 = 3 then 0 else boot % 4) ∧ t.dev.rst.epStrap = ep ∧
      t.dev.rst.otpFaults = 0 ∧ t.dev.rd SYS_STATUS_BOOT_SRC = (if boot % 4 = 3 then 0 else boot % 4) ∧ t.mem = s.mem)) ∧
    (∀ boot ep width, releaseOk s.dev.rst = true → Acts (.internalResetRelease boot ep width true) s (fun t =>
      if s.dev.rst.otpFaults < 3 then t.dev.rst.asserted = true ∧ t.dev.rst.otpFaults = s.dev.rst.otpFaults + 1 ∧
        (t.dev.rd SYS_RESET_CAUSE_CAUSE).testBit 6 = true
      else t.dev.rst.asserted = false ∧ t.dev.rst.brynHeld = true)) ∧
    (frozen s.dev = false →
      (s.dev.rst.epStrap = false → exec .pcieFundamentalReset s = .next s) ∧
      (s.dev.rst.epStrap = true → Acts .pcieFundamentalReset s (fun t =>
        t.dev.rd PCIE_CFG_MODE = 1 ∧ (t.dev.rd SYS_RESET_CAUSE_CAUSE).testBit 7 = true ∧ t.dev.q.rings = [] ∧
        t.dev.rst.perstN = false ∧ t.mem = s.mem ∧
        (∀ k : Key, pcieResets k = true → k ≠ PCIE_CFG_MODE.key 0 0 → regLook k t.dev.regs = none))) ∧
      (s.dev.rst.epStrap = true → s.dev.rst.pcieTraining = false → present s.dev pPcie = true →
        Acts .pcieTrainingStart s (fun t => t.dev.rst.pcieTraining = true ∧
          t.dev.rd PCIE_CFG_WIDTH = min 2 s.dev.rst.epWidth ∧ t.dev.rd LANE_CFG_PROTO 4 = 7 ∧
          blockState t.dev 0xC4 = .active ∧ t.mem = s.mem)))

/-- On a device that is not in reset: a granted write of SYS_PREP_START with the bit of one present unit that is not
preparing nor in use puts it in PREPARING, and at REDUCED enters JOINING; one in use stays as it is. The end of a
preparation that waits for nothing makes its unit READY and raises UNIT_READY; running out of time makes it FAILED
and raises UNIT_FAILED, as does a step of a preparation's calibration that overruns, a reference absent at VERIFY
for TIMEBASE, and DRAM_TRN_DONE with FAIL; with PASS the channel becomes READY. The reference's return takes
TIMEBASE from FAILED to PREPARING. The quick calibration's end ends it; with none running its row does nothing. -/
def Obligations.PreparationsMove : Prop :=
  ∀ s : State, frozen s.dev = false →
    (∀ m u, writeTaken s.dev m 0 = true → 1 ≤ u → u < 16 → unitPresent s.dev u = true → unitState s.dev u ≠ 1 →
      (unitInUse s.dev u = false → Acts (.prepStart m (2 ^ u)) s (fun t =>
        unitState t.dev u = 1 ∧ level t.dev = (if level s.dev = lvREDUCED then lvJOINING else level s.dev) ∧ t.mem = s.mem)) ∧
      (unitInUse s.dev u = true → Acts (.prepStart m (2 ^ u)) s (fun t => unitState t.dev u = unitState s.dev u))) ∧
    (∀ u, unitState s.dev u = 1 → unitWaits s.dev u = false → prepEnded s.dev u = true →
      Acts (.preparationDone u) s (fun t => unitState t.dev u = 2 ∧ (t.dev.rd HDR_INT_RAW_RAW 0).testBit 4 = true ∧
        ChangesParts [.radios, .mld, .strc] s t)) ∧
    (∀ u, unitState s.dev u = 1 → unitWaits s.dev u = false → u ≠ 6 →
      Acts (.preparationTimeout u) s (fun t => unitState t.dev u = 3 ∧ (t.dev.rd HDR_INT_RAW_RAW 0).testBit 5 = true ∧
        ChangesParts [.radios, .mld, .strc] s t)) ∧
    (∀ n, (radioOf s.dev n).cal = some .prep → Acts (.calStepOverrun n) s (fun t =>
      unitState t.dev (3 + n) = 3 ∧ (t.dev.rd HDR_INT_RAW_RAW 0).testBit 5 = true ∧ ChangesParts [.radios] s t)) ∧
    (∀ temp, s.dev.rst.quickCal = true → Acts (.quickCalDone temp) s (fun t => t.dev.rst.quickCal = false)) ∧
    (∀ temp, s.dev.rst.quickCal = false → exec (.quickCalDone temp) s = .next s) ∧
    (level s.dev = lvVERIFY → unitState s.dev 0 = 1 → Acts .referenceAbsentAtReset s (fun t =>
      unitState t.dev 0 = 3 ∧ t.dev.rst = { s.dev.rst with refPresent := false } ∧ ChangesParts [.rst] s t)) ∧
    (s.dev.rst.refPresent = false → Acts .referenceAppear s (fun t =>
      t.dev.rst.refPresent = true ∧ t.dev.rd TIME_STATUS_REF_LOST = 0 ∧
      unitState t.dev 0 = (if unitState s.dev 0 = 3 then 1 else unitState s.dev 0) ∧ ChangesParts [.rst] s t)) ∧
    (∀ m c, c < 2 → writeTaken s.dev m (pDram c + 2) = true → unitState s.dev (1 + c) = 1 →
      (unitWaits s.dev (1 + c) = false → Acts (.trnDonePass m c) s (fun t =>
        unitState t.dev (1 + c) = 2 ∧ (t.dev.rd HDR_INT_RAW_RAW 0).testBit 4 = true ∧
        ChangesParts [.radios, .mld, .strc, .dram] s t)) ∧
      Acts (.trnDoneFail m c) s (fun t =>
        unitState t.dev (1 + c) = 3 ∧ (t.dev.rd HDR_INT_RAW_RAW 0).testBit 5 = true ∧ ChangesParts [] s t))

/-- On a device at VERIFY whose Bryn reads: an image from flash, or, with that boot source, one over the UART, that
passes every check of R625 takes the service level to REDUCED, shows its slot, and puts core 0 in Starting; a bad
primary image leaves VERIFY with its reason in PRI_FAIL and the backup image next, a bad backup image takes the
level to RECOVERY with its reason in BAK_FAIL, and a bad image over the UART to RECOVERY with PRI_FAIL. A write of
BRYN_RECOV by the PCIe host with GO while its path is open records the length, and while it is closed changes
nothing but the capture of code 0x01. -/
def Obligations.BootImagesAct : Prop :=
  ∀ s : State, frozen s.dev = false →
    (brynReads s.dev = true → level s.dev = lvVERIFY → s.dev.rst.recovGo = none →
      (s.dev.rst.bootMode = 0 → ∀ b,
        (imageFail s.dev kBoot b = 0 → Acts (.bootImageVerified b) s (fun t =>
          level t.dev = lvREDUCED ∧ blockState t.dev 0xA0 = .starting ∧
          t.dev.rd SYS_STATUS_SLOT = (if s.dev.rst.backup then 1 else 0))) ∧
        (imageFail s.dev kBoot b ≠ 0 → s.dev.rst.backup = false → Acts (.bootImageVerified b) s (fun t =>
          level t.dev = lvVERIFY ∧ t.dev.rst = { s.dev.rst with backup := true } ∧
          t.dev.rd BRYN_BOOT_STATUS_PRI_FAIL = imageFail s.dev kBoot b % 256 ∧ Changes [.rst] [pBryn] s t)) ∧
        (imageFail s.dev kBoot b ≠ 0 → s.dev.rst.backup = true → Acts (.bootImageVerified b) s (fun t =>
          level t.dev = lvRECOVERY ∧ t.dev.rd BRYN_BOOT_STATUS_BAK_FAIL = imageFail s.dev kBoot b % 256 ∧
          ChangesParts [.rst] s t))) ∧
      (s.dev.rst.bootMode = 2 → ∀ b,
        (imageFail s.dev kBoot (some b) = 0 → Acts (.uartImageArrived b) s (fun t =>
          level t.dev = lvREDUCED ∧ blockState t.dev 0xA0 = .starting)) ∧
        (imageFail s.dev kBoot (some b) ≠ 0 → Acts (.uartImageArrived b) s (fun t =>
          level t.dev = lvRECOVERY ∧ t.dev.rd BRYN_BOOT_STATUS_PRI_FAIL = imageFail s.dev kBoot (some b) % 256 ∧
          ChangesParts [.rst] s t)))) ∧
    (∀ v, s.dev.rst.recovOpen = true → s.dev.rst.recovGo = none → v.testBit 31 = true → Acts (.brynRecovGo 17 v) s (fun t =>
      t.dev.rst = { s.dev.rst with recovGo := some (min (v % 2 ^ 23) (16408 * 256)) } ∧ Changes [.rst] [] s t)) ∧
    (∀ v, s.dev.rst.recovOpen = false →
      exec (.brynRecovGo 17 v) s = .next { s with dev := refuseWrite pBryn 0x01 17 (regAddr pBryn 0x060) s.dev })

/-- On a device that is not in reset: a granted kick with the right value restarts the watchdog and any other value
changes nothing; half of TIMEOUT raises its warning; expiry takes the action: the warning and a restart, a warm
reset or a cold reset with cause bit 4. A granted write of SYS_SHUTDOWN with the key enters STOPPING at phase 1 with
the MODE written; with a wrong key it is refused with code 0x41, and in STOPPING it changes nothing. A phase 1 to 4
whose blocks have drained gives way to the next, and one that has not stays. The grace and the 10 ms of cores end
once. A core that halts is marked so. -/
def Obligations.WatchdogAndShutdownAct : Prop :=
  ∀ s : State, frozen s.dev = false →
    (∀ m v, writeTaken s.dev m 0 = true →
      (v % 2 ^ 16 = 0xC3A5 → Acts (.wdogKick m v) s (fun t =>
        t.dev.rst = { s.dev.rst with wdogTick := s.dev.tb.elapsed } ∧ Changes [.rst] [] s t)) ∧
      (v % 2 ^ 16 ≠ 0xC3A5 → exec (.wdogKick m v) s = .next s)) ∧
    (s.dev.on SYS_WDOG_CFG_EN = true →
      Acts .wdogHalfTimeout s (fun t => (t.dev.rd HDR_INT_RAW_RAW 0).testBit 6 = true ∧ OnlyPages [0, 0xCE] s t) ∧
      (s.dev.rd SYS_WDOG_CFG_ACTION = 0 → Acts .wdogExpire s (fun t => (t.dev.rd HDR_INT_RAW_RAW 0).testBit 6 = true ∧
        t.dev.rst = { s.dev.rst with wdogTick := s.dev.tb.elapsed } ∧ Changes [.rst] [0, 0xCE] s t)) ∧
      (s.dev.rd SYS_WDOG_CFG_ACTION = 1 → Acts .wdogExpire s (fun t =>
        t.dev.rst = { s.dev.rst with warmPending := true, causes := s.dev.rst.causes ||| 2 ^ 4 } ∧ Changes [.rst] [] s t)) ∧
      (2 ≤ s.dev.rd SYS_WDOG_CFG_ACTION → Acts .wdogExpire s (fun t =>
        t.dev.rst.asserted = true ∧ (t.dev.rd SYS_RESET_CAUSE_CAUSE).testBit 4 = true ∧ t.mem = []))) ∧
    (∀ m v, writeTaken s.dev m 0 = true →
      (level s.dev = lvSTOPPING → exec (.shutdownStart m v) s = .next s) ∧
      (level s.dev ≠ lvSTOPPING → bitsOf v 31 16 ≠ 0xD4A7 →
        exec (.shutdownStart m v) s = .next { s with dev := refuseWrite 0 0x41 m (regAddr 0 0x068) s.dev }) ∧
      (level s.dev ≠ lvSTOPPING → bitsOf v 31 16 = 0xD4A7 → Acts (.shutdownStart m v) s (fun t =>
        level t.dev = lvSTOPPING ∧ t.dev.rd SYS_STATUS_STOP_PHASE = 1 ∧ t.dev.rst.stopMode = bitsOf v 2 1 ∧
        t.dev.rst.inboundClosed = true))) ∧
    (∀ k, level s.dev = lvSTOPPING → s.dev.rd SYS_STATUS_STOP_PHASE = k → 1 ≤ k → k < 6 →
      (phaseDone s.dev k = false → exec .shutdownPhaseEnd s = .next s) ∧
      (phaseDone s.dev k = true → k < 5 → Acts .shutdownPhaseEnd s (fun t => t.dev.rd SYS_STATUS_STOP_PHASE = k + 1))) ∧
    (level s.dev = lvSTOPPING → s.dev.rd SYS_STATUS_STOP_PHASE = 3 → s.dev.rst.graceOver = false →
      Acts .shutdownGraceEnd s (fun t => t.dev.rst.graceOver = true)) ∧
    (level s.dev = lvSTOPPING → s.dev.rd SYS_STATUS_STOP_PHASE = 4 → Acts .shutdownCoreTimeout s (fun t =>
      t.dev.rst.coreDrain = true)) ∧
    (∀ n, n < 8 → present s.dev (0xA0 + n) = true → isActive s.dev (0xA0 + n) = true → s.dev.rd SYS_STATUS_STOP_PHASE ≠ 4 →
      Acts (.coreHalt n) s (fun t => t.dev.rst.halted = addOnce s.dev.rst.halted n ∧ t.dev.rd CORE_STATUS_HALTED n = 1 ∧
        Changes [.rst] [0xA0 + n] s t))

/-- On a device that is not in reset: a command that Bryn takes from the master, with the key where it needs one, whose
own conditions hold and whose buffer the master may use, starts when none is in progress: BUSY is set and the job
holds the command, its operands and its input, and nothing else changes. A wrong key, or a condition that does not
hold, starts nothing, shows RESULT 0x80 and captures code 0x40 at BRYN; while BUSY a command starts nothing; in
SCRAPPED no command changes anything. -/
def Obligations.BrynTakesCommands : Prop :=
  ∀ (s : State) (m key arg cmd : Nat) (c : Instr), frozen s.dev = false →
    (c = .brynVerify m ∧ cmd = 1 ∧ key = 0 ∧ arg = 0 ∨ c = .brynAttest m ∧ cmd = 2 ∧ key = 0 ∧ arg = 0 ∨
      c = .brynIdExport m ∧ cmd = 3 ∧ key = 0 ∧ arg = 0 ∨ c = .brynArbAdvance m key arg ∧ cmd = 4 ∨
      c = .brynOwnerProgram m key arg ∧ cmd = 5 ∨ c = .brynOwnerRevoke m key arg ∧ cmd = 6 ∨
      c = .brynLcDeploy m key ∧ cmd = 7 ∧ arg = 0 ∨ c = .brynOtpWrite m key arg ∧ cmd = 8 ∨
      c = .brynChallenge m ∧ cmd = 9 ∧ key = 0 ∧ arg = 0 ∨ c = .brynUnlock m key ∧ cmd = 0xA ∧ arg = 0 ∨
      c = .brynDebugOpen m ∧ cmd = 0xB ∧ key = 0 ∧ arg = 0 ∨ c = .brynScrap m key ∧ cmd = 0xC ∧ arg = 0 ∨
      c = .brynSyskeyLoad m key arg ∧ cmd = 0xD) →
    (s.dev.bryn.lc = lcSCRAPPED → exec c s = .next s) ∧
    (s.dev.rst.brynHeld = false → brynTakes s.dev m cmd = true →
      (s.dev.on BRYN_CMD_STATUS_BUSY = true →
        exec c s = .next { s with dev := refuseWrite pBryn 0x40 m (regAddr pBryn 0x048) s.dev }) ∧
      (s.dev.on BRYN_CMD_STATUS_BUSY = false →
        (needsKey cmd = true ∧ key ≠ 0xD4A7 ∨ brynAllowed s.dev cmd arg (s.dev.rd BRYN_CMD_DATA_DATA) = false →
          Acts c s (fun t => t.dev.bryn = s.dev.bryn ∧ t.dev.rd BRYN_CMD_STATUS_RESULT = 0x80 ∧
            t.dev.on HDR_ERR_CODE_VALID pBryn = true ∧ OnlyPages (eventPages pBryn) s t)) ∧
        (∀ b, (needsKey cmd = true → key = 0xD4A7) → brynAllowed s.dev cmd arg (s.dev.rd BRYN_CMD_DATA_DATA) = true →
          brynInput s.dev s.mem m cmd (s.dev.rd BRYN_BUF_LO_ADDR + 2 ^ 32 * s.dev.rd BRYN_BUF_HI_ADDR) = some b →
          bufGrant s.dev m .write (s.dev.rd BRYN_BUF_LO_ADDR + 2 ^ 32 * s.dev.rd BRYN_BUF_HI_ADDR) (bufOut cmd) = true →
          Acts c s (fun t => t.dev.rd BRYN_CMD_STATUS_BUSY = 1 ∧
            t.dev.bryn = { s.dev.bryn with job := some ⟨cmd, arg, s.dev.rd BRYN_CMD_DATA_DATA, m, b,
              s.dev.rd BRYN_BUF_LO_ADDR + 2 ^ 32 * s.dev.rd BRYN_BUF_HI_ADDR, s.dev.rd BRYN_OTP_IDX_WORD⟩ } ∧
            OffKeys [BRYN_CMD_STATUS_BUSY.key 0 0] s.dev t.dev ∧ ChangesParts [.bryn] s t))))

/-- On a device that is not in reset, the command in progress completes without a programming fault: VERIFY records the
measurement of an image that passes and otherwise shows its FAIL code; ATTEST and ID_EXPORT store the report of
4,608 bytes and the identity keys at the buffer and change no other byte; ARB_ADVANCE sets its counter; OWNER_REVOKE
revokes its set; OTP_WRITE sets bits of its owner word; CHALLENGE opens a challenge of eight words; DEBUG_OPEN with
a token that passes opens the port; LC_DEPLOY, SCRAP and an UNLOCK that passes change the lifecycle and reset the
device. Without a command it does nothing. HALT_REQ and STEP through the open port act on the core's registers
alone; from any other master they change nothing. -/
def Obligations.BrynCommandsComplete : Prop :=
  ∀ s : State, frozen s.dev = false →
    (s.dev.bryn.job = none → exec (.brynCmdDone false) s = .next s) ∧
    (∀ j, s.dev.bryn.job = some j →
      (j.cmd = 1 → imageFail s.dev kSecondary (some j.input) = 0 → s.dev.bryn.meas.length < 16 →
        Acts (.brynCmdDone false) s (fun t => t.dev.bryn.meas = s.dev.bryn.meas ++ [measureOf j.input] ∧
          t.dev.rd BRYN_CMD_STATUS_RESULT = 0 ∧ t.dev.rd BRYN_CMD_STATUS_BUSY = 0 ∧ Changes [.bryn] [pBryn, 0xCE] s t)) ∧
      (j.cmd = 1 → imageFail s.dev kSecondary (some j.input) ≠ 0 → Acts (.brynCmdDone false) s (fun t =>
        t.dev.bryn = { s.dev.bryn with job := none } ∧
        t.dev.rd BRYN_CMD_STATUS_RESULT = imageFail s.dev kSecondary (some j.input) % 2 ^ BRYN_CMD_STATUS_RESULT.width ∧
        Changes [.bryn] [pBryn, 0xCE] s t)) ∧
      (s.memCanonical = true → j.cmd = 2 → Acts (.brynCmdDone false) s (fun t =>
        (∀ a, a < j.addr ∨ j.addr + 0x1200 ≤ a → memGet t.mem a = memGet s.mem a) ∧
        ChangesParts [.bryn, .memory, .ser, .dram] s t)) ∧
      (s.memCanonical = true → j.cmd = 3 → Acts (.brynCmdDone false) s (fun t =>
        memRead t.mem j.addr 1984 = identityKeys s.dev ∧
        (∀ a, a < j.addr ∨ j.addr + 1984 ≤ a → memGet t.mem a = memGet s.mem a) ∧
        ChangesParts [.bryn, .memory, .ser, .dram] s t)) ∧
      (j.cmd = 4 → Acts (.brynCmdDone false) s (fun t =>
        t.dev.bryn = { s.dev.bryn with job := none, arb := tabSet s.dev.bryn.arb j.arg j.data } ∧
        t.dev.rd BRYN_CMD_STATUS_RESULT = 0 ∧ Changes [.bryn] [pBryn, 0xCE] s t)) ∧
      (j.cmd = 5 → s.dev.bryn.lc ≠ lcBLANK → Acts (.brynCmdDone false) s (fun t =>
        t.dev.bryn.programmed = setBit s.dev.bryn.programmed j.arg ∧ Changes [.bryn] [pBryn, 0xCE] s t)) ∧
      (j.cmd = 6 → Acts (.brynCmdDone false) s (fun t =>
        t.dev.bryn = { s.dev.bryn with job := none, revoked := setBit s.dev.bryn.revoked j.arg } ∧
        Changes [.bryn] [pBryn, 0xCE] s t)) ∧
      (j.cmd = 8 → j.arg ≠ Config.bootCfgArg → Acts (.brynCmdDone false) s (fun t =>
        t.dev.bryn = { s.dev.bryn with
          job := none, owner := tabMod s.dev.bryn.owner (64 * j.arg + j.word) 0 (· ||| j.data) } ∧
        Changes [.bryn] [pBryn, 0xCE] s t)) ∧
      (j.cmd = 9 → Acts (.brynCmdDone false) s (fun t =>
        (∃ l : List Nat, l.length = 8 ∧ t.dev.bryn = { s.dev.bryn with job := none, nonce := some l }) ∧
        Changes [.bryn] [pBryn, 0xCE] s t)) ∧
      (j.cmd = 0xB → imageFail s.dev kDebug (some j.input) = 0 → Acts (.brynCmdDone false) s (fun t =>
        t.dev.bryn = { s.dev.bryn with job := none, opened := true, nonce := none } ∧ Changes [.bryn] [pBryn, 0xCE] s t)) ∧
      (j.cmd = 7 ∨ j.cmd = 0xC ∨ j.cmd = 0xA ∧ imageFail s.dev kUnlock (some j.input) = 0 →
        Acts (.brynCmdDone false) s (fun t =>
          t.dev.bryn.lc = (if j.cmd = 7 then lcDEPLOYED else if j.cmd = 0xC then lcSCRAPPED else lcRMA) ∧
          t.dev.rst.asserted = true ∧ t.mem = []))) ∧
    (∀ m n, n < 8 → writeTaken s.dev m (pCore n) = true →
      (m = 19 → portOpen s.dev = true →
        (∀ halt, Acts (.coreHaltReq m n halt) s (fun t => t.dev.on CORE_DBG_HALT_REQ n = halt ∧
          t.dev.on CORE_DBG_HALTED n = (halt && isActive s.dev (pCore n)) ∧
          OnlyKeys [CORE_DBG_HALT_REQ.key n 0, CORE_DBG_HALTED.key n 0, CORE_STATUS_HALTED.key n 0] s t)) ∧
        Acts (.coreStep m n) s (fun t =>
          t.dev.rd CORE_DBG_HALT_REQ n = s.dev.rd CORE_DBG_HALT_REQ n % 2 ∧
          t.dev.on CORE_DBG_HALTED n = ((s.dev.rd CORE_DBG_HALT_REQ n).testBit 0 && isActive s.dev (pCore n)) ∧
          OnlyKeys [CORE_DBG_HALT_REQ.key n 0, CORE_DBG_HALTED.key n 0, CORE_STATUS_HALTED.key n 0] s t)) ∧
      (m ≠ 19 ∨ portOpen s.dev = false →
        (∀ halt, exec (.coreHaltReq m n halt) s = .next s) ∧ exec (.coreStep m n) s = .next s))

/-- On a device that is not in reset: a granted TIME_CMD.SET makes the count TIME_SET and clears its residue, and STEP
moves it by TIME_ADJ, each raising STEP; SLEW, with the servo off, starts a slew of TIME_ADJ, or ends one for 0, and
with the servo on is refused with code 0x40; the end of a slew adds what is left of it. CLR_ASYM clears ASYM_SUSPECT
alone. A read of TIME_NOW_NS answers the nanoseconds and changes no register. Loss of the reference sets REF_LOST
and raises its cause, and its return clears it. A selected edge at PPS_IN is stamped less its delay. With no source
offset the servo goes to HOLDOVER at −integ. A sample with a reserved KIND is refused; a mean sample makes its port
VALID. -/
def Obligations.TimeBaseMoves : Prop :=
  ∀ s : State, frozen s.dev = false →
    (∀ m, writeTaken s.dev m pTime = true →
      Acts (.timeCmdSet m) s (fun t => t.dev.tb.count = timeSetCount s.dev % timeRange ∧ t.dev.tb.residue = 0 ∧
        (t.dev.rd HDR_INT_RAW_RAW pTime).testBit 3 = true ∧
        ChangesParts [.tb, .air, .cvy, .dram, .drv, .eth, .outr, .q, .ser, .way, .rtc, .time, .tm, .memory] s t) ∧
      Acts (.timeCmdStep m) s (fun t =>
        t.dev.tb.count = wrapTime ((s.dev.tb.count : Int) + signed 32 (s.dev.rd TIME_ADJ_NS) * 2 ^ 48) ∧
        (t.dev.rd HDR_INT_RAW_RAW pTime).testBit 3 = true ∧
        ChangesParts [.tb, .air, .cvy, .dram, .drv, .eth, .outr, .q, .ser, .way, .rtc, .time, .tm, .memory] s t) ∧
      (s.dev.on TIME_SERVO_CFG_EN = true → exec (.timeCmdSlew m) s =
        .next { s with dev := refuseWrite pTime 0x40 m (regAddr pTime 0x060) s.dev }) ∧
      (s.dev.on TIME_SERVO_CFG_EN = false → Acts (.timeCmdSlew m) s (fun t =>
        t.dev.tb = { s.dev.tb with slew :=
          (if signed 32 (s.dev.rd TIME_ADJ_NS) = 0 then none else Option.some (slewOf (signed 32 (s.dev.rd TIME_ADJ_NS)))) } ∧
        t.dev.on TIME_STATUS_SLEWING = (signed 32 (s.dev.rd TIME_ADJ_NS) != 0) ∧ Changes [.tb] [pTime] s t)) ∧
      Acts (.timeCmdClrAsym m) s (fun t => t.dev.rd TIME_STATUS_ASYM_SUSPECT = 0 ∧
        OnlyKeys [TIME_STATUS_ASYM_SUSPECT.key 0 0] s t)) ∧
    (∀ r, s.dev.tb.slew = some r → Acts .slewDone s (fun t =>
      t.dev.tb = { addToCount r s.dev.tb with slew := none } ∧ t.dev.rd TIME_STATUS_SLEWING = 0 ∧ Changes [.tb] [pTime] s t)) ∧
    (∀ m, pageReadable s.dev m pTime = true → Acts (.timeNowRead m) s (fun t =>
      t.dev.sh.readData = toBytes 4 (nowNs s.dev) ∧ Changes [] [] s t)) ∧
    (s.dev.on TIME_STATUS_REF_LOST = false → Acts .referenceLoss s (fun t =>
      t.dev.rst = { s.dev.rst with refPresent := false } ∧ t.dev.on TIME_STATUS_REF_LOST = true ∧
      (t.dev.rd HDR_INT_RAW_RAW pTime).testBit 7 = true ∧ ChangesParts [.rst, .rtc] s t)) ∧
    (Acts .referenceReturn s (fun t =>
      t.dev.rst = { s.dev.rst with refPresent := true } ∧ t.dev.on TIME_STATUS_REF_LOST = false ∧ Changes [.rst] [pTime] s t)) ∧
    (∀ falling, isActive s.dev pTime = true → s.dev.on PPS_CFG_IN_EN = true →
      edgeIs (s.dev.rd PPS_CFG_IN_EDGE) falling = true → isSource s.dev 15 = false →
      Acts (.ppsInEdge falling) s (fun t =>
        t.dev.rd PPS_IN_NS_NS = fullNs (fullAdd (fullNow s.dev) (-(65536 * s.dev.rd PPS_IN_DELAY_NS : Nat))) % 2 ^ 30 ∧
        Changes [] [0x83] s t)) ∧
    (servoState s.dev ≠ stFree → Acts .servoHoldTimeout s (fun t =>
      servoState t.dev = stHoldover ∧ t.dev.rd TIME_FREQ_FREQ = twos 32 (-s.dev.tb.integ) % 2 ^ 32 ∧
      ChangesParts [.rtc] s t)) ∧
    (∀ m, writeTaken s.dev m (pTime + 1) = true →
      (s.dev.rd TIME_SMP_CFG_KIND = 3 → Acts (.timeSmpPush m) s (fun t =>
        t.dev.on TIME_SMP_STATUS_REJECTED = true ∧ t.dev.tb = s.dev.tb ∧ OnlyPages (eventPages pTime ++ [0x81]) s t)) ∧
      (∀ p, s.dev.rd TIME_SMP_CFG_PORT = p → s.dev.rd TIME_SMP_CFG_KIND = 1 → isActive s.dev pTime = true →
        portUsable s.dev p = true → sampleD s.dev TIME_SMP_D_SM_LO_D TIME_SMP_D_SM_HI_D = 0 →
        s.dev.on TIME_PORT_STATUS_VALID 0 p = false → s.dev.on TIME_PORT_STATUS_STEPPED 0 p = false →
        Acts (.timeSmpPush m) s (fun t => t.dev.on TIME_PORT_STATUS_VALID 0 p = true ∧
          t.dev.on TIME_SMP_STATUS_REJECTED = false ∧ Changes [.time] [0x81] s t)))

/-- On a device that is not in reset: a granted read of a stamp FIFO or of a capture input takes its oldest stamp, or
answers zero. A selected edge at an enabled input with fewer than 16 stamps waiting is stamped less its delay and
raises CAPTURE; with 16 waiting none is taken. A granted enable of an event output whose registers break a rule of
R548 changes nothing but the capture of code 0x42; one with a start to come arms it. An armed output pulses at its
instant and raises EVENT, a one-shot one disarming; the end of a pulse ends it. PPS_OUT rises once for each second
that begins, and its pulse ends. -/
def Obligations.TimeFifosAndOutputsAct : Prop :=
  ∀ s : State, frozen s.dev = false →
    (∀ m p, pageReadable s.dev m (pTime + 2) = true → p < 9 →
      ((timePort s.dev p).fifo = [] → Acts (.timeFifoPop m p) s (fun t =>
        t.dev.sh.readData = toBytes 4 0 ∧ Changes [] [] s t)) ∧
      (∀ e l, (timePort s.dev p).fifo = e :: l → Acts (.timeFifoPop m p) s (fun t =>
        t.dev.sh.readData = toBytes 4 (2 ^ 31 + 2 ^ 30 * e.dir + 2 ^ 24 * e.type + e.seq) ∧
        (timePort t.dev p).fifo = l ∧ Changes [.time] [pTime] s t))) ∧
    (∀ c falling, c < 8 → isActive s.dev pTime = true → s.dev.on CAP_CFG_EN 0 c = true →
      (2 ≤ s.dev.rd CAP_CFG_EDGE 0 c ∨ edgeIs (s.dev.rd CAP_CFG_EDGE 0 c) falling = true) →
      ((capFifo s.dev c).length < 16 → Acts (.captureEdge c falling) s (fun t =>
        capFifo t.dev c = capFifo s.dev c ++ [fullAdd (fullNow s.dev) (-(65536 * s.dev.rd CAP_CFG_DELAY 0 c : Nat))] ∧
        (t.dev.rd HDR_INT_RAW_RAW pTime).testBit 9 = true ∧ Changes [.time] [pTime, 0xCE] s t)) ∧
      (16 ≤ (capFifo s.dev c).length → Acts (.captureEdge c falling) s (fun t =>
        OnlyPages (eventPages pTime ++ [0x83]) s t))) ∧
    (∀ m c, pageReadable s.dev m (pTime + 3) = true → c < 8 →
      (capFifo s.dev c = [] → Acts (.capturePop m c) s (fun t => t.dev.sh.readData = toBytes 4 0 ∧ Changes [] [] s t)) ∧
      (∀ x l, capFifo s.dev c = x :: l → Acts (.capturePop m c) s (fun t =>
        t.dev.sh.readData = toBytes 4 (2 ^ 31 + fullNs x) ∧ capFifo t.dev c = l ∧ Changes [.time] [pTime] s t))) ∧
    (∀ m e, writeTaken s.dev m (pTime + 3) = true → e < 8 → s.dev.on EVT_CFG_EN 0 e = false →
      ((1000000000 ≤ s.dev.rd EVT_START_NS_NS 0 e ∨ s.dev.rd EVT_WIDTH_NS 0 e < 2 ∨
          s.dev.rd EVT_CFG_MODE 0 e = 1 ∧ (s.dev.rd EVT_PERIOD_NS 0 e < 16 ∨
            s.dev.rd EVT_PERIOD_NS 0 e ≤ s.dev.rd EVT_WIDTH_NS 0 e)) →
        exec (.evtEnable m e) s =
          .next { s with dev := refuseWrite pTime 0x42 m (regAddr (pTime + 3) (0x100 + 0x20 * e)) s.dev }) ∧
      (s.dev.rd EVT_START_NS_NS 0 e < 1000000000 → 2 ≤ s.dev.rd EVT_WIDTH_NS 0 e → s.dev.rd EVT_CFG_MODE 0 e ≠ 1 →
        nowTotal s.dev ≤ evtStart s.dev e → Acts (.evtEnable m e) s (fun t =>
          t.dev.on EVT_CFG_EN 0 e = true ∧ t.dev.on EVT_STATUS_ARMED 0 e = true ∧
          (evtOf t.dev e).start = evtStart s.dev e ∧ Changes [.time] [0x83] s t))) ∧
    (∀ e, isActive s.dev pTime = true → s.dev.on EVT_CFG_EN 0 e = true → s.dev.on EVT_STATUS_ARMED 0 e = true →
      Acts (.evtInstant e) s (fun t => t.dev.on EVT_STATUS_FIRED 0 e = true ∧ (evtOf t.dev e).high = true ∧
        t.dev.on EVT_STATUS_ARMED 0 e = (evtOf s.dev e).periodic ∧
        (t.dev.rd HDR_INT_RAW_RAW pTime).testBit 10 = true ∧ Changes [.time] [pTime, 0x83, 0xCE] s t)) ∧
    (∀ e, Acts (.evtPulseEnd e) s (fun t => (evtOf t.dev e).high = false ∧ Changes [.time] [] s t)) ∧
    (isActive s.dev pTime = true → s.dev.on PPS_CFG_OUT_EN = true → s.dev.time.ppsLast = none →
      Acts .ppsOutSecond s (fun t => t.dev.time = { s.dev.time with
        ppsHigh := true, ppsLast := some ((nowTotal s.dev + s.dev.rd PPS_OUT_COMP_NS) / 1000000000) } ∧
        Changes [.time] [] s t)) ∧
    (∀ l, s.dev.time.ppsLast = some l → (nowTotal s.dev + s.dev.rd PPS_OUT_COMP_NS) / 1000000000 ≤ l →
      exec .ppsOutSecond s = .next s) ∧
    Acts .ppsOutPulseEnd s (fun t => t.dev.time = { s.dev.time with ppsHigh := false } ∧ Changes [.time] [] s t)

/-- A step with no command waiting, on a device that is not in reset and whose reference is present, moves the time base
by one tick (that an idle step is one tick is the model's choice, log entry 3): ten to the ninth times the count,
with the residue, grows by exactly 2 ns plus the deviation of TIME_FREQ and the part of a slew that the tick takes,
up to the range of the count, and what remains of the slew shrinks by that part. -/
def Obligations.TickAdvancesTheTimeBase : Prop :=
  ∀ s t : State, s.pending = [] → frozen s.dev = false → s.dev.on TIME_STATUS_REF_LOST = false → step s = .next t →
    t.dev.tb.elapsed = s.dev.tb.elapsed + 1 ∧
    t.dev.tb.residue < 1000000000 ∧
    ((1000000000 * t.dev.tb.count + t.dev.tb.residue : Nat) : Int) % (1000000000 * timeRange : Nat) =
      ((1000000000 * s.dev.tb.count + s.dev.tb.residue : Nat) + (2 ^ 49 * 1000000000 : Nat) +
        2 ^ 41 * freqNow s.dev + slewPart s.dev) % (1000000000 * timeRange : Nat) ∧
    t.dev.tb.slew = s.dev.tb.slew.map (· - slewPart s.dev)

/-- For every valid time of the calendar, the next second is a valid time; within a day its date and day of the week
stay and the second of the day grows by one; at the last second of a day it goes to the first second of the next,
the day of the week goes on, and the date grows but at the end of 2399, where alone the calendar wraps, to
2000-01-01. -/
def Obligations.CalendarAdvances : Prop :=
  ∀ t : RtcTime, rtcValid t = true →
    rtcValid (nextSecond t).1 = true ∧
    (secOfDay t < 86399 → dateKey (nextSecond t).1 = dateKey t ∧ secOfDay (nextSecond t).1 = secOfDay t + 1 ∧
      (nextSecond t).1.wday = t.wday ∧ (nextSecond t).2 = false) ∧
    (secOfDay t = 86399 → secOfDay (nextSecond t).1 = 0 ∧ (nextSecond t).1.wday = t.wday % 7 + 1 ∧
      (dateKey t ≠ 23991231 → dateKey t < dateKey (nextSecond t).1 ∧ (nextSecond t).2 = false) ∧
      (dateKey t = 23991231 → dateKey (nextSecond t).1 = 20000101 ∧ (nextSecond t).2 = true))

/-- Whatever the device does: the backup domain's power-up, and its supply falling low on the battery, return every RTC
register from 0x040 but OSF and its cause to reset, and show OSF with cause 1 or 3. The crystal's stop sets OSF and
stops the calendar, and its restart lets it go on; a second of a running crystal moves the calendar to the next
second and of a stopped one changes nothing. The supply's switch and the temperature's sample store what they bring
alone. On a device that is not in reset: a granted read of a time register from RTC_SEC to RTC_CENTURY with no
snapshot in force answers the calendar's field and takes a snapshot, and with one in force answers its field; a
snapshot that has run out is dropped. A granted write of a time register changes the holding registers alone. A
granted apply of a valid time awaits its edge, at which the calendar takes it; one of an invalid time sets
APPLY_REJECT and is captured. OSF clears while the crystal runs, and does not otherwise. The end of an unspoilt
window while the network row holds makes the trim valid; a spoilt one is discarded and counted. -/
def Obligations.BackupDomainAndRtcAct : Prop :=
  (∀ s : State,
    (∀ c cause, (c = .backupPowerUp ∧ cause = 1 ∨ c = .vbatLowReset ∧ cause = 3 ∧ s.dev.rtc.onBattery = true) →
      Acts c s (fun t =>
        t.dev.rtc = { onBattery := s.dev.rtc.onBattery, vbat := s.dev.rtc.vbat, crystal := true } ∧
        t.dev.rd RTC_STATUS_OSF = 1 ∧ t.dev.rd RTC_STATUS_OSF_CAUSE = cause ∧
        (∀ k : Key, k.reg / 4096 = pRtc → 0x40 ≤ k.reg % 4096 → k ≠ RTC_STATUS_OSF_CAUSE.key 0 0 →
          regLook k t.dev.regs = none) ∧
        Changes [.rtc] [pRtc, 0xCE] s t)) ∧
    (s.dev.rtc.onBattery = false → exec .vbatLowReset s = .next s) ∧
    (∀ b v, Acts (.supplySwitch b v) s (fun t =>
      t.dev.rtc = { s.dev.rtc with onBattery := b, vbat := v } ∧ Changes [.rtc] [] s t)) ∧
    (s.dev.rtc.crystal = true → Acts .crystalStop s (fun t =>
      t.dev.rtc = { s.dev.rtc with crystal := false } ∧ t.dev.on RTC_STATUS_OSF = true ∧ Changes [.rtc] [pRtc, 0xCE] s t)) ∧
    Acts .crystalRestart s (fun t => t.dev.rtc = { s.dev.rtc with crystal := true } ∧ Changes [.rtc] [] s t) ∧
    (s.dev.rtc.crystal = false → exec .rtcSecond s = .next s) ∧
    (s.dev.rtc.crystal = true → Acts .rtcSecond s (fun t =>
      t.dev.rtc.now = (nextSecond s.dev.rtc.now).1 ∧ t.dev.rtc.sub = 0 ∧
      ((nextSecond s.dev.rtc.now).2 = true → t.dev.on RTC_STATUS_WRAP = true) ∧
      (s.dev.on RTC_CFG_ALM_EN = true → almMatch s.dev (nextSecond s.dev.rtc.now).1 = true → s.dev.rtc.back = false →
        t.dev.on RTC_STATUS_ALARM_F = true) ∧
      Changes [.rtc] [pRtc, 0xCE] s t)) ∧
    (∀ temp, Acts (.tempSample temp) s (fun t =>
      t.dev.rd RTC_TEMP_TEMP = twos 8 (temp + 64) % 256 ∧ OnlyKeys [RTC_TEMP_TEMP.key 0 0] s t))) ∧
  (∀ s : State, frozen s.dev = false →
    (∀ m r sub, pageReadable s.dev m pRtc = true → 1 ≤ r → r < 8 →
      (snapLive s.dev = none → Acts (.rtcSnapshotRead m r sub) s (fun t =>
        t.dev.sh.readData = toBytes 4 (rtcField s.dev.rtc.now r) ∧ (∃ x, snapLive t.dev = some (s.dev.rtc.now, x)) ∧
        Changes [.rtc] [] s t)) ∧
      (∀ x, snapLive s.dev = some x → Acts (.rtcSnapshotRead m r sub) s (fun t =>
        t.dev.sh.readData = toBytes 4 (rtcField x.1 r) ∧ Changes [] [] s t))) ∧
    (snapLive s.dev = none → Acts .rtcSnapshotExpire s (fun t =>
      t.dev.rtc = { s.dev.rtc with snap := none } ∧ Changes [.rtc] [] s t)) ∧
    (∀ m r v, writeTaken s.dev m pRtc = true → 1 ≤ r → r ≤ 8 → Acts (.rtcHoldWrite m r v) s (fun t =>
      t.dev.rtc = { s.dev.rtc with hold := some (rtcSetField r v (s.dev.rtc.hold.getD s.dev.rtc.now)) } ∧
      Changes [.rtc] [] s t)) ∧
    (∀ m, writeTaken s.dev m pRtc = true →
      (rtcValid (s.dev.rtc.hold.getD s.dev.rtc.now) = true → Acts (.rtcApply m) s (fun t =>
        t.dev.rtc = { s.dev.rtc with apply := some (s.dev.rtc.hold.getD s.dev.rtc.now), hold := none } ∧
        t.dev.rd RTC_STATUS_APPLY_REJECT = 0 ∧ Changes [.rtc] [pRtc] s t)) ∧
      (rtcValid (s.dev.rtc.hold.getD s.dev.rtc.now) = false → Acts (.rtcApply m) s (fun t =>
        t.dev.rtc = s.dev.rtc ∧ t.dev.rd RTC_STATUS_APPLY_REJECT = 1 ∧ OnlyPages (eventPages pRtc) s t)) ∧
      (s.dev.rtc.crystal = true → Acts (.osfClear m) s (fun t =>
        t.dev.rd RTC_STATUS_OSF = 0 ∧ Changes [] [pRtc] s t)) ∧
      (s.dev.rtc.crystal = false → exec (.osfClear m) s = .next s)) ∧
    (∀ x, s.dev.rtc.apply = some x → s.dev.rtc.crystal = true → Acts .rtcApplyTakeEffect s (fun t =>
      t.dev.rtc.now = x ∧ t.dev.rtc.sub = 0 ∧ t.dev.rtc.apply = none ∧ t.dev.rtc.per = 0 ∧
      (t.dev.rd HDR_INT_RAW_RAW pRtc).testBit 7 = true ∧ Changes [.rtc] [pRtc, 0xCE] s t)) ∧
    (∀ n, s.dev.rtc.spoilt = true → Acts (.netWindowEnd n) s (fun t =>
      t.dev.rtc = { s.dev.rtc with spoilt := false } ∧
      t.dev.rd RTC_NET_DISCARD_COUNT = satAdd (2 ^ 32 - 1) (s.dev.rd RTC_NET_DISCARD_COUNT) 1 % 2 ^ 32 ∧
      Changes [.rtc] [pRtc] s t)) ∧
    (∀ n, s.dev.rtc.spoilt = false → netMeasuring s.dev = true → Acts (.netWindowEnd n) s (fun t =>
      t.dev.on RTC_STATUS_NET_VALID = true ∧
      t.dev.rd RTC_NET_MEAS_MEAS = twos 16 (netM n (max 1 (s.dev.rd RTC_CFG_NET_WINDOW))) % 2 ^ 16 ∧
      OnlyPages [pRtc, 0xCE] s t)))

/-- On a device that is not in reset: a granted write of GPIO_SET sets exactly the bits written in GPIO_OUT, one of
GPIO_CLR clears exactly those, and no other register field, unit or byte changes. A ball event sets the level of its
ball; while GPIO is not Active no flag changes, whatever EN gates; while it is Active, an edge of the selected
polarity on a ball selected for edges sets its flag. It changes GPIO's page, its interrupt's targets and the ball
levels alone. A granted write of UART_TX with room appends its low byte to the transmit FIFO, and with 64 characters
waiting leaves it and is refused. While UART is Active, the character at the front is sent and leaves the FIFO; a
received character is appended with its error bits while fewer than 64 wait, and lost and counted in UART_OVR
otherwise. A granted read of UART_RX takes the oldest character and answers it with VALID, or answers zero. Nothing
changes but the UART's and DIAG's pages, interrupt targets, the FIFOs and the answer. -/
def Obligations.GpioAndUartAct : Prop :=
  ∀ s : State, frozen s.dev = false →
    (∀ m v, writeTaken s.dev m pGpio = true → Acts (.gpioSet m v) s (fun t =>
      (∀ i, i < 32 → (t.dev.rd GPIO_OUT_OUT).testBit i = ((s.dev.rd GPIO_OUT_OUT).testBit i || v.testBit i)) ∧
      OnlyKeys [GPIO_OUT_OUT.key 0 0] s t)) ∧
    (∀ m v, writeTaken s.dev m pGpio = true → Acts (.gpioClr m v) s (fun t =>
      (∀ i, i < 32 → (t.dev.rd GPIO_OUT_OUT).testBit i = ((s.dev.rd GPIO_OUT_OUT).testBit i && !v.testBit i)) ∧
      OnlyKeys [GPIO_OUT_OUT.key 0 0] s t)) ∧
    (∀ n level, n < 32 → Acts (.gpioBallEvent n level) s (fun t =>
      t.dev.edge = { s.dev.edge with gpio := putBit s.dev.edge.gpio n level } ∧
      (isActive s.dev pGpio = false →
        ∀ i, i < 32 → (t.dev.rd GPIO_INT_F_F).testBit i = (s.dev.rd GPIO_INT_F_F).testBit i) ∧
      (isActive s.dev pGpio = true → (s.dev.rd GPIO_INT_EDGE_EDGE).testBit n = true →
        (s.dev.rd GPIO_INT_POL_POL).testBit n = level → s.dev.edge.gpio.testBit n ≠ level →
        (t.dev.rd GPIO_INT_F_F).testBit n = true) ∧
      Changes [.edge] (eventPages pGpio) s t)) ∧
    (∀ m v, writeTaken s.dev m pUart = true → Acts (.uartTxWrite m v) s (fun t =>
      t.dev.edge = { s.dev.edge with uartTx :=
        if s.dev.edge.uartTx.length < 64 then s.dev.edge.uartTx ++ [v % 256] else s.dev.edge.uartTx } ∧
      Changes [.edge] (eventPages pUart) s t)) ∧
    (∀ c l, isActive s.dev pUart = true → s.dev.edge.uartTx = c :: l → Acts .uartCharSent s (fun t =>
      t.dev.edge = { s.dev.edge with uartTx := l } ∧ Out.uart c ∈ t.dev.out ∧
      Changes [.edge] (eventPages pUart) s t)) ∧
    (∀ c err, isActive s.dev pUart = true → s.dev.edge.uartRx.length < 64 → c < 256 → err < 8 →
      Acts (.uartCharRx c err) s (fun t =>
        t.dev.edge = { s.dev.edge with uartRx := s.dev.edge.uartRx ++ [c + 256 * err] } ∧
        Changes [.edge] (eventPages pUart) s t)) ∧
    (∀ c err, isActive s.dev pUart = true → 64 ≤ s.dev.edge.uartRx.length → Acts (.uartCharRx c err) s (fun t =>
      t.dev.edge = s.dev.edge ∧ t.dev.rd UART_OVR_COUNT = satAdd (2 ^ 32 - 1) (s.dev.rd UART_OVR_COUNT) 1 % 2 ^ 32 ∧
      OnlyPages (eventPages pUart) s t)) ∧
    (∀ m c l, pageReadable s.dev m pUart = true → present s.dev pUart = true → s.dev.edge.uartRx = c :: l →
      Acts (.uartRxPop m) s (fun t =>
        t.dev.edge = { s.dev.edge with uartRx := l } ∧ t.dev.sh.readData = toBytes 4 (2 ^ 31 + c) ∧
        t.dev.sh.blocked = false ∧ Changes [.edge] (eventPages pUart) s t)) ∧
    (∀ m, pageReadable s.dev m pUart = true → present s.dev pUart = true → s.dev.edge.uartRx = [] →
      Acts (.uartRxPop m) s (fun t => t.dev.sh.readData = toBytes 4 0 ∧ Changes [] [] s t))

/-- On a device that is not in reset: a granted write of SPI_CMD with GO, SPI being Active and not BUSY, from Bryn or at
REDUCED and above, starts the command: it goes out with SPI_ADDR, and BUSY is set. From another master before
REDUCED it changes nothing at all. While BUSY it starts nothing and captures code 0x40. The end of the command in
progress clears BUSY, and a write command leaves SPI_BUF. A granted write of PMB_XFER with GO, PMB being Active and
idle, starts a software transfer; while BUSY it is refused with code 0x42 and starts nothing. A waiting voltage
command goes out when the bus is idle and VOUT_MODE is known. The end of a software transfer clears BUSY and shows
its RESULT; one that fails, by no acknowledgement, a bad PEC or SCL held low for 25 ms, counts in PMB_FAIL.
PMB_ALERT_N low raises ALERT, bit 3 of INT_RAW. -/
def Obligations.SpiAndPmbusAct : Prop :=
  ∀ s : State, frozen s.dev = false →
    (∀ m v, writeTaken s.dev m pSpi = true → (m = 16 ∨ 3 ≤ s.dev.rd SYS_STATUS_LEVEL) → isActive s.dev pSpi = true →
      s.dev.on SPI_STATUS_BUSY = false → Acts (.spiCmdGo m v) s (fun t =>
        t.dev.edge = { s.dev.edge with spi := some (setBit v 31) } ∧ t.dev.rd SPI_STATUS_BUSY = 1 ∧
        (∃ data, t.dev.out = s.dev.out ++ [.spi (setBit v 31) (s.dev.rd SPI_ADDR_ADDR) data]) ∧
        OffKeys [SPI_STATUS_BUSY.key 0 0] s.dev t.dev ∧ ChangesParts [.edge] s t)) ∧
    (∀ m v, writeTaken s.dev m pSpi = true → m ≠ 16 → s.dev.rd SYS_STATUS_LEVEL < 3 →
      exec (.spiCmdGo m v) s = .next s) ∧
    (∀ m v, writeTaken s.dev m pSpi = true → (m = 16 ∨ 3 ≤ s.dev.rd SYS_STATUS_LEVEL) → s.dev.on SPI_STATUS_BUSY = true →
      exec (.spiCmdGo m v) s = .next { s with dev := refuseWrite pSpi 0x40 m (regAddr pSpi 0x048) s.dev }) ∧
    (∀ data v, s.dev.edge.spi = some v → Acts (.spiCmdDone data) s (fun t =>
      t.dev.edge = { s.dev.edge with spi := none } ∧ t.dev.rd SPI_STATUS_BUSY = 0 ∧
      (v.testBit 23 = true → ∀ i, t.dev.rd SPI_BUF_DATA 0 i = s.dev.rd SPI_BUF_DATA 0 i) ∧
      Changes [.edge] (eventPages pSpi) s t)) ∧
    (∀ m v, writeTaken s.dev m pPmb = true → isActive s.dev pPmb = true → s.dev.on PMB_STATUS_BUSY = false →
      Acts (.pmbXferGo m v) s (fun t =>
        t.dev.edge = { s.dev.edge with pmb := some (.soft (v.testBit 15)) } ∧ t.dev.rd PMB_STATUS_BUSY = 1 ∧
        OffKeys [PMB_STATUS_BUSY.key 0 0] s.dev t.dev ∧ ChangesParts [.edge] s t)) ∧
    (∀ m v, writeTaken s.dev m pPmb = true → s.dev.on PMB_STATUS_BUSY = true →
      exec (.pmbXferGo m v) s = .next { s with dev := refuseWrite pPmb 0x42 m (regAddr pPmb 0x048) s.dev }) ∧
    (∀ v l, isActive s.dev pPmb = true → s.dev.edge.pmb = none → s.dev.on PMB_STATUS_MODE_VALID = true →
      s.dev.edge.volts = v :: l → Acts .pmbVoltageCmd s (fun t =>
        t.dev.edge = { s.dev.edge with volts := l, pmb := some (.volt v) } ∧ t.dev.rd PMB_STATUS_BUSY = 1 ∧
        OffKeys [PMB_STATUS_BUSY.key 0 0] s.dev t.dev ∧ ChangesParts [.edge] s t)) ∧
    (∀ r result data, s.dev.edge.pmb = some (.soft r) → result < 4 → Acts (.pmbXferDone result data) s (fun t =>
      t.dev.edge = { s.dev.edge with pmb := none } ∧ t.dev.rd PMB_STATUS_BUSY = 0 ∧ t.dev.rd PMB_XFER_RESULT = result ∧
      (r = true → result = 0 → t.dev.rd PMB_DATA_DATA = data % 2 ^ 16) ∧
      (result ≠ 0 → t.dev.rd PMB_FAIL_COUNT = satAdd (2 ^ 32 - 1) (s.dev.rd PMB_FAIL_COUNT) 1 % 2 ^ 32) ∧
      Changes [.edge] (eventPages pPmb) s t)) ∧
    (∀ r, s.dev.edge.pmb = some (.soft r) → Acts .pmbSclTimeout s (fun t =>
      t.dev.edge = { s.dev.edge with pmb := none } ∧ t.dev.rd PMB_STATUS_BUSY = 0 ∧ t.dev.rd PMB_XFER_RESULT = 2 ∧
      t.dev.rd PMB_FAIL_COUNT = satAdd (2 ^ 32 - 1) (s.dev.rd PMB_FAIL_COUNT) 1 % 2 ^ 32 ∧
      Changes [.edge] (eventPages pPmb) s t)) ∧
    (∀ low, Acts (.pmbAlert low) s (fun t =>
      t.dev.edge = { s.dev.edge with alert := low } ∧ (t.dev.rd HDR_INT_RAW_RAW pPmb).testBit 3 = low ∧
      Changes [.edge] (eventPages pPmb) s t))

/-- Whatever the device does, in reset too: IDCODE shifts out the variant's number, STATUS its 64 bits, BYPASS one bit.
While the debug port is open EXTEST and SAMPLE/PRELOAD capture the balls and load the cells, and HIGHZ and CLAMP
take the balls; while it is closed each of the four is BYPASS. Out of reset, MEMAP through the open port is one
access as master 19 whose error bit says whether it was blocked, and a read of BRYNBOX shifts out the register it
names. No register and no byte of memory changes but through MEMAP and a write of BRYNBOX. -/
def Obligations.TestAccessPortActs : Prop :=
  ∀ s : State,
    Acts .tapIdcode s (fun t => Changes [.edge] [] s t ∧
      t.dev.out = s.dev.out ++ [.tdo 32 (match s.dev.variant with
        | .nv9700 => 0x29700563 | .nv9740 => 0x29740563 | .nv9720 => 0x29720563)]) ∧
    Acts .tapStatus s (fun t => Changes [.edge] [] s t ∧
      ∃ v, t.dev.out = s.dev.out ++ [.tdo 64 v] ∧ v % 16 = s.dev.rd SYS_STATUS_LEVEL % 16) ∧
    Acts .tapBypass s (fun t => Changes [.edge] [] s t ∧
      t.dev.edge.tap = { s.dev.edge.tap with mode := .normal } ∧ t.dev.out = s.dev.out ++ [.tdo 1 0]) ∧
    (∀ balls cells, portOpen s.dev = true →
      Acts (.tapExtest balls cells) s (fun t => t.dev.edge.tap = { s.dev.edge.tap with cells := cells, mode := .extest } ∧
        Changes [.edge] [] s t) ∧
      Acts (.tapSamplePreload balls cells) s (fun t =>
        t.dev.edge.tap = { s.dev.edge.tap with cells := cells, mode := .normal } ∧ Changes [.edge] [] s t) ∧
      Acts .tapHighz s (fun t => t.dev.edge.tap = { s.dev.edge.tap with mode := .highz } ∧ Changes [.edge] [] s t) ∧
      Acts .tapClamp s (fun t => t.dev.edge.tap = { s.dev.edge.tap with mode := .clamp } ∧ Changes [.edge] [] s t)) ∧
    (∀ balls cells, portOpen s.dev = false →
      exec (.tapExtest balls cells) s = exec .tapBypass s ∧ exec (.tapSamplePreload balls cells) s = exec .tapBypass s ∧
      exec .tapHighz s = exec .tapBypass s ∧ exec .tapClamp s = exec .tapBypass s) ∧
    (∀ i v, frozen s.dev = false → i < 0x640 → Acts (.tapBrynbox i false v) s (fun t =>
      (∃ r, t.dev.out = s.dev.out ++ [.tdo 44 (i + 2 ^ 12 * r)] ∧ t.dev.edge.tap.data = r) ∧ Changes [.edge] [] s t)) ∧
    (∀ i v, frozen s.dev = false → 0x40 ≤ i → i < 0x640 → v < 2 ^ 32 → Acts (.tapBrynbox i true v) s (fun t =>
      t.dev.edge.tap.token = tabSet s.dev.edge.tap.token (i - 0x40) v ∧ Changes [.edge] [] s t)) ∧
    (∀ a write v, frozen s.dev = false → portOpen s.dev = true → Acts (.tapMemap a write v) s (fun t =>
      t.dev.edge.tap.error = t.dev.sh.blocked ∧ ∃ r, t.dev.out.getLast? = some (.tdo 82 r)))

/-- On a device that is not in reset, an admission of a frame for class c with need cells, of which x lie beyond the
unused reserve: while SERAI is Active and the free list holds the need, it is granted when x is 0, when SUSED + x is
at most min(LIMIT − RESERVE, floor(α × (F − x))), or when HUSED + x is at most HEADROOM. Then need distinct free
cells become in use for class c, OCC grows by the need, and x is added to SUSED or, failing the pool, to HUSED; a
grant that draws on the pool leaves F at 1 or more. In every other case it is refused: no cell is taken, OCC stays,
the class enters Refuse and CLS_REFUSED counts. Which free cells are taken is open. -/
def Obligations.AdmissionFollowsThresholds : Prop :=
  ∀ (s : State) (c size : Nat), frozen s.dev = false → c < 8 →
    let d := s.dev
    let need := cellsFor (headRoom d) size
    let x := beyondReserve d c need
    let pool : Prop := ((susedOf d c + x : Nat) : Int) ≤ min (((classCfg d c).limit - (classCfg d c).reserve : Nat) : Int)
      (alphaTimes (classCfg d c).alpha (freeShared d - (x : Int)))
    let room : Prop := isActive d pSerai = true ∧ need ≤ freeCells d
    let fits : Prop := x = 0 ∨ pool ∨ husedOf d c + x ≤ (classCfg d c).headroom
    (room → fits → Acts (.cellAdmit c size) s (fun t =>
      (∃ cs : List Nat, cs.length = need ∧ cs.Nodup ∧
        (∀ y ∈ cs, y < 131072 ∧ tabFind d.ser.use y = none ∧ y ∉ d.ser.quar) ∧
        t.dev.ser.use = cs.map (fun y => (y, c)) ++ d.ser.use ∧ t.dev.ser.admitted = some (cs.headD 0) ∧
        caravanAt t.dev (cs.headD 0) = some { cells := cs, room := headRoom d }) ∧
      occOf t.dev c = (occOf d c + need) % 2 ^ 18 ∧
      (x = 0 → susedOf t.dev c = susedOf d c ∧ husedOf t.dev c = husedOf d c) ∧
      (x ≠ 0 → pool → susedOf t.dev c = (susedOf d c + x) % 2 ^ 18 ∧ husedOf t.dev c = husedOf d c ∧
        1 ≤ freeShared t.dev) ∧
      (x ≠ 0 → ¬pool → susedOf t.dev c = susedOf d c ∧ husedOf t.dev c = (husedOf d c + x) % 2 ^ 16) ∧
      Changes [.ser, .eth] chargePages s t)) ∧
    (¬(room ∧ fits) → Acts (.cellAdmit c size) s (fun t =>
      t.dev.ser.admitted = none ∧ t.dev.ser.use = d.ser.use ∧ t.dev.ser.caravans = d.ser.caravans ∧
      occOf t.dev c = occOf d c ∧ t.dev.rd SERAI_CLASS_STATE_STATE 0 c = 3 ∧
      (holding d pSerai = false →
        t.dev.rd CLS_REFUSED_COUNT 0 c = satAdd (2 ^ 32 - 1) (d.rd CLS_REFUSED_COUNT 0 c) 1 % 2 ^ 32) ∧
      Changes [.ser, .eth] chargePages s t))

/-- On a device that is not in reset, for a granted write of core n to a register of window n: ALLOC_REQ with LENGTH 0
sets DONE and STATUS 0b10 alone; otherwise it admits LENGTH bytes for class 3, sets DONE, and HEAD names the new
caravan, or STATUS is 0b10 where the admission is refused. ALLOC_FREE of a head cell takes 1 from the reference
count, and at the last one returns exactly the caravan's cells; a cell not in use is captured with code 0x43, a cell
that heads no caravan with 0x47, with nothing else changed. ALLOC_NEXT gives the successor of a cell, and LAST for
the last cell of a chain. Another master's write changes nothing but for the capture of code 0x45. -/
def Obligations.AllocationWindowsAct : Prop :=
  ∀ (s : State) (m win v : Nat), frozen s.dev = false → writeTaken s.dev m pSerai = true → win < 8 →
    (m ≠ win → ∀ e ∈ [(Instr.allocReq m win v, 0), (Instr.allocNext m win v, 8), (Instr.allocFree m win v, 0xC)],
      exec e.1 s = .next { s with dev :=
        (report (ErrRec.mk pSerai 0x45 0 1 m (regAddr pSerai (0x80 + 0x10 * win + e.2))) s.dev) }) ∧
    (m = win →
      (v % 2 ^ 18 = 0 → Acts (.allocReq m win v) s (fun t =>
        t.dev.rd ALLOC_RESULT_DONE 0 win = 1 ∧ t.dev.rd ALLOC_RESULT_STATUS 0 win = 2 ∧
        OnlyKeys [ALLOC_RESULT_DONE.key 0 win, ALLOC_RESULT_STATUS.key 0 win] s t)) ∧
      (v % 2 ^ 18 ≠ 0 → admitTest s.dev 3 (cellsFor (headRoom s.dev) (v % 2 ^ 18)) ≠ none →
        Acts (.allocReq m win v) s (fun t =>
          t.dev.rd ALLOC_RESULT_DONE 0 win = 1 ∧ t.dev.rd ALLOC_RESULT_STATUS 0 win < 2 ∧
          (∃ k, caravanAt t.dev (t.dev.rd ALLOC_RESULT_HEAD 0 win) = some k ∧ k.refs = 1 ∧
            k.cells.length = cellsFor (headRoom s.dev) (v % 2 ^ 18)) ∧ Changes [.ser, .eth] chargePages s t)) ∧
      (v % 2 ^ 18 ≠ 0 → admitTest s.dev 3 (cellsFor (headRoom s.dev) (v % 2 ^ 18)) = none →
        Acts (.allocReq m win v) s (fun t =>
          t.dev.rd ALLOC_RESULT_DONE 0 win = 1 ∧ t.dev.rd ALLOC_RESULT_STATUS 0 win = 2 ∧
          t.dev.ser.caravans = s.dev.ser.caravans ∧ Changes [.ser, .eth] chargePages s t)) ∧
      (∀ k c, tabFind s.dev.ser.use (v % 2 ^ 17) = some c → caravanAt s.dev (v % 2 ^ 17) = some k →
        (1 < k.refs → Acts (.allocFree m win v) s (fun t =>
          caravanAt t.dev (v % 2 ^ 17) = some { k with refs := k.refs - 1 } ∧ t.dev.ser.use = s.dev.ser.use ∧
          Changes [.ser] [] s t)) ∧
        (k.refs ≤ 1 → Acts (.allocFree m win v) s (fun t =>
          caravanAt t.dev (v % 2 ^ 17) = none ∧ (∀ y ∈ k.cells, tabFind t.dev.ser.use y = none) ∧
          (∀ y, y ∉ k.cells → tabFind t.dev.ser.use y = tabFind s.dev.ser.use y) ∧
          Changes [.ser, .q, .way, .outr, .eth] (0x12 :: chargePages) s t))) ∧
      (tabFind s.dev.ser.use (v % 2 ^ 17) = none → exec (.allocFree m win v) s =
        .next { s with dev := report (ErrRec.mk pSerai 0x43 1 1 m (v % 2 ^ 17)) s.dev }) ∧
      (∀ c, tabFind s.dev.ser.use (v % 2 ^ 17) = some c → caravanAt s.dev (v % 2 ^ 17) = none →
        exec (.allocFree m win v) s = .next { s with dev := report (ErrRec.mk pSerai 0x47 0 1 m (v % 2 ^ 17)) s.dev }) ∧
      (∀ pre post : List Nat, v % 2 ^ 17 ∉ pre →
        (∃ e ∈ s.dev.ser.caravans, e.2.cells = pre ++ (v % 2 ^ 17) :: post) →
        (∀ e ∈ s.dev.ser.caravans, v % 2 ^ 17 ∈ e.2.cells → e.2.cells = pre ++ (v % 2 ^ 17) :: post) →
        Acts (.allocNext m win v) s (fun t =>
          t.dev.rd ALLOC_NEXT_LAST 0 win = (if post = [] then 1 else 0) ∧
          (∀ n l, post = n :: l → t.dev.rd ALLOC_NEXT_CELL 0 win = n % 2 ^ 17) ∧ Changes [] [pSerai] s t)))

/-- On a device that is not in reset and whose memory is canonical: a transfer at a port with room changes exactly the
bytes its mask names, keeps the poison of a word it writes in part and clears that of a word it writes whole; a read
answers its 64 bytes; a port that its limit holds keeps the transfer waiting. The scrubber passes over a clean word,
corrects a word with one bad symbol in the correcting mode, and moves a free cell with an uncorrectable word to
quarantine while fewer than 64 are there. SERAI_QUAR_RELEASE takes out the cell named, or all. SERAI_CLASS_APPLY
applies all staged values when the four conditions hold, and none otherwise. -/
def Obligations.SeraiStoreActs : Prop :=
  ∀ s : State, frozen s.dev = false →
    (s.memCanonical = true → ∀ (port m off : Nat) (data : List Byte) (mask : List Bool),
      portRoom s.dev port = true → data.length = 64 → mask.length = 64 →
      let a := seraiBase + off / 64 * 64
      Acts (.seraiTransfer port m true off data mask [] []) s (fun t =>
        (∀ x, memGet t.mem x =
          if a ≤ x ∧ x < a + 64 ∧ mask.getD (x - a) false = true then data.getD (x - a) 0 else memGet s.mem x) ∧
        (∀ k, k < 2 → (off / 64 * 2 + k ∈ t.dev.ser.poison ↔ off / 64 * 2 + k ∈ s.dev.ser.poison ∧
          ∃ i, i < 32 ∧ mask.getD (32 * k + i) false = false)) ∧
        Changes [.ser, .memory] [] s t) ∧
      Acts (.seraiTransfer port m false off data mask [] []) s (fun t =>
        t.dev.sh.readData = memRead s.mem a 64 ∧ Changes [.ser] [] s t)) ∧
    (∀ port m w off data mask e1 e2, portRoom s.dev port = false →
      Acts (.seraiTransfer port m w off data mask e1 e2) s (fun t =>
        t.dev.ser = { s.dev.ser with portWait := s.dev.ser.portWait ++ [PortJob.mk port m w off data mask e1 e2] } ∧
        t.dev.sh = s.dev.sh ∧ Changes [.ser] [] s t)) ∧
    (isActive s.dev pSerai = true → s.dev.on SERAI_CFG_SCRUB_EN = true →
      exec (.scrubRead []) s = .next { s with dev := { s.dev with ser := { s.dev.ser with
        scrubPos := (s.dev.ser.scrubPos + 1) % 1048576 } } } ∧
      (∀ (pos : Nat) (e : Byte), s.memCanonical = true → pos < 34 → e ≠ 0 → s.dev.on SERAI_CFG_ECC_DETECT = false →
        Acts (.scrubRead [⟨pos, e⟩]) s (fun t =>
          (∀ x, memGet t.mem x = memGet s.mem x) ∧ t.dev.ser.poison = s.dev.ser.poison ∧
          (holding s.dev pSerai = false → t.dev.rd SERAI_CE_COUNT_COUNT =
            satAdd (2 ^ 32 - 1) (s.dev.rd SERAI_CE_COUNT_COUNT) 1 % 2 ^ 32) ∧
          Changes [.ser, .memory] (eventPages pSerai) s t)) ∧
      (∀ errs, decodeWord (s.dev.on SERAI_CFG_ECC_DETECT) errs = .bad →
        tabFind s.dev.ser.use (s.dev.ser.scrubPos / 8) = none → s.dev.ser.scrubPos / 8 ∉ s.dev.ser.quar →
        s.dev.ser.quar.length < 64 → Acts (.scrubRead errs) s (fun t =>
          t.dev.ser.quar = s.dev.ser.quar ++ [s.dev.ser.scrubPos / 8] ∧ s.dev.ser.scrubPos ∈ t.dev.ser.poison ∧
          t.dev.rd SERAI_QUAR_LAST = s.dev.ser.scrubPos / 8 % 2 ^ 17 ∧
          (t.dev.rd HDR_INT_RAW_RAW pSerai).testBit 8 = true ∧
          Changes [.ser, .eth, .memory] (eventPages pSerai ++ ethPages) s t))) ∧
    (∀ m v, writeTaken s.dev m pSerai = true →
      Acts (.quarRelease m v) s (fun t =>
        (∀ y, y ∈ t.dev.ser.quar ↔ y ∈ s.dev.ser.quar ∧ v.testBit 31 = false ∧ y ≠ v % 2 ^ 17) ∧
        Changes [.ser, .eth] (eventPages pSerai ++ ethPages) s t) ∧
      (v.testBit 0 = true →
        (classes.map (fun c => s.dev.rd CLS_RESERVE_RESERVE 0 c + s.dev.rd CLS_HEADROOM_HEADROOM 0 c)).sum ≤ 131008 →
        (∀ c, c < 8 → s.dev.rd CLS_RESERVE_RESERVE 0 c ≤ s.dev.rd CLS_LIMIT_LIMIT 0 c) →
        1025 ≤ s.dev.rd CLS_RESERVE_RESERVE 0 4 → 1024 ≤ s.dev.rd CLS_RESERVE_RESERVE 0 7 →
        Acts (.classApply m v) s (fun t =>
          t.dev.ser.live = classes.map (stagedCfg s.dev) ∧ t.dev.rd SERAI_CLASS_APPLY_REJECTED = 0 ∧
          t.dev.ser.use = s.dev.ser.use ∧ Changes [.ser, .eth] (eventPages pSerai ++ ethPages) s t)) ∧
      (v.testBit 0 = true →
        (131008 < (classes.map (fun c => s.dev.rd CLS_RESERVE_RESERVE 0 c + s.dev.rd CLS_HEADROOM_HEADROOM 0 c)).sum ∨
        (∃ c, c < 8 ∧ s.dev.rd CLS_LIMIT_LIMIT 0 c < s.dev.rd CLS_RESERVE_RESERVE 0 c) ∨
        s.dev.rd CLS_RESERVE_RESERVE 0 4 < 1025 ∨ s.dev.rd CLS_RESERVE_RESERVE 0 7 < 1024) →
        Acts (.classApply m v) s (fun t =>
          t.dev.rd SERAI_CLASS_APPLY_REJECTED = 1 ∧ Changes [] [pSerai] s t)) ∧
      (v.testBit 0 = false → exec (.classApply m v) s = .next s))

/-- On a device that is not in reset: a valid manifest whose queue is ENABLED or PAUSED and below its depth limit, with
free entries above QMGR_STORE_RSV (or any, for a task's return and a Convoy control queue), goes to the tail of its
queue and counts in QMGR_Q_ENQ, every other queue unchanged; as a further enqueue it adds 1 to the caravan's count
as well. A manifest that R188 names bad counts in QMGR_BAD, and one that R186 refuses in QMGR_Q_DROP; no queue
changes, and a copy of the Waystation loses its reference while a task's keeps it. -/
def Obligations.EnqueueActs : Prop :=
  ∀ (s : State) (u : EnqUnit) (x : Manifest), frozen s.dev = false →
    let d := s.dev
    let q := x.queue
    let takes : Prop := (qState d q = 1 ∨ qState d q = 2) ∧ (qList d q).length < depthLimit d q ∧
      (if u = .drover ∨ ownerKind d q = 4 then 0 < storeFree d else d.rd QMGR_STORE_RSV_RESERVE < storeFree d)
    (manifestBad x = false → takes → Acts (.enqueue u x false) s (fun t =>
      qList t.dev q = qList d q ++ [x] ∧ (∀ r, r ≠ q → qList t.dev r = qList d r) ∧
      (holding d pQmgr = false →
        t.dev.rd QMGR_Q_ENQ_COUNT 0 q = satAdd (2 ^ 32 - 1) (d.rd QMGR_Q_ENQ_COUNT 0 q) 1 % 2 ^ 32) ∧
      Changes [.q] [pQmgr, 0xCE] s t)) ∧
    (∀ k, manifestBad x = false → takes → caravanAt d x.head = some k → k.refs < 65535 →
      Acts (.enqueue u x true) s (fun t =>
        qList t.dev q = qList d q ++ [x] ∧ (∀ r, r ≠ q → qList t.dev r = qList d r) ∧
        caravanAt t.dev x.head = some { k with refs := k.refs + 1 } ∧ Changes [.ser, .q] [pQmgr, 0xCE] s t)) ∧
    (∀ further, (manifestBad x = true ∨ qState d q = 0 ∨ qState d q = 3 ∨ depthLimit d q ≤ (qList d q).length ∨
        storeFree d = 0 ∨ (u ≠ .drover ∧ ownerKind d q ≠ 4 ∧ storeFree d ≤ d.rd QMGR_STORE_RSV_RESERVE)) →
      Acts (.enqueue u x further) s (fun t =>
        (∀ r, qList t.dev r = qList d r) ∧
        (holding d pQmgr = false → manifestBad x = true →
          t.dev.rd QMGR_BAD_COUNT = satAdd (2 ^ 32 - 1) (d.rd QMGR_BAD_COUNT) 1 % 2 ^ 32 ∧
          t.dev.rd QMGR_Q_DROP_COUNT 0 q = d.rd QMGR_Q_DROP_COUNT 0 q) ∧
        (holding d pQmgr = false → manifestBad x = false →
          t.dev.rd QMGR_Q_DROP_COUNT 0 q = satAdd (2 ^ 32 - 1) (d.rd QMGR_Q_DROP_COUNT 0 q) 1 % 2 ^ 32) ∧
        (u = .drover → t.dev.ser = d.ser) ∧
        (∀ k, u = .waystation → further = false → caravanAt d x.head = some k → 1 < k.refs →
          caravanAt t.dev x.head = some { k with refs := k.refs - 1 }) ∧
        t.mem = s.mem))

/-- On a device that is not in reset, for a granted write of a command for the queue that QMGR_Q_IDX names, QMGR being
Active and the queue not BUSY: ENABLE makes a DISABLED queue with a valid owner that no live queue has ENABLED,
PAUSE and RESUME move between ENABLED and PAUSED, FLUSH sets the queue's manifests aside for removal and keeps its
state, and DISABLE does so and enters FLUSHING, each with RESULT 0 and BUSY while the removal lasts. From any other
state RESULT is 1 and nothing else changes; an owner in use gives 2. While BUSY a command is captured with code
0x41. The end of the removal clears BUSY, ends a FLUSHING queue DISABLED, counts each manifest in QMGR_Q_DROP
(unless an automatic snapshot holds the counts) and takes its reference. -/
def Obligations.QueueCommandsMove : Prop :=
  ∀ s : State, frozen s.dev = false →
    (∀ m, writeTaken s.dev m pQmgr = true →
      let q := qSelected s.dev
      let all : List Instr := [.qEnable m, .qPause m, .qResume m, .qFlush m, .qDisable m]
      (s.dev.on QMGR_Q_CMD_BUSY 0 q = true → ∀ c ∈ all,
        exec c s = .next { s with dev := refuseWrite pQmgr 0x41 m (regAddr pQmgr 0x060) s.dev }) ∧
      (s.dev.on QMGR_Q_CMD_BUSY 0 q = false → isActive s.dev pQmgr = false → ∀ c ∈ all,
        Acts c s (fun t => t.dev.rd QMGR_Q_CMD_RESULT 0 q = 1 ∧ OnlyKeys [QMGR_Q_CMD_RESULT.key 0 q] s t)) ∧
      (s.dev.on QMGR_Q_CMD_BUSY 0 q = false → isActive s.dev pQmgr = true →
        (∀ e : Instr × Prop × Nat, e ∈ [(Instr.qEnable m, qState s.dev q = 0 ∧ ownerTaken s.dev q = false ∧
              ownerValid s.dev.variant (ownerKind s.dev q) (ownerIndex s.dev q) = true, 1),
            (.qPause m, qState s.dev q = 1, 2), (.qResume m, qState s.dev q = 2, 1)] →
          e.2.1 → Acts e.1 s (fun t =>
            qState t.dev q = e.2.2 ∧ t.dev.rd QMGR_Q_CMD_RESULT 0 q = 0 ∧
            OnlyKeys [QMGR_Q_STATE_STATE.key 0 q, QMGR_Q_CMD_RESULT.key 0 q] s t)) ∧
        (∀ e ∈ [(Instr.qFlush m, qState s.dev q), (.qDisable m, 3)], qState s.dev q = 1 ∨ qState s.dev q = 2 →
          Acts e.1 s (fun t =>
            qState t.dev q = e.2 ∧ t.dev.rd QMGR_Q_CMD_RESULT 0 q = 0 ∧ t.dev.rd QMGR_Q_CMD_BUSY 0 q = 1 ∧
            qList t.dev q = [] ∧ qRemoving t.dev q = qRemoving s.dev q ++ qList s.dev q ∧
            (∀ r, r ≠ q → qList t.dev r = qList s.dev r) ∧ Changes [.q] [pQmgr] s t)) ∧
        (∀ e : Instr × Prop, e ∈ [(Instr.qEnable m, qState s.dev q ≠ 0 ∨
              ownerValid s.dev.variant (ownerKind s.dev q) (ownerIndex s.dev q) = false),
            (.qPause m, qState s.dev q ≠ 1), (.qResume m, qState s.dev q ≠ 2),
            (.qFlush m, qState s.dev q = 0 ∨ qState s.dev q = 3), (.qDisable m, qState s.dev q = 0 ∨ qState s.dev q = 3)] →
          e.2 → Acts e.1 s (fun t =>
            t.dev.rd QMGR_Q_CMD_RESULT 0 q = 1 ∧ OnlyKeys [QMGR_Q_CMD_RESULT.key 0 q] s t)) ∧
        (qState s.dev q = 0 → ownerValid s.dev.variant (ownerKind s.dev q) (ownerIndex s.dev q) = true →
          ownerTaken s.dev q = true → Acts (.qEnable m) s (fun t =>
            t.dev.rd QMGR_Q_CMD_RESULT 0 q = 2 ∧ OnlyKeys [QMGR_Q_CMD_RESULT.key 0 q] s t)))) ∧
    (∀ q, s.dev.on QMGR_Q_CMD_BUSY 0 q = true → Acts (.qRemovalDone q) s (fun t =>
      t.dev.rd QMGR_Q_CMD_BUSY 0 q = 0 ∧ qRemoving t.dev q = [] ∧ (∀ r, qList t.dev r = qList s.dev r) ∧
      qState t.dev q = (if qState s.dev q = 3 then 0 else qState s.dev q) ∧
      (holding s.dev pQmgr = false → s.dev.rd DIAG_SNAP_AUTO < 2 → s.dev.rd QMGR_Q_DROP_COUNT 0 q < 2 ^ 32 → t.dev.rd QMGR_Q_DROP_COUNT 0 q =
        satAdd (2 ^ 32 - 1) (s.dev.rd QMGR_Q_DROP_COUNT 0 q) (qRemoving s.dev q).length) ∧
      (∀ x k, qRemoving s.dev q = [x] → caravanAt s.dev x.head = some k → 1 < k.refs →
        caravanAt t.dev x.head = some { k with refs := k.refs - 1 }) ∧ t.mem = s.mem)) ∧
    (∀ q, s.dev.on QMGR_Q_CMD_BUSY 0 q = false → exec (.qRemovalDone q) s = .next s)

/-- On a device that is not in reset: EN ← 1 is taken once the SPILL feature is committed and captured with code 0x04
before; EN ← 0 clears EN and ACTIVE, and READY once no caravan is out. With the region granted to the engine, its
free chain runs through every slot once. Spilling the chosen caravan leaves its head cell, frees the others, marks
the manifest SPILLED, takes as many slots off the free chain, and each tail cell's 256 bytes stand in its slot; the
manifests keep their order. With too few free slots REGION_FULL is set. A return admits as many cells for class 7 as
slots were used, copies the slots' bytes back and gives the slots back; refused, it leaves every caravan. (Clauses
about bytes: canonical memory; the return's: no poisoned DRAM.) -/
def Obligations.SpillMovesTails : Prop :=
  ∀ s : State, frozen s.dev = false →
    let d := s.dev
    let n := slotCount d
    let ready : Prop := d.on SPILL_CFG_EN = true ∧ spillAccepted d = true ∧ spillReady d = true
    let open' : Prop := s.memCanonical = true ∧ n ≤ 2 ^ 24 ∧ ∀ k ∈ [AccKind.read, .write], ∀ i, i < n →
      memVerdict d 21 k (linkAddr d i) 4 = .granted ∧ memVerdict d 21 k (slotAddr d i) 256 = .granted
    (∀ m, writeTaken d m pSpill = true →
      (spillAccepted d = true → Acts (.spillEnable m) s (fun t =>
        t.dev.rd SPILL_CFG_EN = 1 ∧ OnlyKeys [SPILL_CFG_EN.key 0 0] s t)) ∧
      (spillAccepted d = false → exec (.spillEnable m) s =
        .next { s with dev := refuseWrite pSerai 0x04 m (regAddr pSpill 0x040) d }) ∧
      Acts (.spillDisable m) s (fun t =>
        t.dev.rd SPILL_CFG_EN = 0 ∧ t.dev.rd SPILL_STATUS_ACTIVE = 0 ∧
        t.dev.rd SPILL_STATUS_READY = (if d.rd SPILL_OUT_CARAVANS = 0 then 0 else d.rd SPILL_STATUS_READY) ∧
        OnlyKeys [SPILL_CFG_EN.key 0 0, SPILL_STATUS_ACTIVE.key 0 0, SPILL_STATUS_READY.key 0 0] s t)) ∧
    (ready → d.on SPILL_STATUS_READY = false → Acts .spillRegionReady s (fun t =>
      t.dev.rd SPILL_STATUS_READY = 1 ∧ t.dev.rd SPILL_SLOTS_FREE_SLOTS = n % 2 ^ 24 ∧
      (open' → (chainSlots n t.dev.ser.spillFree t.dev t.mem).Perm (List.range n)) ∧
      ChangesParts [.ser, .dram, .memory] s t)) ∧
    (¬ready ∨ d.on SPILL_STATUS_READY = true → exec .spillRegionReady s = .next s) ∧
    (¬(ready ∧ d.on SPILL_STATUS_READY = true) → exec .spillCaravan s = .next s) ∧
    (∀ q x k, ready → d.on SPILL_STATUS_READY = true → d.on SPILL_STATUS_ACTIVE = true → d.rd SPILL_LOW_LOW ≤ occTotal d →
      spillQueue d = some (q, x) → caravanAt d x.head = some k → d.ser.slotFrees = [] →
      (k.cells.length - 1 ≤ d.rd SPILL_SLOTS_FREE_SLOTS → Acts .spillCaravan s (fun t =>
        let slots := chainSlots (k.cells.length - 1) d.ser.spillFree d s.mem
        caravanAt t.dev x.head = some { k with
          cells := k.cells.take 1, spill := some (slots.headD 0, k.cells.length - 1) } ∧
        (∀ y ∈ k.cells.drop 1, tabFind t.dev.ser.use y = none) ∧
        qList t.dev q = (qList d q).map (fun v => if v.head = x.head then setFlag v fSpilled true else v) ∧
        t.dev.rd SPILL_SLOTS_FREE_SLOTS = (d.rd SPILL_SLOTS_FREE_SLOTS - (k.cells.length - 1)) % 2 ^ 24 ∧
        (open' → slots.Nodup → (∀ i ∈ slots, i < n) → (∀ y ∈ k.cells, y < 131072) →
          ∀ j, j < k.cells.length - 1 → memRead t.mem (slotAddr d (slots.getD j 0)) 256 =
            memRead s.mem (seraiBase + 256 * k.cells.getD (j + 1) 0) 256) ∧
        ChangesParts [.ser, .q, .eth, .dram, .memory] s t)) ∧
      (d.rd SPILL_SLOTS_FREE_SLOTS < k.cells.length - 1 → Acts .spillCaravan s (fun t =>
        t.dev.on SPILL_STATUS_REGION_FULL = true ∧ t.dev.ser = d.ser ∧ ChangesParts [] s t))) ∧
    (∀ q x k f l r, qList d q = l ++ x :: r → l.length ≤ max 1 (d.rd SPILL_RETURN_RETURN_DEPTH) →
      (∀ y ∈ l, ∀ j, caravanAt d y.head = some j → j.spill = none) →
      caravanAt d x.head = some k → k.spill = some f → spillReady d = true →
      (admitTest d 7 f.2 ≠ none → Acts (.spillReturn q) s (fun t =>
        ∃ cells : List Nat, cells.length = f.2 ∧
          caravanAt t.dev x.head = some { k with cells := k.cells ++ cells, spill := none } ∧
          t.dev.ser.slotFrees = d.ser.slotFrees ++ [f] ∧
          qList t.dev q = (qList d q).map (fun v => if v.head = x.head then setFlag v fSpilled false else v) ∧
          (open' → d.dram.poison = [] → (∀ i ∈ chainSlots f.2 f.1 d s.mem, i < n) → ∀ j, j < f.2 →
            memRead t.mem (seraiBase + 256 * cells.getD j 0) 256 =
              memRead s.mem (slotAddr d ((chainSlots f.2 f.1 d s.mem).getD j 0)) 256) ∧
          ChangesParts [.ser, .q, .eth, .memory] s t)) ∧
      (admitTest d 7 f.2 = none → Acts (.spillReturn q) s (fun t =>
        t.dev.ser.caravans = d.ser.caravans ∧ t.dev.ser.use = d.ser.use ∧ Changes [.ser, .eth] chargePages s t))) ∧
    (∀ q, (∀ y ∈ qList d q, ∀ j, caravanAt d y.head = some j → j.spill = none) → exec (.spillReturn q) s = .next s)

/-- On a device that is not in reset, for ring n below 64 and a master that both the page and the host-ring target
grant: EN ← 1 of an allowed configuration clears both indices, PENDING and ERROR and arms the ring, a DRAM ring of
an Active block being active at once; a forbidden combination sets ERROR 3 and leaves EN. A Serai ring's claim takes
exactly its cells when all are free and the class admits them, and fails with ERROR 1 or 2 and EN 0 otherwise. EN ←
0 ends the ring, its claimed cells free and its indices kept. A doorbell within R194's limits stores SW_IDX; beyond
them it changes nothing and is captured with code 0x43. An armed ring that meets its packet threshold fires: ARMED
and PENDING clear and the ring's bit of HR_EVENT_PEND rises; writing HR_ARM with nothing pending only arms. A
refusal at the host-ring target changes no ring. -/
def Obligations.RingControlActs : Prop :=
  ∀ (s : State) (m n v : Nat), frozen s.dev = false → n < 64 →
    let d := s.dev
    let fires : State → Prop := fun t =>
      t.dev.rd HR_STATUS_ARMED 0 n = 0 ∧ t.dev.rd HR_STATUS_PENDING 0 n = 0 ∧ (ringOf t.dev n).firstEvent = none ∧
      (t.dev.rd HR_EVENT_PEND_RING 0 (n / 32)).testBit (n % 32) = true ∧
      (t.dev.rd HDR_INT_RAW_RAW pRing).testBit 3 = true ∧ hwIdx t.dev n = hwIdx d n ∧ swIdx t.dev n = swIdx d n ∧
      Changes [.q] [0x20, 0x21, 0xCE] s t
    let due : Prop := 0 < d.rd HR_STATUS_PENDING 0 n ∧ d.rd HR_MOD_PKT_THRESH 0 n ≤ d.rd HR_STATUS_PENDING 0 n ∧
      d.on HR_WB_LO_WB_EN 0 n = false ∧ d.rd HR_ROUTE_KIND 0 n = 0
    (writeTaken d m (pRingRegs n) = true → customsGrant d .rings n n m .write = false →
      ∀ c ∈ [Instr.ringEnable m n, .ringDisable m n, .hrArm m n v],
        exec c s = .next { s with dev := customsRefuse .rings m .write n d }) ∧
    (writeTaken d m (pRingRegs n) = true → customsGrant d .rings n n m .write = true →
      (d.on HR_CFG_EN 0 n = true → exec (.ringEnable m n) s = .next s) ∧
      (d.on HR_CFG_EN 0 n = false → ringComboOk d n = false → Acts (.ringEnable m n) s (fun t =>
        t.dev.rd HR_STATUS_ERROR 0 n = 3 ∧ t.dev.on HR_CFG_EN 0 n = false ∧
        (t.dev.rd HDR_INT_RAW_RAW pRing).testBit 4 = true ∧ Changes [] [0x20, 0x21, 0xCE] s t)) ∧
      (d.on HR_CFG_EN 0 n = false → ringComboOk d n = true → ringHostOk d n = true → Acts (.ringEnable m n) s (fun t =>
        t.dev.rd HR_CFG_EN 0 n = 1 ∧ swIdx t.dev n = 0 ∧ hwIdx t.dev n = 0 ∧ t.dev.rd HR_STATUS_PENDING 0 n = 0 ∧
        t.dev.rd HR_STATUS_ERROR 0 n = 0 ∧ t.dev.rd HR_STATUS_ARMED 0 n = 1 ∧
        (d.on HR_CFG_LOC 0 n = true → isActive d pRing = true → t.dev.rd HR_STATUS_ACTIVE 0 n = 1) ∧
        ((ringOf t.dev n).claiming = true ↔ d.on HR_CFG_LOC 0 n = false ∧ isActive d pRing = true) ∧
        Changes [.q] [0x21, 0x25] s t)) ∧
      (d.on HR_CFG_EN 0 n = false → exec (.ringDisable m n) s = .next s) ∧
      (d.on HR_CFG_EN 0 n = true → (ringOf d n).retry = none → Acts (.ringDisable m n) s (fun t =>
        t.dev.on HR_CFG_EN 0 n = false ∧ t.dev.on HR_STATUS_ACTIVE 0 n = false ∧ ringOf t.dev n = {} ∧
        (∀ y ∈ (ringOf d n).claimed, tabFind t.dev.ser.use y = none) ∧
        swIdx t.dev n = swIdx d n ∧ hwIdx t.dev n = hwIdx d n ∧ ChangesParts [.ser, .q, .eth] s t)) ∧
      (v.testBit 0 = false → exec (.hrArm m n v) s = .next s) ∧
      (v.testBit 0 = true → d.rd HR_STATUS_PENDING 0 n = 0 →
        Acts (.hrArm m n v) s (fun t =>
          t.dev.rd HR_STATUS_ARMED 0 n = 1 ∧ OnlyKeys [HR_STATUS_ARMED.key 0 n] s t)) ∧
      (v.testBit 0 = true → due → Acts (.hrArm m n v) s fires)) ∧
    (d.on HR_STATUS_ARMED 0 n = true → due → Acts (.ringFire n) s fires) ∧
    (d.on HR_STATUS_ARMED 0 n = false → exec (.ringFire n) s = .next s) ∧
    (writeTaken d m pRingIdx = true → customsGrant d .rings n n m .write = true →
      (doorbellOk d n (v % 2 ^ 32) = false → exec (.hrDoorbell m n v) s =
        .next { s with dev := refuseWrite pRing 0x43 m (regAddr pRingIdx (0x100 + 8 * n)) d }) ∧
      (doorbellOk d n (v % 2 ^ 32) = true → d.on HR_CFG_AUTO_FREE 0 n = false → Acts (.hrDoorbell m n v) s (fun t =>
        swIdx t.dev n = v % 2 ^ 32 ∧ OnlyKeys [HR_SW_IDX_SW_IDX.key 0 n] s t))) ∧
    ((ringOf d n).claiming = true → isActive d pRing = true →
      let cells := (List.range (ringCells d n)).map (ringFirstCell d n + ·)
      let clear : Prop := ∀ y ∈ cells, y < 131072 ∧ tabFind d.ser.use y = none ∧ y ∉ d.ser.quar
      (clear → admitTest d (ringClass d n) cells.length ≠ none → Acts (.ringClaimDone n) s (fun t =>
        t.dev.rd HR_STATUS_ACTIVE 0 n = 1 ∧ (ringOf t.dev n).claimed = cells ∧ (ringOf t.dev n).claiming = false ∧
        t.dev.ser.use = cells.map (fun y => (y, ringClass d n)) ++ d.ser.use ∧
        Changes [.ser, .q, .eth] (0x21 :: chargePages) s t)) ∧
      (¬clear ∨ admitTest d (ringClass d n) cells.length = none → Acts (.ringClaimDone n) s (fun t =>
        t.dev.on HR_CFG_EN 0 n = false ∧ t.dev.ser.use = d.ser.use ∧ ringOf t.dev n = {} ∧
        ((¬clear ∧ t.dev.rd HR_STATUS_ERROR 0 n = 1) ∨ (clear ∧ t.dev.rd HR_STATUS_ERROR 0 n = 2)) ∧
        Changes [.ser, .q, .eth] (0x20 :: 0x21 :: chargePages) s t)))

/-- On a device that is not in reset with canonical memory, for accesses that the tables grant: a TX descriptor without
BYPASS puts a manifest with the descriptor's fields before the Waystation, its caravan holding exactly the buffer's
bytes; with LENGTH 0 it waits with STATUS 5; with the admission refused it stays on the ring. A plain TX manifest
entry goes before the Waystation and the ring passes it. A completed descriptor is written with its STATUS and DONE
in its own 32 bytes alone, and the ring passes it. A retried enqueue enters its queue once it has room, and else is
still to be retried. Of the manifests that wait for ring n the oldest is delivered: into the next manifest entry, 32
bytes, or its frame's bytes into a posted buffer large enough. Otherwise these commands leave the machine as it was. -/
def Obligations.RingTransfersAct : Prop :=
  ∀ (s : State) (n : Nat), frozen s.dev = false → s.memCanonical = true →
    let d := s.dev
    let ma := ringMaster d n
    let at' := fun i => entryAddr d n i
    let w := fun i k => wordAt (memRead s.mem (entryAddr d n i) 32) k
    (∀ i, txNext d n = some i → ringIsBuffer d n = true → memVerdict d ma .read (at' i) 32 = .granted →
      let len := bitsOf (w i 2) 17 0
      let a := ofBytes (memRead s.mem (at' i) 8)
      (len = 0 → ∀ host, Acts (.txDescProcess n host) s (fun t =>
        (ringOf t.dev n).waits = (ringOf d n).waits ++ [⟨i, 0, (w i 3).testBit 24, some (5, 0, 0), false⟩] ∧
        (ringOf t.dev n).next = (i + 1) % 2 ^ 32 ∧ Changes [.q] [] s t)) ∧
      (len ≠ 0 → admitTest d 2 (cellsFor (headRoom d) len) = none → ∀ host, Acts (.txDescProcess n host) s (fun t =>
        ringOf t.dev n = ringOf d n ∧ Changes [.ser, .eth] chargePages s t)) ∧
      (len ≠ 0 → admitTest d 2 (cellsFor (headRoom d) len) ≠ none → (w i 3).testBit 26 = false → ma ≠ 17 →
        memVerdict d ma .read a len = .granted → ∀ host, Acts (.txDescProcess n host) s (fun t =>
          (∃ h, t.dev.q.toWay = d.q.toWay ++ [txManifest n h (memRead s.mem (at' i) 32)] ∧
            readFrame t.dev t.mem h 0 len = memRead s.mem a len) ∧
          (ringOf t.dev n).next = (i + 1) % 2 ^ 32 ∧ Changes [.ser, .q, .eth, .memory] chargePages s t))) ∧
    (∀ host, txNext d n = none ∨ ringIsBuffer d n = false → exec (.txDescProcess n host) s = .next s) ∧
    (txNext d n = none ∨ ringIsBuffer d n = true → exec (.txManifestEntry n) s = .next s) ∧
    (∀ i, txNext d n = some i → ringIsBuffer d n = false → ringCompact d n = false → (ringOf d n).waits = [] →
      memVerdict d ma .read (at' i) 32 = .granted →
      let x := manifestOf (memRead s.mem (at' i) 32)
      flagOf x fBypass = false → flagOf x fTsReq = false → Acts (.txManifestEntry n) s (fun t =>
        t.dev.q.toWay = d.q.toWay ++ [x] ∧ hwIdx t.dev n = (hwIdx d n + 1) % 2 ^ 32 ∧
        (ringOf t.dev n).next = (i + 1) % 2 ^ 32 ∧ (ringOf t.dev n).waits = [] ∧
        ChangesParts [.ser, .q, .eth] s t)) ∧
    (∀ idx head ts r, ringIsBuffer d n = true → (ringOf d n).waits = [⟨idx, head, ts, some r, false⟩] →
      memVerdict d ma .read (at' idx) 32 = .granted → memVerdict d ma .write (at' idx) 32 = .granted →
      Acts (.txDescComplete n idx) s (fun t =>
        memGet t.mem (at' idx + 24) = BitVec.ofNat 8 r.1 ∧ (wordAt (memRead t.mem (at' idx) 32) 3).testBit 31 = true ∧
        (∀ x, ¬(at' idx ≤ x ∧ x < at' idx + 32) → memGet t.mem x = memGet s.mem x) ∧
        hwIdx t.dev n = (hwIdx d n + 1) % 2 ^ 32 ∧ (ringOf t.dev n).waits = [] ∧
        Changes [.ser, .q, .dram, .memory] [0x21, 0x25] s t)) ∧
    (∀ idx, (∀ v ∈ (ringOf d n).waits, v.idx = idx → v.done = true) → exec (.txDescComplete n idx) s = .next s) ∧
    ((ringOf d n).retry = none → exec (.ringEnqueueRetry n) s = .next s) ∧
    (∀ x, (ringOf d n).retry = some x → flagOf x fBypass = true → manifestBad x = false → ringIsBuffer d n = true →
      (enqRefused d false x.queue = false → Acts (.ringEnqueueRetry n) s (fun t =>
        qList t.dev x.queue = qList d x.queue ++ [x] ∧ (ringOf t.dev n).retry = none ∧
        (ringOf t.dev n).next = ((ringOf d n).retryIdx + 1) % 2 ^ 32 ∧ Changes [.q] [0x18, 0xCE] s t)) ∧
      (enqRefused d false x.queue = true → d.on HR_CFG_FULL_WAIT 0 n = true → Acts (.ringEnqueueRetry n) s (fun t =>
        ringOf t.dev n = ringOf d n ∧ (∀ r, qList t.dev r = qList d r) ∧ Changes [.q] [0x18] s t))) ∧
    (∀ x l r hostOk, handedTo d 10 = l ++ x :: r → (∀ y ∈ l, forRing d n y = false) → forRing d n x = true →
      ringActive d n = true → ringIsTx d n = false → 0 < ownedByDevice d n →
      memVerdict d ma .write (at' (hwIdx d n)) 32 = .granted →
      (ringIsBuffer d n = false → ringCompact d n = false → Acts (.rxRingDeliver n hostOk) s (fun t =>
        memRead t.mem (at' (hwIdx d n)) 32 = manifestBytes x ∧
        (∀ y, ¬(at' (hwIdx d n) ≤ y ∧ y < at' (hwIdx d n) + 32) → memGet t.mem y = memGet s.mem y) ∧
        handedTo t.dev 10 = l ++ r ∧ hwIdx t.dev n = (hwIdx d n + 1) % 2 ^ 32 ∧
        Changes [.ser, .q, .tm, .dram, .memory] [0x21, 0x25] s t)) ∧
      (∀ k, ringIsBuffer d n = true → ma ≠ 17 → caravanAt d x.head = some k → framePoisoned d x.head 0 x.len = false →
        memVerdict d ma .read (at' (hwIdx d n)) 32 = .granted →
        let a := ofBytes (memRead s.mem (at' (hwIdx d n)) 8)
        0 < x.len → x.len ≤ bitsOf (w (hwIdx d n) 2) 17 0 → memVerdict d ma .write a x.len = .granted →
        (a + x.len ≤ at' (hwIdx d n) ∨ at' (hwIdx d n) + 32 ≤ a) → Acts (.rxRingDeliver n hostOk) s (fun t =>
          memRead t.mem a x.len = readFrame d s.mem x.head 0 x.len ∧
          memGet t.mem (at' (hwIdx d n) + 24) = 0 ∧
          (∀ y, ¬(at' (hwIdx d n) ≤ y ∧ y < at' (hwIdx d n) + 32) → ¬(a ≤ y ∧ y < a + x.len) →
            memGet t.mem y = memGet s.mem y) ∧
          handedTo t.dev 10 = l ++ r ∧ hwIdx t.dev n = (hwIdx d n + 1) % 2 ^ 32))) ∧
    (∀ hostOk, (∀ y ∈ handedTo d 10, forRing d n y = false) → exec (.rxRingDeliver n hostOk) s = .next s)

/-- On a device that is not in reset, for a present, Active channel with no burst declared and nothing held off: the
oldest read is served before any write and answers its bytes; while the write queue drains, the oldest whole-line
write is served; memory is not changed by either. A request that fails CA parity stays in its queue and counts in
DRAM_CA_RETRY. In self-refresh, or with empty queues, nothing is served. A refresh clears OWED, or adds to it, up to
4, while a burst is in service. A burst declaration that R687 allows joins the channel's list and any other changes
nothing. Self-refresh is entered only when every queue is empty and it is allowed, and left when one is not. A new
window empties the row-hammer tables. A granted read of DRAM_ERR_LOG takes the oldest entry and answers it, or
answers zero. -/
def Obligations.DramServiceActs : Prop :=
  ∀ (s : State) (c : Nat), frozen s.dev = false →
    let d := s.dev
    let allowed : Prop := dramIdle d c = true ∧ (d.on DRAM_PWR_SR_IDLE c = true ∨ isActive d (pDram c) = false ∨
      5 ≤ d.rd SYS_STATUS_STOP_PHASE)
    (present d (pDram c) = true → isActive d (pDram c) = true → (chan d c).bursts = [] → ∀ sub act errs,
      (d.on DRAM_STATUS_SELF_REFRESH c = true → ∀ parity, exec (.dramRequestServe c sub act parity errs) s = .next s) ∧
      ((subOf (chan d c) sub).reads = [] → (subOf (chan d c) sub).writes = [] → ∀ parity,
        exec (.dramRequestServe c sub act parity errs) s = .next s) ∧
      (∀ r l, d.on DRAM_STATUS_SELF_REFRESH c = false → (subOf (chan d c) sub).stalled = [] →
        (subOf (chan d c) sub).reads = r :: l → r.write = false → (subOf (chan d c) sub).draining = false →
        r.addr / 64 ∉ d.dram.poison → r.first = true → Acts (.dramRequestServe c sub false false []) s (fun t =>
          (subOf (chan t.dev c) sub).reads = l ∧ (subOf (chan t.dev c) sub).writes = (subOf (chan d c) sub).writes ∧
          t.dev.sh.readData = r.data ∧ t.dev.sh.blocked = false ∧ t.dev.dram.poison = d.dram.poison ∧
          Changes [.dram] [] s t)) ∧
      (∀ r l, d.on DRAM_STATUS_SELF_REFRESH c = false → (subOf (chan d c) sub).stalled = [] →
        (subOf (chan d c) sub).writes = r :: l → r.write = true → (subOf (chan d c) sub).draining = true →
        r.data.length = 64 → Acts (.dramRequestServe c sub false false errs) s (fun t =>
          (subOf (chan t.dev c) sub).writes = l ∧ (subOf (chan t.dev c) sub).reads = (subOf (chan d c) sub).reads ∧
          ((subOf (chan t.dev c) sub).draining = true ↔ d.rd DRAM_WQ_LOW c < l.length) ∧ Changes [.dram] [] s t)) ∧
      (∀ r l, d.on DRAM_STATUS_SELF_REFRESH c = false → (subOf (chan d c) sub).reads = r :: l →
        (subOf (chan d c) sub).draining = false → (chan d c).caFails < 2 →
        Acts (.dramRequestServe c sub act true errs) s (fun t =>
          chan t.dev c = { chan d c with caFails := (chan d c).caFails + 1 } ∧
          (holding d (pDram c) = false → firstPage (pDram c) = pDram c → t.dev.rd DRAM_CA_RETRY_COUNT c =
            satAdd (2 ^ 32 - 1) (d.rd DRAM_CA_RETRY_COUNT c) 1 % 2 ^ 32) ∧ Changes [.dram] [pDram c] s t))) ∧
    (isActive d (pDram c) = true → Acts (.dramRefresh c) s (fun t =>
      t.dev.rd DRAM_STATUS_OWED c = (if (chan d c).bursts.any (·.started) then
        (if d.rd DRAM_STATUS_OWED c < 4 then d.rd DRAM_STATUS_OWED c + 1 else d.rd DRAM_STATUS_OWED c) else 0) ∧
      OnlyKeys [DRAM_STATUS_OWED.key c 0] s t)) ∧
    (∀ m a n, channelOf d a = c → (10 ≤ m ∧ m ≤ 14 ∧ (d.rd DRAM_RT_EN c).testBit (m - 10) = true ∧ 0 < n ∧ n ≤ 4096 ∧
        a / 4096 = (a + n - 1) / 4096 → Acts (.rtBurstDeclare m a n) s (fun t =>
          chan t.dev c = { chan d c with bursts := (chan d c).bursts ++
            [⟨m, a / 64, (a + n - 1) / 64 + 1 - a / 64, (a + n - 1) / 64 + 1 - a / 64, false⟩] } ∧
          Changes [.dram] [] s t)) ∧
      (¬(10 ≤ m ∧ m ≤ 14 ∧ (d.rd DRAM_RT_EN c).testBit (m - 10) = true ∧ 0 < n ∧ n ≤ 4096 ∧
        a / 4096 = (a + n - 1) / 4096) → exec (.rtBurstDeclare m a n) s = .next s)) ∧
    (allowed → Acts (.selfRefreshEntry c) s (fun t =>
      t.dev.rd DRAM_STATUS_SELF_REFRESH c = 1 ∧ OnlyKeys [DRAM_STATUS_SELF_REFRESH.key c 0] s t)) ∧
    (¬allowed → exec (.selfRefreshEntry c) s = .next s) ∧
    (dramIdle d c = false → Acts (.selfRefreshExit c) s (fun t =>
      t.dev.rd DRAM_STATUS_SELF_REFRESH c = 0 ∧ OnlyKeys [DRAM_STATUS_SELF_REFRESH.key c 0] s t)) ∧
    (dramIdle d c = true → exec (.selfRefreshExit c) s = .next s) ∧
    Acts (.rhWindowStart c) s (fun t => chan t.dev c = { chan d c with hammer := [] } ∧ Changes [.dram] [] s t) ∧
    (∀ m, pageReadable d m (pDram c + 3) = true → present d (pDram c + 3) = true →
      ((chan d c).log = [] → Acts (.dramErrLogPop m c) s (fun t =>
        t.dev.sh.readData = toBytes 4 0 ∧ Changes [] [] s t)) ∧
      (∀ e l, (chan d c).log = e :: l → Acts (.dramErrLogPop m c) s (fun t =>
        chan t.dev c = { chan d c with log := l } ∧
        t.dev.sh.readData = toBytes 4 (2 ^ 31 + 2 ^ 28 * e.kind + 2 ^ 24 * (placeOf d c (chanAddr d e.addr)).rank +
          2 ^ 20 * (placeOf d c (chanAddr d e.addr)).sub + (placeOf d c (chanAddr d e.addr)).row % 2 ^ 20) ∧
        Changes [.dram] [pDram c] s t)))

/-- On a device that is not in reset: the scrubber of an Active, idle, enabled channel passes a clean line with no other
effect, repairs a line with one bad symbol in the correcting mode (canonical memory), and poisons an uncorrectable
one; otherwise it does nothing. The init engine moves its pointer by one line, and at the last line of one rank sets
INIT_DONE. A granted start of a migration with a free spare begins at line 0, and without one is captured with code
0x44; a clean copy moves the pointer by one, and the last one maps the rank onto the spare. While the channel is
PREPARING and no helper runs, a granted helper command starts its helper and sets BUSY; else it is refused with code
0x45. The end of a helper clears BUSY, leaves its result and raises cause 7. -/
def Obligations.DramEnginesAct : Prop :=
  ∀ (s : State) (c : Nat), frozen s.dev = false →
    let d := s.dev
    let scrubs : Prop := isActive d (pDram c) = true ∧ d.on DRAM_SCRUB_EN c = true ∧ dramIdle d c = true
    let line := physAddr d c (64 * (chan d c).scrubPos) / 64
    let mline := physAddr d c (64 * (d.rd DRAM_MIG_RANK c * rankLines d c + d.rd DRAM_MIG_PTR_LINE c)) / 64
    (¬scrubs → ∀ errs, exec (.dramScrubRead c errs) s = .next s) ∧
    (scrubs → line ∉ d.dram.poison →
      Acts (.dramScrubRead c []) s (fun t =>
        chan t.dev c = { chan d c with scrubPos := ((chan d c).scrubPos + 1) % max 1 (channelBytes d c / 64) } ∧
        t.dev.dram.poison = d.dram.poison ∧ Changes [.dram] [] s t) ∧
      (∀ k pos (e : Byte), s.memCanonical = true → d.on DRAM_SCRUB_ECC_DETECT c = false → k < 8 → pos < 10 → e ≠ 0 →
        Acts (.dramScrubRead c [⟨k, pos, e⟩]) s (fun t =>
          (∀ x, memGet t.mem x = memGet s.mem x) ∧ t.dev.dram.poison = d.dram.poison ∧
          Changes [.dram, .memory] (eventPages (pDram c)) s t)) ∧
      (∀ errs, CwRead.bad ∈ lineRead (d.on DRAM_SCRUB_ECC_DETECT c) errs →
        Acts (.dramScrubRead c errs) s (fun t =>
          line ∈ t.dev.dram.poison ∧ (t.dev.rd HDR_INT_RAW_RAW (pDram c)).testBit 3 = true ∧
          ChangesParts [.dram, .memory] s t))) ∧
    ((chan d c).initRun = false → exec (.dramInitLine c) s = .next s) ∧
    ((chan d c).initRun = true → initPtr d c 0 < rankLines d c → Acts (.dramInitLine c) s (fun t =>
      initPtr t.dev c 0 = initPtr d c 0 + 1 ∧
      (d.rd DRAM_GEOM_RANKS c ≤ 1 → initPtr d c 0 + 1 = rankLines d c →
        t.dev.rd DRAM_INIT_DONE c = 1 ∧ (chan t.dev c).initRun = false ∧
        (t.dev.rd HDR_INT_RAW_RAW (pDram c)).testBit 6 = true) ∧
      Changes [.dram] [pDram c, pDram c + 3, 0xCE] s t)) ∧
    (∀ m, writeTaken d m (pDram c + 3) = true →
      (spareFree d c = true → Acts (.migStart m c) s (fun t =>
        t.dev.rd DRAM_MIG_STATUS_ACTIVE c = 1 ∧ t.dev.rd DRAM_MIG_STATUS_DONE c = 0 ∧ t.dev.rd DRAM_MIG_PTR_LINE c = 0 ∧
        t.dev.rd DRAM_MIG_RANK c = d.rd DRAM_MIG_RANK c % 4 ∧
        OnlyKeys [DRAM_MIG_STATUS_ACTIVE.key c 0, DRAM_MIG_STATUS_DONE.key c 0, DRAM_MIG_PTR_LINE.key c 0,
          DRAM_MIG_RANK.key c 0] s t)) ∧
      (spareFree d c = false → exec (.migStart m c) s =
        .next { s with dev := report (ErrRec.mk (pDram c) 0x44 1 1 m (d.rd DRAM_MIG_RANK c)) d })) ∧
    (d.on DRAM_MIG_STATUS_ACTIVE c = false → ∀ errs, exec (.migCopyLine c errs) s = .next s) ∧
    (d.on DRAM_MIG_STATUS_ACTIVE c = true → mline ∉ d.dram.poison →
      (d.rd DRAM_MIG_PTR_LINE c + 1 < rankLines d c → Acts (.migCopyLine c []) s (fun t =>
        t.dev.rd DRAM_MIG_PTR_LINE c = (d.rd DRAM_MIG_PTR_LINE c + 1) % 2 ^ 32 ∧
        OnlyKeys [DRAM_MIG_PTR_LINE.key c 0] s t)) ∧
      (rankLines d c ≤ d.rd DRAM_MIG_PTR_LINE c + 1 → Acts (.migCopyLine c []) s (fun t =>
        t.dev.rd DRAM_MIG_STATUS_ACTIVE c = 0 ∧ t.dev.rd DRAM_MIG_STATUS_DONE c = 1 ∧
        t.dev.rd DRAM_MIG_MAP_VALID c = 1 ∧ t.dev.rd DRAM_MIG_MAP_RANK c = d.rd DRAM_MIG_RANK c % 4 ∧
        (t.dev.rd HDR_INT_RAW_RAW (pDram c)).testBit 4 = true ∧ Changes [] [pDram c, pDram c + 3, 0xCE] s t))) ∧
    (∀ m, writeTaken d m (pDram c + 2) = true → ∀ e ∈ [(Instr.trnMrw m c, 1), (.trnMrr m c, 2), (.trnMpc m c, 3),
        (.trnCsSample m c, 4), (.trnCaSample m c, 5), (.trnWlevel m c, 6), (.trnPatWrite m c, 7), (.trnRdCompare m c, 8),
        (.trnEyeScan m c, 9)],
      (d.rd SYS_UNIT_STATE_UNIT 0 (1 + c) = 1 → d.on DRAM_TRN_CTRL_BUSY c = false → Acts e.1 s (fun t =>
        (chan t.dev c).helper = some e.2 ∧ t.dev.rd DRAM_TRN_CTRL_BUSY c = 1 ∧
        OffKeys [DRAM_TRN_CTRL_BUSY.key c 0] d t.dev ∧ ChangesParts [.dram] s t)) ∧
      (¬(d.rd SYS_UNIT_STATE_UNIT 0 (1 + c) = 1 ∧ d.on DRAM_TRN_CTRL_BUSY c = false) → exec e.1 s =
        .next { s with dev := refuseWrite (pDram c) 0x45 m (regAddr (pDram c + 2) 0x040) d })) ∧
    (∀ data mask cnt points,
      ((chan d c).helper = none → exec (.trnHelperDone c data mask cnt points) s = .next s) ∧
      (∀ op, (chan d c).helper = some op → Acts (.trnHelperDone c data mask cnt points) s (fun t =>
        chan t.dev c = { chan d c with helper := none } ∧ t.dev.rd DRAM_TRN_CTRL_BUSY c = 0 ∧
        (t.dev.rd HDR_INT_RAW_RAW (pDram c)).testBit 7 = true ∧
        (op ∈ [2, 4, 5, 6] → t.dev.rd DRAM_TRN_ARG_DATA c = data % 2 ^ 8) ∧
        (op = 8 → t.dev.rd DRAM_TRN_ERR_LO_MASK c = mask % 2 ^ 32 ∧ t.dev.rd DRAM_TRN_ERR_HI_MASK c = mask / 2 ^ 32 % 2 ^ 8 ∧
          t.dev.rd DRAM_TRN_ERR_HI_COUNT c = min cnt 0xFFFF) ∧
        (op = 9 → t.dev.rd DRAM_EYE_MAP_PASS c 0 = points % 2 ^ 32 ∧
          t.dev.rd DRAM_EYE_MAP_PASS c 1 = points / 2 ^ 32 % 2 ^ 32) ∧
        Changes [.dram] [pDram c, pDram c + 2, 0xCE] s t)))

/-- On a device that is not in reset, WAY Active and nothing waiting inside it: an untagged, well-formed unicast frame
of an Ethernet port whose VLAN is valid and whose destination the bridge table maps to a queue that takes it, with
no policer, learning, ACL rule, router MAC or trap in its way, goes from the front of the input to the tail of that
queue with its caravan, length and every byte of memory unchanged; so does a task's return of such a frame, marked
FROM_TASK. With nothing waiting, while WAY is not Active or behind an exception, the input does not move. A return
while WAY is not Active is dropped. The oldest exception is posted to its stage's task when the event queue has
room, and dropped where the route says so. A completed fetch puts the line in the cache and the waiting manifest
goes on from its stage. -/
def Obligations.WaystationForwards : Prop :=
  ∀ s : State, frozen s.dev = false →
    let d := s.dev
    let hdr := fun (x : Manifest) =>
      parse (readFrame d s.mem x.head 0 (min 128 x.len)) x.len (d.rd WAY_VXLAN_PORT_PORT) (wayFull d)
    let fwd : Manifest → BrEntry → Prop := fun x e =>
      srcKind x = 3 ∧ x.ciphOp = 0 ∧ manifestBad x = false ∧ framePoisoned d x.head 0 (min 128 x.len) = false ∧
      (hdr x).stop = .ok ∧ (hdr x).tci = none ∧ (hdr x).tun = none ∧ isControl (hdr x).dst = false ∧
      isGroup (hdr x).dst = false ∧ trapFrame (hdr x) = false ∧ d.on WAY_POL_KIND_EN 0 3 = false ∧
      d.on WAY_VLAN_CFG_VALID 0 (pvidOf d x) = true ∧ d.on WAY_BR_CFG_LEARN_EN = false ∧
      routerMac d (pvidOf d x) (hdr x).dst = false ∧ brFind d (pvidOf d x) (hdr x).dst = some e ∧ destKind e.dest = 0 ∧
      d.way.acl = [] ∧ d.on WAY_CFG_ACL_DEFAULT = false ∧ enqRefused d false (destIndex e.dest) = false
    let arrived : Manifest → BrEntry → Bool → State → Prop := fun x e task t =>
      (∃ y, qList t.dev (destIndex e.dest) = qList d (destIndex e.dest) ++ [y] ∧ y.head = x.head ∧ y.len = x.len ∧
        y.src = x.src ∧ y.queue = destIndex e.dest ∧ flagOf y fFromTask = (task || flagOf x fFromTask)) ∧
      (∀ r, r ≠ destIndex e.dest → qList t.dev r = qList d r) ∧ caravanAt t.dev x.head = caravanAt d x.head ∧
      ChangesParts [.q, .way] s t
    (isActive d pWay = true → d.way.excs = [] → d.way.parked = [] → d.way.flows = [] → d.q.toCiph = [] →
      (∀ x l e, d.q.toWay = x :: l → d.q.toWayTask = [] → x.exc = 0 → flagOf x fCipherDone = false → fwd x e →
        Acts .wayManifestIn s (fun t => t.dev.q.toWay = l ∧ arrived x e false t)) ∧
      (∀ x l e, d.q.toWayTask = x :: l → x.exc = 0 → tabFind d.way.saved x.head = none → fwd x e →
        Acts .wayReturn s (fun t => t.dev.q.toWayTask = l ∧ arrived x e true t))) ∧
    (d.q.toWay = [] ∨ isActive d pWay = false ∨ d.way.excs ≠ [] ∨ d.q.toWayTask ≠ [] →
      exec .wayManifestIn s = .next s) ∧
    (d.q.toWayTask = [] → exec .wayReturn s = .next s) ∧
    (∀ x l, d.q.toWayTask = x :: l → isActive d pWay = false → Acts .wayReturn s (fun t =>
      t.dev.q.toWayTask = l ∧ (holding d pWay = false → t.dev.rd WAY_RET_DROP_COUNT =
        satAdd (2 ^ 32 - 1) (d.rd WAY_RET_DROP_COUNT) 1 % 2 ^ 32) ∧
      (∀ k, caravanAt d x.head = some k → 1 < k.refs → caravanAt t.dev x.head = some { k with refs := k.refs - 1 }))) ∧
    (d.way.excs = [] → exec .wayExcPost s = .next s) ∧
    (∀ e l, d.way.excs = e :: l → d.on WAY_EXC_ROUTE_DROP 0 (e.stage - 1) = false → postRoom d = true →
      Acts .wayExcPost s (fun t =>
        t.dev.way.excs = l ∧ flowCount t.dev e.ctx.x.flow = flowCount d e.ctx.x.flow + 1 ∧
        (∃ p, t.dev.sh.posts = d.sh.posts ++ p ++
          [⟨d.rd WAY_EXC_ROUTE_TASK 0 (e.stage - 1), d.rd WAY_EXC_ROUTE_FLAG 0 (e.stage - 1), some e.ctx.x⟩]) ∧
        ChangesParts [.ser, .way, .eth] s t)) ∧
    (∀ e l, d.way.excs = e :: l → d.on WAY_EXC_ROUTE_DROP 0 (e.stage - 1) = true → Acts .wayExcPost s (fun t =>
      t.dev.way.excs = l ∧ (∀ k, caravanAt d e.ctx.x.head = some k → 1 < k.refs →
        caravanAt t.dev e.ctx.x.head = some { k with refs := k.refs - 1 }) ∧ t.mem = s.mem)) ∧
    (∀ line bad, has (fetchLines d) line = false → exec (.wayTableFetchDone line bad) s = .next s) ∧
    (∀ c st line, d.way.parked = [⟨c, st, some line⟩] → poisonedAt d line 64 = false →
      memVerdict d 9 .read line 64 = .granted →
      let d1 := { d with way := { d.way with cache := tabSet d.way.cache line (memRead s.mem line 64), parked := [] } }
      exec (.wayTableFetchDone line false) s =
        .next { s with dev := (runPipe st c d1 s.mem).1, mem := (runPipe st c d1 s.mem).2 })

/-- On a device that is not in reset, for granted accesses: LOOKUP shows the key's entry or VALID 0, INSERT makes the
key's entry from WAY_BR_DATA unless its bucket holds four others, DELETE removes it, FLUSH_DYNAMIC keeps exactly the
static entries and the age scan those and the ones used within the limit. INSERT and DELETE of a connection set and
clear VALID in its word 0 alone and are refused with RESULT 1 out of range or for a valid entry; the scan moves on,
and an expired pair loses VALID and enters the expiry FIFO, which a read pops; the hot store's copy of the last
three words goes to DRAM. TBL_INV removes the named lines from the cache, all with LINES 0. The ACL commands store
the staged rule and read one back. A write of WAY_POL_BURST fills its policer. (Clauses about bytes: canonical
memory.) -/
def Obligations.WaystationTablesAct : Prop :=
  ∀ s : State, frozen s.dev = false →
    let d := s.dev
    let key := brKey d
    let limit := 500000000 * max 1 (d.rd WAY_BR_CFG_AGE_S)
    let total := 4 * 2 ^ ctLog2 d
    let ct := fun (e i : Nat) => wordAt (memRead s.mem (ctAddr d e) 64) i
    let holds : State → Nat → BrEntry → Prop := fun t b e => ∃ l, (b, l) ∈ t.dev.way.bridge ∧ e ∈ l
    let open' : Nat → Prop := fun e => memVerdict d 9 .read (ctAddr d e) 64 = .granted ∧
      memVerdict d 9 .write (ctAddr d e) 4 = .granted
    (∀ m, writeTaken d m (pWay + 2) = true →
      (∀ e, brFind d key.1 key.2 = some e → Acts (.brLookup m) s (fun t =>
        t.dev.rd WAY_BR_DATA_VALID = 1 ∧ t.dev.rd WAY_BR_DATA_STATIC = (if e.static then 1 else 0) ∧
        t.dev.rd WAY_BR_DATA_DEST = e.dest % 2 ^ 17 ∧ t.dev.rd WAY_BR_CMD_RESULT = 0 ∧ Changes [] [0x62] s t)) ∧
      (brFind d key.1 key.2 = none → Acts (.brLookup m) s (fun t =>
        t.dev.rd WAY_BR_DATA_VALID = 0 ∧ t.dev.rd WAY_BR_CMD_RESULT = 1 ∧ Changes [] [0x62] s t)) ∧
      (((brList d (brBucket d key.1 key.2)).filter (fun e => !(e.vlan == key.1 && e.mac == key.2))).length < 4 →
        Acts (.brInsert m) s (fun t =>
          brFind t.dev key.1 key.2 =
            some ⟨key.1, key.2, d.rd WAY_BR_DATA_DEST, d.on WAY_BR_DATA_STATIC, d.tb.elapsed⟩ ∧
          t.dev.rd WAY_BR_CMD_RESULT = 0 ∧ OffKeys [WAY_BR_CMD_RESULT.key 0 0] d t.dev ∧ ChangesParts [.way] s t)) ∧
      (4 ≤ ((brList d (brBucket d key.1 key.2)).filter (fun e => !(e.vlan == key.1 && e.mac == key.2))).length →
        Acts (.brInsert m) s (fun t =>
          t.dev.rd WAY_BR_CMD_RESULT = 2 ∧ OnlyKeys [WAY_BR_CMD_RESULT.key 0 0] s t)) ∧
      (brFind d key.1 key.2 ≠ none → Acts (.brDelete m) s (fun t =>
        brFind t.dev key.1 key.2 = none ∧ t.dev.rd WAY_BR_CMD_RESULT = 0 ∧
        OffKeys [WAY_BR_CMD_RESULT.key 0 0] d t.dev ∧ ChangesParts [.way] s t)) ∧
      (brFind d key.1 key.2 = none → Acts (.brDelete m) s (fun t =>
        t.dev.rd WAY_BR_CMD_RESULT = 1 ∧ OnlyKeys [WAY_BR_CMD_RESULT.key 0 0] s t)) ∧
      Acts (.brFlushDynamic m) s (fun t => t.dev.rd WAY_BR_CMD_RESULT = 0 ∧
        (∀ b e, holds t b e ↔ holds s b e ∧ e.static = true) ∧ ChangesParts [.way] s t)) ∧
    (isActive d pWay = true → Acts .brAgeScan s (fun t =>
      (∀ b e, holds t b e ↔ holds s b e ∧ (e.static = true ∨ d.tb.elapsed - e.used < limit)) ∧ Changes [.way] [] s t)) ∧
    (isActive d pWay = false → exec .brAgeScan s = .next s) ∧
    (∀ m e, writeTaken d m (pWay + 1) = true →
      (total ≤ e → ∀ c ∈ [Instr.ctInsert m e, .ctDelete m e], Acts c s (fun t =>
        t.dev.rd WAY_CT_CMD_RESULT = 1 ∧ OnlyPages (0x61 :: eventPages pWay) s t)) ∧
      (e < total → open' e →
        ((ct e 0).testBit 31 = true → Acts (.ctInsert m e) s (fun t =>
          t.dev.rd WAY_CT_CMD_RESULT = 1 ∧ OnlyPages (0x61 :: eventPages pWay) s t)) ∧
        (s.memCanonical = true → ∀ p ∈ [(Instr.ctInsert m e, setBit (ct e 0) 31, (ct e 0).testBit 31 = false),
            (.ctDelete m e, clearBit (ct e 0) 31, True)], p.2.2 → Acts p.1 s (fun t =>
          wordAt (memRead t.mem (ctAddr d e) 4) 0 = p.2.1 ∧ t.dev.rd WAY_CT_CMD_RESULT = 0 ∧
          (∀ x, ¬(ctAddr d e ≤ x ∧ x < ctAddr d e + 4) → memGet t.mem x = memGet s.mem x) ∧
          Changes [.ser, .way, .dram, .memory] [0x61] s t)))) ∧
    (isActive d pWay = false ∨ wayFull d = false ∨ dramReady d 0 = false → exec .ctScan s = .next s) ∧
    (isActive d pWay = true → wayFull d = true → dramReady d 0 = true → d.way.hot = [] →
      let e := d.way.scanPos % total
      let peer := ct e 1 % 2 ^ 21
      let age := min ((nowMs d + 2 ^ 32 - ct e 13) % 2 ^ 32) ((nowMs d + 2 ^ 32 - ct peer 13) % 2 ^ 32)
      open' e →
      ((ct e 0).testBit 31 = false ∨ (ct e 0).testBit 28 = true → Acts .ctScan s (fun t =>
        t.dev.way = { d.way with scanPos := (e + 1) % total } ∧ Changes [.way] [] s t)) ∧
      (s.memCanonical = true → open' peer → (ct e 0).testBit 31 = true → (ct e 0).testBit 28 = false →
        1000 * d.rd WAY_CT_TIMEOUT_SEC 0 (bitsOf (ct e 0) 27 26) ≤ age → d.way.expiry.length < 512 →
        Acts .ctScan s (fun t =>
          (wordAt (memRead t.mem (ctAddr d e) 4) 0).testBit 31 = false ∧
          (wordAt (memRead t.mem (ctAddr d peer) 4) 0).testBit 31 = false ∧ t.dev.way.expiry = d.way.expiry ++ [e] ∧
          t.dev.way.scanPos = (e + 1) % total ∧ Changes [.ser, .way, .dram, .memory] [pWay, 0xCE] s t))) ∧
    (∀ e, tabFind d.way.hot e = none → exec (.ctHotWriteback e) s = .next s) ∧
    (∀ e b, tabFind d.way.hot e = some b → b.length = 64 → s.memCanonical = true →
      memVerdict d 9 .read (ctAddr d e) 64 = .granted → memVerdict d 9 .write (ctAddr d e) 64 = .granted →
      Acts (.ctHotWriteback e) s (fun t =>
        memRead t.mem (ctAddr d e + 0x34) 12 = (b.drop 0x34).take 12 ∧
        (∀ x, ¬(ctAddr d e ≤ x ∧ x < ctAddr d e + 64) → memGet t.mem x = memGet s.mem x) ∧
        Changes [.ser, .way, .dram, .memory] [] s t)) ∧
    (∀ m, pageReadable d m (pWay + 1) = true → present d (pWay + 1) = true →
      (d.way.expiry = [] → Acts (.ctExpiryPop m) s (fun t => t.dev.sh.readData = toBytes 4 0 ∧ Changes [] [] s t)) ∧
      (∀ e l, d.way.expiry = e :: l → Acts (.ctExpiryPop m) s (fun t =>
        t.dev.sh.readData = toBytes 4 (2 ^ 31 + e) ∧ t.dev.way = { d.way with expiry := l } ∧
        Changes [.way] [pWay] s t))) ∧
    (∀ m lines, writeTaken d m (pWay + 1) = true → Acts (.tblInv m lines) s (fun t =>
      (∀ e, e ∈ t.dev.way.cache ↔ e ∈ d.way.cache ∧ lines % 65536 ≠ 0 ∧
        ¬(64 * d.rd WAY_TBL_INV_LO_ADDR + 2 ^ 32 * d.rd WAY_TBL_INV_HI_ADDR ≤ e.1 ∧
          e.1 < 64 * d.rd WAY_TBL_INV_LO_ADDR + 2 ^ 32 * d.rd WAY_TBL_INV_HI_ADDR + 64 * (lines % 65536))) ∧
      Changes [.way] [] s t)) ∧
    (∀ m, writeTaken d m (pWay + 5) = true →
      Acts (.aclWrite m) s (fun t =>
        (∃ r, tabFind t.dev.way.acl (d.rd WAY_ACL_IDX_RULE) = some r ∧
          r.key = (List.range 12).map (fun i => d.rd WAY_ACL_KEY_KEY 0 i) ∧
          r.mask = (List.range 12).map (fun i => d.rd WAY_ACL_MASK_MASK 0 i)) ∧
        (∀ i, i ≠ d.rd WAY_ACL_IDX_RULE → tabFind t.dev.way.acl i = tabFind d.way.acl i) ∧ Changes [.way] [] s t) ∧
      (∀ r, tabFind d.way.acl (d.rd WAY_ACL_IDX_RULE) = some r → Acts (.aclRead m) s (fun t =>
        (∀ i, i < 12 → t.dev.rd WAY_ACL_KEY_KEY 0 i = r.key.getD i 0 % 2 ^ 32 ∧
          t.dev.rd WAY_ACL_MASK_MASK 0 i = r.mask.getD i 0 % 2 ^ 32) ∧
        t.dev.rd WAY_ACL_ACT0_ACTION = bitsOf r.act0 31 30 ∧ t.dev.rd WAY_ACL_ACT0_REDIRECT = bitsOf r.act0 16 0 ∧
        t.dev.rd WAY_ACL_ACT1_VALID = bitsOf r.act1 31 31 ∧ Changes [] [0x65] s t))) ∧
    (∀ m v, writeTaken d m (pWay + 4) = true → Acts (.polBurstWrite m v) s (fun t =>
      t.dev.rd WAY_POL_BURST_BURST 0 (d.rd WAY_POL_IDX_POLICER) = v % 2 ^ 24 ∧
      t.dev.rd WAY_POL_TOKENS_TOKENS 0 (d.rd WAY_POL_IDX_POLICER) = v % 2 ^ 24 ∧
      tabFind t.dev.way.policers (d.rd WAY_POL_IDX_POLICER) =
        some ⟨d.on WAY_POL_RATE_EN 0 (d.rd WAY_POL_IDX_POLICER), d.rd WAY_POL_RATE_RATE 0 (d.rd WAY_POL_IDX_POLICER),
          v % 2 ^ 24, v % 2 ^ 24 * 1000000, some (nowTotal d)⟩ ∧ Changes [.way] [0x64] s t))

/-- On a device that is not in reset, with CONVOY not Active, for a granted command on the entry of STA_IDX: an entry
beyond the table gives RESULT 2, and a state that the command does not allow gives RESULT 1 and code 0x40; nothing
else changes. CREATE of an accepted image takes the staged identity into a fresh PENDING entry; UPDATE takes the
staged AID and keeps state and address; ASSOC counts the station and records the time, or gives RESULT 3 when full;
AUTHORIZE, FREEZE and THAW set state, BUSY and RESULT alone as stated; a finished FREEZE drops what awaits
acknowledgement and pauses the station's queues; REMOVE starts the removal, and its end frees the entry without
anything of the station. An image that a check refuses gives the check's RESULT and changes no entry. -/
def Obligations.StationCommandsAct : Prop :=
  ∀ s : State, frozen s.dev = false → isActive s.dev pConvoy = false → s.dev.cvy.exps = [] →
    let d := s.dev
    let e := d.rd STA_IDX_ENTRY
    let allows : List (Nat → Instr × List Nat) := [fun m => (.staCreate m, [0, 1]), fun m => (.staAssoc m, [2]),
      fun m => (.staAuthorize m, [3]), fun m => (.staUpdate m, [2, 3, 4]), fun m => (.staFreeze m, [3, 4]),
      fun m => (.staThaw m, [5]), fun m => (.staRemove m, [2, 3, 4, 5]), fun m => (.staExport m, [5]),
      fun m => (.staImport m, [0, 1])]
    let result := STA_CMD_RESULT.key 0 0
    (∀ m, writeTaken d m (pSta + 1) = true →
      (stationCount d.variant ≤ e → ∀ c ∈ allows, Acts (c m).1 s (fun t =>
        t.dev.rd STA_CMD_RESULT = 2 ∧ OnlyKeys [result] s t)) ∧
      (e < stationCount d.variant → ∀ c ∈ allows, staState d e ∉ (c m).2 → exec (c m).1 s =
        .next { s with dev := refuseWrite pSta 0x40 m (regAddr (pSta + 1) 0x044) (d.put STA_CMD_RESULT 1) }) ∧
      (e < stationCount d.variant →
        (staState d e = 0 ∨ staState d e = 1 →
          (imageCheck d e (imageOf d 2048) true = none → Acts (.staCreate m) s (fun t =>
            staState t.dev e = 2 ∧ t.dev.rd STA_CMD_RESULT = 0 ∧ staOf t.dev e = {} ∧
            (∀ F ∈ [STA_W0_AID, STA_W0_BSS, STA_W0_LINKS, STA_W0_MLD, STA_W1_ADDR, STA_W2_ADDR],
              t.dev.rd F 0 e = d.rd F 0 2048 % 2 ^ F.width) ∧
            (∀ i, i ≠ e → staOf t.dev i = staOf d i ∧ staState t.dev i = staState d i) ∧
            Changes [.sta] [0x51, 0x52, 0x53] s t)) ∧
          (∀ r, imageCheck d e (imageOf d 2048) true = some r → Acts (.staCreate m) s (fun t =>
            t.dev.rd STA_CMD_RESULT = r.1 ∧ staState t.dev e = staState d e ∧ OnlyPages (0x51 :: eventPages pSta) s t))) ∧
        (staState d e = 2 → (imageFull d (imageOf d e) = false → Acts (.staAssoc m) s (fun t =>
            staState t.dev e = 3 ∧ t.dev.rd STA_CMD_RESULT = 0 ∧
            t.dev.rd STA_ATIME_NS_NS 0 e = (manifestForm (fullNow d)).1 % 2 ^ 32 ∧
            t.dev.rd STA_ATIME_S_S 0 e = (manifestForm (fullNow d)).2 ∧
            t.dev.rd STA_BSS_COUNT_STA 0 (d.rd STA_W0_BSS 0 e) =
              (d.rd STA_BSS_COUNT_STA 0 (d.rd STA_W0_BSS 0 e) + 1) % 2 ^ 11 ∧
            OnlyPages [0x50, 0x51, 0x55] s t)) ∧
          (imageFull d (imageOf d e) = true → Acts (.staAssoc m) s (fun t =>
            t.dev.rd STA_CMD_RESULT = 3 ∧ OnlyKeys [result] s t))) ∧
        (staState d e = 3 → Acts (.staAuthorize m) s (fun t =>
          staState t.dev e = 4 ∧ t.dev.rd STA_CMD_RESULT = 0 ∧ OnlyKeys [STA_W0_STATE.key 0 e, result] s t)) ∧
        (staState d e = 2 ∨ staState d e = 3 ∨ staState d e = 4 →
          imageCheck d e { imageOf d 2048 with
            bss := d.rd STA_W0_BSS 0 e, mld := staMld d e, addr := (imageOf d e).addr } false = none →
          Acts (.staUpdate m) s (fun t =>
            staState t.dev e = staState d e ∧ t.dev.rd STA_CMD_RESULT = 0 ∧
            t.dev.rd STA_W0_AID 0 e = d.rd STA_W0_AID 0 2048 % 2 ^ 11 ∧
            stationAddr t.dev e = stationAddr d e ∧ OnlyPages [0x51, 0x52] s t)) ∧
        (staState d e = 3 ∨ staState d e = 4 → Acts (.staFreeze m) s (fun t =>
          staOf t.dev e = { staOf d e with stopping := true } ∧ t.dev.rd STA_CMD_BUSY = 1 ∧ t.dev.rd STA_CMD_RESULT = 0 ∧
          OffKeys [STA_CMD_BUSY.key 0 0, result] d t.dev ∧ ChangesParts [.sta] s t)) ∧
        (staState d e = 5 → Acts (.staThaw m) s (fun t =>
          staState t.dev e = (staOf d e).recorded % 8 ∧ t.dev.rd STA_CMD_RESULT = 0 ∧
          (∀ q ∈ staQueues d e, qState d q = 2 → qState t.dev q = 1) ∧ OnlyPages [0x18, 0x51] s t)) ∧
        (2 ≤ staState d e ∧ staState d e ≤ 5 → (staOf d e).held = [] → Acts (.staRemove m) s (fun t =>
          staState t.dev e = 6 ∧ t.dev.rd STA_CMD_BUSY = 1 ∧ t.dev.rd STA_CMD_RESULT = 0 ∧ (staOf t.dev e).outst = [] ∧
          (staOf t.dev e).removing = true ∧
          (∀ q ∈ staQueues d e, qState d q = 1 ∨ qState d q = 2 → qState t.dev q = 3 ∧ qList t.dev q = []) ∧
          t.mem = s.mem)))) ∧
    (∀ i, ((staOf d i).stopping = false → exec (.staFreezeDone i) s = .next s) ∧
      ((staOf d i).stopping = true → Acts (.staFreezeDone i) s (fun t =>
        staState t.dev i = 5 ∧ (staOf t.dev i).stopping = false ∧ (staOf t.dev i).recorded = staState d i ∧
        (staOf t.dev i).outst = [] ∧ (∀ q ∈ staQueues d i, qState d q = 1 → qState t.dev q = 2) ∧ t.mem = s.mem)) ∧
      ((staOf d i).removing = true → staQueues d i = [] → Acts (.staRemoveDone i) s (fun t =>
        staState t.dev i = 0 ∧ staOf t.dev i = {} ∧ (∀ j, j ≠ i → staState t.dev j = staState d j) ∧
        Changes [.sta] [0x51, 0x52, 0x53] s t)) ∧
      ((staOf d i).removing = false ∨ staQueues d i ≠ [] → exec (.staRemoveDone i) s = .next s))

/-- On a device that is not in reset: a PROBED entry unheard for PROBE_AGE is freed; with CONVOY not Active, one idle
entry is reported as AGED once, and with none due nothing happens. An MPDU held for LIFETIME leaves and its caravan
loses a reference. A granted write of BA_RX opens the agreement at SSN with an empty window, or ends it. An MPDU
that waited behind a hole for TIMEOUT is delivered and the window moves past it. A granted read of STA_EVT takes the
oldest event. EXPORT of a FROZEN entry without a key or held frames puts its record with the CRC in a new caravan of
class 6, or gives RESULT 3; IMPORT of a record whose version or CRC is wrong gives RESULT 6 and code 0x41, and of a
good one without a key makes the entry FROZEN. (EXPORT: canonical memory, and the tables grant master 18 the Serai.) -/
def Obligations.StationTrafficActs : Prop :=
  ∀ s : State, frozen s.dev = false →
    let d := s.dev
    let e := d.rd STA_IDX_ENTRY
    let due : Nat → Prop := fun i => (staState d i = 3 ∨ staState d i = 4) ∧ d.rd STA_AGE_IDLE_LIMIT ≠ 0 ∧
      500000000 * d.rd STA_AGE_IDLE_LIMIT ≤ d.tb.elapsed - lastHeard d i ∧ (staOf d i).agedSaid = false
    (∀ i, (staState d i = 1 ∧ lastHeard d i + 500000000 * max 1 (d.rd STA_AGE_PROBE_AGE) ≤ d.tb.elapsed →
        Acts (.probeAgeExpire i) s (fun t => staState t.dev i = 0 ∧ staOf t.dev i = {} ∧
          Changes [.sta] [0x51, 0x52, 0x53] s t)) ∧
      (¬(staState d i = 1 ∧ lastHeard d i + 500000000 * max 1 (d.rd STA_AGE_PROBE_AGE) ≤ d.tb.elapsed) →
        exec (.probeAgeExpire i) s = .next s)) ∧
    (isActive d pSta = false → exec .staAgeCheck s = .next s) ∧
    (isActive d pConvoy = false → (∀ i ∈ staEntries d, ¬due i) → exec .staAgeCheck s = .next s) ∧
    (∀ i, isActive d pSta = true → isActive d pConvoy = false → staEntries d = [i] → due i →
      d.on STA_CFG_AUTO_REMOVE = false → d.sta.evts.length < 64 → Acts .staAgeCheck s (fun t =>
        t.dev.sta.evts = d.sta.evts ++ [(1, i)] ∧ (staOf t.dev i).agedSaid = true ∧
        (t.dev.rd HDR_INT_RAW_RAW pSta).testBit 3 = true ∧ Changes [.sta] [pSta, 0xCE] s t)) ∧
    (∀ i tid sn, (staOf d i).outst.find? (fun o => o.tid == tid && o.sn == sn) = none →
      exec (.mpduLifetimeExpire i tid sn) s = .next s) ∧
    (∀ i tid sn o, (staOf d i).outst.find? (fun o => o.tid == tid && o.sn == sn) = some o →
      d.rd STA_TX_CFG_LIFETIME ≠ 0 → o.since + 500000 * d.rd STA_TX_CFG_LIFETIME ≤ d.tb.elapsed →
      Acts (.mpduLifetimeExpire i tid sn) s (fun t =>
        (staOf t.dev i).outst = (staOf d i).outst.filter (fun p => !(p.tid == tid && p.sn == sn)) ∧
        (holding d pSta = false → t.dev.rd STA_TX_LIFE_DROP_COUNT =
          satAdd (2 ^ 32 - 1) (d.rd STA_TX_LIFE_DROP_COUNT) 1 % 2 ^ 32) ∧
        (∀ k, caravanAt d o.x.head = some k → 1 < k.refs →
          caravanAt t.dev o.x.head = some { k with refs := k.refs - 1 }) ∧ t.mem = s.mem)) ∧
    (∀ m v, writeTaken d m (pSta + 3) = true →
      (stationCount d.variant ≤ e → Acts (.baRxWrite m v) s (fun t =>
        t.dev.rd STA_CMD_RESULT = 2 ∧ OnlyKeys [STA_CMD_RESULT.key 0 0] s t)) ∧
      (e < stationCount d.variant → d.rd STA_TID_TID < 8 → heldOf d e (d.rd STA_TID_TID) = [] →
        (v.testBit 31 = false ∨ d.on BA_RX_EN 0 (ti e (d.rd STA_TID_TID)) = true) → Acts (.baRxWrite m v) s (fun t =>
          t.dev.rd BA_RX_EN 0 (ti e (d.rd STA_TID_TID)) = (if v.testBit 31 then 1 else 0) ∧
          t.dev.rd BA_RX_SSN 0 (ti e (d.rd STA_TID_TID)) = v / 65536 % 4096 ∧
          t.dev.rd BA_RX_SIZE 0 (ti e (d.rd STA_TID_TID)) = v % 2 ^ 11 ∧
          (v.testBit 31 = true → winStart t.dev e (d.rd STA_TID_TID) = v / 65536 % 4096) ∧
          heldOf t.dev e (d.rd STA_TID_TID) = [] ∧ Changes [.sta] [pSta, 0x53] s t))) ∧
    (∀ i tid, heldOf d i tid = [] → exec (.reorderTimeout i tid) s = .next s) ∧
    (∀ i tid sn x since, heldOf d i tid = [⟨sn, [x], since, none⟩] →
      since + 500 * max 1 (d.rd STA_REORDER_TIMEOUT) ≤ d.tb.elapsed → Acts (.reorderTimeout i tid) s (fun t =>
        t.dev.q.toWay = d.q.toWay ++ [x] ∧ heldOf t.dev i tid = [] ∧ winStart t.dev i tid = (sn + 1) % 4096 ∧
        Changes [.sta, .q] [pSta, 0x53] s t)) ∧
    (∀ m, pageReadable d m pSta = true → present d pSta = true →
      (d.sta.evts = [] → Acts (.staEvtPop m) s (fun t => t.dev.sh.readData = toBytes 4 0 ∧ Changes [] [] s t)) ∧
      (∀ x l, d.sta.evts = x :: l → Acts (.staEvtPop m) s (fun t =>
        t.dev.sh.readData = toBytes 4 (2 ^ 31 + x.1 * 2 ^ 24 + x.2 % 2048) ∧ t.dev.sta = { d.sta with evts := l } ∧
        Changes [.sta] [pSta] s t))) ∧
    (∀ m, writeTaken d m (pSta + 1) = true → e < stationCount d.variant → staState d e = 5 → (staOf d e).held = [] →
      (admitTest d 6 (cellsFor (headRoom d) 512) = none → Acts (.staExport m) s (fun t =>
        t.dev.rd STA_CMD_RESULT = 3 ∧ Changes [.ser, .eth] (0x51 :: chargePages) s t)) ∧
      (admitTest d 6 (cellsFor (headRoom d) 512) ≠ none → d.on STA_W4_KEY_VALID 0 e = false → s.memCanonical = true →
        (∀ g, g < 131072 → customsGrant d .serai g g 18 .write = true) → Acts (.staExport m) s (fun t =>
          t.dev.rd STA_CMD_RESULT = 0 ∧ readFrame t.dev t.mem (t.dev.rd STA_XFER_HEAD_HEAD) 0 512 =
            recordBody d e [] ++ toBytes 4 (recordCrc (recordBody d e [])) ∧
          staState t.dev e = 5 ∧ Changes [.ser, .eth, .memory] (0x51 :: 0x54 :: chargePages) s t))) ∧
    (∀ m, writeTaken d m (pSta + 1) = true → e < stationCount d.variant → staState d e = 0 ∨ staState d e = 1 →
      (recordRead d s.mem).2 = d →
      let b := (recordRead d s.mem).1
      let good : Prop := wordAt b 0 % 2 ^ 8 = 1 ∧ bitsOf (wordAt b 0) 31 16 = 0x200 ∧ wordAt b 127 = recordCrc b
      (¬good → exec (.staImport m) s =
        .next { s with dev := refuseWrite pSta 0x41 m (regAddr (pSta + 1) 0x044) (d.put STA_CMD_RESULT 6) }) ∧
      (good → imageCheck d e (recordImage b) true = none → ((b.drop 0x140).take 128).all (· == 0) = true →
        Acts (.staImport m) s (fun t =>
          staState t.dev e = 5 ∧ t.dev.rd STA_CMD_RESULT = 0 ∧ (staOf t.dev e).recorded = wordAt b 1 % 8 ∧
          t.dev.rd STA_W0_AID 0 e = (recordImage b).aid ∧ stationAddr t.dev e = (recordImage b).addr ∧
          t.dev.rd STA_W4_KEY_VALID 0 e = 0 ∧ Changes [.sta] [0x50, 0x51, 0x52, 0x53, 0x55] s t)))

/-- On a device that is not in reset, at an output whose nodes have no shaper: a decision of an output without an
eligible queue, or while TM is not Active, serves nothing; with one eligible queue whose head costs at most the
quanta, the head leaves the queue and stands before the output, marked LATE where R512 says so, and TM_DEQ counts it
(a PS-Poll or service period of a dozing station that released it counts it too); a head that a rule drops leaves
without being sent. An occurrence takes the head of a queue placed on its link whatever the deficits. A head whose
launch instant has come is marked as ripe. APPLY puts the staged shaper in force with full counts, or with 0 where
TOKEN_ON_CHANGE says so, ends a disabled one, and refuses an invalid one with code 0x40. A dual-rate shaper gains
rate times time up to its sizes. COMMIT is refused with code 0x41 while a list is pending and with its REASON and
code 0x40 where a check fails; else the start is the first base + k × CYCLE that lies LEAD ns ahead. CANCEL clears
PENDING. At its start the admin list becomes the oper list. A change puts the states of the instant into
GATE_STATUS. -/
def Obligations.TrafficManagerActs : Prop :=
  ∀ s : State, frozen s.dev = false →
    let d := s.dev
    let now := nowTotal d
    let bare : Nat → Prop := fun o =>
      (∀ q ∈ outQueues d o, qShaper d q = none) ∧ ∀ g, g < 8 → gShaper d o g = none
    let marked : Nat → Nat → Manifest → Manifest := fun o q x => if lateOf d o q x = .no then x else setFlag x fLate true
    let served : Nat → Nat → Manifest → List Manifest → State → Prop := fun o q x l t =>
      handedTo t.dev o = handedTo d o ++ [marked o q x] ∧ qList t.dev q = l ∧
      (holding d pTm = false → t.dev.rd TM_DEQ_COUNT 0 o = satAdd (2 ^ 32 - 1) (d.rd TM_DEQ_COUNT 0 o) 1)
    (∀ o, (isActive d pTm = false ∨ 12 ≤ o → exec (.tmDecision o) s = .next s) ∧
      (bare o → (∀ q ∈ outQueues d o, eligible s.mem d o q = false) → Acts (.tmDecision o) s (fun t =>
        t.dev.q = d.q ∧ t.dev.tm.handed = d.tm.handed ∧ Changes [.tm] [0x71, 0x72] s t)) ∧
      (∀ q x l, isActive d pTm = true → o < 12 → bare o → outQueues d o = [q] → qGroup d q < 8 → qList d q = x :: l →
        eligible s.mem d o q = true →
        headCost d o q ≤ quantumOf d q → headCost d o q ≤ quantumOf d (grpChild o (qGroup d q)) →
        (dropOf d o q x = none → Acts (.tmDecision o) s (fun t =>
          served o q x l t ∧ Changes [.q, .tm, .sta] [0x70, 0x71, 0x72] s t)) ∧
        (dropOf d o q x ≠ none → l = [] → Acts (.tmDecision o) s (fun t =>
          qList t.dev q = [] ∧ t.dev.tm.handed = d.tm.handed ∧
          (∀ k, caravanAt d x.head = some k → 1 < k.refs →
            caravanAt t.dev x.head = some { k with refs := k.refs - 1 }) ∧
          ChangesParts [.ser, .q, .way, .outr, .tm, .eth] s t)))) ∧
    (∀ l q, bare (6 + l) →
      (isActive d pTm = false ∨ (6 + l) ∉ qOutputs d q ∨ qList d q = [] ∨ blockOf d (6 + l) q ≠ 0 →
        exec (.airOccDequeue l q) s = .next s) ∧
      (∀ x r, isActive d pTm = true → (6 + l) ∈ qOutputs d q → qList d q = x :: r → blockOf d (6 + l) q = 0 →
        q ∈ outQueues d (6 + l) → dropOf d (6 + l) q x = none → Acts (.airOccDequeue l q) s (fun t =>
          served (6 + l) q x r t ∧ Changes [.q, .tm, .sta] [0x70] s t))) ∧
    (∀ q, (∀ x r, qList d q = x :: r → (∃ o ∈ qOutputs d q, launches d o x = true ∧ launchReady d o q x = true) →
        Acts (.launchEligible q) s (fun t => q ∈ t.dev.tm.ripe ∧ Changes [.tm] [] s t)) ∧
      ((∀ x ∈ (qList d q).head?, ∀ o ∈ qOutputs d q, launches d o x = false ∨ launchReady d o q x = false) →
        exec (.launchEligible q) s = .next s)) ∧
    (∀ m, writeTaken d m (pTm + 3) = true →
      let i := d.rd TM_SHP_IDX_SHAPER
      let mode := d.rd TM_SHP_CFG_MODE 0 i
      let bad : Prop := 2 ≤ mode ∨ (mode = 0 ∧ (d.rd TM_SHP_PIR_PIR 0 i = 0 ∨ d.rd TM_SHP_PIR_PIR 0 i < d.rd TM_SHP_CIR_CIR 0 i))
      let full : Nat := if d.on TM_SHP_CFG_TOKEN_ON_CHANGE 0 i then 0 else 1
      (d.on TM_SHP_CFG_EN 0 i = false → Acts (.shaperApply m) s (fun t =>
        shaperOf t.dev i = none ∧ t.dev.rd TM_SHP_CMD_REJECTED 0 i = 0 ∧ Changes [.tm] [0x73] s t)) ∧
      (d.on TM_SHP_CFG_EN 0 i = true → bad → Acts (.shaperApply m) s (fun t =>
        t.dev.rd TM_SHP_CMD_REJECTED 0 i = 1 ∧ (t.dev.rd HDR_INT_RAW_RAW pTm).testBit 6 = true ∧
        OnlyPages (0x73 :: eventPages pTm) s t)) ∧
      (d.on TM_SHP_CFG_EN 0 i = true → ¬bad → Acts (.shaperApply m) s (fun t =>
        t.dev.rd TM_SHP_CMD_REJECTED 0 i = 0 ∧ (∀ j, j ≠ i → shaperOf t.dev j = shaperOf d j) ∧
        shaperOf t.dev i = some {
          cbsMode := mode == 1, drop := d.on TM_SHP_CFG_ACTION 0 i, cir := d.rd TM_SHP_CIR_CIR 0 i,
          pir := d.rd TM_SHP_PIR_PIR 0 i, cbs := d.rd TM_SHP_CBS_CBS 0 i, pbs := d.rd TM_SHP_PBS_PBS 0 i,
          c := full * (d.rd TM_SHP_CBS_CBS 0 i * shpUnit), p := full * (d.rd TM_SHP_PBS_PBS 0 i * shpUnit),
          last := some now, txEnd := 0 } ∧
        Changes [.tm] [0x73] s t))) ∧
    (∀ i, (shaperOf d i = none → exec (.shaperHoldEnd i) s = .next s) ∧
      (∀ x a, shaperOf d i = some x → x.cbsMode = false → x.last = some a → Acts (.shaperHoldEnd i) s (fun t =>
        shaperOf t.dev i = some { x with
          c := min (x.cbs * shpUnit) (x.c + x.cir * ((now - a : Nat) : Int))
          p := min (x.pbs * shpUnit) (x.p + x.pir * ((now - a : Nat) : Int)), last := some now } ∧
        Changes [.tm] [0x73] s t))) ∧
    (∀ m, writeTaken d m pGate = true →
      let n := d.rd GATE_IDX_LIST
      let acts : Prop := gateFeat d = true ∧ n < 9
      let start := (commitStart d n).1
      let cyc := max 1 (d.rd GATE_ADMIN_CYCLE_CYCLE 0 n)
      let earliest := now + d.rd GATE_LEAD_LEAD 0 n
      (¬acts → exec (.gateCommit m) s = .next s ∧ exec (.gateCancel m) s = .next s) ∧
      (acts → (gateOf d n).pend ≠ none → exec (.gateCommit m) s =
        .next { s with dev := refuseWrite pGate 0x41 m (regAddr pGate 0x060) d }) ∧
      (∀ r, acts → (gateOf d n).pend = none → commitReason d n = some r → Acts (.gateCommit m) s (fun t =>
        t.dev.rd GATE_STATUS_REJECTED 0 n = 1 ∧ t.dev.rd GATE_STATUS_REASON 0 n = r ∧ t.dev.tm = d.tm ∧
        (t.dev.rd HDR_INT_RAW_RAW pGate).testBit 5 = true ∧ OnlyPages (eventPages pGate) s t)) ∧
      (acts → (gateOf d n).pend = none → commitReason d n = none → Acts (.gateCommit m) s (fun t =>
        gateOf t.dev n = { gateOf d n with pend := some start } ∧ (∀ j, j ≠ n → gateOf t.dev j = gateOf d j) ∧
        earliest ≤ start ∧ adminBase d n ≤ start ∧ (start - adminBase d n) % cyc = 0 ∧
        start < max (adminBase d n + 1) (earliest + cyc) ∧
        t.dev.rd GATE_STATUS_PENDING 0 n = 1 ∧ t.dev.rd GATE_STATUS_REJECTED 0 n = 0 ∧
        t.dev.rd GATE_STATUS_BASE_PAST 0 n = (if adminBase d n < earliest then 1 else 0) ∧
        Changes [.tm] [0x7C, 0xCE] s t)) ∧
      (acts → Acts (.gateCancel m) s (fun t =>
        gateOf t.dev n = { gateOf d n with pend := none } ∧ (∀ j, j ≠ n → gateOf t.dev j = gateOf d j) ∧
        t.dev.rd GATE_STATUS_PENDING 0 n = 0 ∧ Changes [.tm] [0x7C] s t))) ∧
    (∀ n a, (gateOf d n).pend = some a →
      (isActive d pGate = true → a ≤ now → Acts (.gateTakeover n) s (fun t =>
        gateOf t.dev n = { run := some (adminRun d n a), pend := none } ∧ (∀ j, j ≠ n → gateOf t.dev j = gateOf d j) ∧
        t.dev.rd GATE_STATUS_PENDING 0 n = 0 ∧
        t.dev.rd GATE_OPER_CYCLE_CYCLE 0 n = d.rd GATE_ADMIN_CYCLE_CYCLE 0 n % 2 ^ 30 ∧
        t.dev.rd GATE_STATUS_STATES 0 n = gateStates t.dev n now % 2 ^ 8 ∧
        (t.dev.rd HDR_INT_RAW_RAW pGate).testBit 3 = true ∧ Changes [.tm] [0x73, 0x7C, 0xCE] s t)) ∧
      (isActive d pGate = false ∨ now < a → Acts (.gateTakeover n) s (fun t =>
        t.dev.tm.gates = d.tm.gates ∧ Changes [.tm] [0x73] s t))) ∧
    (∀ n, (gateActs d n = true → Acts (.gateChange n) s (fun t =>
        t.dev.rd GATE_STATUS_STATES 0 n = gateStates d n now % 2 ^ 8 ∧ t.dev.tm.gates = d.tm.gates ∧
        Changes [.tm] [0x73, 0x7C] s t)) ∧
      (gateActs d n = false → exec (.gateChange n) s = .next s))

/-- On a device that is not in reset, for a granted write of KEY_CMD: a master without write rights on the slot is
captured by the customs office and nothing else happens; LOAD, DERIVE and ERASE of slots 0–15 by another master than
Bryn end with RESULT 2; with KEY not Active nothing but the end of the command shows. LOAD opens the blob with the
wrapping slot and installs material, attributes and PN and counts GEN up; a missing usage gives 3, a malformed
header 4, a failed tag 5, each leaving every slot. EXPORT and, where enabled, SEAL store the wrapped blob at KEY_OUT
under the next PN of the wrapping slot, which rises by one. DERIVE installs the derived key with PN 1. ERASE marks
the slot ERASING; the end of an erasure, with no job bound, zeroises material and PN and counts GEN up. A write of
KEY_PN below the next PN is refused with code 0x42, and any other raises it. The RESULT of a refusal that the spec
names none for is open (log entry 59), and no clause rests on it. (Clauses on stored bytes: canonical memory.) -/
def Obligations.KeyStoreActs : Prop :=
  ∀ s : State, frozen s.dev = false →
    let d := s.dev
    let k := keySel d
    let w := wrapSel d
    let wraps : Prop := slotOk d w uWrap = true ∧ d.rd KEY_ATTR_LEN 0 w = 2 ∧ pnSpent d w = false
    let ended : Nat → State → Prop := fun r t =>
      t.dev.rd KEY_CMD_RESULT 0 k = r ∧ (t.dev.rd HDR_INT_RAW_RAW pKey).testBit 6 = true
    let installed : Bytes → State → Prop := fun mat t =>
      keyMaterial t.dev k = padTo 64 (mat.take 64) ∧ t.dev.rd KEY_ATTR_VALID 0 k = 1 ∧
      t.dev.rd KEY_ATTR_GEN 0 k = (d.rd KEY_ATTR_GEN 0 k + 1) % 2 ^ 16 ∧
      (∀ j, j ≠ k → keyMaterial t.dev j = keyMaterial d j) ∧ Changes [.ciph] [0x8C, 0xCE] s t
    (∀ m host, writeTaken d m pKey = true →
      let rights : Prop := customsGrant d .keyStore k k m .write = true
      let own : Prop := k < 16 ∧ m ≠ 16
      let wrapped : Instr → Bytes → Bytes → Prop := fun c hdr mat =>
        let blob := wrapBlob (slotKey d w) hdr mat (pnOf d w)
        (¬wraps → Acts c s (fun t => ended 3 t ∧ OnlyPages (eventPages pKey) s t)) ∧
        (wraps → Acts c s (fun t =>
          ended 0 t ∧ pnOf t.dev w = pnOf d w + 1 ∧ t.dev.ciph = d.ciph ∧
          (m = 17 → Out.hostWrite (outAddr d) blob ∈ t.dev.out ∧ t.mem = s.mem) ∧
          (m ≠ 17 → memVerdict d m .write (outAddr d) blob.length = .granted → s.memCanonical = true →
            memRead t.mem (outAddr d) blob.length = blob ∧
            (∀ a, a < outAddr d ∨ outAddr d + blob.length ≤ a → memGet t.mem a = memGet s.mem a) ∧
            Changes [.ser, .dram, .memory] [0x8C, 0xCE] s t)))
      (¬rights → ∀ c ∈ [Instr.keyLoad m host, .keySeal m host, .keyExport m, .keyDerive m, .keyErase m],
        exec c s = .next { s with dev := customsRefuse .keyStore m .write k d }) ∧
      (rights → own → ∀ c ∈ [Instr.keyLoad m host, .keyDerive m, .keyErase m],
        Acts c s (fun t => ended 2 t ∧ OnlyPages (eventPages pKey) s t)) ∧
      (rights → isActive d pKey = false →
        ∀ c ∈ [Instr.keyLoad m host, .keySeal m host, .keyExport m, .keyDerive m, .keyErase m],
          (own → c ∈ [Instr.keySeal m host, .keyExport m]) → Acts c s (fun t => (t.dev.rd HDR_INT_RAW_RAW pKey).testBit 6 = true ∧ OnlyPages (eventPages pKey) s t)) ∧
      (rights → isActive d pKey = true →
        (¬own →
          let opens : Prop := d.on KEY_ATTR_ERASING 0 k = false ∧ slotOk d w uUnwrap = true ∧ d.rd KEY_ATTR_LEN 0 w = 2
          let derives : Prop := d.on KEY_ATTR_ERASING 0 k = false ∧ slotOk d w uDerive = true ∧ d.rd KEY_ATTR_LEN 0 w = 2
          (¬opens → Acts (.keyLoad m host) s (fun t => ended 3 t ∧ OnlyPages (eventPages pKey) s t)) ∧
          (∀ b : Bytes, opens → spaceRead m (blobAddr d) 128 host d s.mem = (some b, d) →
            let body := gcmOpen (slotKey d w) ((b.drop 0x10).take 12) (b.take 16) ((b.drop 0x20).take 64) ((b.drop 0x60).take 16)
            let h := wordAt (b.take 16)
            (blobMalformed m b = true → Acts (.keyLoad m host) s (fun t => ended 4 t ∧ OnlyPages (eventPages pKey) s t)) ∧
            (blobMalformed m b = false → body = none →
              Acts (.keyLoad m host) s (fun t => ended 5 t ∧ OnlyPages (eventPages pKey) s t)) ∧
            (∀ mat, blobMalformed m b = false → body = some mat → Acts (.keyLoad m host) s (fun t =>
              ended 0 t ∧ installed mat t ∧ t.dev.rd KEY_ATTR_USAGE 0 k = bitsOf (h 0) 21 16 ∧
              t.dev.rd KEY_ATTR_LEN 0 k = bitsOf (h 0) 23 22 ∧ pnOf t.dev k = h 1 + 2 ^ 32 * (h 2 % 2 ^ 16)))) ∧
          (feat d pKey 3 3 = false → Acts (.keyDerive m) s (fun t =>
            (t.dev.rd HDR_INT_RAW_RAW pKey).testBit 6 = true ∧ OnlyPages (eventPages pKey) s t)) ∧
          (feat d pKey 3 3 = true → ¬derives → Acts (.keyDerive m) s (fun t => ended 3 t ∧ OnlyPages (eventPages pKey) s t)) ∧
          (feat d pKey 3 3 = true → derives → Acts (.keyDerive m) s (fun t =>
            ended 0 t ∧ installed (kdf (slotKey d w) (keyLabel d) (8 * lenBytes (d.rd KEY_DERIVE_ATTR_LEN))) t ∧
            t.dev.rd KEY_ATTR_USAGE 0 k = d.rd KEY_DERIVE_ATTR_USAGE % 4 ∧ pnOf t.dev k = 1)) ∧
          Acts (.keyErase m) s (fun t =>
            t.dev.rd KEY_ATTR_ERASING 0 k = 1 ∧ t.dev.rd KEY_CMD_BUSY 0 k = 1 ∧ t.dev.rd KEY_CMD_RESULT 0 k = 0 ∧
            t.dev.rd KEY_CMD_ERASE_DONE 0 k = 0 ∧
            OnlyKeys [KEY_ATTR_ERASING.key 0 k, KEY_CMD_BUSY.key 0 k, KEY_CMD_RESULT.key 0 k, KEY_CMD_ERASE_DONE.key 0 k] s t)) ∧
        (slotOk d k uExport = false → Acts (.keyExport m) s (fun t => ended 3 t ∧ OnlyPages (eventPages pKey) s t)) ∧
        (slotOk d k uExport = true → wrapped (.keyExport m) (slotHeader d k) (keyMaterial d k)) ∧
        (d.on KEY_CFG_CLEAR_SEAL_EN = false → Acts (.keySeal m host) s (fun t =>
          (t.dev.rd HDR_INT_RAW_RAW pKey).testBit 6 = true ∧ OnlyPages (eventPages pKey) s t)) ∧
        (∀ b : Bytes, d.on KEY_CFG_CLEAR_SEAL_EN = true → spaceRead m (blobAddr d) 80 host d s.mem = (some b, d) →
          wrapped (.keySeal m host) (b.take 16) (b.drop 16)))) ∧
    (∀ i, (d.on KEY_ATTR_ERASING 0 i = false ∨ slotBound d i = true → exec (.keyEraseDone i) s = .next s) ∧
      (d.on KEY_ATTR_ERASING 0 i = true → slotBound d i = false → Acts (.keyEraseDone i) s (fun t =>
        keyMaterial t.dev i = List.replicate 64 0 ∧ pnOf t.dev i = 0 ∧ t.dev.rd KEY_ATTR_VALID 0 i = 0 ∧
        t.dev.rd KEY_ATTR_ERASING 0 i = 0 ∧ t.dev.rd KEY_ATTR_GEN 0 i = (d.rd KEY_ATTR_GEN 0 i + 1) % 2 ^ 16 ∧
        t.dev.rd KEY_CMD_ERASE_DONE 0 i = 1 ∧ t.dev.rd KEY_CMD_BUSY 0 i = 0 ∧
        (t.dev.rd HDR_INT_RAW_RAW pKey).testBit 5 = true ∧ (∀ j, j ≠ i → keyMaterial t.dev j = keyMaterial d j) ∧
        Changes [.ciph] [0x8C, 0xCE] s t))) ∧
    (∀ m v, writeTaken d m pKey = true →
      (v % 2 ^ 48 < pnOf d k → exec (.keyPnWrite m v) s =
        .next { s with dev := refuseWrite pKey 0x42 m (regAddr pKey 0x048) d }) ∧
      (pnOf d k ≤ v % 2 ^ 48 → Acts (.keyPnWrite m v) s (fun t =>
        pnOf t.dev k = v % 2 ^ 48 ∧
        (pnOf d k < pnRekey d k → pnRekey d k ≤ v % 2 ^ 48 →
          t.dev.rd KEY_ATTR_REKEY_F 0 k = 1 ∧ t.dev.rd KEY_REKEY_LAST_SLOT = k % 2 ^ 13) ∧
        (pnOf d k < pnLimit d k → pnLimit d k ≤ v % 2 ^ 48 → t.dev.rd KEY_ATTR_EXHAUSTED 0 k = 1) ∧
        OnlyPages [0x8C, 0xCE] s t)))

/-- On a device that is not in reset: a granted WRITE of CIPH_CTX_CMD installs the staged words with empty runtime
fields, where ALG, TAG_LEN, features and the rights on context and key slot allow it, and else gives RESULT 1 and
leaves every context; READ copies the record into staging and INVALIDATE clears it. A doorbell of a software ring
sets SW_IDX, or is refused with code 0x41 where it overfills the ring or moves backward. A ring that is off or empty
starts nothing. A descriptor that a check refuses is taken with that STATUS; a whole message with software's nonce
is taken with what the algorithm makes of it. A completion writes output, STATUS and OUT_LEN to memory and HW_IDX
moves on. A manifest without an ESP context is dropped; an encryption in place draws a PN and makes the ESP packet;
at the end of its pass the manifest goes to its queue with CIPHER_DONE, and a failed decryption returns it with the
exception 0x22. (Clauses on stored bytes: canonical memory.) -/
def Obligations.CipherEngineActs : Prop :=
  ∀ s : State, frozen s.dev = false →
    let d := s.dev
    (∀ m, writeTaken d m (pCiph + 1) = true →
      let c := d.rd CIPH_CTX_IDX_CTX
      let w0 := stagedWord d c 0
      let grants : AccKind → Prop := fun k => customsGrant d .contexts c c m k = true
      let good : Prop := grants .write ∧ customsGrant d .keyStore (wKey w0) (wKey w0) m .read = true ∧ algKnown (wAlg w0) = true ∧
        ¬(wAlg w0 = 7 ∧ govern d pCiph 3 4 = false) ∧ ¬(w0.testBit 15 = true ∧ govern d pCiph 3 3 = false) ∧
        tagAllowed (wAlg w0) (wTag w0) = true
      let refused : Instr → Prop := fun i => Acts i s (fun t =>
        t.dev.rd CIPH_CTX_CMD_RESULT 0 c = 1 ∧ t.dev.ciph = d.ciph ∧ ChangesParts [] s t)
      let blank : State → Prop := fun t =>
        t.dev.rd CIPH_CTX_CMD_RESULT 0 c = 0 ∧ t.dev.rd CIPH_CTX_REPLAY_TOP 0 c = 0 ∧ t.dev.rd CIPH_CTX_SEQ_SAVE_SEQ 0 c = 0 ∧
        t.dev.rd CIPH_CTX_SECT_HI_EMPTY 0 c = 1 ∧ (∀ j, j ≠ c → ctxOf t.dev j = ctxOf d j) ∧ Changes [.ciph] [0x89] s t
      (good → Acts (.ctxWrite m) s (fun t =>
        ctxOf t.dev c = { words := (List.range 8).map (stagedWord d c) } ∧ blank t)) ∧
      (¬good → refused (.ctxWrite m)) ∧
      (grants .read → Acts (.ctxRead m) s (fun t =>
        (∀ i, i < 8 → t.dev.rd CIPH_CTX_W_WORD 0 (8 * c + i) = ctxW d c i % 2 ^ 32) ∧
        t.dev.rd CIPH_CTX_CMD_RESULT 0 c = 0 ∧ OnlyPages [0x89] s t)) ∧
      (¬grants .read → refused (.ctxRead m)) ∧
      (grants .write → Acts (.ctxInvalidate m) s (fun t => ctxOf t.dev c = {} ∧ blank t)) ∧
      (¬grants .write → refused (.ctxInvalidate m))) ∧
    (∀ m n v, writeTaken d m (pCiph + 2) = true →
      let sw := d.rd CR_SW_IDX_SW_IDX 0 n
      let hw := d.rd CR_HW_IDX_HW_IDX 0 n
      let fits : Prop := idxSub sw hw ≤ idxSub v hw ∧ idxSub v hw ≤ crSize d n
      (fits → Acts (.crDoorbell m n v) s (fun t =>
        t.dev.rd CR_SW_IDX_SW_IDX 0 n = v % 2 ^ 32 ∧ OnlyKeys [CR_SW_IDX_SW_IDX.key 0 n] s t)) ∧
      (¬fits → exec (.crDoorbell m n v) s =
        .next { s with dev := refuseWrite pCiph 0x41 m (regAddr (pCiph + 2) (0x04C + 0x20 * n)) d })) ∧
    (∀ r host hs,
      (isActive d pCiph = false ∨ (4 ≤ r ∧ r < 8) ∨ 16 ≤ r ∨ (r < 4 ∧ passNext d r = none) → exec (.ciphJobStart r host hs) s = .next s) ∧
      (jobsOf d r = [] ∨ (4 ≤ r ∧ r < 8) ∨ 16 ≤ r → exec (.ciphJobComplete r) s = .next s ∧ exec (.ciphManifestPass r) s = .next s)) ∧
    (∀ n host hs, n < 8 → isActive d pCiph = true →
      let r := 8 + n
      let next := (d.rd CR_HW_IDX_HW_IDX 0 n + (jobsOf d r).length) % idxMod
      let at_ := crAddr d n next
      let m := crMaster d n
      (d.on CR_CFG_EN 0 n = false ∨ next = d.rd CR_SW_IDX_SW_IDX 0 n → exec (.ciphJobStart r host hs) s = .next s) ∧
      (d.on CR_CFG_EN 0 n = true → next ≠ d.rd CR_SW_IDX_SW_IDX 0 n → memVerdict d m .read at_ 64 = .granted →
        let b := memRead s.mem at_ 64
        let c := dCtx b
        let alg := ctxAlg d c
        let t' := wTag (ctxW d c 0)
        let p := partsOf alg t' (ctxDu d c) b
        (∀ st, st ≠ 0 → jobCheck b m d = (st, d) → Acts (.ciphJobStart r host hs) s (fun t =>
          (∃ j : CiphJob, jobsOf t.dev r = jobsOf d r ++ [j] ∧ j.status = st ∧ j.at_ = at_ ∧ j.desc = b ∧ j.out = []) ∧
          Changes [.ciph] [] s t)) ∧
        (∀ key slots inp, jobCheck b m d = (0, d) → jobPrepare b m hs d s.mem = ((0, key, slots, []), d) →
          jobInput b m host d s.mem = ((0, inp), d) → dPart b = 0 → dOutCar b = false →
          (algNonce alg = false ∨ (dOp b ≠ 1 ∧ dOp b ≠ 3)) → Acts (.ciphJobStart r host hs) s (fun t =>
            let x := jobRun alg t' (ctxDu d c) key b inp p (workBegin alg key (dIv b) (inp.take p.aad) t' p.msg)
            (∃ j : CiphJob, jobsOf t.dev r = jobsOf d r ++ [j] ∧ j.status = x.1 ∧ j.out = x.2.1 ∧ j.slots = slots ∧
              j.outHead = none ∧ j.at_ = at_ ∧ j.master = m ∧ j.save = none ∧ j.pn = 0) ∧
            Changes [.ciph] [] s t)))) ∧
    (∀ n j rest, n < 8 → jobsOf d (8 + n) = j :: rest → j.outHead = none → j.save = none → s.memCanonical = true →
      let w := toBytes 1 j.status ++ (j.desc.drop 0x31).take 3 ++ toBytes 4 (if j.status = 0 then j.out.length else 0) ++
        toBytes 8 j.pn
      memVerdict d j.master .write (j.at_ + 0x30) w.length = .granted →
      (j.status = 0 → j.out ≠ [] → j.master ≠ 17 ∧ memVerdict d j.master .write (dOut j.desc) j.out.length = .granted ∧
        (dOut j.desc + j.out.length ≤ j.at_ + 0x30 ∨ j.at_ + 0x30 + w.length ≤ dOut j.desc)) →
      Acts (.ciphJobComplete (8 + n)) s (fun t =>
        jobsOf t.dev (8 + n) = rest ∧ t.dev.rd CR_HW_IDX_HW_IDX 0 n = (d.rd CR_HW_IDX_HW_IDX 0 n + 1) % 2 ^ 32 ∧
        memRead t.mem (j.at_ + 0x30) w.length = w ∧
        (j.status = 0 → memRead t.mem (dOut j.desc) j.out.length = j.out) ∧
        (j.status = 0 → ∀ v, j.sector = some v → (ctxOf t.dev j.ctx).last = some v) ∧
        Changes [.ser, .ciph, .dram, .memory] [0x88, 0x89, 0x8A, 0xCE] s t)) ∧
    (∀ r e host hs, r < 4 → isActive d pCiph = true → passNext d r = some e →
      let x := e.1
      let c := x.ciphRef
      let k := jobKey d c 1
      let sl := ctxKey d c
      let left := dropFirst (fun f => f.1.flow % 4 == r) d.q.toCiph
      (ctxValid d c = false ∨ ctxAlg d c ≠ 0x30 → Acts (.ciphJobStart r host hs) s (fun t =>
        t.dev.q.toCiph = left ∧ (t.dev.rd HDR_INT_RAW_RAW pCiph).testBit 4 = true ∧
        (∀ v, caravanAt d x.head = some v → 1 < v.refs → caravanAt t.dev x.head = some { v with refs := v.refs - 1 }) ∧
        t.dev.ciph = d.ciph ∧ ChangesParts [.ser, .q, .way, .outr, .eth] s t)) ∧
      (ctxValid d c = true → ctxAlg d c = 0x30 → x.ciphOp = 1 → k.1 = 0 → d.on KEY_ATTR_PN32 0 sl = true →
        framePoisoned d x.head 0 x.len = false → 14 < x.len → pnSpent d sl = false →
        let tun := tblBase d WAY_TUN_BASE_LO_BASE WAY_TUN_BASE_HI_BASE + 128 * (ctxW d c 2 % 4096)
        let t' := memRead s.mem tun 128
        let n := tunLen t' + 16 + ((x.len - 14 + 2 + 3) / 4 * 4) + 16
        memVerdict d 15 .read tun 128 = .granted → n ≤ 262143 →
        fitsInPlace d x.head ((roomOf d x.head : Int) + 14 - (tunLen t' + 16 : Nat)) n = true →
        Acts (.ciphJobStart r host hs) s (fun t =>
          let body := espSeal k.2.1 (toBytes 4 (ctxW d c 1)) (wordAt t' 1) (pnOf d sl) (readFrame d s.mem x.head 0 x.len)
          (∃ j : CiphJob, jobsOf t.dev r = jobsOf d r ++ [j] ∧ j.status = 0 ∧ j.out = espOuter t' body.length ++ body ∧
            j.pn = pnOf d sl ∧ j.slots = k.2.2 ∧ j.outHead = none) ∧
          pnOf t.dev sl = pnOf d sl + 1 ∧ t.dev.q.toCiph = left ∧ Changes [.q, .ciph] [0x8C, 0xCE] s t))) ∧
    (∀ r j p rest, r < 4 → jobsOf d r = j :: rest → j.pass = some p →
      (j.status ≠ 0 → p.opening = false → Acts (.ciphManifestPass r) s (fun t =>
        jobsOf t.dev r = rest ∧ (t.dev.rd HDR_INT_RAW_RAW pCiph).testBit 4 = true ∧
        (∀ v, caravanAt d p.x.head = some v → 1 < v.refs → caravanAt t.dev p.x.head = some { v with refs := v.refs - 1 }) ∧
        t.mem = s.mem)) ∧
      (j.status = 0 → p.opening = false → j.outHead = none →
        let y := setFlag { p.x with len := j.out.length } fCipherDone true
        manifestBad y = false → enqRefused d false y.queue = false → Acts (.ciphManifestPass r) s (fun t =>
          jobsOf t.dev r = rest ∧ qList t.dev y.queue = qList d y.queue ++ [y] ∧ ChangesParts [.ser, .q, .ciph, .memory] s t)) ∧
      (j.status ≠ 0 → p.opening = true → j.outHead = none → Acts (.ciphManifestPass r) s (fun t =>
        jobsOf t.dev r = rest ∧ t.dev.q.toWay = d.q.toWay ++ [setFlag { p.x with exc := 0x22 } fCipherDone true] ∧
        t.mem = s.mem ∧ ChangesParts [.q, .way, .ciph] s t)))

/-- On a device that is not in reset: each command of DRV_TASK_CMD is refused with RESULT 1 and code 0x40 in the states
that the table does not list for it. CREATE makes a FREE task IDLE with the staged values, START makes it WAITING,
or READY at the tail of its level where its condition holds and no core serves, CANCEL makes a task that does not
run IDLE and gives a running one CANCEL_PENDING and RESULT 2, DELETE frees an idle task without items, and SET_PRIO
takes the staged priority. Setting and clearing flags acts on a task that is not FREE, and a post sets its flag. In
native mode a WAITING task whose condition comes to hold runs at once on the free core where it last ran, with its
events in DRV_EVENTS and out of its flags. A turn that ends by WAIT leaves the task WAITING and the core free; by
YIELD or PREEMPTED a higher task that is ready runs next and the first stands READY; a cancelled task ends IDLE. In
slot mode a read of DRV_SLOT_TAKE runs the oldest task of the slot. Accesses to another core's window are captured
with code 0x40. -/
def Obligations.DroverRunsTasks : Prop :=
  ∀ s : State, frozen s.dev = false →
    let d := s.dev
    let off : Prop := d.on DRV_LEDGER_CFG_EN = false
    let idleCores : Prop := ∀ n, coreServes d n = false
    let runs : Nat → Nat → State → Prop := fun t n u =>
      taskState u.dev t = 4 ∧ u.dev.rd DRV_CUR_VALID 0 n = 1 ∧ u.dev.rd DRV_CUR_TASK 0 n = t % 2 ^ 12
    let task := taskSel d
    let k := taskOf d task
    let st := taskState d task
    (∀ m, writeTaken d m (pDrover + 1) = true →
      let refused : Instr → Prop := fun c => exec c s =
        .next { s with dev := refuseWrite pDrover 0x40 m (regAddr (pDrover + 1) 0x044) (d.put DRV_TASK_CMD_RESULT 1 0 task) }
      let others : State → Prop := fun t => ∀ j, j ≠ task → taskOf t.dev j = taskOf d j ∧ taskState t.dev j = taskState d j
      (st ≠ 0 → refused (.taskCreate m)) ∧
      (st = 0 → Acts (.taskCreate m) s (fun t =>
        taskState t.dev task = 1 ∧ taskFlags t.dev task = 0 ∧ t.dev.rd DRV_TASK_CMD_RESULT 0 task = 0 ∧
        taskOf t.dev task = { prio := d.rd DRV_TASK_W0_PRIO 0 task, affinity := d.rd DRV_TASK_W0_AFFINITY 0 task,
                              all := d.on DRV_TASK_W0_MODE 0 task } ∧ others t ∧ Changes [.drv] [0x99] s t)) ∧
      (st ≠ 1 → refused (.taskStart m)) ∧
      (st = 1 →
        let mask := d.rd DRV_TASK_MASK_MASK 0 task
        let hit := taskFlags d task &&& mask
        let holds : Prop := mask ≠ 0 ∧ (if d.on DRV_TASK_W0_MODE 0 task then hit = mask else hit ≠ 0)
        (¬holds → Acts (.taskStart m) s (fun t =>
          taskState t.dev task = 2 ∧ (taskOf t.dev task).mask = mask ∧ t.dev.rd DRV_TASK_CMD_RESULT 0 task = 0 ∧ others t ∧
          Changes [.drv] [0x99] s t)) ∧
        (holds → idleCores → off → Acts (.taskStart m) s (fun t =>
          taskState t.dev task = 3 ∧ readyAt t.dev k.prio = readyAt d k.prio ++ [task] ∧ others t ∧
          Changes [.drv] [0x99] s t))) ∧
      (st = 0 → refused (.taskCancel m)) ∧
      (st ≠ 0 → st ≠ 4 → off → Acts (.taskCancel m) s (fun t =>
        taskState t.dev task = 1 ∧ t.dev.rd DRV_TASK_CMD_RESULT 0 task = 0 ∧ (∀ p, task ∉ readyAt t.dev p) ∧
        taskFlags t.dev task = taskFlags d task ∧ others t ∧ Changes [.drv] [0x99] s t)) ∧
      (st = 4 → (∀ n, n < 8 → task ∉ slotOf d n) → off → Acts (.taskCancel m) s (fun t =>
        taskState t.dev task = 4 ∧ t.dev.on DRV_TASK_W0_CANCEL_PENDING 0 task = true ∧
        t.dev.rd DRV_TASK_CMD_RESULT 0 task = 2 ∧
        (drvNative d = true → d.rd DRV_TASK_W0_CORE 0 task ∈ t.dev.drv.preempts) ∧ others t ∧ ChangesParts [.drv] s t)) ∧
      (st = 1 ∧ k.items = [] ∧ k.service = none → Acts (.taskDelete m) s (fun t =>
        taskState t.dev task = 0 ∧ taskOf t.dev task = {} ∧ t.dev.rd DRV_TASK_CMD_RESULT 0 task = 0 ∧ others t ∧
        Changes [.drv] [0x99] s t)) ∧
      (¬(st = 1 ∧ k.items = [] ∧ k.service = none) → refused (.taskDelete m)) ∧
      (st = 0 → refused (.taskSetPrio m)) ∧
      (st ≠ 0 → st ≠ 3 → Acts (.taskSetPrio m) s (fun t =>
        taskOf t.dev task = { k with prio := d.rd DRV_TASK_W0_PRIO 0 task, affinity := d.rd DRV_TASK_W0_AFFINITY 0 task } ∧
        t.dev.rd DRV_TASK_CMD_RESULT 0 task = 0 ∧ taskState t.dev task = st ∧ others t ∧ Changes [.drv] [0x99] s t)) ∧
      (st = 3 → idleCores → Acts (.taskSetPrio m) s (fun t =>
        taskState t.dev task = 3 ∧
        readyAt t.dev (d.rd DRV_TASK_W0_PRIO 0 task) =
          (readyAt d (d.rd DRV_TASK_W0_PRIO 0 task)).filter (· != task) ++ [task] ∧ Changes [.drv] [0x99] s t)) ∧
      (∀ v, let f := taskFlags d task ||| v % 2 ^ 32
        let hit := f &&& k.mask
        let holds : Prop := k.mask ≠ 0 ∧ (if k.all then hit = k.mask else hit ≠ 0)
        let n := d.rd DRV_TASK_W0_CORE 0 task
        (st = 0 → exec (.taskFlagSet m v) s = .next s ∧ exec (.taskFlagClr m v) s = .next s) ∧
        (st ≠ 0 → Acts (.taskFlagClr m v) s (fun t =>
          taskFlags t.dev task = andNot (taskFlags d task) (v % 2 ^ 32) % 2 ^ 32 ∧
          OnlyKeys [DRV_TASK_FLAGS_FLAGS.key 0 task] s t)) ∧
        (st ≠ 0 → ¬(st = 2 ∧ holds) → taskFlags d task < 2 ^ 32 → Acts (.taskFlagSet m v) s (fun t =>
          taskFlags t.dev task = f ∧ OnlyKeys [DRV_TASK_FLAGS_FLAGS.key 0 task] s t)) ∧
        (st = 2 → holds → taskFlags d task < 2 ^ 32 → drvNative d = true → coreServes d n = true → mayRun d task n = true →
          coreBusy d n = false → off → Acts (.taskFlagSet m v) s (fun t =>
            runs task n t ∧ t.dev.rd DRV_EVENTS_EVENTS 0 n = hit % 2 ^ 32 ∧ taskFlags t.dev task = andNot f hit % 2 ^ 32 ∧
            (t.dev.rd HDR_INT_RAW_RAW (pCore n)).testBit 3 = true ∧ others t ∧ ChangesParts [.drv] s t)))) ∧
    (isActive d pDrover = false ∨ d.sh.posts = [] → exec .eventPost s = .next s) ∧
    (∀ p rest, isActive d pDrover = true → d.sh.posts = p :: rest → p.item = none → d.sh.heldLines = [] →
      (taskState d p.task = 0 → Acts .eventPost s (fun t => t.dev.sh.posts = rest ∧ Changes [] [pDrover] s t)) ∧
      (taskState d p.task ≠ 0 → taskState d p.task ≠ 2 → taskFlags d p.task < 2 ^ 32 → p.flag < 32 → Acts .eventPost s (fun t =>
        t.dev.sh.posts = rest ∧ taskFlags t.dev p.task = (taskFlags d p.task ||| 2 ^ p.flag) ∧ Changes [] [0x99] s t))) ∧
    (∀ m n mask all, writeTaken d m (pDrover + 2) = true →
      let enders : List (Instr × Nat) := [(.drvWait m n mask all, 0x048), (.drvYield m n, 0x048), (.drvPreempted m n, 0x048)]
      let t0 := coreTask d n
      let only : Prop := ∀ j, j ≠ n → coreServes d j = false
      (¬(m = n ∧ n < 8) → ∀ c ∈ enders, exec c.1 s =
        .next { s with dev := report ⟨pDrover, 0x40, 0, 1, m, regAddr (pDrover + 2) (c.2 + 0x40 * n)⟩ d }) ∧
      (m = n → n < 8 → coreBusy d n = false → ∀ c ∈ enders, exec c.1 s =
        .next { s with dev := refuseWrite pDrover 0x40 m (regAddr (pDrover + 2) (0x04C + 0x40 * n)) d }) ∧
      (m = n → n < 8 → coreBusy d n = true → off →
        (d.drv.ready = [] → slotOf d n = [] → d.on DRV_TASK_W0_CANCEL_PENDING 0 t0 = true → ∀ c ∈ enders, Acts c.1 s (fun t =>
          taskState t.dev t0 = 1 ∧ t.dev.rd DRV_TASK_W0_CANCEL_PENDING 0 t0 = 0 ∧ coreBusy t.dev n = false ∧
          t.mem = s.mem)) ∧
        (d.drv.ready = [] → slotOf d n = [] → d.on DRV_TASK_W0_CANCEL_PENDING 0 t0 = false → (taskOf d t0).items = [] →
          (mask % 2 ^ 32 = 0 ∨ taskFlags d t0 &&& (mask % 2 ^ 32) = 0) → Acts (.drvWait m n mask all) s (fun t =>
            taskState t.dev t0 = 2 ∧ coreBusy t.dev n = false ∧ (taskOf t.dev t0).mask = mask % 2 ^ 32 ∧
            (taskOf t.dev t0).all = all ∧ n ∉ t.dev.drv.preempts ∧ t.mem = s.mem)) ∧
        (∀ u p, d.on DRV_TASK_W0_CANCEL_PENDING 0 t0 = false → drvNative d = true → coreServes d n = true → only →
          d.drv.ready = [(p, [u])] → p = (taskOf d u).prio → (taskOf d t0).prio < p → p < 16 → mayRun d u n = true → u ≠ t0 →
          ∀ c ∈ [Instr.drvYield m n, .drvPreempted m n], Acts c s (fun t =>
            runs u n t ∧ taskState t.dev t0 = 3 ∧ readyAt t.dev (taskOf d t0).prio = [t0] ∧
            t.dev.rd DRV_EVENTS_EVENTS 0 n = (taskFlags d u &&& (taskOf d u).mask) % 2 ^ 32 ∧ ChangesParts [.drv] s t)))) ∧
    (∀ m n, pageReadable d m (pDrover + 2) = true →
      (¬(m = n ∧ n < 8) → exec (.drvSlotTake m n) s =
        .next { s with dev := answer 0 (report ⟨pDrover, 0x40, 0, 0, m, regAddr (pDrover + 2) (0x078 + 0x40 * n)⟩ d) }) ∧
      (m = n → n < 8 → drvNative d = true ∨ coreBusy d n = true ∨ coreServes d n = false ∨ slotOf d n = [] →
        Acts (.drvSlotTake m n) s (fun t => t.dev.sh.readData = toBytes 4 0 ∧ t.dev.drv = d.drv ∧
          Changes [] [0x9A] s t)) ∧
      (∀ t0 rest, m = n → n < 8 → drvNative d = false → coreBusy d n = false → coreServes d n = true →
        slotOf d n = t0 :: rest → d.drv.ready = [] → off → Acts (.drvSlotTake m n) s (fun t =>
          t.dev.sh.readData = toBytes 4 (2 ^ 31 + t0) ∧ runs t0 n t ∧ slotOf t.dev n = rest ∧
          t.dev.rd DRV_EVENTS_EVENTS 0 n = (taskFlags d t0 &&& (taskOf d t0).mask) % 2 ^ 32 ∧ ChangesParts [.drv] s t)))

/-- On a device that is not in reset: a read of DRV_ITEM by the core's own master gives the item in service, else puts
the oldest available item in service, else reads VALID 0; another master's access is captured with code 0x40. A
disposition by a core without an item in service is captured with code 0x41. RETURN hands the manifest of the
window, FROM_TASK set and SRC kept, to the Waystation, ENQUEUE puts it on its queue or gives RESULT 2 or 3 and
leaves the item in service, and DISCARD takes 1 from the count of its caravan; each accepted one is in progress
until it completes, a RETURN only once the Waystation has taken it, and then the flow's count falls. A post that
carries an item of a flow without another makes it available to its task. A due timer fires in the tick of its
instant, sets FIRED and its flag, and goes on by its period or is disarmed; an arm with an instant in the past fires
at once with LATE; a disarm forgets the instant. (Clauses with the ledger off state all of memory.) -/
def Obligations.DroverItemsAndTimers : Prop :=
  ∀ s : State, frozen s.dev = false →
    let d := s.dev
    let off : Prop := d.on DRV_LEDGER_CFG_EN = false
    (∀ m n, pageReadable d m (pDrover + 2) = true →
      let t0 := coreTask d n
      let k := taskOf d t0
      (¬(m = n ∧ n < 8) → exec (.drvItemTake m n) s =
        .next { s with dev := answer 0 (report ⟨pDrover, 0x40, 0, 0, m, regAddr (pDrover + 2) (0x050 + 0x40 * n)⟩ d) }) ∧
      (m = n → n < 8 →
        (coreBusy d n = false ∨ (k.service = none ∧ k.items = []) → Acts (.drvItemTake m n) s (fun t =>
          t.dev.sh.readData = toBytes 4 0 ∧ t.dev.rd DRV_ITEM_VALID 0 n = 0 ∧ Changes [] [0x9A] s t)) ∧
        (∀ i, coreBusy d n = true → k.service = some i → Acts (.drvItemTake m n) s (fun t =>
          t.dev.sh.readData = toBytes 4 (2 ^ 31 + i.flow % 2 ^ 16) ∧ t.dev.rd DRV_ITEM_VALID 0 n = 1 ∧
          (∀ p ∈ manFields.zip (manifestWords i.x), t.dev.rd p.1 0 n = p.2 % 2 ^ 32) ∧ Changes [] [0x9A] s t)) ∧
        (∀ i l, coreBusy d n = true → k.service = none → k.items = i :: l → off → Acts (.drvItemTake m n) s (fun t =>
          t.dev.sh.readData = toBytes 4 (2 ^ 31 + i.flow % 2 ^ 16) ∧ taskOf t.dev t0 = { k with items := l, service := some i } ∧
          (∀ p ∈ manFields.zip (manifestWords i.x), t.dev.rd p.1 0 n = p.2 % 2 ^ 32) ∧ Changes [.drv] [0x9A] s t)))) ∧
    (∀ m n, writeTaken d m (pDrover + 2) = true →
      let t0 := coreTask d n
      let k := taskOf d t0
      let cmds : List Instr := [.disposeReturn m n, .disposeQueue m n, .disposeDiscard m n]
      (¬(m = n ∧ n < 8) → ∀ c ∈ cmds, exec c s =
        .next { s with dev := report ⟨pDrover, 0x40, 0, 1, m, regAddr (pDrover + 2) (0x074 + 0x40 * n)⟩ d }) ∧
      (m = n → n < 8 → coreBusy d n = false ∨ k.disposing ≠ none ∨ k.service = none → ∀ c ∈ cmds, exec c s =
        .next { s with dev := refuseWrite pDrover 0x41 m (regAddr (pDrover + 2) (0x074 + 0x40 * n)) d }) ∧
      (∀ i, m = n → n < 8 → coreBusy d n = true → k.disposing = none → k.service = some i →
        let y := givenBack d n i
        let begun : Nat → State → Prop := fun c t =>
          taskOf t.dev t0 = { k with disposing := some (c, n), service := some { i with x := y } } ∧ t.dev.rd DRV_DISPOSE_BUSY 0 n = 1 ∧ t.mem = s.mem
        Acts (.disposeReturn m n) s (fun t =>
          begun 1 t ∧ t.dev.q.toWayTask = d.q.toWayTask ++ [y] ∧ ChangesParts [.ser, .q, .drv, .eth] s t) ∧
        (manifestBad y = false → enqRefused d true y.queue = false → Acts (.disposeQueue m n) s (fun t =>
          begun 2 t ∧ qList t.dev y.queue = qList d y.queue ++ [y] ∧ ChangesParts [.ser, .q, .drv, .eth] s t)) ∧
        (manifestBad y = true ∨ enqRefused d true y.queue = true → Acts (.disposeQueue m n) s (fun t =>
          t.dev.rd DRV_DISPOSE_RESULT 0 n = (if manifestBad y then 3 else 2) ∧ taskOf t.dev t0 = k ∧
          t.dev.q.lists = d.q.lists ∧ ChangesParts [.ser, .eth] s t)) ∧
        Acts (.disposeDiscard m n) s (fun t =>
          begun 3 t ∧ (∀ v, caravanAt d y.head = some v → 1 < v.refs →
            caravanAt t.dev y.head = some { v with refs := v.refs - 1 })))) ∧
    (∀ t0, let k := taskOf d t0
      (k.disposing = none ∨ k.service = none → exec (.disposeDone t0) s = .next s) ∧
      (∀ n i, k.disposing = some (1, n) → k.service = some i →
        (∃ y ∈ d.q.toWayTask, y.head = i.x.head) → exec (.disposeDone t0) s = .next s) ∧
      (∀ c n i, k.disposing = some (c, n) → k.service = some i → (c = 1 → ∀ y ∈ d.q.toWayTask, y.head ≠ i.x.head) →
        d.drv.parked = [] → off → Acts (.disposeDone t0) s (fun t =>
          taskOf t.dev t0 = { k with service := none, disposing := none } ∧ t.dev.rd DRV_DISPOSE_BUSY 0 n = 0 ∧
          t.dev.rd DRV_DISPOSE_RESULT 0 n = 0 ∧ flowCount t.dev i.flow = flowCount d i.flow - 1 ∧
          Changes [.way, .drv] [0x9A] s t))) ∧
    (∀ p x rest, isActive d pDrover = true → d.sh.posts = p :: rest → p.item = some x → d.sh.heldLines = [] →
      taskState d p.task ≠ 0 → taskState d p.task ≠ 2 → itemCount d < 32768 → flowTaken d x.flow = false →
      d.drv.parked = [] → taskFlags d p.task < 2 ^ 32 → p.flag < 32 → Acts .eventPost s (fun t =>
        t.dev.sh.posts = rest ∧ taskFlags t.dev p.task = (taskFlags d p.task ||| 2 ^ p.flag) ∧
        (taskOf t.dev p.task).items = (taskOf d p.task).items ++ [⟨x, p.task, p.flag, x.flow⟩] ∧
        Changes [.drv] [0x99] s t)) ∧
    (∀ n, let now := nowTotal d
      let t0 := d.rd DRV_TMR_CFG_TASK 0 n
      let per := d.rd DRV_TMR_PERIOD_NS 0 n
      (tabFind d.drv.timers n = none ∨ isActive d pDrover = false → exec (.drvTimerFire n) s = .next s) ∧
      (∀ a, tabFind d.drv.timers n = some a → now < a → exec (.drvTimerFire n) s = .next s) ∧
      (∀ a, tabFind d.drv.timers n = some a → a ≤ now → isActive d pDrover = true → off → taskState d t0 ≠ 2 →
        taskFlags d t0 < 2 ^ 32 → d.rd DRV_TMR_CFG_FLAG 0 n < 32 → Acts (.drvTimerFire n) s (fun t =>
          t.dev.rd DRV_TMR_STATUS_FIRED 0 n = 1 ∧
          tabFind t.dev.drv.timers n = (if per = 0 then none else some (a + per)) ∧
          t.dev.rd DRV_TMR_STATUS_ARMED 0 n = (if per = 0 then 0 else d.rd DRV_TMR_STATUS_ARMED 0 n) ∧
          taskFlags t.dev t0 = (if taskState d t0 = 0 then taskFlags d t0 else taskFlags d t0 ||| 2 ^ d.rd DRV_TMR_CFG_FLAG 0 n) ∧
          Changes [.drv] [0x99, 0x9B] s t))) ∧
    (∀ m v, writeTaken d m (pDrover + 3) = true →
      let n := d.rd DRV_TMR_IDX_TIMER
      let cfg : State → Prop := fun t =>
        t.dev.rd DRV_TMR_CFG_TASK 0 n = bitsOf v 27 16 ∧ t.dev.rd DRV_TMR_CFG_FLAG 0 n = bitsOf v 12 8
      (nowTotal d ≤ dueOf d n ∨ isActive d pDrover = false → Acts (.timerArm m v) s (fun t =>
        cfg t ∧ t.dev.rd DRV_TMR_CFG_EN 0 n = 1 ∧ t.dev.rd DRV_TMR_STATUS_ARMED 0 n = 1 ∧
        tabFind t.dev.drv.timers n = some (dueOf d n) ∧ Changes [.drv] [0x9B] s t)) ∧
      (dueOf d n < nowTotal d → isActive d pDrover = true → off → taskState d (bitsOf v 27 16) ≠ 2 →
        Acts (.timerArm m v) s (fun t =>
          cfg t ∧ t.dev.rd DRV_TMR_STATUS_LATE 0 n = 1 ∧ t.dev.rd DRV_TMR_STATUS_FIRED 0 n = 1 ∧
          (d.rd DRV_TMR_PERIOD_NS 0 n = 0 → tabFind t.dev.drv.timers n = none) ∧
          (∀ a, tabFind t.dev.drv.timers n = some a → nowTotal d < a) ∧ Changes [.drv] [pDrover, 0x99, 0x9B] s t)) ∧
      Acts (.timerDisarm m v) s (fun t =>
        cfg t ∧ t.dev.rd DRV_TMR_CFG_EN 0 n = 0 ∧ t.dev.rd DRV_TMR_STATUS_ARMED 0 n = 0 ∧
        tabFind t.dev.drv.timers n = none ∧ Changes [.drv] [0x9B] s t))

/-- On a device that is not in reset, for a lane that the variant has (clauses on states also for the reduced link of
ETH0): detection leads to training where the protocol trains and to LOCK else; training to LOCK, or to ACTIVE for
PCIe; lock to auto-negotiation, to the exchange or to ACTIVE; a failure without a link returns to state 1. In the
exchange the lane sends its frame at each interval, keeps a valid partner frame, and completes it once its own was
acknowledged, upshifting where R716 says so. An ACTIVE lane answers a frame with ACK 0 and reports a changed
partner. At the end of LINK_HOLD, LINK and the MAC's LINK_UP, SPEED and rate are set. A change of the loopback mode
of a lane in service returns it to LOCK and is refused on PCIe. PRBS may be enabled only with the owner Off; INJ_ONE
inverts one bit; LOCKED follows the checker, and its loss counts at least 64 errors (that count is the model's
reading, log entry 73). In any other state these events do nothing. -/
def Obligations.LanesComeUp : Prop :=
  ∀ s : State, frozen s.dev = false →
    let d := s.dev
    (∀ n, ¬(n = 8 ∨ (n < 8 ∧ present d (pLane n) = true)) → ∀ good gen width full speed frame fcs,
      ∀ c ∈ [Instr.laneSignalDetect n, .laneTrainDone n good gen width, .laneLockAchieved n, .laneLockTimeout n,
        .laneAutonegDone n good full speed, .capxInterval n, .capxFrameRx n frame fcs, .capxTimeout n, .upshiftTimeout n,
        .linkHoldExpire n], exec c s = .next s) ∧
    (∀ n, n = 8 ∨ (n < 8 ∧ present d (pLane n) = true) →
      let v := laneProto d n
      let st := laneState d n
      let l := laneOf d n
      let own : List Nat := if n < 8 then [pLane n] else []
      let next : Nat → State → Prop := fun k t =>
        laneState t.dev n = k ∧ laneProto t.dev n = v ∧ (∀ j, j ≠ n → laneOf t.dev j = laneOf d j) ∧
        Changes [.lanes] (pPcie :: own) s t
      let exchanged : Nat → State → Prop := fun speed t =>
        (laneOf t.dev n).speed = speed ∧
        (if capxRate t.dev n then
          next 4 t ∧ (laneOf t.dev n).exchange = true ∧ (laneOf t.dev n).heard = none else next 5 t)
      (st ≠ 1 → exec (.laneSignalDetect n) s = .next s) ∧
      (st = 1 → Acts (.laneSignalDetect n) s (fun t =>
        next (if v = 7 ∨ ((v = 5 ∨ v = 6) ∧ d.on LANE_CFG_TRAIN n = true) then 2 else 3) t ∧
        (n < 8 → t.dev.rd LANE_STATUS_LOS n = 0))) ∧
      (∀ good gen width,
        (st ≠ 2 → exec (.laneTrainDone n good gen width) s = .next s) ∧
        (st = 2 → v ≠ 7 → Acts (.laneTrainDone n true gen width) s (next 3)) ∧
        (st = 2 → laneLink d n = false → Acts (.laneTrainDone n false gen width) s (next 1)) ∧
        (st = 2 → v = 7 → Acts (.laneTrainDone n true gen width) s (fun t =>
          next 5 t ∧ (n = 4 → t.dev.rd PCIE_STATUS_DL_UP = 1 ∧ t.dev.rd PCIE_STATUS_LTSSM = 3 ∧
            t.dev.rd PCIE_STATUS_SPEED = min gen (d.rd PCIE_CFG_GEN) % 8)))) ∧
      (st ≠ 3 → exec (.laneLockAchieved n) s = .next s ∧ exec (.laneLockTimeout n) s = .next s) ∧
      (st = 3 → Acts (.laneLockAchieved n) s (fun t =>
        (if protoAutoneg v then next 4 t ∧ (laneOf t.dev n).speed = protoSpeed v else exchanged (protoSpeed v) t) ∧
        (n < 8 → t.dev.rd LANE_STATUS_LOL n = 0))) ∧
      (st = 3 → laneLink d n = false → v ≠ 7 → Acts (.laneLockTimeout n) s (fun t =>
        next 1 t ∧ (n < 8 → holding d (pLane n) = false →
          t.dev.rd LANE_LOL_EVENTS_COUNT n = satAdd (2 ^ 32 - 1) (d.rd LANE_LOL_EVENTS_COUNT n) 1))) ∧
      (∀ good full speed,
        let off : Prop := st ≠ 4 ∨ l.exchange = true ∨ protoAutoneg v = false
        (off → exec (.laneAutonegDone n good full speed) s = .next s) ∧
        (¬off → good = false ∨ full = false ∨ protoRate v speed = false → laneLink d n = false →
          Acts (.laneAutonegDone n good full speed) s (next 1)) ∧
        (¬off → protoRate v speed = true → Acts (.laneAutonegDone n true true speed) s (exchanged speed))) ∧
      (¬(st = 4 ∧ l.exchange = true) → exec (.capxInterval n) s = .next s ∧ exec (.capxTimeout n) s = .next s) ∧
      (∀ k, k = capxFields d n (if l.sent = none ∨ l.sent = some (capxFields d n 0) then l.seq else (l.seq + 1) % 65536) →
        let sends : State → Prop := fun t => t.dev.out = d.out ++ [.capxFrame n (k ++ toBytes 4 (crc32 0xFFFFFFFF k))]
        (st = 4 → l.exchange = true → l.heard = none ∨ l.acked = false → Acts (.capxInterval n) s (fun t =>
          sends t ∧ next 4 t ∧ (laneOf t.dev n).sent = some (capxFields d n 0))) ∧
        (∀ f, st = 4 → l.exchange = true → l.heard = some f → l.acked = true → n < 8 →
          (upshiftHolds d n f = false → Acts (.capxInterval n) s (fun t =>
            sends t ∧ next 5 t ∧ t.dev.rd LANE_STATUS_PARTNER_NATIVAR n = 1 ∧
            t.dev.rd LANE_PARTNER_ID_LO_ID n = partnerLo f % 2 ^ 32 ∧ t.dev.rd LANE_PARTNER_ID_HI_ID n = partnerHi f % 2 ^ 32)) ∧
          (upshiftHolds d n f = true → laneLink d n = false → Acts (.capxInterval n) s (fun t =>
            sends t ∧ laneState t.dev n = 1 ∧ laneProto t.dev n = 6 ∧ t.dev.rd LANE_STATUS_UPSHIFTED n = 1 ∧
            Changes [.lanes] [pLane n] s t))) ∧
        (∀ f fcs,
          let mine : Prop := ofBytesBE ((f.drop 12).take 2) = d.rd LANE_CAPX_CFG_ETYPE n ∧ capxRate d n = true ∧
            capxValid d n f fcs = true
          let ack := (f.getD 15 0).getLsbD 0
          let changed : Prop := partnerLo f ≠ d.rd LANE_PARTNER_ID_LO_ID n ∨ partnerHi f ≠ d.rd LANE_PARTNER_ID_HI_ID n
          (¬mine ∨ ¬(st = 5 ∨ (st = 4 ∧ l.exchange = true)) → exec (.capxFrameRx n f fcs) s = .next s) ∧
          (mine → st = 4 → l.exchange = true → Acts (.capxFrameRx n f fcs) s (fun t =>
            laneOf t.dev n = { l with
              heard := some f
              acked := l.acked || (ack && l.sent.isSome && ofBytesBE ((f.drop 18).take 2) == l.seq) } ∧
            Changes [.lanes] [] s t)) ∧
          (mine → st = 5 → Acts (.capxFrameRx n f fcs) s (fun t =>
            (laneOf t.dev n).heard = some f ∧
            (changed → t.dev.rd LANE_PARTNER_ID_LO_ID n = partnerLo f % 2 ^ 32 ∧
              (t.dev.rd HDR_INT_RAW_RAW (pLane n)).testBit 4 = true) ∧
            (ack = false → ∃ b, .capxFrame n b ∈ t.dev.out) ∧ (¬changed → ack = true → t.dev.out = d.out) ∧
            Changes [.lanes] (0xCE :: own) s t)))) ∧
      (st = 4 → l.exchange = true → n < 8 → Acts (.capxTimeout n) s (fun t =>
        next 5 t ∧ t.dev.rd LANE_STATUS_PARTNER_NATIVAR n = 0)) ∧
      (let fails : Prop := v = 6 ∧ d.rd LANE_CFG_PROTO n = 5 ∧ st ≠ 5 ∧ st ≠ 0
       (¬fails → exec (.upshiftTimeout n) s = .next s) ∧
       (fails → n < 8 → Acts (.upshiftTimeout n) s (fun t =>
         laneState t.dev n = 1 ∧ laneProto t.dev n = 5 ∧ t.dev.rd LANE_STATUS_UPSHIFT_FAIL n = 1 ∧
         (t.dev.rd HDR_INT_RAW_RAW (pLane n)).testBit 5 = true ∧ ChangesParts [.lanes, .eth] s t))) ∧
      (st ≠ 5 ∨ laneLink d n = true → exec (.linkHoldExpire n) s = .next s) ∧
      (∀ p, st = 5 → laneLink d n = false → v ≠ 7 → laneMac d n = some p → Acts (.linkHoldExpire n) s (fun t =>
        laneLink t.dev n = true ∧ t.dev.rd ETH_STATUS_LINK_UP p = 1 ∧ t.dev.rd ETH_STATUS_SPEED p = l.speed % 16 ∧
        t.dev.rd TM_OUT_RATE_MBPS 0 p = speedMbps l.speed % 2 ^ 16 ∧ (t.dev.rd HDR_INT_RAW_RAW (pEth p)).testBit 3 = true ∧
        Changes [.lanes, .eth] (pEth p :: 0x70 :: 0xCE :: own) s t)) ∧
      (st = 5 → laneLink d n = false → v = 7 → Acts (.linkHoldExpire n) s (fun t =>
        laneLink t.dev n = true ∧ Changes [.lanes] (0xCE :: own) s t))) ∧
    (∀ m n v, writeTaken d m (pLane (n % 8)) = true →
      let k := n % 8
      let enables : Nat → Prop := fun w => 2 ^ 30 ≤ w % 2 ^ 32 ∧ isOff d (laneOwner d k) = false
      (d.rd LANE_CFG_PROTO k = 7 → exec (.lpbkModeWrite m n v) s =
        .next { s with dev := refuseWrite (pLane k) 0x40 m (regAddr (pLane k) 0x04C) d }) ∧
      (d.rd LANE_CFG_PROTO k ≠ 7 → (v % 4 = d.rd LANE_LPBK_MODE k ∨ laneState d k = 0) → Acts (.lpbkModeWrite m n v) s (fun t =>
        t.dev.rd LANE_LPBK_MODE k = v % 4 ∧ t.dev.rd LANE_LPBK_TX_MUTE k = bitsOf v 2 2 ∧
        OnlyKeys [LANE_LPBK_MODE.key k 0, LANE_LPBK_TX_MUTE.key k 0] s t)) ∧
      (d.rd LANE_CFG_PROTO k ≠ 7 → v % 4 ≠ d.rd LANE_LPBK_MODE k → laneState d k ≠ 0 → Acts (.lpbkModeWrite m n v) s (fun t =>
        t.dev.rd LANE_LPBK_MODE k = v % 4 ∧ laneState t.dev k = 3 ∧ laneLink t.dev k = false ∧ ChangesParts [.lanes, .eth] s t)) ∧
      (enables v → exec (.prbsEnableWrite m n v) s =
        .next { s with dev := refuseWrite (pLane k) 0x40 m (regAddr (pLane k) 0x050) d }) ∧
      (¬enables v → Acts (.prbsEnableWrite m n v) s (fun t =>
        t.dev.rd LANE_PRBS_EN_GEN k = bitsOf v 31 31 ∧ t.dev.rd LANE_PRBS_EN_CHK k = bitsOf v 30 30 ∧
        t.dev.rd LANE_PRBS_PATTERN k = bitsOf v 18 16 ∧ t.dev.rd LANE_PRBS_INJ_RATE k = bitsOf v 12 8 ∧
        (bitsOf v 30 30 ≠ d.rd LANE_PRBS_EN_CHK k → t.dev.rd LANE_PRBS_STATUS_LOCKED k = 0) ∧
        t.dev.out = d.out ++ (if v % 2 = 1 ∧ bitsOf v 31 31 = 1 then [.prbsInvert k] else []) ∧ OnlyPages [pLane k] s t)) ∧
      (enables (prbsWord d k + 1) → exec (.prbsInjOne m n) s =
        .next { s with dev := refuseWrite (pLane k) 0x40 m (regAddr (pLane k) 0x050) d }) ∧
      (d.rd LANE_PRBS_EN_GEN k = 1 → d.rd LANE_PRBS_EN_CHK k < 2 → d.rd LANE_PRBS_BAUD k < 2 → d.rd LANE_PRBS_PATTERN k < 8 →
        d.rd LANE_PRBS_INJ_RATE k < 32 → isOff d (laneOwner d k) = true → Acts (.prbsInjOne m n) s (fun t =>
          t.dev.out = d.out ++ [.prbsInvert k] ∧ t.dev.rd LANE_PRBS_EN_GEN k = 1 ∧
          t.dev.rd LANE_PRBS_PATTERN k = d.rd LANE_PRBS_PATTERN k ∧
          (lpbkMode d k = 1 → d.rd LANE_PRBS_EN_CHK k = 1 → d.on LANE_PRBS_STATUS_LOCKED k = true → holding d (pLane k) = false →
            t.dev.rd LANE_PRBS_ERR_COUNT k = satAdd (2 ^ 32 - 1) (d.rd LANE_PRBS_ERR_COUNT k) 1) ∧
          OnlyPages [pLane k] s t))) ∧
    (∀ n errs,
      (¬(n < 8 ∧ d.on LANE_PRBS_EN_CHK n = true) →
        exec (.prbsCheckerLocked n) s = .next s) ∧
      (¬(n < 8 ∧ d.on LANE_PRBS_EN_CHK n = true ∧ d.on LANE_PRBS_STATUS_LOCKED n = true) →
        exec (.prbsCheckerUnlocked n errs) s = .next s) ∧
      (n < 8 → d.on LANE_PRBS_EN_CHK n = true → Acts (.prbsCheckerLocked n) s (fun t =>
        t.dev.rd LANE_PRBS_STATUS_LOCKED n = 1 ∧ OnlyKeys [LANE_PRBS_STATUS_LOCKED.key n 0] s t)) ∧
      (n < 8 → d.on LANE_PRBS_EN_CHK n = true → d.on LANE_PRBS_STATUS_LOCKED n = true → Acts (.prbsCheckerUnlocked n errs) s (fun t =>
        t.dev.rd LANE_PRBS_STATUS_LOCKED n = 0 ∧
        (holding d (pLane n) = false →
          t.dev.rd LANE_PRBS_ERR_COUNT n = satAdd (2 ^ 32 - 1) (d.rd LANE_PRBS_ERR_COUNT n) (max 64 errs)) ∧
        OnlyPages [pLane n] s t)))

/-- On a device that is not in reset: LOS and LOL outside their states do nothing; in them the lane without a link
returns to state 1, and a lost link takes LINK_UP, SPEED and the rate of its MAC down. A frame at a port in service
without loopback is discarded and counted once, by FCS, then length; a PAUSE or PFC frame is consumed and pauses
what it names; any other is admitted for class 1, its bytes stand in a caravan whose manifest goes before the
Waystation, or it counts as refused. The frame handed to a port is sent with its tag, padding and FCS, counts in
TX_OK, and its caravan loses a reference; under a far-end loopback it is dropped. A pause ends; an XOFF in force is
repeated; a verify ends in success or, at the third failure, in VERIFY 3. An outbound access needs a root port, a
free engine and DL_UP; its completion or timeout ends it; the PCIe link going down ends what is outstanding.
EP_READY is set by its write. (Clauses on the caravan's bytes: canonical memory.) -/
def Obligations.MacsAndPcieAct : Prop :=
  ∀ s : State, frozen s.dev = false →
    let d := s.dev
    (∀ n tx rx, n < 8 → present d (pLane n) = true →
      let st := laneState d n
      let counted : Fld → State → Prop := fun F t => holding d (pLane n) = false →
        t.dev.rd F n = satAdd (2 ^ 32 - 1) (d.rd F n) 1
      (¬(1 ≤ st ∧ st ≤ 4) → exec (.laneLos n tx rx) s = .next s) ∧
      (¬(3 ≤ st ∧ st ≤ 5) → exec (.laneLol n tx rx) s = .next s) ∧
      (st = 1 → Acts (.laneLos n tx rx) s (fun t =>
        t.dev.rd LANE_STATUS_LOS n = 1 ∧ OnlyKeys [LANE_STATUS_LOS.key n 0] s t)) ∧
      (2 ≤ st → st ≤ 4 → laneLink d n = false → laneProto d n ≠ 7 → Acts (.laneLos n tx rx) s (fun t =>
        t.dev.rd LANE_STATUS_LOS n = 1 ∧ laneState t.dev n = 1 ∧ counted LANE_LOS_EVENTS_COUNT t ∧
        Changes [.lanes] [pLane n] s t)) ∧
      (3 ≤ st → st ≤ 5 → laneLink d n = false → laneProto d n ≠ 7 → Acts (.laneLol n tx rx) s (fun t =>
        t.dev.rd LANE_STATUS_LOL n = 1 ∧ laneState t.dev n = 1 ∧ counted LANE_LOL_EVENTS_COUNT t ∧
        Changes [.lanes] [pLane n] s t)) ∧
      (∀ p, st = 5 → laneLink d n = true → laneProto d n ≠ 7 → laneMac d n = some p → Acts (.laneLol n tx rx) s (fun t =>
        laneState t.dev n = 1 ∧ laneLink t.dev n = false ∧ t.dev.rd ETH_STATUS_LINK_UP p = 0 ∧
        t.dev.rd ETH_STATUS_SPEED p = 0 ∧ t.dev.rd TM_OUT_RATE_MBPS 0 p = 0 ∧ (ethOf t.dev p).paused = [] ∧
        (tx = false → counted LANE_LINK_DOWN_COUNT t) ∧ (t.dev.rd HDR_INT_RAW_RAW (pEth p)).testBit 3 = true ∧
        (tx = false → handedTo t.dev p = handedTo d p) ∧
        (tx = true → ethUp d p = true → handedTo t.dev p = (handedTo d p).drop 1) ∧ t.mem = s.mem))) ∧
    (∀ p q f good, let lane := macLane d p
      let counts : Fld → State → Prop := fun F t =>
        (holding d (pEth p) = false → t.dev.rd F p = satAdd (2 ^ 32 - 1) (d.rd F p) 1) ∧ OnlyPages [pEth p] s t
      let plain : Prop := ethUp d p = true ∧ lpbkNear d lane = false ∧
        ¬(lane < 8 ∧ capxRate d lane = true ∧ be f 12 2 = d.rd LANE_CAPX_CFG_ETYPE lane)
      let good' : Prop := good = true ∧ 60 ≤ f.length ∧ f.length ≤ maxLen d p
      let pause : Prop := be f 12 2 = 0x8808 ∧ (be f 14 2 = 1 ∨ be f 14 2 = 0x0101)
      let room := admitTest d 1 (cellsFor (headRoom d) (maxLen d p))
      let named := fun k => (be f 16 2).testBit k && (d.rd ETH_PFC_RX_EN_EN p).testBit k
      (ethUp d p = false ∨ lpbkNear d lane = true → exec (.ethFrameRx p q f good) s = .next s) ∧
      (plain → good = false → Acts (.ethFrameRx p q f good) s (counts ETH_RX_FCS_ERR_COUNT)) ∧
      (plain → good = true → f.length < 60 → Acts (.ethFrameRx p q f good) s (counts ETH_RX_RUNT_COUNT)) ∧
      (plain → good = true → maxLen d p < f.length → Acts (.ethFrameRx p q f good) s (counts ETH_RX_LONG_COUNT)) ∧
      (plain → good' → pause → be f 14 2 = 1 → Acts (.ethFrameRx p q f good) s (fun t =>
        (∀ k, k ∈ (ethOf t.dev p).paused ↔ if k = 8 ∧ d.on ETH_CFG_PAUSE_RX p = true then be f 16 2 ≠ 0
          else k ∈ (ethOf d p).paused) ∧ Changes [.eth] [0x70, pEth p] s t)) ∧
      (plain → good' → pause → be f 14 2 ≠ 1 → Acts (.ethFrameRx p q f good) s (fun t =>
        (∀ k, k ∈ (ethOf t.dev p).paused ↔ if k < 8 ∧ named k = true then be f (18 + 2 * k) 2 ≠ 0
          else k ∈ (ethOf d p).paused) ∧ Changes [.eth] [0x70, pEth p] s t)) ∧
      (plain → good' → ¬pause → d.rst.inboundClosed = true → Acts (.ethFrameRx p q f good) s (counts ETH_RX_REFUSED_COUNT)) ∧
      (plain → good' → ¬pause → d.rst.inboundClosed = false → room = none → Acts (.ethFrameRx p q f good) s (fun t =>
        (holding d (pEth p) = false → t.dev.rd ETH_RX_REFUSED_COUNT p = satAdd (2 ^ 32 - 1) (d.rd ETH_RX_REFUSED_COUNT p) 1) ∧
        t.dev.ser.caravans = d.ser.caravans ∧ Changes [.ser, .eth] chargePages s t)) ∧
      (plain → good' → ¬pause → d.rst.inboundClosed = false → room ≠ none → s.memCanonical = true →
        Acts (.ethFrameRx p q f good) s (fun t =>
          (∃ h, t.dev.q.toWay = d.q.toWay ++
              [{ head := h, tc := ethPrio d p f, len := f.length, flags := 2 ^ fStampValid, src := 0x3000 + p,
                 stampNs := (manifestForm (stampIn p q d)).1, stampS := (manifestForm (stampIn p q d)).2 }] ∧
            readFrame t.dev t.mem h 0 f.length = f) ∧
          ChangesParts [.time, .ser, .q, .eth, .memory] s t))) ∧
    (∀ p q k, let lane := macLane d p
      (ethMayStart d p = false ∨ handedTo d p = [] → exec (.ethFrameTx p q k) s = .next s) ∧
      (∀ x rest, ethMayStart d p = true → handedTo d p = x :: rest → lpbkNear d lane = false →
        let sent : State → Prop := fun t => handedTo t.dev p = rest ∧
          (∀ v, caravanAt d x.head = some v → 1 < v.refs → caravanAt t.dev x.head = some { v with refs := v.refs - 1 }) ∧
          t.mem = s.mem
        let f := ethBytes p x d s.mem
        (lpbkMode d lane ≠ 3 → framePoisoned d x.head 0 x.len = false → Acts (.ethFrameTx p q k) s (fun t =>
          sent t ∧ .ethFrame p (f ++ toBytes 4 (crc32 0xFFFFFFFF f)) ∈ t.dev.out ∧
          (holding d (pEth p) = false → t.dev.rd ETH_TX_OK_COUNT p = satAdd (2 ^ 32 - 1) (d.rd ETH_TX_OK_COUNT p) 1))) ∧
        (lpbkMode d lane ≠ 3 → framePoisoned d x.head 0 x.len = true → Acts (.ethFrameTx p q k) s sent) ∧
        (lpbkMode d lane = 3 → Acts (.ethFrameTx p q k) s sent))) ∧
    (∀ p prio,
      (¬(p < 6 ∧ prio ∈ (ethOf d p).paused) → exec (.pauseExpire p prio) s = .next s) ∧
      (p < 6 → prio ∈ (ethOf d p).paused → Acts (.pauseExpire p prio) s (fun t =>
        (ethOf t.dev p).paused = (ethOf d p).paused.filter (· != prio) ∧
        t.dev.rd TM_OUT_STATUS_PAUSED 0 p =
          (if 8 ∈ (ethOf t.dev p).paused then 255 else ((ethOf t.dev p).paused.foldl setBit 0) % 2 ^ 8) ∧
        Changes [.eth] [0x70] s t)) ∧
      (let due : Prop := p < 6 ∧ prio ∈ xoffOf d p ∧ isActive d (pEth p) = true ∧ 2 ≤ d.rd SERAI_CLASS_STATE_STATE 0 1
       (due → Acts (.xoffRefresh p prio) s (fun t =>
         t.dev.out = d.out ++ [.pauseFrame p prio (d.rd ETH_PAUSE_QUANTA p)] ∧ OnlyPages [pEth p] s t)) ∧
       (¬due → exec (.xoffRefresh p prio) s = .next s))) ∧
    (∀ p, let on : Prop := p < 6 ∧ d.rd ETH_STATUS_VERIFY p = 1
      let v := (ethOf d p).verifies
      (¬on → exec (.preemptVerifyTimeout p) s = .next s ∧ exec (.preemptVerifyResponse p) s = .next s) ∧
      (on → Acts (.preemptVerifyResponse p) s (fun t =>
        t.dev.rd ETH_STATUS_VERIFY p = 2 ∧ t.dev.rd ETH_STATUS_PREEMPT_ACTIVE p = 1 ∧
        OnlyKeys [ETH_STATUS_VERIFY.key p 0, ETH_STATUS_PREEMPT_ACTIVE.key p 0] s t)) ∧
      (on → v < 2 → Acts (.preemptVerifyTimeout p) s (fun t =>
        (ethOf t.dev p).verifies = v + 1 ∧ t.dev.out = d.out ++ [.verify p] ∧ Changes [.eth] [] s t)) ∧
      (on → 2 ≤ v → Acts (.preemptVerifyTimeout p) s (fun t =>
        t.dev.rd ETH_STATUS_VERIFY p = 3 ∧ (t.dev.rd HDR_INT_RAW_RAW (pEth p)).testBit 4 = true ∧
        Changes [.eth] (eventPages (pEth p)) s t))) ∧
    (∀ m be', writeTaken d m pPcie = true →
      let idle : Prop := d.on PCIE_CFG_MODE = true ∨ isActive d pPcie = false ∨ d.on PCIE_OB_CMD_BUSY = true
      let a := d.rd PCIE_OB_ADDR_LO_ADDR + 2 ^ 32 * d.rd PCIE_OB_ADDR_HI_ADDR
      (∀ c ∈ [(Instr.pcieObMemRead m be', 0), (.pcieObMemWrite m be', 1), (.pcieObCfgRead m be', 2), (.pcieObCfgWrite m be', 3)],
        (idle → exec c.1 s = .next s) ∧
        (¬idle → d.on PCIE_STATUS_DL_UP = false → Acts c.1 s (fun t =>
          t.dev.rd PCIE_OB_CMD_RESULT = 4 ∧ OnlyKeys [PCIE_OB_CMD_RESULT.key 0 0] s t)) ∧
        (¬idle → d.on PCIE_STATUS_DL_UP = true → Acts c.1 s (fun t =>
          t.dev.out = d.out ++ [.pcieRequest c.2 a (be' % 16) (if c.2 % 2 = 1 then d.rd PCIE_OB_DATA_DATA else 0)] ∧
          (c.2 = 1 → t.dev.rd PCIE_OB_CMD_RESULT = 0 ∧ t.dev.pcie = d.pcie) ∧
          (c.2 ≠ 1 → t.dev.rd PCIE_OB_CMD_BUSY = 1 ∧ (∃ r, t.dev.pcie.ob = some r ∧ r.op = c.2)) ∧
          Changes [.pcie] [pPcie] s t))) ∧
      Acts (.epReadyWrite m) s (fun t =>
        t.dev.rd PCIE_CFG_EP_READY = 1 ∧ OnlyKeys [PCIE_CFG_EP_READY.key 0 0] s t)) ∧
    (∀ status data,
      (d.pcie.ob = none → exec (.pcieCompletion status data) s = .next s ∧ exec (.pcieCompletionTimeout none) s = .next s) ∧
      (∀ r, d.pcie.ob = some r →
        Acts (.pcieCompletion status data) s (fun t =>
          t.dev.pcie = { d.pcie with ob := none } ∧ t.dev.rd PCIE_OB_CMD_BUSY = 0 ∧
          t.dev.rd PCIE_OB_CMD_RESULT = min 2 status ∧
          t.dev.rd PCIE_OB_DATA_DATA = (if r.op % 2 = 0 ∧ status = 0 then data % 2 ^ 32 else d.rd PCIE_OB_DATA_DATA) ∧
          Changes [.pcie] [pPcie] s t) ∧
        Acts (.pcieCompletionTimeout none) s (fun t =>
          t.dev.pcie = { d.pcie with ob := none } ∧ t.dev.rd PCIE_OB_CMD_BUSY = 0 ∧ t.dev.rd PCIE_OB_CMD_RESULT = 3 ∧
          (holding d pPcie = false → d.rd DIAG_SNAP_AUTO < 2 →
            t.dev.rd PCIE_CPL_TO_COUNT = satAdd (2 ^ 32 - 1) (d.rd PCIE_CPL_TO_COUNT) 1) ∧
          Changes [.pcie] (eventPages pPcie) s t))) ∧
    (∀ n, txNext d n = none ∨ ringIsBuffer d n = false → exec (.pcieCompletionTimeout (some n)) s = .next s) ∧
    (∀ n i, txNext d n = some i → ringIsBuffer d n = true → ringMaster d n = 17 →
      memVerdict d 17 .read (entryAddr d n i) 32 = .granted →
      let w := fun k => wordAt (memRead s.mem (entryAddr d n i) 32) k
      bitsOf (w 2) 17 0 ≠ 0 → admitTest d 2 (cellsFor (headRoom d) (bitsOf (w 2) 17 0)) ≠ none →
      Acts (.pcieCompletionTimeout (some n)) s (fun t =>
        (ringOf t.dev n).waits = (ringOf d n).waits ++ [⟨i, 0, (w 3).testBit 24, some (4, 0, 0), false⟩] ∧
        (ringOf t.dev n).next = (i + 1) % 2 ^ 32 ∧ t.mem = s.mem ∧ t.dev.q.toWay = d.q.toWay)) ∧
    (d.on PCIE_STATUS_DL_UP = false → exec .pcieLinkDown s = .next s) ∧
    (d.on PCIE_STATUS_DL_UP = true → Acts .pcieLinkDown s (fun t =>
      t.dev.rd PCIE_STATUS_DL_UP = 0 ∧ t.dev.rd PCIE_STATUS_LTSSM = 0 ∧ t.dev.rd PCIE_STATUS_SPEED = 0 ∧
      t.dev.pcie.ob = none ∧ (t.dev.rd HDR_INT_RAW_RAW pPcie).testBit 3 = true ∧
      (∀ n, 4 ≤ n ∧ n ≤ 7 → laneProto d n = 7 → 2 ≤ laneState d n → laneState t.dev n = 1) ∧
      t.mem = s.mem ∧ t.dev.q = d.q))

/-- On a device that is not in reset: while CONVOY or CIPH is not Active no message is taken, and no HELLO is sent. The
oldest message handed to the engine leaves it; where no AUTH key of its generation is held, its ICV fails, its SYSID
differs or it is a duplicate, every member stays as it was. A fresh one is marked in its origin's window; a HELLO
makes the member ALIVE, a neighbour where it came straight; a RECORD raises the Lamport clock and, into an empty
bucket, is stored; a SUMMARY of a running exchange counts down; a HO_REQ for an associated station freezes it; a
HO_DATA with a wrong record ends the command with RESULT 5 and a good one makes the entry; HO_DONE removes the
station; HO_NAK ends the command; a DEPART separates the member; an ACK ends the wait. A HELLO takes the next SEQ,
and stands on the queue of a single link with its bytes. (Whose TTL and SENDER the ICV covers is the model's reading
of R742, DEDUCED, log entry 77. Clauses on bytes: canonical memory.) -/
def Obligations.ConvoyMessagesAct : Prop :=
  ∀ s : State, frozen s.dev = false →
    let d := s.dev
    let rx : List Instr := [.helloRx, .recordRx, .summaryRx, .hoReqRx, .hoDataRx, .hoDoneRx, .hoNakRx, .departRx]
    (isActive d pConvoy = false ∨ isActive d pCiph = false → ∀ c ∈ rx, exec c s = .next s) ∧
    ((isActive d pConvoy = false ∧ d.cvy.departing = false) ∨ isActive d pCiph = false → exec .ackRx s = .next s) ∧
    (isActive d pConvoy = true → isActive d pCiph = true → handedTo d 11 = [] → ∀ c ∈ Instr.ackRx :: rx, Acts c s (fun t =>
      t.dev.cvy.members = d.cvy.members ∧ Changes [.cvy] [0xD0, 0xD2, 0xCE] s t)) ∧
    (∀ x rest, isActive d pConvoy = true → isActive d pCiph = true → handedTo d 11 = x :: rest →
      let g := msgOf x d s.mem
      let y := refDown x.head (setHanded 11 rest d)
      let passes : Prop := y.rd SERAI_CLASS_STATE_STATE 0 6 ≠ 3 ∧ g.field 0 1 = 1 ∧ g.ttl ≠ 0 ∧ g.ttl ≤ 16 ∧
        genHeld d g.keygen 0 uDec = true ∧ icvOk g d = true ∧ g.field 16 8 = cvySysid d ∧
        (g.dest = 0xFFFF ∨ g.dest = cvySelf d) ∧ g.origin ≠ cvySelf d
      let id := g.origin
      (∀ c ∈ [(Instr.helloRx, 1), (.recordRx, 2), (.ackRx, 3), (.summaryRx, 4), (.hoReqRx, 5), (.hoDataRx, 6), (.hoDoneRx, 7),
          (.hoNakRx, 8), (.departRx, 10)], msgKnown g = true → g.type = c.2 →
        genHeld d g.keygen 0 uDec = false ∨ icvOk g d = false ∨ g.field 16 8 ≠ cvySysid d ∨
          (g.origin ≠ cvySelf d ∧ seqVerdict g d = .duplicate) → Acts c.1 s (fun t =>
          handedTo t.dev 11 = rest ∧ t.dev.cvy.members = d.cvy.members)) ∧
      (∀ k, passes → seqVerdict g d = .fresh k →
        let marked : State → Prop := fun t => handedTo t.dev 11 = rest ∧
          (memberOf t.dev id).inc = k.inc ∧ (memberOf t.dev id).high = k.high ∧ (memberOf t.dev id).map = k.map
        let m' := fun F (t : State) => t.dev.rd F 0 id
        (g.type = 1 → Acts .helloRx s (fun t => marked t ∧
          memberState t.dev id = 1 ∧ (memberOf t.dev id).last = d.tb.elapsed ∧
          m' CVY_MBR_NODE_LO_NODE t = be g.body 8 4 ∧ m' CVY_MBR_NODE_HI_NODE t = be g.body 4 4 ∧
          m' CVY_MBR_STATE_PARENT t = be g.body 12 2 % 2 ^ 10 ∧ m' CVY_MBR_STATE_HOPS t = be g.body 14 1 % 2 ^ 5 ∧
          (g.sender = id → isNeighbour t.dev id = true ∧ m' CVY_MBR_VIA_KIND t = g.link.kind % 2 ^ 4 ∧
            m' CVY_MBR_VIA_INDEX t = g.link.idx % 2 ^ 11))) ∧
        (g.type = 2 → d.rd CVY_LAMPORT_L < 2 ^ 32 → Acts .recordRx s (fun t => marked t ∧
          d.rd CVY_LAMPORT_L ≤ t.dev.rd CVY_LAMPORT_L ∧
          (∀ r ∈ splitRecords 7 g.body, rCounter r ≤ t.dev.rd CVY_LAMPORT_L) ∧
          (∀ r a, splitRecords 7 g.body = [r] → (findRec (rKind r) (rKey r) d s.mem).1 = none →
            (findRec (rKind r) (rKey r) d s.mem).2.1 = some a → memVerdict d 18 .write a 256 = .granted → a + 256 ≤ seraiBase →
            s.memCanonical = true → memRead t.mem a 192 = r))) ∧
        (g.type = 4 → ∀ n, tabFind d.cvy.syncing g.sender = some n → Acts .summaryRx s (fun t => marked t ∧
          tabFind t.dev.cvy.syncing g.sender = (if n ≤ 1 then none else some (n - 1)))) ∧
        (g.type = 5 → expOf d (hoAddr g) = none →
          (∀ e, (staEntries d).find? (fun e => staLive d e && stationAddr d e == hoAddr g) = some e →
            (staState d e = 3 ∨ staState d e = 4) → (staOf d e).stopping = false → Acts .hoReqRx s (fun t => marked t ∧
              t.dev.cvy.exps = d.cvy.exps ++ [⟨hoAddr g, e, g.sender, cvyGen d, none⟩] ∧ (staOf t.dev e).stopping = true)) ∧
          ((staEntries d).find? (fun e => staLive d e && stationAddr d e == hoAddr g) = none → Acts .hoReqRx s (fun t => marked t ∧
            t.dev.cvy.exps = d.cvy.exps ∧ t.dev.sta = d.sta))) ∧
        (g.type = 6 → ∀ h, d.cvy.ho = some h → h.peer = g.sender →
          let b := padTo 512 (g.body.take 512)
          let good : Prop := wordAt b 0 % 2 ^ 8 = 1 ∧ bitsOf (wordAt b 0) 31 16 = 0x200 ∧ wordAt b 127 = recordCrc b ∧
            (staState d h.entry = 0 ∨ staState d h.entry = 1) ∧ imageCheck d h.entry (recordImage b) true = none
          ofBytes ((b.drop 0x10).take 6) = h.addr →
          (¬good → Acts .hoDataRx s (fun t => marked t ∧ t.dev.cvy.ho = none ∧ t.dev.rd CVY_HO_CMD_BUSY = 0 ∧
            t.dev.rd CVY_HO_CMD_RESULT = 5 ∧ (t.dev.rd HDR_INT_RAW_RAW pConvoy).testBit 6 = true ∧ t.dev.sta = d.sta)) ∧
          (good → ((b.drop 0x140).take 128).all (· == 0) = true → Acts .hoDataRx s (fun t => marked t ∧
            t.dev.cvy.ho = none ∧ t.dev.rd CVY_HO_CMD_RESULT = 0 ∧ stationAddr t.dev h.entry = h.addr ∧
            staState t.dev h.entry = (if d.on CVY_CFG_AUTO_THAW then wordAt b 1 % 8 else 5)))) ∧
        (g.type = 7 → ∀ e, expOf d (hoAddr g) = some e → e.peer = g.sender → e.record.isSome = true → staState d e.entry = 5 →
          Acts .hoDoneRx s (fun t => marked t ∧ expOf t.dev (hoAddr g) = none ∧ staState t.dev e.entry = 6)) ∧
        (g.type = 8 → ∀ h, d.cvy.ho = some h → h.peer = g.sender → h.addr = hoAddr g → Acts .hoNakRx s (fun t => marked t ∧
          t.dev.cvy.ho = none ∧ t.dev.rd CVY_HO_CMD_BUSY = 0 ∧ t.dev.rd CVY_HO_CMD_RESULT = 5)) ∧
        (g.type = 10 → Acts .departRx s (fun t => marked t ∧ memberState t.dev id = 3 ∧ isNeighbour t.dev id = false ∧
          ∀ o ∈ t.dev.cvy.outs, o.dest ≠ id)) ∧
        (g.type = 3 → Acts .ackRx s (fun t => marked t ∧
          t.dev.cvy.outs = d.cvy.outs.filter (fun o => !(o.dest == g.sender && o.seq == be g.body 0 4)))))) ∧
    (isActive d pConvoy = false ∨ cvySends d = false → exec .helloTimer s = .next s) ∧
    (isActive d pConvoy = true → cvySends d = true → Acts .helloTimer s (fun t =>
      t.dev.cvy = { d.cvy with seq := d.cvy.seq + 1 } ∧
      (∀ p, cvyLinks d = [⟨3, p⟩] →
        let f := cvyGroup d ++ ethAddr d p ++ toBE 2 (d.rd CVY_ETYPE_ETYPE) ++ (cvyMessage 1 0 16 0xFFFF (helloBody d) d).1
        let q := cvyQueue d ⟨3, p⟩
        admitTest d 6 (cellsFor (headRoom d) f.length) ≠ none → enqRefused d false q = false → s.memCanonical = true →
        ∃ h, qList t.dev q = qList d q ++
            [{ head := h, tc := d.rd CVY_CFG_TC, len := f.length, queue := q, src := 0x7000 + cvySelf d }] ∧
          readFrame t.dev t.mem h 0 f.length = f))) ∧
    (∀ dest seq, let mine := fun (p : CvyOut) => p.dest == dest && p.seq == seq
      (d.cvy.outs.find? mine = none → exec (.cvyRetxTimer dest seq) s = .next s) ∧
      (∀ o, d.cvy.outs.find? mine = some o →
        (o.tries < d.rd CVY_RETX_RETX_MAX → Acts (.cvyRetxTimer dest seq) s (fun t =>
          t.dev.cvy = { d.cvy with outs := d.cvy.outs.map (fun p => if mine p then { p with tries := p.tries + 1 } else p) })) ∧
        (d.rd CVY_RETX_RETX_MAX ≤ o.tries → Acts (.cvyRetxTimer dest seq) s (fun t =>
          t.dev.cvy.outs = d.cvy.outs.filter (fun p => !mine p) ∧ dest ∈ t.dev.cvy.owed ∧ Changes [.cvy] [] s t))))

/-- On a device that is not in reset: a member unheard for SUSPECT_N or SEP_N HELLO intervals becomes SUSPECT or
SEPARATED, and then nothing waits for it. A tombstone's slot is zeroed. A generation that is due becomes active with
AUTHORITY and both keys, is held without AUTHORITY, and is reported without its keys. READ gives RESULT 1 without
the record and copies it with RESULT 0; WRITE and DELETE without authority are refused with RESULT 2 and code 0x40;
a WRITE into an empty bucket stores the record of this member under the next L; a DELETE of an absent record gives
RESULT 1, and of a present one leaves a tombstone. A handover request without a live STATION record, or whose server
is no neighbour, is refused with RESULT 1 or 3 and code 0x41; else the command is BUSY; its timeout ends it with
RESULT 5. An exported station that is not claimed is thawed. A read of CVY_EVT takes the oldest event. (Clauses on
bytes: canonical memory.) -/
def Obligations.ConvoyStoreAndHandoverAct : Prop :=
  ∀ s : State, frozen s.dev = false →
    let d := s.dev
    (∀ id,
      let old := memberAge d id
      let suspect : Prop := isActive d pConvoy = true ∧ memberState d id = 1 ∧ d.rd CVY_TIMERS_SUSPECT_N * hbMs d < old
      let gone : Prop := isActive d pConvoy = true ∧ (memberState d id = 1 ∨ memberState d id = 2) ∧
        d.rd CVY_TIMERS_SEP_N * hbMs d < old
      (suspect → Acts (.memberAgeSuspect id) s (fun t =>
        memberState t.dev id = 2 ∧ t.dev.cvy.members = d.cvy.members ∧ Changes [.cvy] [0xD0, 0xD1, 0xD2, 0xCE] s t)) ∧
      (¬suspect → exec (.memberAgeSuspect id) s = .next s) ∧
      (gone → Acts (.memberAgeSeparated id) s (fun t =>
        memberState t.dev id = 3 ∧ isNeighbour t.dev id = false ∧
        t.dev.cvy.outs = d.cvy.outs.filter (fun o => o.dest != id) ∧ id ∉ t.dev.cvy.owed ∧
        Changes [.cvy] [0xD0, 0xD1, 0xD2, 0xCE] s t)) ∧
      (¬gone → exec (.memberAgeSeparated id) s = .next s)) ∧
    (∀ kind rkey,
      (isActive d pConvoy = false → exec (.tombExpire kind rkey) s = .next s) ∧
      (∀ b, findRec kind rkey d s.mem = (none, b, d) → exec (.tombExpire kind rkey) s = .next s) ∧
      (∀ a r b, isActive d pConvoy = true → findRec kind rkey d s.mem = (some (a, r), b, d) →
        (rDeleted r = false → exec (.tombExpire kind rkey) s = .next s) ∧
        (rDeleted r = true → memVerdict d 18 .write a 256 = .granted → s.memCanonical = true → Acts (.tombExpire kind rkey) s (fun t =>
          memRead t.mem a 256 = List.replicate 256 0 ∧ (∀ x, x < a ∨ a + 256 ≤ x → memGet t.mem x = memGet s.mem x) ∧
          Changes [.ser, .dram, .memory] [] s t)))) ∧
    (∀ g,
      let due : Prop := isActive d pConvoy = true ∧ cvyGen d < g ∧
        ∃ r ∈ liveRecs kKEY d s.mem, keyGenOf r = g ∧ keyDue d r = true
      (¬due → exec (.keyActivation g) s = .next s) ∧
      (due → genReady d g = false → Acts (.keyActivation g) s (fun t =>
        cvyGen t.dev = cvyGen d ∧ (d.cvy.evts.length < 64 → t.dev.cvy.evts = d.cvy.evts ++ [(10, cvySelf d % 2048)]) ∧
        Changes [.cvy] [0xD0, 0xCE] s t)) ∧
      (due → genReady d g = true → d.on CVY_STATUS_AUTHORITY = true → Acts (.keyActivation g) s (fun t =>
        cvyGen t.dev = g % 2 ^ 32 ∧ Changes [.cvy] [0xD0, 0xD2, 0xCE] s t)) ∧
      (due → genReady d g = true → d.on CVY_STATUS_AUTHORITY = false → Acts (.keyActivation g) s (fun t =>
        t.dev.rd CVY_STATUS_KEY_HELD = 1 ∧ OnlyKeys [CVY_STATUS_KEY_HELD.key 0 0] s t))) ∧
    (∀ m host, writeTaken d m (pConvoy + 2) = true →
      let cmds : List Instr := [.recWrite m host, .recRead m host, .recDelete m host]
      (isActive d pConvoy = false → (∀ c ∈ cmds, exec c s = .next s) ∧ exec (.hoRequest m) s = .next s) ∧
      (∀ b : Bytes, isActive d pConvoy = true → b.length = 192 → spaceRead m (recAddr d) 192 host d s.mem = (some b, d) →
        let kind := rKind b
        let known : Prop := 1 ≤ kind ∧ kind ≤ 4
        let found := (findRec kind (rKey b) d s.mem).1
        let may := recAllowed kind d s.mem
        (¬known → ∀ c ∈ cmds, Acts c s (fun t => OnlyKeys [CVY_REC_CMD_RESULT.key 0 0] s { t with dev := { t.dev with drawn := d.drawn } })) ∧
        (known → found = none → Acts (.recRead m host) s (fun t => t.dev.rd CVY_REC_CMD_RESULT = 1 ∧ t.mem = s.mem)) ∧
        (∀ h, known → found = some h → Acts (.recRead m host) s (fun t =>
          t.dev.rd CVY_REC_CMD_RESULT = 0 ∧ (m = 17 → Out.hostWrite (recAddr d) h.2 ∈ t.dev.out ∧ t.mem = s.mem) ∧
          (m ≠ 17 → memVerdict d m .write (recAddr d) h.2.length = .granted → s.memCanonical = true →
            memRead t.mem (recAddr d) h.2.length = h.2))) ∧
        (known → may = false → ∀ c ∈ [Instr.recWrite m host, .recDelete m host], exec c s =
          .next { s with dev := refuseWrite pConvoy 0x40 m (regAddr (pConvoy + 2) 0x054) (d.put CVY_REC_CMD_RESULT 2) }) ∧
        (may = true → kind = 1 → memberLimit (rKey b % 1024) (rBody b) d s.mem = true → exec (.recWrite m host) s =
          .next { s with dev := refuseWrite pConvoy 0x40 m (regAddr (pConvoy + 2) 0x054) (d.put CVY_REC_CMD_RESULT 4) }) ∧
        (∀ a, known → may = true → ¬(kind = 1 ∧ memberLimit (rKey b % 1024) (rBody b) d s.mem = true) → found = none →
          (findRec kind (rKey b) d s.mem).2.1 = some a → memVerdict d 18 .write a 256 = .granted → a + 256 ≤ seraiBase →
          s.memCanonical = true → d.rd CVY_LAMPORT_L + 1 < 2 ^ 32 → cvyEpoch d + 1 < 2 ^ 64 → Acts (.recWrite m host) s (fun t =>
            t.dev.rd CVY_REC_CMD_RESULT = 0 ∧ t.dev.rd CVY_LAMPORT_L = d.rd CVY_LAMPORT_L + 1 ∧
            memRead t.mem a 192 = recordOf kind false (cvySelf d) (d.rd CVY_LAMPORT_L + 1)
              (if kind = 3 then cvyEpoch d else cvyEpoch d + 1) (rKey b) (rOrder b) (rBody b))) ∧
        (known → may = true → found = none → Acts (.recDelete m host) s (fun t =>
          t.dev.rd CVY_REC_CMD_RESULT = 1 ∧ t.mem = s.mem)) ∧
        (∀ h, known → may = true → found = some h → Acts (.recDelete m host) s (fun t => t.dev.rd CVY_REC_CMD_RESULT = 0))) ∧
      (isActive d pConvoy = true → d.on CVY_HO_CMD_BUSY = true → exec (.hoRequest m) s = .next s) ∧
      (∀ f, isActive d pConvoy = true → d.on CVY_HO_CMD_BUSY = false →
        let addr := d.rd CVY_HO_STA_LO_ADDR + 2 ^ 32 * d.rd CVY_HO_STA_HI_ADDR
        findRec 3 (stationKey addr) d s.mem = f → f.2.2 = d →
        let no := fun (r : Nat) => exec (.hoRequest m) s =
          .next { s with dev := refuseWrite pConvoy 0x41 m (regAddr (pConvoy + 2) 0x064) (d.put CVY_HO_CMD_RESULT r) }
        (f.1 = none → no 1) ∧
        (∀ a r, f.1 = some (a, r) →
          (rDeleted r = true → no 1) ∧
          (rDeleted r = false → isNeighbour d (stServing r) = false → no 3) ∧
          (rDeleted r = false → isNeighbour d (stServing r) = true → Acts (.hoRequest m) s (fun t =>
            t.dev.rd CVY_HO_CMD_BUSY = 1 ∧ t.dev.rd CVY_HO_CMD_RESULT = 0 ∧
            t.dev.cvy.ho = some ⟨addr, d.rd CVY_HO_STA_HI_ENTRY, d.rd CVY_HO_SLOT_SLOT, stServing r⟩ ∧
            (cvySends d = true → t.dev.cvy.seq = d.cvy.seq + 1)))))) ∧
    (d.cvy.ho = none → exec .hoRetxTimer s = .next s ∧ exec .hoTimeout s = .next s) ∧
    (∀ h, d.cvy.ho = some h →
      (cvySends d = false ∨ isNeighbour d h.peer = false → exec .hoRetxTimer s = .next s) ∧
      (cvySends d = true → isNeighbour d h.peer = true → Acts .hoRetxTimer s (fun t =>
        t.dev.cvy = { d.cvy with seq := d.cvy.seq + 1 })) ∧
      Acts .hoTimeout s (fun t =>
        t.dev.cvy = { d.cvy with ho := none } ∧ t.dev.rd CVY_HO_CMD_BUSY = 0 ∧ t.dev.rd CVY_HO_CMD_RESULT = 5 ∧
        (t.dev.rd HDR_INT_RAW_RAW pConvoy).testBit 6 = true ∧ Changes [.cvy] [0xD0, 0xD2, 0xCE] s t)) ∧
    (∀ a,
      (expOf d a = none → exec (.hoHoldExpire a) s = .next s) ∧
      (∀ x, expOf d a = some x →
        (x.record = none ∨ staState d x.entry ≠ 5 → exec (.hoHoldExpire a) s = .next s) ∧
        (x.record ≠ none → staState d x.entry = 5 → Acts (.hoHoldExpire a) s (fun t =>
          staState t.dev x.entry = (staOf d x.entry).recorded % 8 ∧ expOf t.dev a = none ∧
          ∀ q ∈ staQueues d x.entry, qState d q = 2 → qState t.dev q = 1)))) ∧
    (d.cvy.departing = false → exec .departWaitEnd s = .next s) ∧
    (d.cvy.departing = true → Acts .departWaitEnd s (fun t =>
      t.dev.cvy.departing = false ∧ t.dev.cvy.members = d.cvy.members ∧ Changes [.cvy] [] s t)) ∧
    (∀ m, pageReadable d m pConvoy = true → present d pConvoy = true →
      (d.cvy.evts = [] → Acts (.cvyEvtPop m) s (fun t => t.dev.sh.readData = toBytes 4 0 ∧ Changes [] [] s t)) ∧
      (∀ x l, d.cvy.evts = x :: l → Acts (.cvyEvtPop m) s (fun t =>
        t.dev.sh.readData = toBytes 4 (2 ^ 31 + x.1 * 2 ^ 24 + x.2) ∧ t.dev.cvy = { d.cvy with evts := l } ∧
        Changes [.cvy] [] s t)))

/-- On a device that is not in reset, for each radio: a calibration step that ends leads to the next, the last of a
round to step 3 of the next round, and the last of all ends it, its segment done; without one nothing changes. A
preamble found counts as ignored, takeover or abort. A valid apply stages its channel and sets BUSY (Off, it only
checks), an invalid one gives RESULT 1 and code 0x43, one while BUSY code 0x43. A change of puncture takes effect at
once, any other becomes a retune, whose end takes the channel up, LOCKED, with CHAN_DONE. The trim follows the time
base by at most REF_SLEW and holds in holdover. FIR banks change places and a mask takes effect at a PPDU boundary;
a mask not ascending is refused with 0x42. A pulse above the threshold enters the radar FIFO, or counts in
RADAR_OVF. Loss of lock clears LOCKED and raises its cause. -/
def Obligations.RadiosAct : Prop :=
  ∀ s : State, frozen s.dev = false →
    let d := s.dev
    (∀ n, n < 3 →
      let p := pRadio n
      let up := fun (F : Fld) (t : State) => t.dev.rd F n = satAdd (2 ^ F.width - 1) (d.rd F n) 1 % 2 ^ F.width ∧
        OnlyKeys [F.key n 0] s t
      (∀ temp lat,
        ((radioOf d n).cal = none → exec (.calStepDone n temp lat) s = .next s) ∧
        (∀ k, (radioOf d n).cal = some k →
          let st := d.rd RADIO_CAL_STATUS_STEP n
          let cs := calChains d n k
          let last := if k = .quick then 8 else 9
          (st < last → ¬(st = 2 ∧ cs = []) → Acts (.calStepDone n temp lat) s (fun t =>
            t.dev.rd RADIO_CAL_STATUS_STEP n = st + 1 ∧ (st = 2 → t.dev.rd RADIO_CHAN_STATUS_LOCKED n = 1) ∧
            Changes [] [p, p + 1] s t)) ∧
          (∀ c, last ≤ st → nextRound n (d.rd RADIO_CAL_STATUS_CHAIN n) cs = some c →
            Acts (.calStepDone n temp lat) s (fun t =>
              t.dev.rd RADIO_CAL_STATUS_STEP n = 3 ∧ t.dev.rd RADIO_CAL_STATUS_CHAIN n = c ∧ Changes [] [p, p + 1] s t)) ∧
          (last ≤ st → nextRound n (d.rd RADIO_CAL_STATUS_CHAIN n) cs = none → Acts (.calStepDone n temp lat) s (fun t =>
            (radioOf t.dev n).cal = none ∧ t.dev.rd RADIO_CAL_STATUS_RUNNING n = 0 ∧
            (k ≠ .quick → calSegment d n k < 3 →
              (t.dev.rd RADIO_CAL_STATUS_SEG_DONE n).testBit (calSegment d n k) = true) ∧
            (t.dev.rd HDR_INT_RAW_RAW p).testBit 3 = true ∧ Changes [.radios] [p, p + 1, 0xCE] s t)))) ∧
      (∀ chain, exec (.calTrackPiece n chain) s = .next s) ∧
      (radioUp d n = true → airFreeAhead d n 250000 = true → d.on RADIO_CAL_CFG_TRACK_EN n = true → ∀ x l temp,
        (radioOf d n).recal = x :: l →
          Acts (.tempRecalPiece n temp false) s (fun t => (radioOf t.dev n).recal = l ∧ Changes [.radios] [] s t) ∧
          Acts (.tempRecalPiece n temp true) s (fun t => (radioOf t.dev n).recal = x :: l ∧ Changes [.radios] [] s t)) ∧
      (radioUp d n = false → exec (.rxPowerDrop n) s = .next s ∧ exec (.refTrimUpdate n) s = .next s ∧
        (∀ nf, exec (.noiseFloorUpdate n nf) s = .next s) ∧ (∀ t c, exec (.tempRecalPiece n t c) s = .next s) ∧
        ∀ e w x y, exec (.shadowCapture n e w x y) s = .next s) ∧
      (radioUp d n = true →
        (∀ nf, Acts (.noiseFloorUpdate n nf) s (fun t =>
          t.dev.rd RADIO_NOISE_FLOOR_NF n = twos 16 nf ∧ OnlyKeys [RADIO_NOISE_FLOOR_NF.key n 0] s t)) ∧
        (holding d p = false → Acts (.rxPowerDrop n) s (up RADIO_RX_LOST_COUNT)) ∧
        (holding d p = false → ∀ est power inData passed, Acts (.shadowCapture n est power inData passed) s
          (up (if captures d n est power inData = false then RADIO_CAPTURE_IGNORED_COUNT
            else if passed then RADIO_CAPTURE_ABORT_COUNT else RADIO_SHADOW_TAKEOVER_COUNT))) ∧
        (d.on RADIO_FREQ_CFG_REF_TRACK n = false → exec (.refTrimUpdate n) s = .next s) ∧
        (d.on RADIO_FREQ_CFG_REF_TRACK n = true → servoState d = stHoldover → Acts (.refTrimUpdate n) s (fun t =>
          t.dev.rd RADIO_FREQ_REF_HOLD n = 1 ∧ OnlyKeys [RADIO_FREQ_REF_HOLD.key n 0] s t)) ∧
        (d.on RADIO_FREQ_CFG_REF_TRACK n = true → servoState d ≠ stHoldover → Acts (.refTrimUpdate n) s (fun t =>
          let now := signed 16 (d.rd RADIO_FREQ_REF_TRIM n)
          let slew : Int := d.rd RADIO_FREQ_CFG_REF_SLEW n
          (∃ want, (want = freqNow d / 512 ∨ want = freqNow d / 512 + 1) ∧
            t.dev.rd RADIO_FREQ_REF_TRIM n = twos 16 (now + clampTo slew (clampTo trimLimit want - now))) ∧
          t.dev.on RADIO_FREQ_REF_HOLD n = false ∧
          (t.dev.on RADIO_FREQ_REF_CLAMP n = true → (t.dev.rd HDR_INT_RAW_RAW p).testBit 8 = true) ∧
          Changes [] [p, p + 4, 0xCE] s t))) ∧
      (∀ m, writeTaken d m (p + 2) = true → Acts (.firApply m n) s (fun t =>
        t.dev.rd RADIO_FIR_CTRL_PENDING n = 1 ∧ OnlyKeys [RADIO_FIR_CTRL_PENDING.key n 0] s t)) ∧
      (d.on RADIO_FIR_CTRL_PENDING n = false → exec (.firBankSwitch n) s = .next s) ∧
      (d.on RADIO_FIR_CTRL_PENDING n = true → Acts (.firBankSwitch n) s (fun t =>
        (radioOf t.dev n).firBank = stagedTaps d n ∧
        (∀ k, k < 32 → t.dev.rd RADIO_FIR_COEF_TAP_EVEN n k = tabGet (radioOf d n).firBank (2 * k) 0 % 2 ^ 16 ∧
          t.dev.rd RADIO_FIR_COEF_TAP_ODD n k = tabGet (radioOf d n).firBank (2 * k + 1) 0 % 2 ^ 16) ∧
        t.dev.rd RADIO_FIR_CTRL_PENDING n = 0 ∧ (t.dev.rd HDR_INT_RAW_RAW p).testBit 6 = true ∧
        Changes [.radios] [p, p + 2, 0xCE] s t)) ∧
      (∀ m, writeTaken d m (p + 3) = true →
        (ascending ((maskPoints d n).map (fun x => signed 12 x.1)) = true → Acts (.maskApply m n) s (fun t =>
          (radioOf t.dev n).maskNext = some (maskPoints d n) ∧ (radioOf t.dev n).mask = (radioOf d n).mask ∧
          t.dev.rd RADIO_MASK_CTRL_REJECTED n = 0 ∧ t.dev.rd RADIO_MASK_CTRL_PENDING n = 1 ∧ Changes [.radios] [p + 3] s t)) ∧
        (ascending ((maskPoints d n).map (fun x => signed 12 x.1)) = false → exec (.maskApply m n) s =
          .next { s with dev := refuseWrite p 0x42 m (regAddr (p + 3) 0x040) (d.put RADIO_MASK_CTRL_REJECTED 1 n) })) ∧
      ((radioOf d n).maskNext = none → exec (.maskTakeEffect n) s = .next s) ∧
      (∀ l, (radioOf d n).maskNext = some l → Acts (.maskTakeEffect n) s (fun t =>
        (radioOf t.dev n).mask = l ∧ (radioOf t.dev n).maskNext = none ∧ t.dev.rd RADIO_MASK_CTRL_PENDING n = 0 ∧
        (t.dev.rd HDR_INT_RAW_RAW p).testBit 6 = true ∧ Changes [.radios] [p, p + 3, 0xCE] s t)) ∧
      (d.on RADIO_CHAN_STATUS_LOCKED n = false → exec (.synthLockLost n) s = .next s) ∧
      (d.on RADIO_CHAN_STATUS_LOCKED n = true → Acts (.synthLockLost n) s (fun t =>
        t.dev.on RADIO_CHAN_STATUS_LOCKED n = false ∧ radioUp t.dev n = false ∧
        (t.dev.rd HDR_INT_RAW_RAW p).testBit 5 = true ∧ Changes [] (eventPages p) s t)) ∧
      (isActive d p = false → exec (.synthRelock n) s = .next s) ∧
      (isActive d p = true → Acts (.synthRelock n) s (fun t =>
        t.dev.rd RADIO_CHAN_STATUS_LOCKED n = 1 ∧ OnlyKeys [RADIO_CHAN_STATUS_LOCKED.key n 0] s t)) ∧
      (∀ m, writeTaken d m p = true →
        (d.on RADIO_CHAN_STATUS_BUSY n = true → exec (.chanApply m n) s =
          .next { s with dev := refuseWrite p 0x43 m (regAddr p 0x04C) d }) ∧
        (d.on RADIO_CHAN_STATUS_BUSY n = false → chanValid d n (stagedChan d n) = false → exec (.chanApply m n) s =
          .next { s with dev := refuseWrite p 0x43 m (regAddr p 0x04C) (d.put RADIO_CHAN_STATUS_RESULT 1 n) }) ∧
        (d.on RADIO_CHAN_STATUS_BUSY n = false → chanValid d n (stagedChan d n) = true → isOff d p = true →
          Acts (.chanApply m n) s (fun t =>
            t.dev.rd RADIO_CHAN_STATUS_RESULT n = 0 ∧ OnlyKeys [RADIO_CHAN_STATUS_RESULT.key n 0] s t)) ∧
        (d.on RADIO_CHAN_STATUS_BUSY n = false → chanValid d n (stagedChan d n) = true → isOff d p = false →
          Acts (.chanApply m n) s (fun t =>
            (radioOf t.dev n).apply = some (stagedChan d n) ∧ (radioOf t.dev n).use = (radioOf d n).use ∧
            t.dev.rd RADIO_CHAN_STATUS_BUSY n = 1 ∧ (n ≠ 0 → t.dev.strc.trained = false) ∧
            Changes [.radios, .mld, .strc] [p, 0x40, 0x44, 0xCE] s t))) ∧
      ((radioOf d n).apply = none → exec (.retuneStart n) s = .next s ∧ exec (.retuneForceAbort n) s = .next s) ∧
      (∀ c, (radioOf d n).apply = some c →
        (holding d p = false → Acts (.retuneForceAbort n) s (up RADIO_RETUNE_ABORT_COUNT)) ∧
        ((∃ o, (radioOf d n).use = some o ∧ o.centre = c.centre ∧ o.width = c.width) → Acts (.retuneStart n) s (fun t =>
          (radioOf t.dev n).use = some c ∧ (radioOf t.dev n).apply = none ∧ t.dev.rd RADIO_CHAN_STATUS_BUSY n = 0 ∧
          t.dev.rd RADIO_CHAN_STATUS_RESULT n = 0 ∧ (t.dev.rd HDR_INT_RAW_RAW p).testBit 4 = true ∧
          Changes [.radios, .mld, .strc, .air] [p, 0x40, 0x44, 0x48, 0x49, 0xCE] s t)) ∧
        (¬(∃ o, (radioOf d n).use = some o ∧ o.centre = c.centre ∧ o.width = c.width) → Acts (.retuneStart n) s (fun t =>
          (radioOf t.dev n).retune = some c ∧ (radioOf t.dev n).apply = none ∧
          ((d.rd RADIO_CAL_STATUS_SEG_DONE n).testBit (chanSeg n c) = false → (radioOf d n).cal = none →
            (radioOf t.dev n).cal = some (.segment (chanSeg n c)) ∧ t.dev.rd RADIO_CAL_STATUS_STEP n = 2) ∧
          Changes [.radios] [p + 1] s t))) ∧
      ((radioOf d n).retune = none ∨ (radioOf d n).cal ≠ none → exec (.retuneDone n) s = .next s) ∧
      (∀ c, (radioOf d n).retune = some c → (radioOf d n).cal = none → Acts (.retuneDone n) s (fun t =>
        (radioOf t.dev n).use = some c ∧ (radioOf t.dev n).retune = none ∧ t.dev.rd RADIO_CHAN_STATUS_SEG n = chanSeg n c ∧
        t.dev.rd RADIO_CHAN_STATUS_LOCKED n = 1 ∧ t.dev.rd RADIO_CHAN_STATUS_BUSY n = 0 ∧
        t.dev.rd RADIO_CHAN_STATUS_RESULT n = 0 ∧ (t.dev.rd HDR_INT_RAW_RAW p).testBit 4 = true ∧
        Changes [.radios, .mld, .strc, .air] [p, 0x40, 0x44, 0x48, 0x49, 0xCE] s t))) ∧
    (∀ w power,
      let seen : Prop := radioUp d 1 = true ∧ d.on RADIO_RADAR_CFG_EN 1 = true ∧ signed 8 (d.rd RADIO_RADAR_CFG_THRESH 1) < power
      (¬seen → exec (.radarPulse w power) s = .next s) ∧
      (seen → (radioOf d 1).radar.length < 64 → Acts (.radarPulse w power) s (fun t =>
        (radioOf t.dev 1).radar = (radioOf d 1).radar ++ [⟨w % 4096, twos 8 power, nowTotal d % 2 ^ 32⟩] ∧
        (t.dev.rd HDR_INT_RAW_RAW (pRadio 1)).testBit 7 = true ∧ Changes [.radios] [pRadio 1, 0xCE] s t)) ∧
      (seen → 64 ≤ (radioOf d 1).radar.length → holding d (pRadio 1) = false → Acts (.radarPulse w power) s (fun t =>
        t.dev.rd RADIO_RADAR_OVF_COUNT 1 = satAdd (2 ^ 32 - 1) (d.rd RADIO_RADAR_OVF_COUNT 1) 1 % 2 ^ 32 ∧
        OnlyKeys [RADIO_RADAR_OVF_COUNT.key 1 0] s t))) ∧
    (∀ m, pageReadable d m (pRadio 1 + 4) = true → present d (pRadio 1 + 4) = true →
      ((radioOf d 1).radar = [] → Acts (.radarFifoPop m) s (fun t => t.dev.sh.readData = toBytes 4 0 ∧ Changes [] [] s t)) ∧
      (∀ x l, (radioOf d 1).radar = x :: l → Acts (.radarFifoPop m) s (fun t =>
        t.dev.sh.readData = toBytes 4 (2 ^ 31 + 2 ^ 16 * x.width + 2 ^ 8 * x.power) ∧ (radioOf t.dev 1).radar = l ∧
        t.dev.rd RADIO_RADAR_TIME_NS32 1 = x.ns32 % 2 ^ 32 ∧ Changes [.radios] [pRadio 1 + 4] s t)))

/-- On a device that is not in reset, for each link: ADD from OFF gives JOINING, whose radio's being Active on a channel
makes it ACTIVE; REMOVE takes JOINING to OFF and ACTIVE to REMOVING with TBTT_LEFT, CANCEL back to ACTIVE, each with
LINK_STATE and the pairs following; any other command is refused with RESULT 1 and code 0x40. The pair's modes are
those of the first row that matches; the hold's end makes B–C STR and every link's change counts. A training run
starts on TRAIN when none is in progress, goes by steps through both directions to TRACKING with its figures, and
ends FAILED on a silent chain, leakage or a timeout. A silent symbol in TRACKING judges the over chains again. -/
def Obligations.LinksAndCancellerAct : Prop :=
  ∀ s : State, frozen s.dev = false →
    let d := s.dev
    let settled := fun (t : State) =>
      t.dev.rd MLD_PAIR_STATUS_AB = b2n (linkUp t.dev 0 && linkUp t.dev 1) ∧
      t.dev.rd MLD_PAIR_STATUS_AC = b2n (linkUp t.dev 0 && linkUp t.dev 2) ∧
      (∀ r, pairRow t.dev = some r → pairBC t.dev = r.1 ∧ t.dev.rd MLD_PAIR_STATUS_BC_REASON = r.2 ∧ t.dev.mld.hold = none) ∧
      (pairRow t.dev = none → pairBC d ≠ 1 → d.mld.hold = none → pairBC t.dev = 2 ∧
        t.dev.rd MLD_PAIR_STATUS_BC_REASON = 8 ∧ t.dev.mld.hold = some d.tb.elapsed)
    let pages := [0x44, 0x45, 0xCE]
    (∀ l, l < 3 →
      let st := linkState d l
      let becomes := fun (c : Instr) (v : Nat) => Acts c s (fun t =>
        linkState t.dev l = v ∧ t.dev.rd MLD_LINK_CMD_RESULT 0 l = 0 ∧ (∀ k, k ≠ l → linkState t.dev k = linkState d k) ∧
        (v = 3 → t.dev.rd MLD_LINK_STATUS_TBTT_LEFT 0 l = max 1 (d.rd MLD_CFG_REMOVE_TBTTS) % 2 ^ 8) ∧
        (t.dev.rd HDR_INT_RAW_RAW pMld).testBit 4 = true ∧ settled t ∧ Changes [.mld] pages s t)
      (∀ m, writeTaken d m (pMld + 1) = true →
        let no := fun (c : Instr) => exec c s = .next { s with
          dev := refuseWrite pMld 0x40 m (regAddr (pMld + 1) (0x044 + 0x10 * l)) (d.put MLD_LINK_CMD_RESULT 1 0 l) }
        (mldActs d = true → st = 0 → becomes (.linkAdd m l) 1) ∧
        (mldActs d = true → st = 1 → becomes (.linkRemove m l) 0) ∧
        (mldActs d = true → st = 2 → becomes (.linkRemove m l) 3) ∧
        (mldActs d = true → st = 3 → becomes (.linkCancel m l) 2) ∧
        (mldActs d = false ∨ st ≠ 0 → no (.linkAdd m l)) ∧
        (mldActs d = false ∨ (st ≠ 1 ∧ st ≠ 2) → no (.linkRemove m l)) ∧
        (mldActs d = false ∨ st ≠ 3 → no (.linkCancel m l))) ∧
      (
        let joins : Prop := mldActs d = true ∧ st = 1 ∧ isActive d (pRadio l) = true ∧ chanOf d l ≠ none ∧ radioReduced d l = false
        (¬joins → exec (.linkRadioActive l) s = .next s) ∧
        (joins → Acts (.linkRadioActive l) s (fun t =>
          linkState t.dev l = 2 ∧ (t.dev.rd HDR_INT_RAW_RAW pMld).testBit 4 = true ∧ settled t ∧ Changes [.mld] pages s t))) ∧
      Acts (.msdTimerEnd l) s (fun t =>
        t.dev.on MLD_LINK_STATUS_MSD 0 l = false ∧ OnlyKeys [MLD_LINK_STATUS_MSD.key 0 l] s t)) ∧
    (
      let due : Prop := ∃ t, d.mld.hold = some t ∧ pairRow d = none ∧ t + 500000 * d.rd MLD_STR_HOLD_HOLD ≤ d.tb.elapsed
      (¬due → exec .pairStrHoldEnd s = .next s) ∧
      (due → Acts .pairStrHoldEnd s (fun t =>
        pairBC t.dev = 1 ∧ t.dev.rd MLD_PAIR_STATUS_BC_REASON = 0 ∧ t.dev.mld.hold = none ∧
        (pairBC d ≠ 1 → (t.dev.rd HDR_INT_RAW_RAW pMld).testBit 3 = true ∧
          ∀ l, l < 3 → tabGet t.dev.mld.changes l 0 = tabGet d.mld.changes l 0 + 1) ∧
        Changes [.mld] [0x44, 0xCE] s t))) ∧
    (∀ m, writeTaken d m pStrc = true →
      let free : Prop := isActive d pStrc = true ∧ strcAccepted d = true ∧ d.strc.run = none
      (¬free → exec (.strcTrain m) s = .next s) ∧
      (free → Acts (.strcTrain m) s (fun t =>
        t.dev.strc = { d.strc with run := some (d.tb.elapsed, false) } ∧ strcState t.dev = 2 ∧
        t.dev.rd STRC_STATUS_STEP = 1 ∧ t.dev.rd STRC_STATUS_DIR = 0 ∧ Changes [.mld, .strc] [0x40, 0x44, 0xCE] s t))) ∧
    (d.strc.run = none → exec .strcTrainTimeout s = .next s ∧ ∀ figs silent lost, exec (.strcTrainStepDone figs silent lost) s = .next s) ∧
    (∀ r, d.strc.run = some r →
      let failed := fun (ps : List Nat) (t : State) =>
        t.dev.strc = { d.strc with run := none, trained := false } ∧ strcState t.dev = (if isActive d pStrc then 4 else 0) ∧
        (t.dev.rd HDR_INT_RAW_RAW pStrc).testBit 5 = true ∧ (r.2 = true → unitState t.dev 6 = 3) ∧
        Changes [.mld, .strc] (eventPages pStrc ++ 0x44 :: ps ++ (if r.2 then [0] else [])) s t
      Acts .strcTrainTimeout s (failed []) ∧
      (∀ figs silent lost,
        let dir := d.rd STRC_STATUS_DIR
        let st := d.rd STRC_STATUS_STEP
        let pv := pRadio (victimRadio dir)
        let lose := fun (t : State) => holding d pv = false → isActive d pv = true →
          t.dev.rd RADIO_RX_LOST_COUNT (victimRadio dir) = satAdd (2 ^ RADIO_RX_LOST_COUNT.width - 1)
            (d.rd RADIO_RX_LOST_COUNT (victimRadio dir)) lost % 2 ^ RADIO_RX_LOST_COUNT.width
        (trainFault d dir figs silent = true →
          Acts (.strcTrainStepDone figs silent lost) s (fun t => failed [pv] t ∧ lose t)) ∧
        (trainFault d dir figs silent = false → st < 4 → Acts (.strcTrainStepDone figs silent lost) s (fun t =>
          t.dev.rd STRC_STATUS_STEP = st + 1 ∧ lose t ∧ Changes [] [0x40, pv] s t)) ∧
        (trainFault d dir figs silent = false → 4 ≤ st → dir = 0 → Acts (.strcTrainStepDone figs silent lost) s (fun t =>
          t.dev.rd STRC_STATUS_STEP = 1 ∧ t.dev.rd STRC_STATUS_DIR = 1 ∧
          (∀ f, figs = [f] → t.dev.rd STRC_RES_C_SUPP_D 0 f.chain = f.suppD % 2 ^ 8 ∧
            t.dev.rd STRC_RES_C_SUPP_A 0 f.chain = f.suppA % 2 ^ 8 ∧ t.dev.rd STRC_RES_C_RESID 0 f.chain = twos 16 f.resid ∧
            t.dev.rd STRC_LEAK_C_LEAK 0 f.chain = twos 16 f.leak) ∧ lose t ∧ Changes [] [0x40, 0x41, pv] s t)) ∧
        (trainFault d dir figs silent = false → 4 ≤ st → dir ≠ 0 → Acts (.strcTrainStepDone figs silent lost) s (fun t =>
          t.dev.strc = { d.strc with run := none, trained := true } ∧ t.dev.rd STRC_STATUS_STEP = 0 ∧
          (isActive d pStrc = true → strcState t.dev = 3) ∧ (t.dev.rd HDR_INT_RAW_RAW pStrc).testBit 3 = true ∧
          lose t ∧ Changes [.mld, .strc] [0x40, 0x42, 0x44, 0xCE, pv] s t)))) ∧
    (∀ v figs,
      let F := if v = 0 then STRC_STATUS_OVER_C else STRC_STATUS_OVER_B
      let R := if v = 0 then STRC_RES_C_RESID else STRC_RES_B_RESID
      (¬(isActive d pStrc = true ∧ strcState d = 3) → exec (.strcSilentSymbol v figs) s = .next s) ∧
      (isActive d pStrc = true → strcState d = 3 → Acts (.strcSilentSymbol v figs) s (fun t =>
        (∀ c, c < 8 → ((t.dev.rd F).testBit c = true ↔ c ∈ activeChains d (victimRadio v) ∧
          noiseFloor d (victimRadio v) + 4 * d.rd STRC_CFG_RESID_MARGIN < signed 16 (t.dev.rd R 0 c))) ∧
        strcState t.dev = 3 ∧ Changes [.mld] [0x40, 0x41, 0x42, 0x44, 0xCE] s t)))

/-- On a device that is not in reset: while AIR does not keep its grid no slot starts. Every period whose plan or
resolve point is past is formed and resolved; without coordination the plan of a period is the one formed. A slot
that has not started shows in the status and starts the block of a lone occurrence that is usable; one that is not
and has no other link is skipped. A block's exchange begins when what remains holds it, and else it is skipped. An
apply is refused while one is pending, or with the first reason found, and else becomes the table of its period.
RESUME and CLR_SKIPS act on the entry named. A BSRP trigger goes out on every link in service. A complete plan of a
neighbour is kept, one of another grid is a mismatch, and a malformed part leaves the scheduler as it was. (PLAN
bodies are read big-endian: the model's reading, log entry 88.) -/
def Obligations.AirSchedulerActs : Prop :=
  ∀ s : State, frozen s.dev = false →
    let d := s.dev
    (airActs d = false → exec .airSlotStart s = .next s) ∧
    (airActs d = true →
      let n := periodAt d (nowTotal d)
      let caught : Prop := periodsDue d.air.formed n (n + airA d) = [] ∧ periodsDue d.air.resolved n (n + 1) = []
      (d.air.first ≠ none → Acts .airSlotStart s (fun t =>
        (∀ q ∈ periodsDue d.air.formed n (n + airA d), q < t.dev.air.formed) ∧
        (∀ q ∈ periodsDue d.air.resolved n (n + 1), q < t.dev.air.resolved) ∧
        (∀ q k, airCoordinates d = false → periodsDue d.air.formed n (n + airA d) = [q] →
          periodsDue d.air.resolved n (n + 1) = [q] → slotAt d (nowTotal d) = some k → slotAgain k d = true →
          tabFind t.dev.air.plans q = some (formPlan q d).1 ∧ t.mem = s.mem))) ∧
      (caught → slotAt d (nowTotal d) = none → exec .airSlotStart s = .next s) ∧
      (∀ k, caught → slotAt d (nowTotal d) = some k →
        (slotAgain k d = true → exec .airSlotStart s = .next s) ∧
        (slotAgain k d = false → Acts .airSlotStart s (fun t =>
          t.dev.air.last = some k ∧ t.dev.rd AIR_PERIOD_NOW_PERIOD = k / airP d % 2 ^ 32 ∧
          t.dev.rd AIR_GRID_STATUS_SLOT = k % airP d % 2 ^ 10 ∧ t.dev.rd AIR_GRID_STATUS_RUNNING = 1 ∧
          t.dev.rd AIR_GRID_STATUS_STEP_HOLD = 0 ∧ Changes [.air] (eventPages pAir ++ [0x49, 0x4B]) s t ∧
          (∀ o e, (∃ q, d.air.last = some q ∧ q / airP d = k / airP d) →
            (tabGet d.air.plans (k / airP d) []).filter (fun x => x.start == k % airP d) = [o] → o.link < 3 →
            tabFind d.air.table.ents o.entry = some e → ¬(e.kind = 0 ∧ d.on STA_W0_EMLSR 0 e.target = true) →
            (airUsable d d.air.table e o.link = true → pairNstr d = false ∨ o.link = 0 →
              ∃ r, (⟨o.link, k, o.len, [o], r, false⟩ : AirBlock) ∈ t.dev.air.blocks ∧ (o.dir ≠ 0 → r = false)) ∧
            (airUsable d d.air.table e o.link = false → linksOf e = [o.link] → holding d pAir = false →
              (∀ b ∈ d.air.blocks, k < b.slot + b.len ∨ b.begun = true ∨ b.released = true) →
              t.dev.air.blocks = d.air.blocks.filter (fun b => decide (k < b.slot + b.len)) ∧
              t.dev.rd AIR_OCC_SKIPPED_COUNT = satAdd (2 ^ 32 - 1) (d.rd AIR_OCC_SKIPPED_COUNT) 1 % 2 ^ 32 ∧
              (2 ≤ e.dclass → (t.dev.rd HDR_INT_RAW_RAW pAir).testBit 6 = true))))))) ∧
    (∀ l short,
      (¬(airActs d = true ∧ radioUp d l = true ∧ ∃ b, blockNow d l = some b ∧ b.begun = false) →
        exec (.airBlockAccess l short) s = .next s) ∧
      (∀ b, airActs d = true → radioUp d l = true → blockNow d l = some b → b.begun = false →
        let start := max (nowTotal d - pifs l short) (slotInstant d b.slot)
        let stop := slotInstant d (b.slot + b.len)
        let need := b.occs.foldl (fun x o => max x (minLen o.dir)) 0
        (stop < start + 64000 * need → Acts (.airBlockAccess l short) s (fun t =>
          t.dev.air = { d.air with blocks := d.air.blocks.filter (· != b) } ∧ Changes [.air] [pAir, 0x49, 0xCE] s t)) ∧
        (start + 64000 * need ≤ stop → Acts (.airBlockAccess l short) s (fun t =>
          t.dev.air = { d.air with blocks := d.air.blocks.map (fun x => if x = b then { x with begun := true } else x) } ∧
          (holding d pAir = false → t.dev.rd AIR_OCC_SERVED_COUNT =
            satAdd (2 ^ 32 - 1) (d.rd AIR_OCC_SERVED_COUNT) b.occs.length % 2 ^ 32) ∧ Changes [.air] [pAir] s t)))) ∧
    (∀ m, writeTaken d m (pAir + 1) = true →
      let i := d.rd AIR_RES_IDX_ENTRY
      let n := (effectPeriods d).2
      (airOn d = false → exec (.airTblApply m) s = .next s ∧ exec (.airResClrSkips m) s = .next s) ∧
      (airOn d = true → d.on AIR_TBL_STATUS_PENDING = true → exec (.airTblApply m) s =
        .next { s with dev := refuseWrite pAir 0x41 m (regAddr (pAir + 1) 0x060) d }) ∧
      (∀ r, airOn d = true → d.on AIR_TBL_STATUS_PENDING = false → applyRefused d (stagedTable d) n = some r →
        Acts (.airTblApply m) s (fun t =>
          t.dev.rd AIR_TBL_STATUS_REJECTED = 1 ∧ t.dev.rd AIR_TBL_STATUS_REASON = r.1 % 2 ^ 4 ∧
          t.dev.rd AIR_TBL_STATUS_ENTRY = r.2 % 2 ^ 12 ∧ (t.dev.rd HDR_INT_RAW_RAW pAir).testBit 4 = true ∧
          Changes [] (eventPages pAir ++ [0x49]) s t)) ∧
      (airOn d = true → d.on AIR_TBL_STATUS_PENDING = false → applyRefused d (stagedTable d) n = none →
        Acts (.airTblApply m) s (fun t =>
          t.dev.rd AIR_TBL_STATUS_PENDING = 1 ∧ t.dev.rd AIR_TBL_STATUS_REJECTED = 0 ∧
          t.dev.rd AIR_TBL_EFFECT_PERIOD = n % 2 ^ 32 ∧
          (t.dev.on AIR_TBL_STATUS_LATE = true ↔ (effectPeriods d).1 < n) ∧
          (∃ x, t.dev.air = { d.air with next := some x, effect := n } ∧ x.groups = (stagedTable d).groups ∧
            x.ents.map (fun e => (e.1, e.2.words)) = (stagedTable d).ents.map (fun e => (e.1, e.2.words))) ∧
          Changes [.air] [0x49] s t)) ∧
      (¬(airOn d = true ∧ d.rd AIR_RES_STAT_STATE 0 i = 2) → exec (.airResResume m) s = .next s) ∧
      (airOn d = true → d.rd AIR_RES_STAT_STATE 0 i = 2 → Acts (.airResResume m) s (fun t =>
        t.dev.rd AIR_RES_STAT_STATE 0 i = 1 ∧ t.dev.rd AIR_RES_STAT_MISSED 0 i = 0 ∧
        OnlyKeys [AIR_RES_STAT_STATE.key 0 i, AIR_RES_STAT_MISSED.key 0 i] s t)) ∧
      (airOn d = true → Acts (.airResClrSkips m) s (fun t =>
        t.dev.rd AIR_RES_STAT_SKIPS 0 i = 0 ∧ OnlyKeys [AIR_RES_STAT_SKIPS.key 0 i] s t))) ∧
    (airActs d = false ∨ d.on AIR_BSRP_BSRP_MS = false ∨ ulThrottled d = true → exec .bsrpTimer s = .next s) ∧
    (airActs d = true → d.on AIR_BSRP_BSRP_MS = true → ulThrottled d = false → Acts .bsrpTimer s (fun t =>
      t.dev.out = d.out ++ ([0, 1, 2].filter (airLinkUp d)).map Out.bsrp ∧ Changes [] [0x4B] s t)) ∧
    (∀ l otherRx,
      let ends : Prop := radioUp d l = true ∧ ¬(airActs d = true ∧ (blockNow d l).isSome = true)
      let waits : Prop := otherRx = true ∧ pairNstr d = true ∧ (l = 1 ∨ l = 2)
      (¬ends → exec (.edcaTxop l otherRx) s = .next s) ∧
      (ends → waits → holding d pMld = false → Acts (.edcaTxop l otherRx) s (fun t =>
        t.dev.rd MLD_NSTR_DEFER_COUNT = satAdd (2 ^ 32 - 1) (d.rd MLD_NSTR_DEFER_COUNT) 1 % 2 ^ 32 ∧
        OnlyKeys [MLD_NSTR_DEFER_COUNT.key 0 0] s t)) ∧
      (ends → ¬waits → d.on MLD_LINK_STATUS_MSD 0 l = true → Acts (.edcaTxop l otherRx) s (fun t =>
        tabGet t.dev.mld.txops l 0 = tabGet d.mld.txops l 0 + 1 ∧ Changes [.mld] [] s t)) ∧
      (ends → ¬waits → d.on MLD_LINK_STATUS_MSD 0 l = false → exec (.edcaTxop l otherRx) s = .next s)) ∧
    (isActive d pConvoy = false ∨ isActive d pCiph = false → exec .planRx s = .next s) ∧
    (∀ x rest k, isActive d pConvoy = true → isActive d pCiph = true → handedTo d 11 = x :: rest →
      let g := msgOf x d s.mem
      let y := refDown x.head (setHanded 11 rest d)
      let b := g.body
      let id := g.origin
      y.rd SERAI_CLASS_STATE_STATE 0 6 ≠ 3 → g.field 0 1 = 1 → g.ttl ≠ 0 → g.ttl ≤ 16 → genHeld d g.keygen 0 uDec = true →
      icvOk g d = true → g.field 16 8 = cvySysid d → g.dest = 0xFFFF ∨ g.dest = cvySelf d → id ≠ cvySelf d → g.type = 9 →
      seqVerdict g d = .fresh k →
      (airCoordinates d = false ∨ (nbrList d).any (fun n => n.1 == id) = false ∨ partBad b = true → Acts .planRx s (fun t =>
        t.dev.air = d.air ∧ t.dev.cvy.plans = d.cvy.plans ∧ handedTo t.dev 11 = rest)) ∧
      (airCoordinates d = true → (nbrList d).any (fun n => n.1 == id) = true → partBad b = false → be b 8 1 = 1 →
        Acts .planRx s (fun t =>
          let same : Prop := be b 4 2 = airP d ∧ be b 6 1 = airA d ∧ be b 16 4 = d.rd AIR_GRID_BASE_NS_NS ∧
            be b 10 6 = d.rd AIR_GRID_BASE_S_LO_S + 2 ^ 32 * d.rd AIR_GRID_BASE_S_HI_S
          let l := (partEntries b).map nbrEntry
          handedTo t.dev 11 = rest ∧ tabFind t.dev.cvy.plans id = none ∧ t.dev.air.plans = d.air.plans ∧
          (same → (nbrOf t.dev id).mismatch = false ∧ tabFind (nbrOf t.dev id).plans (be b 0 4) = some l ∧
            (nbrOf t.dev id).latest = some l) ∧
          (¬same → (nbrOf t.dev id).mismatch = true ∧ (nbrOf t.dev id).plans = (nbrOf d id).plans))))

/-- On a device that is not in reset: a radio that is not up, or a format it does not detect, changes nothing; a failed
header counts, and so do MPDUs all of wrong FCS. A data frame from an unknown transmitter is reported. From a
PENDING station, or outside 802.1X from one whose port is closed, it is discarded. From an authorized station a
frame outside any agreement goes to the Waystation, in a caravan that holds its bytes, a duplicate counts, and the
frame at the start of a window goes on and moves the window. A PPDU that may not begin changes nothing, or counts
NSTR_DEFER while the other link receives; else it goes out with its MPDU's bytes and the next number of its TID, and
the MPDU waits unless it was acknowledged. A TBTT sends the beacon of a link in service, and counts a removal down
to OFF, sent or not. (Frames' bytes: canonical memory.) -/
def Obligations.RadioFramesAct : Prop :=
  ∀ s : State, frozen s.dev = false →
    let d := s.dev
    let up1 := fun (F : Fld) (n i : Nat) (t : State) => t.dev.rd F n i = satAdd (2 ^ 32 - 1) (d.rd F n i) 1 % 2 ^ 32
    (∀ n p,
      let detects : Prop := radioUp d n = true ∧ rxFormat d n p.format = true
      let idle := fun (t : State) => t.mem = s.mem ∧ t.dev.q = d.q ∧ t.dev.ser = d.ser
      (¬detects → exec (.ppduRx n p) s = .next s) ∧
      (detects → p.headerOk = false → holding d (pRadio n) = false → Acts (.ppduRx n p) s (fun t =>
        up1 RADIO_HDR_FAIL_COUNT n 0 t ∧ OnlyKeys [RADIO_HDR_FAIL_COUNT.key n 0] s t)) ∧
      (detects → p.headerOk = true → Acts (.ppduRx n p) s (fun t =>
        t.dev.on MLD_LINK_STATUS_MSD 0 n = false ∧ (holding d (pRadio n) = false → up1 RADIO_RX_PPDU_COUNT n 0 t) ∧
        (p.mpdus = [] → idle t ∧ t.dev.sta = d.sta) ∧
        (p.mpdus ≠ [] → (∀ u ∈ p.mpdus, u.fcsOk = false) → idle t ∧ t.dev.sta = d.sta ∧
          (holding d pSta = false → up1 STA_FCS_ERR_COUNT 0 n t)))) ∧
      (∀ u qos eapol fs, detects → p.headerOk = true → p.mpdus = [u] → u.fcsOk = true → u.kind = .data qos false eapol fs →
        isActive d pSta = true →
        (staLookup d n p.ta = none → p.toUs = true → Acts (.ppduRx n p) s (fun t =>
          (holding d pSta = false → up1 STA_UNKNOWN_TA_COUNT 0 0 t) ∧ t.dev.rd STA_UNKNOWN_LAST_LO_ADDR = p.ta % 2 ^ 32 ∧
          t.dev.rd STA_UNKNOWN_LAST_HI_ADDR = p.ta / 2 ^ 32 % 2 ^ 16 ∧ t.dev.rd STA_UNKNOWN_LAST_HI_LINK = n ∧
          idle t ∧ t.dev.sta = d.sta)) ∧
        (∀ k, staLookup d n p.ta = some k →
          let tid := if qos then min 8 u.tid else 8
          let seen := fun (t : State) => t.dev.rd L_ADDR_HI_RSSI 0 (lk k n) = p.rssi % 2 ^ 8 ∧
            t.dev.rd L_ADDR_HI_DOZE 0 (lk k n) = b2n p.doze
          let agreed := qos && baOn d k tid
          let fits := fun (f : Bytes) => d.rst.inboundClosed = false ∧ s.memCanonical = true ∧
            admitTest d 0 (cellsFor (headRoom d) (max (d.rd STA_W4_MAX_MPDU 0 k) f.length)) ≠ none
          let handsOn := fun (f : Bytes) (t : State) => ∃ x : Manifest, t.dev.q.toWay = d.q.toWay ++ [x] ∧
            x.len = f.length ∧ x.src = 0x1000 * n + k ∧ x.tc = (if tid < 8 then tid else 0) ∧ x.exc = 0 ∧
            readFrame t.dev t.mem x.head 0 f.length = f
          (staState d k = 2 → Acts (.ppduRx n p) s (fun t => seen t ∧ idle t)) ∧
          (staState d k = 3 → eapol = false → Acts (.ppduRx n p) s (fun t =>
            seen t ∧ idle t ∧ (holding d pSta = false → up1 STA_PORT_CLOSED_COUNT 0 0 t))) ∧
          (∀ f, staState d k = 4 → agreed = false → u.retry = false → u.moreFrag = false → u.frag = 0 → u.pn = none → fs = [f] →
            fits f → Acts (.ppduRx n p) s (fun t => seen t ∧ handsOn f t)) ∧
          (staState d k = 4 → agreed = true → baVerdict d k tid u.sn = .dup → Acts (.ppduRx n p) s (fun t =>
            seen t ∧ idle t ∧ (holding d pSta = false → up1 STA_DUP_DISCARD_COUNT 0 0 t))) ∧
          (∀ f, staState d k = 4 → agreed = true → baVerdict d k tid u.sn = .want → winStart d k tid = u.sn → u.sn < 4096 →
            heldOf d k tid = [] → u.pn = none → fs = [f] → fits f → Acts (.ppduRx n p) s (fun t =>
              seen t ∧ handsOn f t ∧ winStart t.dev k tid = (u.sn + 1) % 4096 ∧ heldOf t.dev k tid = []))))) ∧
    (∀ n p,
      let other : Prop := p.otherRx = true ∧ pairNstr d = true ∧ (n = 1 ∨ n = 2)
      (radioUp d n = false ∨ txMayBegin d n p = false → exec (.ppduTx n p) s = .next s) ∧
      (radioUp d n = true → txMayBegin d n p = true →
        (other → p.kind ≠ .response → holding d pMld = false → Acts (.ppduTx n p) s (fun t =>
          up1 MLD_NSTR_DEFER_COUNT 0 0 t ∧ OnlyKeys [MLD_NSTR_DEFER_COUNT.key 0 0] s t)) ∧
        (¬other → p.mpdus = [] → Acts (.ppduTx n p) s (fun t =>
          Out.ppdu n [] ∈ t.dev.out ∧ (holding d (pRadio n) = false → up1 RADIO_TX_PPDU_COUNT n 0 t) ∧
          (p.kind = .trigger → holding d pAir = false → up1 AIR_L_TRIG_COUNT 0 n t) ∧
          ChangesParts [.time, .mld] s t)) ∧
        (∀ u x e, ¬other → p.mpdus = [u] → handedTo d (6 + n) = [x] → x.head = u.head → ownerKind d x.queue = 1 →
          ownerIndex d x.queue / 16 = e → staState d e = 4 → (staOf d e).stopping = false →
          twtAsleep d n e = false → txEndsByClose d n p.dur x = true → d.on BA_TX_EN 0 (ti e (ownerIndex d x.queue % 16)) = false → framePoisoned d x.head 0 x.len = false → d.on STA_W4_KEY_VALID 0 e = false →
          let tid := ownerIndex d x.queue % 16
          let sn := d.rd TX_SN_SN 0 (ti e tid)
          let sent := fun (t : State) => handedTo t.dev (6 + n) = [] ∧ t.mem = s.mem ∧
            Out.ppdu n [(readFrame d s.mem x.head 0 x.len, sn, none, false)] ∈ t.dev.out ∧
            t.dev.rd TX_SN_SN 0 (ti e tid) = (sn + 1) % 4096
          (u.solicits = true → u.acked = true → Acts (.ppduTx n p) s (fun t =>
            sent t ∧ (staOf t.dev e).outst = (staOf d e).outst ∧ t.dev.rd L_FAIL_COUNT 0 (lk e n) = 0)) ∧
          (u.solicits = true → u.acked = false → d.rd STA_TX_CFG_RETRY_LIMIT ≠ 0 →
            (∀ o ∈ (staOf d e).outst, ¬(o.tid = tid ∧ o.sn = sn)) → Acts (.ppduTx n p) s (fun t =>
              sent t ∧ (staOf t.dev e).outst = (staOf d e).outst ++
                [{ tid := tid, sn := sn, x := x, tries := 1, since := d.tb.elapsed, key := none }]))))) ∧
    (∀ l,
      let sends : Prop := radioUp d l = true ∧ (mldActs d = false ∨ linkUp d l = true)
      let left := d.rd MLD_LINK_STATUS_TBTT_LEFT 0 l
      let k := (tabGet d.mld.bpcc l 0 + tabGet d.mld.changes l 0) % 256
      let beacon := Out.beacon l (([0, 1, 2].filter (fun x => linkState d x == 3)).map
        (fun x => (x, d.rd MLD_LINK_STATUS_TBTT_LEFT 0 x))) (advertisedBC d) k (timOf d l) (rtwtOf d l)
      (3 ≤ l ∨ (¬sends ∧ linkState d l ≠ 3) → exec (.tbtt l) s = .next s) ∧
      (l < 3 → sends → linkState d l ≠ 3 → Acts (.tbtt l) s (fun t =>
        t.dev.out = d.out ++ [beacon] ∧ Changes [.mld] [] s t ∧
        (mldActs d = true → tabGet t.dev.mld.changes l 0 = 0 ∧ tabGet t.dev.mld.bpcc l 0 = k))) ∧
      (l < 3 → linkState d l = 3 → 1 < left → Acts (.tbtt l) s (fun t =>
        (sends → t.dev.out = d.out ++ [beacon]) ∧ (¬sends → t.dev.out = d.out) ∧
        t.dev.rd MLD_LINK_STATUS_TBTT_LEFT 0 l = (left - 1) % 2 ^ 8 ∧ Changes [.mld] [0x45] s t)) ∧
      (l < 3 → linkState d l = 3 → left ≤ 1 → Acts (.tbtt l) s (fun t =>
        linkState t.dev l = 0 ∧ t.dev.rd MLD_LINK_STATUS_TBTT_LEFT 0 l = 0 ∧ (sends → beacon ∈ t.dev.out))))

/-- On a device that is not in reset: a preamble found counts as abort, takeover or ignored by R236 with Outrider's
margin; a lost reception counts. A calibration step leads to the next, the sixth stores the latencies and ends it,
and one that overruns makes OUTR FAILED. A granted neighbour command in a state that does not allow it gives RESULT
1 and code 0x40, and an address held by another entry RESULT 2 and code 0x41, with nothing else changed; CREATE and
UPDATE put the window's values in force, REMOVE frees the entry and clears its values, RESYNC makes it SYNC; other
entries stay as they are. A failed exchange adds 1 to FAILS and moves the state to WIDE at 3 and to DESYNC at 6,
which clears PHASE_VALID. A frame without an acknowledgement is kept to be sent again, or dropped when its retries
are spent. LOST is written once. An extended listen starts for a DESYNC TSCH neighbour when it is due. A granted
read of OM_EVT takes the oldest event. -/
def Obligations.OutriderNeighboursAct : Prop :=
  ∀ s : State, frozen s.dev = false →
    let d := s.dev
    let up := fun (F : Fld) (t : State) => t.dev.rd F = satAdd (2 ^ 32 - 1) (d.rd F) 1 % 2 ^ 32
    let written := fun (k n : Nat) (t : State) => d.outr.evts.length < 64 → (k, n) ∈ t.dev.outr.evts
    let failed := fun (n : Nat) (t : State) =>
      let f := satAdd 63 (d.rd NBR_STAT_FAILS 0 n) 1
      (onState d n = 0 → onState t.dev n = 0 ∧ t.dev.rd NBR_STAT_FAILS 0 n = d.rd NBR_STAT_FAILS 0 n) ∧
      (onState d n ≠ 0 → t.dev.rd NBR_STAT_FAILS 0 n = f ∧
        (f < 3 → onState t.dev n = onState d n) ∧
        (3 ≤ f → f < 6 → onState t.dev n = 2 ∧ (onState d n ≠ 2 → written 2 n t)) ∧
        (6 ≤ f → onState t.dev n = 3 ∧ (onState d n ≠ 3 → written 3 n t ∧ t.dev.on NBR_W3_PHASE_VALID 0 n = false ∧
          (t.dev.rd HDR_INT_RAW_RAW pOm).testBit 5 = true)))
    (isActive d pOp = false → exec .outrRxLost s = .next s ∧
      ∀ est power passed, exec (.outrCapture est power passed) s = .next s) ∧
    (isActive d pOp = true → holding d pOp = false →
      Acts .outrRxLost s (fun t => up OP_RX_LOST_COUNT t ∧ OnlyKeys [OP_RX_LOST_COUNT.key 0 0] s t) ∧
      (∀ est power passed,
        let nf := signed 16 (if d.on OP_BAND_BAND then d.rd OP_NOISE_NF_24 else d.rd OP_NOISE_NF_SUB)
        let margin : Int := 4 * d.rd OP_CAPTURE_CAPTURE_MARGIN
        let captures : Prop := (if est < nf then nf - margin else est) + margin ≤ power ∧
          (passed = false ∨ d.on OP_CAPTURE_CAPTURE_IN_DATA = true)
        let counts := fun (F : Fld) => Acts (.outrCapture est power passed) s (fun t =>
          up F t ∧ OnlyKeys [F.key 0 0] s t)
        (captures → counts (if passed then OP_CAPTURE_ABORT_COUNT else OP_SHADOW_TAKEOVER_COUNT)) ∧
        (¬captures → counts OP_CAPTURE_IGNORED_COUNT))) ∧
    (∀ late lat,
      let k := d.rd OP_CAL_STATUS_STEP
      let idle := fun (t : State) => t.dev.on OP_CAL_STATUS_RUNNING = false ∧ t.dev.rd OP_CAL_STATUS_STEP = 0
      (d.on OP_CAL_STATUS_RUNNING = false → exec (.outrCalStepDone late lat) s = .next s) ∧
      (d.on OP_CAL_STATUS_RUNNING = true →
        (late = true → Acts (.outrCalStepDone late lat) s (fun t => idle t ∧ unitState t.dev 7 = 3 ∧
          (holding d pOp = false → d.on HDR_ERR_CODE_VALID pOp = false →
            t.dev.rd HDR_ERR_CODE_CODE pOp = 0x40 ∧ t.dev.rd HDR_ERR_ADDR_LO_ADDR pOp = 256 * k % 2 ^ 32) ∧
          OnlyPages (0x00 :: 0x59 :: eventPages pOp) s t)) ∧
        (late = false → k < 6 → Acts (.outrCalStepDone late lat) s (fun t =>
          t.dev.rd OP_CAL_STATUS_STEP = k + 1 ∧ OnlyKeys [OP_CAL_STATUS_STEP.key 0 0] s t)) ∧
        (∀ a b c e, late = false → 6 ≤ k → lat = [a, b, c, e] → Acts (.outrCalStepDone late lat) s (fun t => idle t ∧
          t.dev.rd OP_TX_LAT_LAT_24 = a % 2 ^ OP_TX_LAT_LAT_24.width ∧
          t.dev.rd OP_TX_LAT_LAT_SUB = b % 2 ^ OP_TX_LAT_LAT_SUB.width ∧
          t.dev.rd OP_RX_LAT_LAT_24 = c % 2 ^ OP_RX_LAT_LAT_24.width ∧
          t.dev.rd OP_RX_LAT_LAT_SUB = e % 2 ^ OP_RX_LAT_LAT_SUB.width ∧
          (t.dev.rd HDR_INT_RAW_RAW pOp).testBit 3 = true ∧ OnlyPages [pOp, 0x59, 0xCE] s t)))) ∧
    (∀ m, writeTaken d m (pOm + 2) = true →
      let e := d.rd NBR_IDX_ENTRY
      let refused := fun (c : Instr) (r code : Nat) => exec c s =
        .next { s with dev := refuseWrite pOm code m (regAddr (pOm + 2) 0x044) (d.put NBR_CMD_RESULT r 0 e) }
      let ext := d.rd NBR_W1_EXT 0 e + 2 ^ 32 * d.rd NBR_W2_EXT 0 e
      let clash : Prop := ∃ o ∈ onEntries d, o ≠ e ∧
        ((d.rd NBR_W0_SHORT 0 e ≠ 0xFFFE ∧ (onbr d o).short = d.rd NBR_W0_SHORT 0 e) ∨ (ext ≠ 0 ∧ (onbr d o).ext = ext))
      let others := fun (t : State) => t.dev.rd NBR_CMD_RESULT 0 e = 0 ∧ Changes [.outr] [0x5E] s t ∧
        ∀ i, i ≠ e → onbr t.dev i = onbr d i ∧ onState t.dev i = onState d i
      let inForce := fun (t : State) => (onbr t.dev e).mode = d.rd NBR_W0_MODE 0 e ∧
        (onbr t.dev e).profile = d.rd NBR_W0_PROFILE 0 e ∧ (onbr t.dev e).short = d.rd NBR_W0_SHORT 0 e ∧
        (onbr t.dev e).ext = ext ∧ (onbr t.dev e).advChan = d.rd NBR_W3_ADV_CHAN 0 e ∧
        (onbr t.dev e).period = d.rd NBR_W3_CSL_PERIOD 0 e
      (e = 1023 ∨ onState d e ≠ 0 → refused (.nbrCreate m) 1 0x40) ∧
      (e ≠ 1023 → onState d e = 0 → (clash → refused (.nbrCreate m) 2 0x41) ∧
        (¬clash → Acts (.nbrCreate m) s (fun t => onState t.dev e = 1 ∧ t.dev.rd NBR_STAT_FAILS 0 e = 0 ∧ inForce t ∧
          (onbr t.dev e).heard = d.tb.elapsed ∧ others t))) ∧
      (onState d e = 0 → refused (.nbrUpdate m) 1 0x40 ∧ refused (.nbrRemove m) 1 0x40 ∧ refused (.nbrResync m) 1 0x40) ∧
      (onState d e ≠ 0 →
        (clash → refused (.nbrUpdate m) 2 0x41) ∧
        (¬clash → Acts (.nbrUpdate m) s (fun t => onState t.dev e = onState d e ∧ inForce t ∧ others t)) ∧
        Acts (.nbrRemove m) s (fun t => onState t.dev e = 0 ∧ onbr t.dev e = {} ∧
          (∀ F ∈ [NBR_SEQ_VALID, NBR_SEQ_TX_SEQ, NBR_STAT_FAILS, NBR_DRIFT_DRIFT, NBR_W3_PHASE_VALID], t.dev.rd F 0 e = 0) ∧
          others t) ∧
        Acts (.nbrResync m) s (fun t => onState t.dev e = 1 ∧ t.dev.rd NBR_STAT_FAILS 0 e = 0 ∧ t.dev.outr = d.outr ∧
          OnlyKeys [NBR_W0_STATE.key 0 e, NBR_STAT_FAILS.key 0 e, NBR_CMD_RESULT.key 0 e] s t))) ∧
    (∀ e,
      let n := onbr d e
      let late : Prop := onState d e ≠ 0 ∧ e < 1023 ∧ n.lostSaid = false ∧
        n.heard + 500000000 * max 1 (d.rd OM_AGE_NBR_AGE) ≤ d.tb.elapsed
      let may : Prop := outrActs d = true ∧ cellNow d = none ∧ onState d e = 3 ∧ n.mode = 0 ∧ n.period = 0 ∧
        (∀ t, n.listened = some t → t + 30000000000 ≤ d.tb.elapsed) ∧ (∀ l, d.outr.listen = some l → l.2 ≤ d.tb.elapsed ∨ listensFor d l.1 = false)
      let usable : Prop := profValid d n.profile = true ∧ profChanOk d n.profile n.advChan = true
      (¬late → exec (.nbrAgeExpire e) s = .next s) ∧
      (late → Acts (.nbrAgeExpire e) s (fun t => written 5 e t ∧ (onbr t.dev e).lostSaid = true ∧
        onState t.dev e = onState d e ∧
        (64 ≤ d.outr.evts.length → t.dev.outr.evts = d.outr.evts ∧ (holding d pOm = false → up OM_EVT_OVF_COUNT t)) ∧
        Changes [.outr] [pOm, 0xCE] s t)) ∧
      (¬may → exec (.extListen e) s = .next s) ∧
      (may → usable → Acts (.extListen e) s (fun t =>
        t.dev.outr.listen = some (e, d.tb.elapsed + 5000000 * d.rd OM_SYNC_EXT_LISTEN) ∧
        (onbr t.dev e).listened = some d.tb.elapsed ∧
        (profBand d n.profile < 2 → t.dev.rd OP_BAND_BAND = profBand d n.profile) ∧ Changes [.outr] [pOp] s t)) ∧
      (may → ¬usable → Acts (.extListen e) s (fun t =>
        t.dev.outr.listen = d.outr.listen ∧ onbr t.dev e = n ∧ (holding d pOm = false → up OM_CHAN_INVALID_COUNT t) ∧
        Changes [.outr] (pOm :: eventPages pOp) s t))) ∧
    (∀ m, pageReadable d m pOm = true → present d pOm = true →
      (d.outr.evts = [] → Acts (.omEvtPop m) s (fun t => t.dev.sh.readData = toBytes 4 0 ∧ Changes [] [] s t)) ∧
      (∀ x l, d.outr.evts = x :: l → Acts (.omEvtPop m) s (fun t =>
        t.dev.sh.readData = toBytes 4 (2 ^ 31 + x.1 * 2 ^ 24 + x.2 % 1024) ∧ t.dev.outr = { d.outr with evts := l } ∧
        Changes [.outr] [] s t))) ∧
    ((∀ c, d.outr.cell = some c → c.expect = false ∨ c.heard = true ∨ c.tx = true ∨ c.nbr = 0x3FF) →
      exec .outrRxWindowEnd s = .next s) ∧
    (∀ c, d.outr.cell = some c → c.expect = true → c.heard = false → c.tx = false → c.nbr ≠ 0x3FF →
      Acts .outrRxWindowEnd s (fun t => t.dev.outr.cell = some { c with heard := true } ∧ failed c.nbr t ∧
        Changes [.outr] [pOm, 0x5E, 0xCE] s t)) ∧
    (∀ n, (∀ h ∈ d.outr.held, h.nbr = n → h.waiting = false) → exec (.outrAckTimeout n) s = .next s) ∧
    (∀ n h, d.outr.held.find? (fun g => g.nbr == n && g.waiting) = some h →
      Acts (.outrAckTimeout n) s (fun t => failed n t ∧ (holding d pOm = false → up OM_TX_NOACK_COUNT t) ∧ t.mem = s.mem ∧
        (h.tries ≤ d.rd OM_RETRY_MAX_RETRIES →
          t.dev.outr.held = d.outr.held.filter (fun g => g.nbr != n) ++ [{ h with waiting := false }] ∧
          Changes [.outr] [pOm, 0x5E, 0xCE] s t) ∧
        (d.rd OM_RETRY_MAX_RETRIES < h.tries → t.dev.outr.held = d.outr.held.filter (fun g => g.nbr != n) ∧
          (holding d pOm = false → up OM_TX_RETRY_DROP_COUNT t) ∧
          (∀ k, caravanAt d h.x.head = some k → 1 < k.refs →
            caravanAt t.dev h.x.head = some { k with refs := k.refs - 1 }))))

/-- On a device that is not in reset: a mode that is not searched changes nothing; a failed header counts. An
acknowledgement ends the wait of its frame and synchronises the neighbour. A frame for another device is only
counted. One from an unknown source is delivered with SRC index 0xFFF and event NEW_NBR; one from a neighbour
synchronises it, and passes the window: a duplicate counts and is acknowledged again, a new one moves the window and
is delivered and acknowledged. A frame that class 5 refuses counts. A flood pair seen before is not delivered. A
timeslot that starts shows its ASN; a TX link with a frame comes before an RX link, and no link leaves unscheduled
time; a link naming a FREE entry counts in SKIPS. A frame goes out in its cell or in unscheduled time where it fits,
with the next number of its neighbour, or its own when sent again, and waits for the acknowledgement that it asks
for; too long a frame is dropped. A CSL sequence is led by its wake-up frames, and an RFS frame by copies. (Frames'
bytes: canonical memory.) -/
def Obligations.OutriderFramesAct : Prop :=
  ∀ s : State, frozen s.dev = false →
    let d := s.dev
    let up := fun (F : Fld) (t : State) => t.dev.rd F = satAdd (2 ^ 32 - 1) (d.rd F) 1 % 2 ^ 32
    let omUp := fun (F : Fld) (t : State) => holding d pOm = false → up F t
    (∀ p,
      let detects : Prop := isActive d pOp = true ∧ outrDetects d p.mode = true
      let whole : Prop := p.phrOk = true ∧ isActive d pOm = true ∧ p.fcsOk = true
      let f := outrMac p.psdu
      let at' := outrRxStamp p.mode d
      let synced := fun (e : Nat) (t : State) => onState t.dev e = 1 ∧ t.dev.rd NBR_STAT_FAILS 0 e = 0 ∧
        (onbr t.dev e).sync = some at' ∧ t.dev.rd NBR_SYNC_S_S 0 e = (manifestForm at').2 % 2 ^ NBR_SYNC_S_S.width
      let idle := fun (t : State) => t.mem = s.mem ∧ t.dev.q = d.q ∧ t.dev.ser = d.ser
      let flood := floodHeader d f.dst f.payload p.psdu
      let grant := admitTest d 5 (cellsFor (headRoom d) p.psdu.length)
      let fits : Prop := d.rst.inboundClosed = false ∧ s.memCanonical = true ∧ grant ≠ none
      let acked := fun (t : State) => f.ackReq = true → f.dst ≠ .short 0xFFFF → ∃ c,
        Out.outrAck f.seq ((cellNow d).isSome || f.version == 2) c ∈ t.dev.out
      let handsOn := fun (src : Nat) (t : State) => acked t ∧ omUp OM_RX_ACCEPT_COUNT t ∧
        ∃ x : Manifest, t.dev.q.toWay = d.q.toWay ++ [x] ∧ x.len = p.psdu.length ∧ x.src = src ∧ x.exc = 0 ∧
          readFrame t.dev t.mem x.head 0 p.psdu.length = p.psdu
      (¬detects → exec (.outrFrameRx p) s = .next s) ∧
      (detects → holding d pOp = false →
        (p.phrOk = false → Acts (.outrFrameRx p) s (fun t =>
          up OP_HDR_FAIL_COUNT t ∧ OnlyKeys [OP_HDR_FAIL_COUNT.key 0 0] s t)) ∧
        (p.phrOk = true → isActive d pOm = false ∨ p.fcsOk = false → Acts (.outrFrameRx p) s (fun t =>
          up OP_RX_FRAME_COUNT t ∧ OnlyKeys [OP_RX_FRAME_COUNT.key 0 0] s t))) ∧
      (detects → whole → f.type = 2 →
        (∀ q h, f.seq = some q → d.outr.held.find? (fun g => g.waiting && g.seq == some q) = some h →
          Acts (.outrFrameRx p) s (fun t => t.dev.outr.held = d.outr.held.filter (fun g => g.nbr != h.nbr) ∧
            omUp OM_TX_OK_COUNT t ∧ (onState d h.nbr ≠ 0 → synced h.nbr t) ∧ t.mem = s.mem)) ∧
        ((∀ q ∈ f.seq, ∀ g ∈ d.outr.held, g.waiting = true → g.seq ≠ some q) →
          Acts (.outrFrameRx p) s (fun t => t.dev.outr = d.outr ∧ OnlyPages [pOp] s t))) ∧
      (detects → whole → f.type ≠ 2 → outrAccepts d f = false → Acts (.outrFrameRx p) s (fun t => OnlyPages [pOp] s t)) ∧
      (detects → whole → f.type ≠ 2 → outrAccepts d f = true →
        (∀ fl g, flood = some fl → seenFind d fl.2.1 fl.2.2 = some g →
          Acts (.outrFrameRx p) s (fun t => idle t ∧ omUp OM_FLOOD_DUP_COUNT t)) ∧
        (outrSource d f.src = none →
          (flood = none → d.rst.inboundClosed = false → grant = none → Acts (.outrFrameRx p) s (fun t =>
            t.mem = s.mem ∧ t.dev.q = d.q ∧ omUp OM_RX_REFUSED_COUNT t)) ∧
          (flood = none → fits → Acts (.outrFrameRx p) s (fun t => handsOn 0x5FFF t ∧ omUp OM_RX_UNKNOWN_COUNT t ∧
            (d.outr.evts.length < 64 → t.dev.outr.evts = d.outr.evts ++ [(1, 0x3FF)])))) ∧
        (∀ e, outrSource d f.src = some e →
          let high := d.rd NBR_SEQ_HIGH 0 e
          let map := d.rd NBR_SEQ_MAP_MAP 0 e
          (f.seq = none ∨ f.dst = .short 0xFFFF → flood = none → fits → Acts (.outrFrameRx p) s (fun t =>
            synced e t ∧ handsOn (0x5000 + e) t ∧ t.dev.rd NBR_SEQ_HIGH 0 e = high)) ∧
          (∀ q, f.seq = some q → f.dst ≠ .short 0xFFFF →
            let a := (q + 256 - high) % 256
            let fresh := d.on NBR_SEQ_VALID 0 e = false
            let dup : Prop := ¬fresh ∧ (a = 0 ∨ (224 < a ∧ map.testBit (256 - a) = true))
            let after := fun (h m : Nat) => fits → Acts (.outrFrameRx p) s (fun t => synced e t ∧ handsOn (0x5000 + e) t ∧
              t.dev.rd NBR_SEQ_HIGH 0 e = h ∧ t.dev.rd NBR_SEQ_MAP_MAP 0 e = m % 2 ^ 32 ∧ t.dev.on NBR_SEQ_VALID 0 e = true)
            (dup → Acts (.outrFrameRx p) s (fun t => synced e t ∧ idle t ∧ omUp OM_RX_DUP_COUNT t ∧ acked t)) ∧
            (fresh → after q 1) ∧
            (¬fresh → 1 ≤ a → a ≤ 224 → after q (map * 2 ^ a + 1)) ∧
            (¬fresh → ¬dup → 224 < a → high < 256 → after high (setBit map (256 - a))) ∧
            (¬dup → d.rst.inboundClosed = false → grant = none → Acts (.outrFrameRx p) s (fun t =>
              synced e t ∧ t.mem = s.mem ∧ t.dev.q = d.q ∧ omUp OM_RX_REFUSED_COUNT t ∧
              t.dev.rd NBR_SEQ_HIGH 0 e = high ∧ t.dev.rd NBR_SEQ_MAP_MAP 0 e = map)))))) ∧
    (outrActs d = false ∨ asnAt d (nowTotal d) = none → exec .outrTimeslot s = .next s) ∧
    (∀ k, outrActs d = true → asnAt d (nowTotal d) = some k →
      let begins : Prop := ∀ q, d.outr.last = some q → q < k
      let act := (outrLinks d).filter (fun i => linkAt d k i && !linkFree d i)
      let chan := fun (i : Nat) => hopChan d (d.rd OM_LINK_W_LO_PROFILE 0 i) k (d.rd OM_LINK_W_HI_CH_OFFSET 0 i)
      let takes := fun (i : Nat) (tx : Bool) (t : State) =>
        profValid d (d.rd OM_LINK_W_LO_PROFILE 0 i) = true → profChanOk d (d.rd OM_LINK_W_LO_PROFILE 0 i) (chan i) = true →
          ∃ c, t.dev.outr.cell = some c ∧ c.link = i ∧ c.asn = k ∧ c.span = d.rd OM_LINK_W_LO_SPANM1 0 i + 1 ∧
            c.nbr = d.rd OM_LINK_W_LO_NBR 0 i ∧ c.chan = chan i ∧ c.tx = tx ∧
              c.ends = tsStart d (k + c.span)
      let send := firstLink d (act.filter (linkSends d))
      (¬begins → exec .outrTimeslot s = .next s) ∧
      (begins → Acts .outrTimeslot s (fun t => t.dev.outr.last = some k ∧ t.dev.rd OM_ASN_LO_ASN = k % 2 ^ 32 ∧
        t.dev.rd OM_ASN_HI_ASN = k / 2 ^ 32 % 2 ^ 8 ∧ Changes [.outr] (pOm :: 0x5D :: eventPages pOp) s t ∧
        (∀ i, (outrLinks d).filter (linkAt d k) = [i] → linkFree d i = true →
          t.dev.rd OM_LINK_STAT_SKIPS 0 i = satAdd (2 ^ 16 - 1) (d.rd OM_LINK_STAT_SKIPS 0 i) 1) ∧
        (∀ c, d.outr.cell = some c → nowTotal d < c.ends → t.dev.outr.cell = some c ∧
          (∀ i, act = [i] → linkListens d i = true → omUp OM_CELL_OVERRIDE_COUNT t)) ∧
        ((∀ c, d.outr.cell = some c → c.ends ≤ nowTotal d) →
          (∀ i, send = some i → takes i true t) ∧
          (∀ i, send = none → firstLink d (act.filter (linkListens d)) = some i → takes i false t) ∧
          (act = [] → t.dev.outr.cell = none))))) ∧
    (∀ n x,
      let ready := fun (h : OutrHeld) => (d.outr.held.find? (fun g => g.nbr == n) = some h ∧ h.waiting = false) ∨
        (d.outr.held.find? (fun g => g.nbr == n) = none ∧ ∃ y, (handedTo d 9).find? (forNbr d n) = some y ∧
          h = { x := y, nbr := n, seq := none, tries := 0, waiting := false, nominal := none })
      let frame := fun (h : OutrHeld) => outrMac (readFrame d s.mem h.x.head 0 h.x.len)
      let asks := fun (h : OutrHeld) => (frame h).ackReq && n != 0x3FF
      let goes := fun (h : OutrHeld) (w : OutrWay) => framePoisoned d h.x.head 0 h.x.len = false ∧
        3 ≤ (readFrame d s.mem h.x.head 0 h.x.len).length ∧
        (h.tries = 0 → outrTooLong d w x n h.x.len (asks h) = false ∧ tabFind d.outr.relays h.x.head = none)
      let number := fun (h : OutrHeld) => if 0 < h.tries then h.seq
        else if (frame h).seq.isSome then some (d.rd NBR_SEQ_TX_SEQ 0 n) else none
      let sent := fun (h : OutrHeld) (w : OutrWay) (t : State) =>
        (∃ o b l, Out.outrFrame n (profKhz d w.profile w.chan) (profMode d w.profile) (profPower d w.profile) o b l ∈ t.dev.out ∧
          o.isSome = w.cell.isSome ∧ (∀ v, number h = some v → b.getD 2 0 = BitVec.ofNat 8 v)) ∧
        (h.tries = 0 → (frame h).seq.isSome = true →
          t.dev.rd NBR_SEQ_TX_SEQ 0 n = (d.rd NBR_SEQ_TX_SEQ 0 n + 1) % 256) ∧ t.mem = s.mem
      let awaits := fun (h : OutrHeld) (t : State) => ∃ g ∈ t.dev.outr.held, g.x = h.x ∧ g.nbr = n ∧ g.seq = number h ∧
        g.tries = h.tries + 1 ∧ g.waiting = true
      let outside := outsideProfile d n
      let way : OutrWay := ⟨outside.1, outside.2, none⟩
      let usable : Prop := profValid d outside.1 = true ∧ profChanOk d outside.1 outside.2 = true
      let room := fun (lead : Nat) => ∃ ns, outsideNs d s.mem n x = some ns ∧ fitsOutside d (lead + ns) = true
      let free : Prop := if n = 0x3FF then bcastOutside d = true else onState d n ≠ 0 ∧ (onbr d n).mode = 3
      let len := outrAirtime (profMode d (onbr d n).profile) (lrPreamble d) 11
      let lead := fun (w : Nat) => (cslAhead d n - cslWidth d n).toNat +
        wakeCount d (cslWidth d n) (len w) * 1000 * (len w + d.rd OM_CSL_WAKE_GAP)
      (outrActs d = false → exec (.outrFrameTx n x) s = .next s) ∧
      (∀ c, outrActs d = true → cellNow d = some c →
        let w : OutrWay := ⟨c.profile, c.chan, some c⟩
        (¬(c.tx = true ∧ n ∈ cellServes d c.nbr c.shared) → exec (.outrFrameTx n x) s = .next s) ∧
        (c.tx = true → n ∈ cellServes d c.nbr c.shared → ∀ h, ready h →
          (goes h w → Acts (.outrFrameTx n x) s (fun t => sent h w t ∧ (holding d pOp = false → up OP_TX_FRAME_COUNT t) ∧
            (asks h = true → awaits h t) ∧ (asks h = false → omUp OM_TX_OK_COUNT t))) ∧
          (framePoisoned d h.x.head 0 h.x.len = false → h.tries = 0 → outrTooLong d w x n h.x.len (asks h) = true →
            Acts (.outrFrameTx n x) s (fun t => omUp OM_TOO_LONG_COUNT t ∧ t.dev.outr.held = d.outr.held.filter (fun g => g.nbr != n) ∧
              t.dev.rd NBR_SEQ_TX_SEQ 0 n = d.rd NBR_SEQ_TX_SEQ 0 n ∧ t.mem = s.mem)))) ∧
      (outrActs d = true → cellNow d = none →
        (¬free ∨ ¬room 0 → exec (.outrFrameTx n x) s = .next s) ∧
        (free → room 0 → ¬usable → Acts (.outrFrameTx n x) s (fun t => omUp OM_CHAN_INVALID_COUNT t ∧
          Changes [.outr] (pOm :: eventPages pOp) s t)) ∧
        (∀ h, free → room 0 → usable → ready h → goes h way → Acts (.outrFrameTx n x) s (fun t => sent h way t ∧
          (asks h = true → awaits h t)))) ∧
      (∀ wake, (sleepyReady d n 1 = false ∨ ¬room (lead wake) → exec (.cslSequence n x wake) s = .next s) ∧
        (∀ h, sleepyReady d n 1 = true → room (lead wake) → usable → ready h → goes h way →
          Acts (.cslSequence n x wake) s (fun t => sent h way t ∧ omUp OM_CSL_SEQ_COUNT t ∧
            (∃ l, Out.outrWake n (d.rd OM_CFG_PAN_ID) (onbr d n).short l ∈ t.dev.out ∧
              l.length = wakeCount d (cslWidth d n) (len wake) ∧ l.getLast? = some (d.rd OM_CSL_WAKE_GAP)) ∧ (asks h = true → awaits h t)))) ∧
      (∀ copies got, (sleepyReady d n 2 = false ∨ outsideNs d s.mem n x = none →
          exec (.rfsDelivery n x copies got) s = .next s) ∧
        (∀ ns h, sleepyReady d n 2 = true → outsideNs d s.mem n x = some ns →
          let step := rfsStep d n x
          let most := 1 + 2 * cslWidth d n / max 1 step
          let k := if got then max 1 (min copies most) else most
          let fitting := fitsOutside d ((cslAhead d n - cslWidth d n).toNat + (k - 1) * step + ns) = true
          (¬fitting → exec (.rfsDelivery n x copies got) s = .next s) ∧
          (fitting → usable → ready h → goes h way → asks h = true → Acts (.rfsDelivery n x copies got) s (fun t =>
            sent h way t ∧
            (holding d pOm = false → t.dev.rd OM_RFS_COPIES_COUNT =
              satAdd (2 ^ 32 - 1) (d.rd OM_RFS_COPIES_COUNT) k % 2 ^ 32) ∧
            (got = true → onState t.dev n = 1 ∧ t.dev.rd NBR_STAT_FAILS 0 n = 0 ∧ omUp OM_TX_OK_COUNT t ∧
              ∀ g ∈ t.dev.outr.held, g.nbr ≠ n) ∧
            (got = false → omUp OM_TX_NOACK_COUNT t ∧ ∀ g ∈ t.dev.outr.held, g.nbr = n → g.waiting = false))))))
end

