-- ==== Sys2Proof/Laws/Memory.lean ====
section
/-! SUPPORT. Memory: reads after writes, and the canonical form that every operation on memory keeps. -/

namespace Sys2Proof.Machine

open Sys2Proof

theorem memWfFrom_mono {lo lo' : Nat} (h : lo' ≤ lo) : ∀ m : Memory, memWfFrom lo m = true → memWfFrom lo' m = true
  | [], _ => rfl
  | c :: m, hm => by
    simp only [memWfFrom, Bool.and_eq_true, decide_eq_true_eq] at hm ⊢
    exact ⟨⟨by omega, hm.1.2⟩, hm.2⟩

/-- Storing a byte keeps the canonical form above any bound that its address meets. -/
theorem memPut_wfFrom (a : Nat) (b : Byte) :
    ∀ (m : Memory) (lo : Nat), lo ≤ a → memWfFrom lo m = true → memWfFrom lo (memPut m a b) = true
  | [], lo, hlo, _ => by
    simp only [memPut]
    split
    · rfl
    · next h => simp [memWfFrom, hlo, h]
  | c :: m, lo, hlo, hm => by
    simp only [memWfFrom, Bool.and_eq_true, decide_eq_true_eq] at hm
    simp only [memPut]
    split
    · next hac =>
      split
      · simp [memWfFrom, hm.1.1, hm.1.2, hm.2]
      · next hb =>
        have : a + 1 ≤ c.1 := hac
        simp [memWfFrom, hlo, hb, this, hm.1.2, hm.2]
    · split
      · next hca =>
        split
        · exact memWfFrom_mono (by omega) m hm.2
        · next hb =>
          rw [hca] at hm
          simp [memWfFrom, hlo, hb, hm.2]
      · next h1 h2 =>
        have h3 : c.1 + 1 ≤ a := by omega
        simp only [memWfFrom, Bool.and_eq_true, decide_eq_true_eq]
        exact ⟨hm.1, memPut_wfFrom a b m (c.1 + 1) h3 hm.2⟩

/-- Storing a byte keeps the canonical form. -/
theorem memPut_wf {m : Memory} (a : Nat) (b : Byte) (h : m.wf = true) : Memory.wf (memPut m a b) = true :=
  memPut_wfFrom a b m 0 (Nat.zero_le a) h

/-- Storing bytes keeps the canonical form. -/
theorem memWrite_wf (bs : Bytes) : ∀ {m : Memory} (a : Nat), m.wf = true → Memory.wf (memWrite m a bs) = true := by
  induction bs with
  | nil => intro m a h; exact h
  | cons b bs ih => intro m a h; exact ih (a + 1) (memPut_wf a b h)

/-- Erasing a part keeps the canonical form above any bound. -/
theorem memErase_wfFrom (p : Nat → Bool) : ∀ (m : Memory) (lo : Nat), memWfFrom lo m = true → memWfFrom lo (memErase m p) = true
  | [], _, _ => rfl
  | c :: m, lo, h => by
    simp only [memWfFrom, Bool.and_eq_true, decide_eq_true_eq] at h
    have ih := memErase_wfFrom p m (c.1 + 1) h.2
    simp only [memErase, List.filter_cons]
    split
    · simp only [memWfFrom, Bool.and_eq_true, decide_eq_true_eq]
      exact ⟨h.1, ih⟩
    · exact memWfFrom_mono (by omega) _ ih

/-- Erasing a part keeps the canonical form. -/
theorem memErase_wf {m : Memory} (p : Nat → Bool) (h : m.wf = true) : Memory.wf (memErase m p) = true :=
  memErase_wfFrom p m 0 h

theorem memGet_of_lt {a lo : Nat} (h : a < lo) : ∀ m : Memory, memWfFrom lo m = true → memGet m a = memDefault
  | [], _ => rfl
  | c :: m, hm => by
    simp only [memWfFrom, Bool.and_eq_true, decide_eq_true_eq] at hm
    simp only [memGet]
    rw [if_neg (by omega)]
    exact memGet_of_lt (by omega) m hm.2

theorem memGet_memPut_self_from (a : Nat) (b : Byte) :
    ∀ (m : Memory) (lo : Nat), memWfFrom lo m = true → memGet (memPut m a b) a = b
  | [], lo, _ => by
    simp only [memPut]
    split
    · next h => simp [memGet, h]
    · simp [memGet]
  | c :: m, lo, hm => by
    simp only [memWfFrom, Bool.and_eq_true, decide_eq_true_eq] at hm
    simp only [memPut]
    split
    · next hac =>
      split
      · next hb =>
        simp only [memGet]
        rw [if_neg (by omega), memGet_of_lt (by omega) m hm.2, hb]
      · simp [memGet]
    · split
      · next hca =>
        split
        · next hb => rw [memGet_of_lt (by omega) m hm.2, hb]
        · simp [memGet]
      · next h1 h2 =>
        simp only [memGet]
        rw [if_neg h2]
        exact memGet_memPut_self_from a b m (c.1 + 1) hm.2

/-- The byte that was stored is read back. -/
theorem memGet_memPut_self {m : Memory} (a : Nat) (b : Byte) (h : m.wf = true) : memGet (memPut m a b) a = b :=
  memGet_memPut_self_from a b m 0 h

/-- Storing one byte leaves every other. -/
theorem memGet_memPut_ne {a x : Nat} (b : Byte) (h : x ≠ a) :
    ∀ m : Memory, memGet (memPut m a b) x = memGet m x
  | [] => by
    simp only [memPut]
    split
    · rfl
    · simp [memGet, Ne.symm h]
  | c :: m => by
    simp only [memPut]
    split
    · split
      · rfl
      · simp [memGet, Ne.symm h]
    · split
      · next hca =>
        split
        · simp only [memGet]; rw [if_neg (by omega)]
        · simp only [memGet]; rw [if_neg (by omega), if_neg (by omega)]
      · simp only [memGet]
        split
        · rfl
        · exact memGet_memPut_ne b h m

/-- Bytes outside the stored run read as before. -/
theorem memGet_memWrite_out (bs : Bytes) :
    ∀ (m : Memory) (a x : Nat), (x < a ∨ a + bs.length ≤ x) → memGet (memWrite m a bs) x = memGet m x := by
  induction bs with
  | nil => intro m a x _; rfl
  | cons b bs ih =>
    intro m a x h
    simp only [List.length_cons] at h
    simp only [memWrite]
    rw [ih _ (a + 1) x (by omega), memGet_memPut_ne b (by omega) m]

/-- The bytes that were stored are read back. -/
theorem memGet_memWrite_in (bs : Bytes) :
    ∀ (m : Memory) (a i : Nat), m.wf = true → (h : i < bs.length) → memGet (memWrite m a bs) (a + i) = bs[i] := by
  induction bs with
  | nil => intro m a i _ h; simp at h
  | cons b bs ih =>
    intro m a i hm h
    simp only [memWrite]
    cases i with
    | zero =>
      rw [memGet_memWrite_out _ _ _ _ (by omega)]
      simpa using memGet_memPut_self a b hm
    | succ i =>
      have := ih (memPut m a b) (a + 1) i (memPut_wf a b hm) (by simpa using h)
      rw [show a + (i + 1) = a + 1 + i by omega]
      simpa using this

/-- A run that is stored reads back whole. -/
theorem memRead_memWrite (bs : Bytes) (m : Memory) (a : Nat) (hm : m.wf = true) :
    memRead (memWrite m a bs) a bs.length = bs := by
  apply List.ext_getElem
  · simp [memRead]
  · intro i h1 h2
    simp only [memRead, List.getElem_map, List.getElem_range]
    exact memGet_memWrite_in bs m a i hm h2

end Sys2Proof.Machine
end

