-- ==== Sys2Proof/Laws/Keeps.lean ====
section
/-! SUPPORT. Every operation that may store keeps memory in its canonical form: one lemma per operation. -/

namespace Sys2Proof.Machine

open Sys2Proof

/-- Memory is in its canonical form. -/
structure Canon (m : Memory) : Prop where
  ok : m.wf = true

theorem memPut_keeps {m : Memory} (a : Nat) (b : Byte) (h : Canon m) : Canon (memPut m a b) := ⟨memPut_wf a b h.ok⟩

theorem memWrite_keeps (bs : Bytes) {m : Memory} (a : Nat) (h : Canon m) : Canon (memWrite m a bs) :=
  ⟨memWrite_wf bs a h.ok⟩

theorem memErase_keeps {m : Memory} (p : Nat → Bool) (h : Canon m) : Canon (memErase m p) := ⟨memErase_wf p h.ok⟩

theorem nil_keeps : Canon [] := ⟨rfl⟩

theorem foldl_keeps {α : Type} (f : DM → α → DM) (hf : ∀ x a, Canon x.2 → Canon (f x a).2) :
    ∀ (l : List α) (x : DM), Canon x.2 → Canon (l.foldl f x).2
  | [], _, h => h
  | a :: l, x, h => foldl_keeps f hf l (f x a) (hf x a h)

theorem foldl_mem_keeps {α : Type} (f : Memory → α → Memory) (hf : ∀ x a, Canon x → Canon (f x a)) :
    ∀ (l : List α) (x : Memory), Canon x → Canon (l.foldl f x)
  | [], _, h => h
  | a :: l, x, h => foldl_mem_keeps f hf l (f x a) (hf x a h)

/-- Both branches keep the canonical form. -/
theorem ite_dm {c : Prop} [Decidable c] {x y : DM} (hx : Canon x.2) (hy : Canon y.2) :
    Canon (if c then x else y).2 := by
  split
  · exact hx
  · exact hy

theorem ite_dm2 {α : Type} {c : Prop} [Decidable c] {x y : α × DM} (hx : Canon x.2.2) (hy : Canon y.2.2) :
    Canon (if c then x else y).2.2 := by
  split
  · exact hx
  · exact hy

theorem snd_keeps {a : Dev} {m : Memory} (h : Canon m) : Canon ((a, m) : DM).2 := h

theorem onDev_keeps (f : Dev → Dev) (x : DM) (h1 : Canon x.2) : Canon (onDev f x).2 := by
  simp [onDev, *]

theorem unitWrite_keeps (m : Nat) (a : Nat) (bs : Bytes) (d : Dev) (mem : Memory) (h4 : Canon mem) : Canon (unitWrite m a bs d mem).2.2 := by
  simp only [unitWrite]; (repeat' split) <;> simp_all [memWrite_keeps]

theorem cmdWriteMem_keeps (page : Nat) (off : Nat) (m : Nat) (f : Dev → Memory → Dev × Memory) (d : Dev) (mem : Memory) (h3 : ∀ (x0 : Dev) (x1 : Memory), Canon x1 → Canon (f x0 x1).2) (h5 : Canon mem) : Canon (cmdWriteMem page off m f d mem).2 := by
  unfold cmdWriteMem; (repeat' split) <;> simp_all []

theorem storeFrame_keeps (k : Caravan) (a0 : Memory) (a1 : Nat) (a2 : Bytes) (h1 : Canon a0) : Canon (storeFrame k a0 a1 a2) := by
  fun_induction storeFrame k a0 a1 a2 <;> simp_all [memPut_keeps]

theorem writeFrame_keeps (d : Dev) (h : Nat) (bs : Bytes) (m : Memory) (h3 : Canon m) : Canon (writeFrame d h bs m) := by
  unfold writeFrame; (repeat' split) <;> simp_all [storeFrame_keeps]

theorem readWord_keeps (w : Nat) (errs : List SymErr) (master : Nat) (kind : Nat) (d : Dev) (m : Memory) (h5 : Canon m) : Canon (readWord w errs master kind d m).2 := by
  unfold readWord; (repeat' split) <;> simp_all [memWrite_keeps]

theorem writeWord_keeps (w : Nat) (data : Bytes) (mask : List Bool) (errs : List SymErr) (master : Nat) (d : Dev) (m : Memory) (h6 : Canon m) : Canon (writeWord w data mask errs master d m).2 := by
  unfold writeWord; (repeat' split) <;> simp_all [readWord_keeps, memWrite_keeps]

theorem portRun_keeps (j : PortJob) (d : Dev) (m : Memory) (h2 : Canon m) : Canon (portRun j d m).2 := by
  unfold portRun; (repeat' split) <;> simp_all [readWord_keeps, writeWord_keeps]

theorem portDrain_keeps (a0 : List PortJob) (a1 : Dev) (a2 : Memory) (h2 : Canon a2) : Canon (portDrain a0 a1 a2).2.2 := by
  fun_induction portDrain a0 a1 a2 <;> grind [portRun_keeps]

theorem masterWrite_keeps (n : Nat) (a : Nat) (bs : Bytes) (d : Dev) (m : Memory) (h4 : Canon m) : Canon (masterWrite n a bs d m).2 := by
  unfold masterWrite; (repeat' split) <;> simp_all [unitWrite_keeps]

theorem ringFire_keeps (n : Nat) (d : Dev) (m : Memory) (h2 : Canon m) : Canon (ringFire n d m).2 := by
  unfold ringFire; (repeat' split) <;> simp_all [masterWrite_keeps]

theorem fireIfMet_keeps (n : Nat) (d : Dev) (m : Memory) (h2 : Canon m) : Canon (fireIfMet n d m).2 := by
  unfold fireIfMet; (repeat' split) <;> simp_all [ringFire_keeps]

theorem writeCompletion_keeps (n : Nat) (w : TxWait) (r : Nat × Nat × Nat) (d : Dev) (m : Memory) (h4 : Canon m) : Canon (writeCompletion n w r d m).2 := by
  unfold writeCompletion; (repeat' split) <;> simp_all [unitWrite_keeps]

theorem txComplete_keeps (n : Nat) (idx : Nat) (d : Dev) (m : Memory) (h3 : Canon m) : Canon (txComplete n idx d m).2 := by
  unfold txComplete; (repeat' split) <;> simp_all [writeCompletion_keeps]

theorem ringStop_keeps (n : Nat) (d : Dev) (m : Memory) (h2 : Canon m) : Canon (ringStop n d m).2 := by
  simp only [ringStop]; (repeat' split) <;> simp_all [writeCompletion_keeps]

theorem ringDisable_keeps (n : Nat) (d : Dev) (m : Memory) (h2 : Canon m) : Canon (ringDisable n d m).2 := by
  unfold ringDisable; (repeat' split) <;> simp_all [ringStop_keeps]

theorem txDescriptor_keeps (n : Nat) (i : Nat) (host : Option Bytes) (d : Dev) (m : Memory) (h4 : Canon m) : Canon (txDescriptor n i host d m).2 := by
  simp only [txDescriptor]; (repeat' split) <;> simp_all [writeFrame_keeps]

theorem txManifestEntry_keeps (n : Nat) (i : Nat) (d : Dev) (m : Memory) (h3 : Canon m) : Canon (txManifestEntry n i d m).2 := by
  simp [txManifestEntry, *, txComplete_keeps]

theorem rxFill_keeps (n : Nat) (q : Nat) (x : Manifest) (hostOk : Bool) (poisoned : Bool) (a0 : Nat) (a1 : Nat) (a2 : Nat) (a3 : Dev) (a4 : Memory) (h9 : Canon a4) : Canon (rxFill n q x hostOk poisoned a0 a1 a2 a3 a4).2.2 := by
  fun_induction rxFill n q x hostOk poisoned a0 a1 a2 a3 a4 <;> grind [unitWrite_keeps]

theorem rxBuffer_keeps (n : Nat) (x : Manifest) (hostOk : Bool) (d : Dev) (m : Memory) (h4 : Canon m) : Canon (rxBuffer n x hostOk d m).2 := by
  simp [rxBuffer, *, rxFill_keeps]

theorem rxManifest_keeps (n : Nat) (x : Manifest) (d : Dev) (m : Memory) (h3 : Canon m) : Canon (rxManifest n x d m).2 := by
  simp [rxManifest, *, unitWrite_keeps]

theorem rxDeliver_keeps (n : Nat) (hostOk : Bool) (d : Dev) (m : Memory) (h3 : Canon m) : Canon (rxDeliver n hostOk d m).2 := by
  simp only [rxDeliver]; (repeat' split) <;> simp_all [rxBuffer_keeps, rxManifest_keeps]

theorem ringsStop_keeps (d : Dev) (m : Memory) (h1 : Canon m) : Canon (ringsStop d m).2 :=
  foldl_keeps _ (fun x n h => ringStop_keeps n x.1 x.2 h) _ (d, m) h1

theorem ringGuard_keeps (m : Nat) (n : Nat) (f : Dev → Memory → Dev × Memory) (d : Dev) (mem : Memory) (h2 : ∀ (x0 : Dev) (x1 : Memory), Canon x1 → Canon (f x0 x1).2) (h4 : Canon mem) : Canon (ringGuard m n f d mem).2 := by
  unfold ringGuard; (repeat' split) <;> simp_all []

theorem ringArm_keeps (n : Nat) (v : Nat) (d : Dev) (m : Memory) (h3 : Canon m) : Canon (ringArm n v d m).2 := by
  unfold ringArm; (repeat' split) <;> simp_all [fireIfMet_keeps]

theorem requestCold_keeps (bits : Nat) (s : DM) (h1 : Canon s.2) : Canon (requestCold bits s).2 := nil_keeps

theorem requestWarm_keeps (bits : Nat) (s : DM) (h1 : Canon s.2) : Canon (requestWarm bits s).2 := by
  unfold requestWarm; (repeat' split) <;> simp_all []

theorem warmAssert_keeps (s : DM) (h0 : Canon s.2) : Canon (warmAssert s).2 := by
  unfold warmAssert; (repeat' split) <;> simp_all [memErase_keeps]

theorem requestAction_keeps (action : Nat) (bits : Nat) (s : DM) (h2 : Canon s.2) : Canon (requestAction action bits s).2 := by
  unfold requestAction; (repeat' split) <;> simp_all [requestCold_keeps, requestWarm_keeps]

theorem graceEnd_keeps (s : DM) (h0 : Canon s.2) : Canon (graceEnd s).2 := by
  unfold graceEnd; (repeat' split) <;> simp_all [requestAction_keeps]

theorem ctWriteBack_keeps (e : Nat) (b : Bytes) (d : Dev) (m : Memory) (h3 : Canon m) : Canon (ctWriteBack e b d m).2 := by
  simp [ctWriteBack, *, unitWrite_keeps]

theorem ctHold_keeps (e : Nat) (b : Bytes) (d : Dev) (m : Memory) (h3 : Canon m) : Canon (ctHold e b d m).2 := by
  simp only [ctHold]; (repeat' split) <;> simp_all [ctWriteBack_keeps]

theorem ctSetWord0_keeps (e : Nat) (v : Nat) (d : Dev) (m : Memory) (h3 : Canon m) : Canon (ctSetWord0 e v d m).2 := by
  simp [ctSetWord0, *, unitWrite_keeps]

theorem stripTag_keeps (x : Manifest) (d : Dev) (m : Memory) (h2 : Canon m) : Canon (stripTag x d m).2.2 := by
  simp [stripTag, *, writeFrame_keeps]

theorem stage1_keeps (c : WayCtx) (d : Dev) (m : Memory) (h2 : Canon m) : Canon (stage1 c d m).2.2 := by
  have hs : ∀ (b : Bool) (x : Manifest), Canon (if b = true then stripTag x d m else (x, d, m)).2.2 := by
    intro b x
    split
    · exact stripTag_keeps _ _ _ h2
    · exact h2
  exact hs _ _

theorem terminate_keeps (t : Bytes) (u : TunHdr) (c : WayCtx) (d : Dev) (m : Memory) (h4 : Canon m) :
    Canon (terminate t u c d m).2.2 := by
  unfold terminate
  dsimp only
  repeat' (with_reducible apply ite_dm2)
  all_goals exact h4

theorem stage2_keeps (c : WayCtx) (d : Dev) (m : Memory) (h2 : Canon m) : Canon (stage2 c d m).2.2 := by
  simp only [stage2]; (repeat' split) <;> simp_all [terminate_keeps]

theorem stage3_keeps (c : WayCtx) (d : Dev) (m : Memory) (h2 : Canon m) : Canon (stage3 c d m).2.2 := by
  simp only [stage3]; (repeat' split) <;> simp_all []

theorem stage4_keeps (c : WayCtx) (d : Dev) (m : Memory) (h2 : Canon m) : Canon (stage4 c d m).2.2 := by
  simp only [stage4]; (repeat' split) <;> simp_all []

theorem ctNat_keeps (b : Bytes) (c : WayCtx) (h : Hdr) (d : Dev) (m : Memory) (h4 : Canon m) : Canon (ctNat b c h d m) := by
  simp only [ctNat]; (repeat' split) <;> simp_all [writeFrame_keeps]

theorem ctHit_keeps (e : Nat) (b : Bytes) (c : WayCtx) (h : Hdr) (d : Dev) (m : Memory) (h5 : Canon m) : Canon (ctHit e b c h d m).2.2 := by
  unfold ctHit; grind [ctHold_keeps, ctNat_keeps]

theorem stage5_keeps (c : WayCtx) (d : Dev) (m : Memory) (h2 : Canon m) : Canon (stage5 c d m).2.2 := by
  simp only [stage5]; (repeat' split) <;> simp_all [ctHit_keeps]

theorem routeFrame_keeps (b : Bytes) (tun : Option Bytes) (c : WayCtx) (h : Hdr) (d : Dev) (m : Memory) (h5 : Canon m) : Canon (routeFrame b tun c h d m).2.2 := by
  simp [routeFrame, *, writeFrame_keeps]

theorem routeBy_keeps (b : Bytes) (c : WayCtx) (h : Hdr) (d : Dev) (m : Memory) (h4 : Canon m) : Canon (routeBy b c h d m).2.2 := by
  simp only [routeBy]; (repeat' split) <;> simp_all [routeFrame_keeps]

theorem stage6_keeps (c : WayCtx) (d : Dev) (m : Memory) (h2 : Canon m) : Canon (stage6 c d m).2.2 := by
  simp only [stage6]; (repeat' split) <;> simp_all [routeBy_keeps]

theorem stage7_keeps (c : WayCtx) (d : Dev) (m : Memory) (h2 : Canon m) : Canon (stage7 c d m).2.2 := by
  simp only [stage7]; (repeat' split) <;> simp_all []

theorem stage8_keeps (c : WayCtx) (d : Dev) (m : Memory) (h2 : Canon m) : Canon (stage8 c d m).2.2 := by
  simp only [stage8]; (repeat' split) <;> simp_all [writeFrame_keeps]

theorem addTag_keeps (x : Manifest) (vlan : Nat) (pcp : Nat) (d : Dev) (m : Memory) (h4 : Canon m) : Canon (addTag x vlan pcp d m).2.2 := by
  simp [addTag, *, writeFrame_keeps]

theorem encapsulate_keeps (c : WayCtx) (more : Nat) (d : Dev) (m : Memory) (h3 : Canon m) : ∀ r, (encapsulate c more d m) = some r → Canon r.2.2 := by
  unfold encapsulate; (repeat' split) <;> simp_all [writeFrame_keeps]

theorem stage9_keeps (c : WayCtx) (d : Dev) (m : Memory) (h2 : Canon m) : Canon (stage9 c d m).2.2 := by
  unfold stage9
  dsimp only
  with_reducible apply ite_dm2
  · exact h2
  · split
    · exact h2
    · next h =>
      have he := encapsulate_keeps _ _ _ _ h2 _ h
      dsimp only
      split
      · exact addTag_keeps _ _ _ _ _ he
      · exact he

theorem runStage_keeps (s : Nat) (c : WayCtx) (d : Dev) (m : Memory) (h3 : Canon m) : Canon (runStage s c d m).2.2 := by
  unfold runStage; (repeat' split) <;> simp_all [stage1_keeps, stage2_keeps, stage3_keeps, stage4_keeps, stage5_keeps, stage6_keeps, stage7_keeps, stage8_keeps, stage9_keeps]

theorem runFrom_keeps : ∀ (a0 a1 : Nat) (a2 : WayCtx) (a3 : Dev) (a4 : Memory), Canon a4 →
    Canon (runFrom a0 a1 a2 a3 a4).2
  | 0, _, _, _, _, h => h
  | fuel + 1, s, c, d, m, h => by
    have hs := runStage_keeps s c d m h
    simp only [runFrom]
    split
    · exact h
    · split <;> first | exact hs | exact runFrom_keeps fuel _ _ _ _ hs

theorem runPipe_keeps (s : Nat) (c : WayCtx) (d : Dev) (m : Memory) (h3 : Canon m) : Canon (runPipe s c d m).2 := by
  simp [runPipe, *, runFrom_keeps]

theorem wayIn_keeps (d : Dev) (m : Memory) (h1 : Canon m) : Canon (wayIn d m).2 := by
  unfold wayIn; (repeat' split) <;> simp_all [runPipe_keeps]

theorem wayReturn_keeps (d : Dev) (m : Memory) (h1 : Canon m) : Canon (wayReturn d m).2 := by
  unfold wayReturn; (repeat' split) <;> simp_all [runPipe_keeps]

theorem resumeOne_keeps (line : Nat) (bad : Bool) (s : Dev × Memory) (w : WayWait) (h2 : Canon s.2) : Canon (resumeOne line bad s w).2 := by
  simp only [resumeOne]; (repeat' split) <;> simp_all [runPipe_keeps]

theorem fetchDone_keeps (line : Nat) (bad : Bool) (d : Dev) (m : Memory) (h3 : Canon m) :
    Canon (fetchDone line bad d m).2 := by
  simp only [fetchDone]
  split
  · exact h3
  · exact foldl_keeps _ (fun x a h => resumeOne_keeps _ _ x a h) _ _ h3

theorem ctClear_keeps (e : Nat) (d : Dev) (m : Memory) (h2 : Canon m) : Canon (ctClear e d m).2 := by
  simp [ctClear, *, ctSetWord0_keeps]

theorem ctScan_keeps (d : Dev) (m : Memory) (h1 : Canon m) : Canon (ctScan d m).2 := by
  simp only [ctScan]; (repeat' split) <;> simp_all [ctClear_keeps]

theorem ctHotBack_keeps (e : Nat) (d : Dev) (m : Memory) (h2 : Canon m) : Canon (ctHotBack e d m).2 := by
  unfold ctHotBack; (repeat' split) <;> simp_all [ctWriteBack_keeps]

theorem ctCommand_keeps (ins : Bool) (mst : Nat) (e : Nat) (d : Dev) (m : Memory) (h4 : Canon m) : Canon (ctCommand ins mst e d m).2 := by
  simp only [ctCommand]; (repeat' split) <;> simp_all [ctSetWord0_keeps]

theorem ctCmdWrite_keeps (mst : Nat) (v : Nat) (d : Dev) (m : Memory) (h3 : Canon m) : Canon (ctCmdWrite mst v d m).2 := by
  unfold ctCmdWrite; (repeat' split) <;> simp_all [ctCommand_keeps]

theorem spaceWrite_keeps (m : Nat) (a : Nat) (bs : Bytes) (d : Dev) (mem : Memory) (h4 : Canon mem) : Canon (spaceWrite m a bs d mem).2.2 := by
  unfold spaceWrite; (repeat' split) <;> simp_all [unitWrite_keeps]

theorem keyCommand_keeps (m : Nat) (own : Bool) (f : Nat → Dev → Memory → Dev × Memory) (d : Dev) (mem : Memory) (h2 : ∀ (x0 : Nat) (x1 : Dev) (x2 : Memory), Canon x2 → Canon (f x0 x1 x2).2) (h4 : Canon mem) : Canon (keyCommand m own f d mem).2 := by
  simp only [keyCommand]; (repeat' split) <;> simp_all []

theorem keyLoadEff_keeps (m : Nat) (host : Option Bytes) (s : Nat) (d : Dev) (mem : Memory) (h4 : Canon mem) : Canon (keyLoadEff m host s d mem).2 := by
  simp only [keyLoadEff]; (repeat' split) <;> simp_all []

theorem keyWrap_keeps (m : Nat) (s : Nat) (hdr : Bytes) (material : Bytes) (d : Dev) (mem : Memory) (h5 : Canon mem) : Canon (keyWrap m s hdr material d mem).2 := by
  simp only [keyWrap]; (repeat' split) <;> simp_all [spaceWrite_keeps]

theorem keyExportEff_keeps (m : Nat) (s : Nat) (d : Dev) (mem : Memory) (h3 : Canon mem) : Canon (keyExportEff m s d mem).2 := by
  unfold keyExportEff; (repeat' split) <;> simp_all [keyWrap_keeps]

theorem keySealEff_keeps (m : Nat) (host : Option Bytes) (s : Nat) (d : Dev) (mem : Memory) (h4 : Canon mem) : Canon (keySealEff m host s d mem).2 := by
  unfold keySealEff; (repeat' split) <;> simp_all [keyWrap_keeps]

theorem keyDeriveEff_keeps (m : Nat) (s : Nat) (d : Dev) (mem : Memory) (h3 : Canon mem) : Canon (keyDeriveEff m s d mem).2 := by
  simp only [keyDeriveEff]; (repeat' split) <;> simp_all []

theorem keyEraseEff_keeps (s : Nat) (d : Dev) (mem : Memory) (h2 : Canon mem) : Canon (keyEraseEff s d mem).2 := by
  simp [keyEraseEff, *]

theorem saveState_keeps (j : CiphJob) (s : Bytes) (d : Dev) (mem : Memory) (h3 : Canon mem) : Canon (saveState j s d mem).2.2 := by
  simp only [saveState]; (repeat' split) <;> simp_all [unitWrite_keeps, spaceWrite_keeps]

theorem writeOutput_keeps (j : CiphJob) (d : Dev) (mem : Memory) (h2 : Canon mem) : Canon (writeOutput j d mem).2.2 := by
  unfold writeOutput; (repeat' split) <;> simp_all [writeFrame_keeps, spaceWrite_keeps]

theorem crComplete_keeps (n : Nat) (d : Dev) (mem : Memory) (h2 : Canon mem) : Canon (crComplete n d mem).2 := by
  unfold crComplete; grind [unitWrite_keeps, saveState_keeps, writeOutput_keeps]

theorem passWrite_keeps (x : Manifest) (head : Option Nat) (o : Nat) (bs : Bytes) (d : Dev) (mem : Memory) (h5 : Canon mem) : Canon (passWrite x head o bs d mem).2.2 := by
  unfold passWrite; (repeat' split) <;> simp_all [writeFrame_keeps]

theorem espDone_keeps (j : CiphJob) (x : Manifest) (d : Dev) (mem : Memory) (h3 : Canon mem) : Canon (espDone j x d mem).2 := by
  unfold espDone; (repeat' split) <;> simp_all [passWrite_keeps]

theorem openDone_keeps (j : CiphJob) (p : CiphPass) (d : Dev) (mem : Memory) (h3 : Canon mem) : Canon (openDone j p d mem).2 := by
  unfold openDone; (repeat' split) <;> simp_all [passWrite_keeps]

theorem passComplete_keeps (r : Nat) (d : Dev) (mem : Memory) (h2 : Canon mem) : Canon (passComplete r d mem).2 := by
  unfold passComplete; (repeat' split) <;> simp_all [espDone_keeps, openDone_keeps]

theorem keyCmd_keeps (m : Nat) (own : Bool) (f : Nat → Dev → Memory → Dev × Memory) (d : Dev) (mem : Memory) (h2 : ∀ (x0 : Nat) (x1 : Dev) (x2 : Memory), Canon x2 → Canon (f x0 x1 x2).2) (h4 : Canon mem) : Canon (keyCmd m own f d mem).2 := by
  unfold keyCmd; grind [cmdWriteMem_keeps, keyCommand_keeps]

theorem ledger_keeps (r : LedgerRec) (x : DM) (h1 : Canon x.2) : Canon (ledger r x).2 := by
  simp only [ledger]; (repeat' split) <;> simp_all [unitWrite_keeps]

theorem ledgerTask_keeps (kind : Nat) (core : Option Nat) (t : Nat) (w5 : Nat) (w6 : Nat) (x : DM) (h5 : Canon x.2) : Canon (ledgerTask kind core t w5 w6 x).2 := by
  simp [ledgerTask, *, ledger_keeps]

theorem runTask_keeps (t : Nat) (n : Nat) (x : DM) (h2 : Canon x.2) : Canon (runTask t n x).2 := by
  simp [runTask, *, ledger_keeps]

theorem dispatchOn_keeps (t : Nat) (n : Nat) (x : DM) (h2 : Canon x.2) : Canon (dispatchOn t n x).2 := by
  simp [dispatchOn, *, onDev_keeps, runTask_keeps]

theorem placeReady_keeps (t : Nat) (x : DM) (h1 : Canon x.2) : Canon (placeReady t x).2 := by
  simp only [placeReady]; (repeat' split) <;> simp_all [dispatchOn_keeps]

theorem makeReady_keeps (t : Nat) (atHead : Bool) (x : DM) (h2 : Canon x.2) : Canon (makeReady t atHead x).2 := by
  simp [makeReady, *, ledgerTask_keeps]

theorem wake_keeps (t : Nat) (x : DM) (h1 : Canon x.2) : Canon (wake t x).2 := by
  unfold wake; (repeat' split) <;> simp_all [placeReady_keeps, makeReady_keeps]

theorem setTaskFlags_keeps (t : Nat) (v : Nat) (x : DM) (h2 : Canon x.2) : Canon (setTaskFlags t v x).2 := by
  unfold setTaskFlags; (repeat' split) <;> simp_all [wake_keeps]

theorem coreNext_keeps (n : Nat) (x : DM) (h1 : Canon x.2) : Canon (coreNext n x).2 := by
  unfold coreNext; (repeat' split) <;> simp_all [dispatchOn_keeps]

theorem dispatchAll_keeps (x : DM) (h0 : Canon x.2) : Canon (dispatchAll x).2 :=
  foldl_keeps _ (fun y n h => by
    split
    · exact h
    · exact coreNext_keeps n y h) _ x h0

theorem endTurn_keeps (n : Nat) (e : TurnEnd) (x : DM) (h2 : Canon x.2) : Canon (endTurn n e x).2 := by
  unfold endTurn; grind [ledgerTask_keeps, placeReady_keeps, makeReady_keeps, coreNext_keeps]

theorem windowAccess_keeps (m : Nat) (n : Nat) (off : Nat) (kind : Nat) (f : DM → DM) (x : DM) (h4 : ∀ (x0 : DM), Canon x0.2 → Canon (f x0).2) (h5 : Canon x.2) : Canon (windowAccess m n off kind f x).2 := by
  unfold windowAccess; (repeat' split) <;> simp_all []

theorem turnWrite_keeps (m : Nat) (n : Nat) (e : TurnEnd) (a0 : DM) (h3 : Canon a0.2) : Canon (turnWrite m n e a0).2 := by
  unfold turnWrite; grind [endTurn_keeps, windowAccess_keeps]

theorem offerItem_keeps (i : Item) (x : DM) (h1 : Canon x.2) : Canon (offerItem i x).2 := by
  unfold offerItem; (repeat' split) <;> simp_all [setTaskFlags_keeps]

theorem releaseFlow_keeps (f : Nat) (a0 : Nat) (a1 : DM) (h2 : Canon a1.2) : Canon (releaseFlow f a0 a1).2 := by
  fun_induction releaseFlow f a0 a1 <;> simp_all [offerItem_keeps]

theorem postItem_keeps (i : Item) (x : DM) (h1 : Canon x.2) : Canon (postItem i x).2 := by
  unfold postItem; (repeat' split) <;> simp_all [ledgerTask_keeps, setTaskFlags_keeps, offerItem_keeps]

theorem applyPost_keeps (p : Post) (x : DM) (h1 : Canon x.2) : Canon (applyPost p x).2 := by
  unfold applyPost; (repeat' split) <;> simp_all [setTaskFlags_keeps, postItem_keeps]

theorem takePost_keeps (x : DM) (h0 : Canon x.2) : Canon (takePost x).2 := by
  unfold takePost; (repeat' split) <;> simp_all [applyPost_keeps]

theorem itemRead_keeps (n : Nat) (x : DM) (h1 : Canon x.2) : Canon (itemRead n x).2 := by
  simp only [itemRead]; (repeat' split) <;> simp_all [ledgerTask_keeps]

theorem disposeWrite_keeps (m : Nat) (n : Nat) (cmd : Nat) (a0 : DM) (h3 : Canon a0.2) : Canon (disposeWrite m n cmd a0).2 := by
  unfold disposeWrite; grind [windowAccess_keeps]

theorem disposeEnd_keeps (t : Nat) (x : DM) (h1 : Canon x.2) : Canon (disposeEnd t x).2 := by
  simp only [disposeEnd]; (repeat' split) <;> simp_all [ledgerTask_keeps, releaseFlow_keeps]

theorem cancelRunning_keeps (t : Nat) (x : DM) (h1 : Canon x.2) : Canon (cancelRunning t x).2 := by
  simp only [cancelRunning]
  split
  · exact ledger_keeps _ _ h1
  · exact ledger_keeps _ _ h1

theorem taskCmd_keeps (m : Nat) (v : Nat) (x : DM) (h2 : Canon x.2) : Canon (taskCmd m v x).2 := by
  simp only [taskCmd]; (repeat' split) <;> simp_all [ledger_keeps, placeReady_keeps, wake_keeps, cancelRunning_keeps]

theorem timerFires_keeps (n : Nat) (late : Bool) (next : Option Nat) (x : DM) (h3 : Canon x.2) : Canon (timerFires n late next x).2 := by
  simp [timerFires, *, ledgerTask_keeps, setTaskFlags_keeps]

theorem timerArmEff_keeps (n : Nat) (x : DM) (h1 : Canon x.2) : Canon (timerArmEff n x).2 := by
  simp only [timerArmEff]; (repeat' split) <;> simp_all [timerFires_keeps]

theorem timerCfgWrite_keeps (v : Nat) (x : DM) (h1 : Canon x.2) : Canon (timerCfgWrite v x).2 := by
  unfold timerCfgWrite
  dsimp only
  with_reducible apply ite_dm
  · exact timerArmEff_keeps _ _ h1
  · exact h1

theorem timerDue_keeps (n : Nat) (x : DM) (h1 : Canon x.2) : Canon (timerDue n x).2 := by
  unfold timerDue; (repeat' split) <;> simp_all [timerFires_keeps]

theorem timersStep_keeps (old : Nat) (x : DM) (h1 : Canon x.2) : Canon (timersStep old x).2 := by
  simp only [timersStep]
  split
  · exact h1
  · refine foldl_keeps _ (fun y n h => ?_) _ x h1
    split
    · split
      · exact timerFires_keeps _ _ _ _ h
      · exact h
    · exact h

theorem coreLeft_keeps (n : Nat) (x : DM) (h1 : Canon x.2) : Canon (coreLeft n x).2 := by
  simp only [coreLeft]; (repeat' split) <;> simp_all [ledgerTask_keeps]

theorem droverDrain_keeps (x : DM) (h0 : Canon x.2) : Canon (droverDrain x).2 :=
  foldl_keeps _ (fun z p h => applyPost_keeps p z h) _ _ h0

theorem taskSetWrite_keeps (v : Nat) (x : DM) (h1 : Canon x.2) : Canon (taskSetWrite v x).2 := by
  simp [taskSetWrite, *, setTaskFlags_keeps]

theorem slotTake_keeps (n : Nat) (x : DM) (h1 : Canon x.2) : Canon (slotTake n x).2 := by
  unfold slotTake; (repeat' split) <;> simp_all [runTask_keeps]

theorem brynCommand_keeps (box : Bool) (cmd : Nat) (m : Nat) (key : Nat) (arg : Nat) (s : DM) (h5 : Canon s.2) : Canon (brynCommand box cmd m key arg s).2 := by
  simp only [brynCommand]; (repeat' split) <;> simp_all []

theorem transition_keeps (fails : Bool) (lc : Nat) (s : DM) (h2 : Canon s.2) : Canon (transition fails lc s).2 := by
  simp only [transition]; (repeat' split) <;> simp_all [requestCold_keeps]

theorem brynOutput_keeps (j : BrynJob) (b : Bytes) (s : DM) (h2 : Canon s.2) : Canon (brynOutput j b s).2 := by
  simp [brynOutput, *, memWrite_keeps]

theorem brynRun_keeps (fails : Bool) (j : BrynJob) (s : DM) (h2 : Canon s.2) :
    Canon (brynRun fails j s).2.2 := by
  unfold brynRun
  dsimp only
  split
  · repeat' (with_reducible apply ite_dm2)
    all_goals exact h2
  · exact brynOutput_keeps _ _ _ h2
  · exact brynOutput_keeps _ _ _ h2
  · exact h2
  · with_reducible apply ite_dm
    · exact transition_keeps _ _ _ h2
    · exact h2
  · exact h2
  · exact transition_keeps _ _ _ h2
  · with_reducible apply ite_dm2
    · exact h2
    · exact h2
  · exact h2
  · with_reducible apply ite_dm2
    · exact h2
    · exact nil_keeps
  · with_reducible apply ite_dm2
    · exact h2
    · exact h2
  · exact transition_keeps _ _ _ h2
  · exact h2

theorem brynDone_keeps (fails : Bool) (s : DM) (h1 : Canon s.2) : Canon (brynDone fails s).2 := by
  simp only [brynDone]; (repeat' split) <;> simp_all [brynRun_keeps]

theorem boxWrite_keeps (i : Nat) (v : Nat) (s : DM) (h2 : Canon s.2) : Canon (boxWrite i v s).2 := by
  unfold boxWrite; (repeat' split) <;> simp_all [onDev_keeps, brynCommand_keeps]

theorem tapBox_keeps (i : Nat) (write : Bool) (v : Nat) (s : DM) (h3 : Canon s.2) : Canon (tapBox i write v s).2 := by
  unfold tapBox; (repeat' split) <;> simp_all [boxWrite_keeps]

theorem staExport_keeps (e : Nat) (d : Dev) (m : Memory) (h2 : Canon m) : Canon (staExport e d m).2 := by
  unfold staExport
  dsimp only
  split
  · exact h2
  · split
    · exact h2
    · with_reducible apply ite_dm
      · exact h2
      · with_reducible exact writeFrame_keeps _ _ _ _ h2

theorem staCmdAll_keeps (m : Nat) (v : Nat) (d : Dev) (mem : Memory) (h3 : Canon mem) : Canon (staCmdAll m v d mem).2 := by
  simp only [staCmdAll]; (repeat' split) <;> simp_all [staExport_keeps]

theorem cvyEmit_keeps (l : CvyLink) (dst : Bytes) (msg : Bytes) (s : DM) (h3 : Canon s.2) : Canon (cvyEmit l dst msg s).2 := by
  simp only [cvyEmit]; (repeat' split) <;> simp_all [writeFrame_keeps]

theorem cvyFlood_keeps (type : Nat) (flags : Nat) (ttl : Nat) (body : Bytes) (s : DM) (h4 : Canon s.2) :
    Canon (cvyFlood type flags ttl body s).2 := by
  simp only [cvyFlood]
  split
  · exact h4
  · exact foldl_keeps _ (fun x l h => cvyEmit_keeps _ _ _ _ h) _ _ h4

theorem cvyTo_keeps (id : Nat) (type : Nat) (flags : Nat) (acked : Bool) (body : Bytes) (s : DM) (h5 : Canon s.2) : Canon (cvyTo id type flags acked body s).2 := by
  unfold cvyTo; (repeat' split) <;> simp_all [cvyEmit_keeps]

theorem cvySettle_keeps (s : DM) (h0 : Canon s.2) : Canon (cvySettle s).2 := by
  simp only [cvySettle]; (repeat' split) <;> simp_all []

theorem sendRecords_keeps (sync : Bool) (rs : List Bytes) (id : Nat) (s : DM) (h3 : Canon s.2) : Canon (sendRecords sync rs id s).2 := by
  unfold sendRecords; (repeat' split) <;> simp_all [cvyTo_keeps]

theorem sendAllRecords_keeps (sync : Bool) (a0 : Nat) (a1 : List Bytes) (a2 : Nat) (a3 : DM) (h4 : Canon a3.2) : Canon (sendAllRecords sync a0 a1 a2 a3).2 := by
  fun_induction sendAllRecords sync a0 a1 a2 a3 <;> simp_all [sendRecords_keeps]

theorem storeRec_keeps (r : Bytes) (at_ : Option Nat) (s : DM) (h2 : Canon s.2) : Canon (storeRec r at_ s).2.2 := by
  unfold storeRec; (repeat' split) <;> simp_all [unitWrite_keeps]

theorem applyRec_keeps (r : Bytes) (sender : Option Nat) (s : DM) (h2 : Canon s.2) :
    Canon (applyRec r sender s).2.2 := by
  have hf : ∀ (l : List Nat) (x : DM), Canon x.2 →
      Canon (List.foldl (fun (y : DM) (n : Nat) => sendRecords false [r] n y) x l).2 :=
    fun l x h => foldl_keeps _ (fun y n h => sendRecords_keeps _ _ _ _ h) l x h
  unfold applyRec
  dsimp only
  repeat' (with_reducible apply ite_dm2)
  · exact h2
  · exact h2
  · exact storeRec_keeps _ _ _ h2
  · with_reducible apply ite_dm
    · exact onDev_keeps _ _ (hf _ _ (storeRec_keeps _ _ _ h2))
    · exact hf _ _ (storeRec_keeps _ _ _ h2)

theorem localWrite_keeps (kind : Nat) (deleted : Bool) (rkey : Nat) (order : Nat) (body : Bytes) (s : DM) (h5 : Canon s.2) : Canon (localWrite kind deleted rkey order body s).2.2 := by
  simp [localWrite, *, cvySettle_keeps, applyRec_keeps]

theorem writeStation_keeps (e : Nat) (tag : Nat) (order : Nat) (s : DM) (h3 : Canon s.2) : Canon (writeStation e tag order s).2 := by
  simp only [writeStation]; (repeat' split) <;> simp_all [onDev_keeps, localWrite_keeps]

theorem stationJoined_keeps (e : Nat) (s : DM) (h1 : Canon s.2) : Canon (stationJoined e s).2 := by
  simp [stationJoined, *, writeStation_keeps]

theorem stationLeft_keeps (e : Nat) (addr : Nat) (s : DM) (h2 : Canon s.2) : Canon (stationLeft e addr s).2 := by
  simp only [stationLeft]; (repeat' split) <;> simp_all [localWrite_keeps]

theorem dirFollow_keeps (old : Dev) (s : DM) (h1 : Canon s.2) : Canon (dirFollow old s).2 := by
  simp only [dirFollow]
  split
  · exact h1
  · exact foldl_keeps _ (fun x e h => stationLeft_keeps _ _ _ h) _ _ (foldl_keeps _ (fun x e h => stationJoined_keeps _ _ h) _ _ h1)

theorem startSync_keeps (id : Nat) (s : DM) (h1 : Canon s.2) : Canon (startSync id s).2 := by
  simp only [startSync]
  split
  · exact h1
  · exact foldl_keeps _ (fun x k h => cvyTo_keeps _ _ _ _ _ _ h) _ _ h1

theorem cvyAck_keeps (id : Nat) (seq : Nat) (s : DM) (h2 : Canon s.2) : Canon (cvyAck id seq s).2 := by
  simp [cvyAck, *, cvyTo_keeps]

theorem cvyForward_keeps (g : CvyMsg) (s : DM) (h1 : Canon s.2) : Canon (cvyForward g s).2 := by
  simp only [cvyForward]
  split
  · exact h1
  · exact foldl_keeps _ (fun x l h => cvyEmit_keeps _ _ _ _ h) _ _ h1

theorem cvyAccept_keeps (g : CvyMsg) (act : CvyMsg → DM → DM) (s : DM)
    (h1 : ∀ (x0 : CvyMsg) (x1 : DM), Canon x1.2 → Canon (act x0 x1).2)
    (h2 : Canon s.2) : Canon (cvyAccept g act s).2 := by
  have ha : ∀ d : Dev, Canon (act g (d, s.2)).2 := fun d => h1 g (d, s.2) h2
  simp only [cvyAccept]
  repeat' split
  all_goals first
    | exact h2
    | exact ha _
    | exact cvyAck_keeps _ _ _ h2
    | exact cvyForward_keeps _ _ (ha _)

theorem cvyTake_keeps (t : Nat) (act : CvyMsg → DM → DM) (a0 : Nat) (a1 : DM) (h1 : ∀ (x0 : CvyMsg) (x1 : DM), Canon x1.2 → Canon (act x0 x1).2) (h3 : Canon a1.2) : Canon (cvyTake t act a0 a1).2 := by
  fun_induction cvyTake t act a0 a1 <;> grind [cvyAccept_keeps]

theorem helloTake_keeps (g : CvyMsg) (s : DM) (h1 : Canon s.2) : Canon (helloTake g s).2 := by
  simp only [helloTake]; (repeat' split) <;> simp_all [startSync_keeps]

theorem departTake_keeps (g : CvyMsg) (s : DM) (h1 : Canon s.2) : Canon (departTake g s).2 := by
  unfold departTake; (repeat' split) <;> simp_all [onDev_keeps, cvyAck_keeps]

theorem recordTake_keeps (g : CvyMsg) (s : DM) (h1 : Canon s.2) : Canon (recordTake g s).2 :=
  cvyAck_keeps _ _ _ (foldl_keeps _ (fun y r h => applyRec_keeps _ _ _ h) _ s h1)

theorem summaryTake_keeps (g : CvyMsg) (s : DM) (h1 : Canon s.2) : Canon (summaryTake g s).2 := by
  unfold summaryTake; grind [onDev_keeps, sendAllRecords_keeps, startSync_keeps, cvyAck_keeps]

theorem hoNak_keeps (id : Nat) (addr : Nat) (reason : Nat) (s : DM) (h3 : Canon s.2) : Canon (hoNak id addr reason s).2 := by
  simp [hoNak, *, cvyTo_keeps]

theorem hoData_keeps (x : CvyExp) (s : DM) (h1 : Canon s.2) : Canon (hoData x s).2 := by
  unfold hoData; (repeat' split) <;> simp_all [cvyTo_keeps]

theorem hoReqTake_keeps (g : CvyMsg) (s : DM) (h1 : Canon s.2) : Canon (hoReqTake g s).2 := by
  simp only [hoReqTake]; (repeat' split) <;> simp_all [hoNak_keeps, hoData_keeps]

theorem hoFrozen_keeps (e : Nat) (s : DM) (h1 : Canon s.2) : Canon (hoFrozen e s).2 := by
  simp only [hoFrozen]; (repeat' split) <;> simp_all [hoData_keeps]

theorem hoDataTake_keeps (g : CvyMsg) (s : DM) (h1 : Canon s.2) : Canon (hoDataTake g s).2 := by
  unfold hoDataTake; grind [onDev_keeps, cvyTo_keeps, writeStation_keeps]

theorem hoStart_keeps (m : Nat) (s : DM) (h1 : Canon s.2) : Canon (hoStart m s).2 := by
  simp only [hoStart]; (repeat' split) <;> simp_all [cvyTo_keeps]

theorem recCommand_keeps (m : Nat) (c : Nat) (host : Option Bytes) (s : DM) (h3 : Canon s.2) : Canon (recCommand m c host s).2 := by
  simp only [recCommand]; (repeat' split) <;> simp_all [onDev_keeps, spaceWrite_keeps, localWrite_keeps]

theorem recCmdWrite_keeps (m : Nat) (v : Nat) (host : Option Bytes) (s : DM) (h3 : Canon s.2) : Canon (recCmdWrite m v host s).2 := by
  unfold recCmdWrite; (repeat' split) <;> simp_all [recCommand_keeps]

theorem cvyStart_keeps (s : DM) (h0 : Canon s.2) : Canon (cvyStart s).2 := by
  simp [cvyStart, *, cvySettle_keeps]

theorem cvyDrain_keeps (s : DM) (h0 : Canon s.2) : Canon (cvyDrain s).2 := by
  simp only [cvyDrain]
  split
  · exact h0
  · exact foldl_keeps _ (fun x l h => cvyEmit_keeps _ _ _ _ h) _ _ h0

theorem staTop_keeps (m : Nat) (v : Nat) (d : Dev) (mem : Memory) (h3 : Canon mem) : Canon (staTop m v d mem).2 := by
  simp [staTop, *, staCmdAll_keeps, dirFollow_keeps]

theorem linkOff_keeps (l : Nat) (s : DM) (h1 : Canon s.2) : Canon (linkOff l s).2 := by
  simp [linkOff, *, dirFollow_keeps]

theorem mldRadioLeft_keeps (l : Nat) (s : DM) (h1 : Canon s.2) : Canon (mldRadioLeft l s).2 := by
  unfold mldRadioLeft; (repeat' split) <;> simp_all [linkOff_keeps]

theorem mldDrain_keeps (s : DM) (h0 : Canon s.2) : Canon (mldDrain s).2 := by
  unfold mldDrain; grind [linkOff_keeps]

theorem planPublish_keeps (n : Nat) (l : List AirOcc) (s : DM) (h2 : Canon s.2) :
    Canon (planPublish n l s).2 :=
  foldl_keeps _ (fun x k h => cvyFlood_keeps _ _ _ _ _ h) _ s h2

theorem formPeriod_keeps (s : DM) (p : Nat) (h0 : Canon s.2) : Canon (formPeriod s p).2 := by
  simp only [formPeriod]; (repeat' split) <;> simp_all [planPublish_keeps]

theorem airCatchUp_keeps (s : DM) (h0 : Canon s.2) : Canon (airCatchUp s).2 := by
  have hf : ∀ l : List Nat, Canon (List.foldl formPeriod s l).2 :=
    fun l => foldl_keeps formPeriod (fun x n h => formPeriod_keeps x n h) l s h0
  unfold airCatchUp
  dsimp only
  with_reducible apply ite_dm
  · exact h0
  · with_reducible exact snd_keeps (hf _)

theorem slotTurn_keeps (s : DM) (h : Canon s.2) : Canon (slotTurn s).2 := by
  rw [slotTurn]
  generalize slotAt s.1 (nowTotal s.1) = o
  cases o with
  | none => exact h
  | some k => exact ite_dm h (onDev_keeps _ _ h)

theorem airSlot_keeps (s : DM) (h0 : Canon s.2) : Canon (airSlot s).2 := by
  rw [airSlot]
  with_reducible exact ite_dm h0 (slotTurn_keeps _ (airCatchUp_keeps s h0))

theorem airStep_keeps (old : Nat) (s : DM) (h1 : Canon s.2) : Canon (airStep old s).2 := by
  simp only [airStep]; (repeat' split) <;> simp_all [airCatchUp_keeps]

theorem planTake_keeps (g : CvyMsg) (s : DM) (h1 : Canon s.2) : Canon (planTake g s).2 := by
  simp only [planTake]; (repeat' split) <;> simp_all [onDev_keeps]

theorem rxAdmit_keeps (n : Nat) (e : Option Nat) (tc : Nat) (exc : Nat) (t : Nat) (a0 : List Bytes) (a1 : Dev) (a2 : Memory) (h7 : Canon a2) : Canon (rxAdmit n e tc exc t a0 a1 a2).2.2 := by
  fun_induction rxAdmit n e tc exc t a0 a1 a2 <;> grind [writeFrame_keeps]

theorem rxToSoftware_keeps (n : Nat) (e : Option Nat) (tc : Nat) (t : Nat) (fs : List Bytes) (s : DM) (h5 : Canon s.2) : Canon (rxToSoftware n e tc t fs s).2.2 := by
  simp only [rxToSoftware]; (repeat' split) <;> simp_all [rxAdmit_keeps]

theorem rxUnknown_keeps (n : Nat) (p : RxPpdu) (s : DM) (h2 : Canon s.2) : Canon (rxUnknown n p s).2.2 := by
  unfold rxUnknown; (repeat' split) <;> simp_all []

theorem rxPlain_keeps (n : Nat) (e : Nat) (t : Nat) (tm : Nat) (u : RxMpdu) (soft : Bool) (group : Bool) (fs : List Bytes) (s : DM) (h8 : Canon s.2) : Canon (rxPlain n e t tm u soft group fs s).2.2 := by
  simp only [rxPlain]; (repeat' split) <;> simp_all [onDev_keeps, rxAdmit_keeps, rxToSoftware_keeps]

theorem rxAgreed_keeps (n : Nat) (e : Nat) (t : Nat) (tm : Nat) (u : RxMpdu) (fs : List Bytes) (s : DM) (h6 : Canon s.2) : Canon (rxAgreed n e t tm u fs s).2.2 := by
  simp only [rxAgreed]; (repeat' split) <;> simp_all [rxAdmit_keeps]

theorem rxData_keeps (n : Nat) (e : Nat) (tm : Nat) (u : RxMpdu) (qos : Bool) (group : Bool) (eapol : Bool) (fs : List Bytes) (s : DM) (h8 : Canon s.2) : Canon (rxData n e tm u qos group eapol fs s).2.2 := by
  simp only [rxData]; (repeat' split) <;> simp_all [onDev_keeps, rxPlain_keeps, rxAgreed_keeps]

theorem rxMpdu_keeps (n : Nat) (p : RxPpdu) (e : Option Nat) (tm : Nat) (u : RxMpdu) (s : DM) (h5 : Canon s.2) : Canon (rxMpdu n p e tm u s).2.2 := by
  simp only [rxMpdu]; (repeat' split) <;> simp_all [onDev_keeps, rxToSoftware_keeps, rxUnknown_keeps, rxPlain_keeps, rxData_keeps]

theorem rxMpdus_keeps (n : Nat) (p : RxPpdu) (e : Option Nat) (tm : Nat) (a0 : List RxMpdu) (a1 : DM) (h5 : Canon a1.2) : Canon (rxMpdus n p e tm a0 a1).2.2 := by
  fun_induction rxMpdus n p e tm a0 a1 <;> grind [rxMpdu_keeps]

theorem ppduRx_keeps (n : Nat) (p : RxPpdu) (s : DM) (h2 : Canon s.2) : Canon (ppduRx n p s).2 := by
  simp only [ppduRx]; (repeat' split) <;> simp_all [onDev_keeps, rxMpdus_keeps]

theorem ppduTx_keeps (n : Nat) (p : TxPpdu) (s : DM) (h2 : Canon s.2) : Canon (ppduTx n p s).2 := by
  simp only [ppduTx]; (repeat' split) <;> simp_all [onDev_keeps]

theorem tbtt_keeps (l : Nat) (s : DM) (h1 : Canon s.2) : Canon (tbtt l s).2 := by
  simp only [tbtt]; (repeat' split) <;> simp_all [linkOff_keeps]

theorem outrAdmit_keeps (b : Bytes) (d : Dev) (m : Memory) (h2 : Canon m) : Canon (outrAdmit b d m).2.2 := by
  simp only [outrAdmit]; (repeat' split) <;> simp_all [writeFrame_keeps]

theorem outrDeliver_keeps (src : Nat) (t : Nat) (shr : Nat) (f : OutrMac) (b : Bytes) (relay : Option (Nat × Nat)) (d : Dev) (m : Memory) (h7 : Canon m) : Canon (outrDeliver src t shr f b relay d m).2 := by
  simp only [outrDeliver]; (repeat' split) <;> simp_all [outrAdmit_keeps]

theorem outrFlood_keeps (src : Nat) (t : Nat) (shr : Nat) (f : OutrMac) (b : Bytes) (fl : Nat × Nat × Nat) (d : Dev) (m : Memory) (h7 : Canon m) : Canon (outrFlood src t shr f b fl d m).2 := by
  unfold outrFlood; (repeat' split) <;> simp_all [outrDeliver_keeps]

theorem outrPass_keeps (src : Nat) (t : Nat) (shr : Nat) (f : OutrMac) (b : Bytes) (d : Dev) (m : Memory) (h6 : Canon m) : Canon (outrPass src t shr f b d m).2 := by
  unfold outrPass; (repeat' split) <;> simp_all [outrDeliver_keeps, outrFlood_keeps]

theorem outrFrameRx_keeps (p : OutrRx) (d : Dev) (m : Memory) (h2 : Canon m) : Canon (outrFrameRx p d m).2 := by
  simp only [outrFrameRx]; (repeat' split) <;> simp_all [outrPass_keeps]

theorem ethAdmit_keeps (p : Nat) (t : Nat) (f : Bytes) (d : Dev) (m : Memory) (h4 : Canon m) : Canon (ethAdmit p t f d m).2 := by
  simp only [ethAdmit]; (repeat' split) <;> simp_all [writeFrame_keeps]

theorem ethReceive_keeps (p : Nat) (q : Nat) (f : Bytes) (fcsOk : Bool) (d : Dev) (m : Memory) (h5 : Canon m) : Canon (ethReceive p q f fcsOk d m).2 := by
  simp only [ethReceive]; (repeat' split) <;> simp_all [ethAdmit_keeps]

theorem ethFrameRx_keeps (p : Nat) (q : Nat) (f : Bytes) (fcsOk : Bool) (d : Dev) (m : Memory) (h5 : Canon m) : Canon (ethFrameRx p q f fcsOk d m).2 := by
  unfold ethFrameRx; (repeat' split) <;> simp_all [ethReceive_keeps]

theorem ethSend_keeps (p : Nat) (q : Nat) (frags : Nat) (x : Manifest) (d : Dev) (m : Memory) (h5 : Canon m) : Canon (ethSend p q frags x d m).2 := by
  simp only [ethSend]; (repeat' split) <;> simp_all [ethReceive_keeps]

theorem lineFix_keeps (l : Nat) (errs : List LineErr) (rs : List CwRead) (m : Memory) (h3 : Canon m) :
    Canon (lineFix l errs rs m) := by
  have add : ∀ (x : Memory) (k pos v : Nat), Canon x →
      Canon (if 2 ≤ pos ∧ pos < 10 then
        memPut x (64 * l + 8 * k + (pos - 2)) (memGet x (64 * l + 8 * k + (pos - 2)) ^^^ BitVec.ofNat 8 v)
        else x) := by
    intro x k pos v h
    split
    · exact memPut_keeps _ _ h
    · exact h
  refine foldl_mem_keeps _ (fun x k h => ?_) _ _ (foldl_mem_keeps _ (fun x e h => add x _ _ _ h) _ m h3)
  split
  · exact add x _ _ _ h
  · exact h

theorem dramLineRead_keeps (c : Nat) (a : Nat) (kind : Nat) (master : Nat) (errs : List LineErr) (d : Dev) (m : Memory) (h6 : Canon m) : Canon (dramLineRead c a kind master errs d m).2 := by
  simp [dramLineRead, *, lineFix_keeps]

theorem dramAcceptWrite_keeps (r : DramReq) (d : Dev) (m : Memory) (h2 : Canon m) : Canon (dramAcceptWrite r d m).2 := by
  simp [dramAcceptWrite, *, memWrite_keeps]

theorem dramAccept_keeps (r : DramReq) (d : Dev) (m : Memory) (h2 : Canon m) : Canon (dramAccept r d m).2 := by
  simp only [dramAccept]; (repeat' split) <;> simp_all [dramAcceptWrite_keeps]

theorem dramAccess_keeps (master : Nat) (write : Bool) (a : Nat) (data : Bytes) (d : Dev) (m : Memory)
    (h5 : Canon m) : Canon (dramAccess master write a data d m).2 :=
  foldl_keeps _ (fun x p h => dramAccept_keeps _ x.1 x.2 h) _ (d, m) h5

theorem acceptStalled_keeps (c : Nat) (s : Nat) (write : Bool) (d : Dev) (m : Memory) (h4 : Canon m) : Canon (acceptStalled c s write d m).2 := by
  unfold acceptStalled; (repeat' split) <;> simp_all [dramAcceptWrite_keeps]

theorem dramServe_keeps (c : Nat) (s : Nat) (act : Bool) (parity : Bool) (errs : List LineErr) (d : Dev) (m : Memory) (h6 : Canon m) : Canon (dramServe c s act parity errs d m).2 := by
  simp only [dramServe]; (repeat' split) <;> simp_all [dramLineRead_keeps, acceptStalled_keeps]

theorem dramScrub_keeps (c : Nat) (errs : List LineErr) (d : Dev) (m : Memory) (h3 : Canon m) : Canon (dramScrub c errs d m).2 := by
  unfold dramScrub; (repeat' split) <;> simp_all [dramLineRead_keeps]

theorem migCopy_keeps (c : Nat) (errs : List LineErr) (d : Dev) (m : Memory) (h3 : Canon m) : Canon (migCopy c errs d m).2 := by
  simp only [migCopy]; (repeat' split) <;> simp_all [lineFix_keeps]

theorem writeLink_keeps (i : Nat) (v : Nat) (x : Dev × Memory) (h2 : Canon x.2) : Canon (writeLink i v x).2 := by
  simp [writeLink, *, unitWrite_keeps]

theorem linkChain_keeps (a0 : List Nat) (a1 : Dev × Memory) (h1 : Canon a1.2) : Canon (linkChain a0 a1).2 := by
  fun_induction linkChain a0 a1 <;> simp_all [writeLink_keeps]

theorem spillRegion_keeps (d : Dev) (m : Memory) (h1 : Canon m) : Canon (spillRegion d m).2 := by
  unfold spillRegion; (repeat' split) <;> simp_all [linkChain_keeps]

theorem linkBack_keeps (a0 : List (Nat × Nat)) (a1 : Nat) (a2 : Dev × Memory) (h2 : Canon a2.2) : Canon (linkBack a0 a1 a2).2 := by
  fun_induction linkBack a0 a1 a2 <;> grind [writeLink_keeps]

theorem takeBack_keeps (d : Dev) (m : Memory) (h1 : Canon m) : Canon (takeBack d m).2 := by
  simp [takeBack, *, linkBack_keeps]

theorem spillCell_keeps (cell : Nat) (slot : Nat) (x : Dev × Memory) (h2 : Canon x.2) : Canon (spillCell cell slot x).2 := by
  simp [spillCell, *, unitWrite_keeps]

theorem spillOut_keeps (q : Nat) (h : Nat) (k : Caravan) (d : Dev) (m : Memory) (h4 : Canon m) :
    Canon (spillOut q h k d m).2 := by
  have ht := takeBack_keeps d m h4
  have hf : ∀ (l : List (Nat × Nat)) (x : DM), Canon x.2 → Canon (List.foldl (fun z p => spillCell p.1 p.2 z) x l).2 :=
    fun l x hx => foldl_keeps _ (fun z p h => spillCell_keeps _ _ z h) l x hx
  unfold spillOut
  dsimp only
  with_reducible apply ite_dm
  · exact ht
  · with_reducible refine writeLink_keeps _ _ _ ?_
    with_reducible exact hf _ _ ht

theorem spillNext_keeps (d : Dev) (m : Memory) (h1 : Canon m) : Canon (spillNext d m).2 := by
  unfold spillNext
  dsimp only
  repeat' (with_reducible apply ite_dm)
  · exact h1
  · exact h1
  · split
    · exact h1
    · split
      · exact h1
      · exact spillOut_keeps _ _ _ _ _ h1
  · exact h1

theorem returnCell_keeps (slot : Nat) (cell : Nat) (x : Dev × Memory) (h2 : Canon x.2) : Canon (returnCell slot cell x).2 := by
  simp [returnCell, *, memWrite_keeps]

theorem spillReturn_keeps (q : Nat) (d : Dev) (m : Memory) (h2 : Canon m) :
    Canon (spillReturn q d m).2 := by
  unfold spillReturn
  dsimp only
  split
  · exact h2
  · split
    · exact h2
    · split
      · exact h2
      · with_reducible apply ite_dm
        · exact h2
        · split
          · exact h2
          · exact foldl_keeps _ (fun z p h => returnCell_keeps _ _ z h) _ _ h2

theorem activeHook_keeps (p : Nat) (s : DM) (h1 : Canon s.2) : Canon (activeHook p s).2 := by
  unfold activeHook
  repeat' (with_reducible apply ite_dm)
  all_goals first
    | with_reducible exact h1
    | with_reducible exact onDev_keeps _ _ h1
    | with_reducible exact dispatchAll_keeps _ h1
    | with_reducible exact cvyStart_keeps _ h1

theorem becomeActive_keeps (p : Nat) (s : DM) (h1 : Canon s.2) : Canon (becomeActive p s).2 := by
  simp [becomeActive, *, onDev_keeps, activeHook_keeps]

theorem startUpDone_keeps (p : Nat) (s : DM) (h1 : Canon s.2) : Canon (startUpDone p s).2 := by
  unfold startUpDone; (repeat' split) <;> simp_all [becomeActive_keeps]

theorem coreStopped_keeps (n : Nat) (s : DM) (h1 : Canon s.2) : Canon (coreStopped n s).2 := by
  simp [coreStopped, *, onDev_keeps]

theorem drainHook_keeps (p : Nat) (s : DM) (h1 : Canon s.2) : Canon (drainHook p s).2 := by
  unfold drainHook
  repeat' (with_reducible apply ite_dm)
  all_goals first
    | with_reducible exact h1
    | with_reducible exact onDev_keeps _ _ h1
    | with_reducible exact onDev_keeps _ _ (mldRadioLeft_keeps _ _ h1)
    | with_reducible exact ringsStop_keeps _ _ h1
    | with_reducible exact mldDrain_keeps _ h1
    | with_reducible exact droverDrain_keeps _ h1
    | with_reducible exact cvyDrain_keeps _ h1
    | with_reducible exact coreLeft_keeps _ _ (coreStopped_keeps _ _ h1)

theorem beginDrain_keeps (p : Nat) (s : DM) (h1 : Canon s.2) : Canon (beginDrain p s).2 := by
  simp only [beginDrain]; (repeat' split) <;> simp_all [onDev_keeps, drainHook_keeps]

theorem enFalls_keeps (p : Nat) (s : DM) (h1 : Canon s.2) : Canon (enFalls p s).2 := by
  unfold enFalls; (repeat' split) <;> simp_all [onDev_keeps, beginDrain_keeps]

theorem softReset_keeps (p : Nat) (s : DM) (h1 : Canon s.2) : Canon (softReset p s).2 := by
  simp [softReset, *, enFalls_keeps]

theorem ctrlWrite_keeps (m : Nat) (p : Nat) (f : DM → DM) (s : DM) (h2 : ∀ (x0 : DM), Canon x0.2 → Canon (f x0).2) (h3 : Canon s.2) : Canon (ctrlWrite m p f s).2 := by
  unfold ctrlWrite; (repeat' split) <;> simp_all []

theorem enRises_keeps (m : Nat) (p : Nat) (s : DM) (h2 : Canon s.2) : Canon (enRises m p s).2 := by
  simp only [enRises]; (repeat' split) <;> simp_all [onDev_keeps]

theorem enClears_keeps (p : Nat) (s : DM) (h1 : Canon s.2) : Canon (enClears p s).2 := by
  unfold enClears; (repeat' split) <;> simp_all [enFalls_keeps]

theorem softRises_keeps (p : Nat) (s : DM) (h1 : Canon s.2) : Canon (softRises p s).2 := by
  unfold softRises; (repeat' split) <;> simp_all [softReset_keeps]

theorem ctrlWord_keeps (m : Nat) (p : Nat) (v : Nat) (s : DM) (h3 : Canon s.2) : Canon (ctrlWord m p v s).2 := by
  unfold ctrlWord; (repeat' split) <;> simp_all [onDev_keeps, enRises_keeps, enClears_keeps, softRises_keeps]

theorem followMem_keeps (old : Nat) (s : DM) (h1 : Canon s.2) : Canon (followMem old s).2 := by
  simp [followMem, *, timersStep_keeps, airStep_keeps]

theorem withStep_keeps (f : Dev → Dev) (s : DM) (h1 : Canon s.2) : Canon (withStep f s).2 := by
  simp only [withStep]; (repeat' split) <;> simp_all [followMem_keeps]

theorem timeSet_keeps (s : DM) (h0 : Canon s.2) : Canon (timeSet s).2 := by
  simp [timeSet, *, followMem_keeps]

theorem timeStep_keeps (s : DM) (h0 : Canon s.2) : Canon (timeStep s).2 := by
  simp [timeStep, *, followMem_keeps]

theorem timeCmdWord_keeps (m : Nat) (v : Nat) (s : DM) (h2 : Canon s.2) : Canon (timeCmdWord m v s).2 := by
  unfold timeCmdWord; (repeat' split) <;> simp_all [timeSet_keeps, timeStep_keeps]

theorem smpPush_keeps (m : Nat) (s : DM) (h1 : Canon s.2) : Canon (smpPush m s).2 := by
  simp [smpPush, *, withStep_keeps]

theorem powerFails_keeps (low : Bool) (mons : List Nat) (s : DM) (h2 : Canon s.2) : Canon (powerFails low mons s).2 := by
  simp [powerFails, *, onDev_keeps, requestCold_keeps]

theorem resetBallLow_keeps (s : DM) (h0 : Canon s.2) : Canon (resetBallLow s).2 := by
  simp [resetBallLow, *, onDev_keeps, requestCold_keeps]

theorem thermalTrips_keeps (s : DM) (h0 : Canon s.2) : Canon (thermalTrips s).2 := by
  simp [thermalTrips, *, onDev_keeps, requestCold_keeps]

theorem resetCtrl_keeps (m : Nat) (v : Nat) (s : DM) (h2 : Canon s.2) : Canon (resetCtrl m v s).2 := by
  unfold resetCtrl; (repeat' split) <;> simp_all [requestCold_keeps, requestWarm_keeps]

theorem debugReset_keeps (s : DM) (h0 : Canon s.2) : Canon (debugReset s).2 := by
  unfold debugReset; (repeat' split) <;> simp_all [requestWarm_keeps]

theorem resetReleases_keeps (boot : Nat) (ep : Bool) (width : Nat) (otpFault : Bool) (s : DM) (h4 : Canon s.2) : Canon (resetReleases boot ep width otpFault s).2 := by
  simp only [resetReleases]; (repeat' split) <;> simp_all [requestCold_keeps]

theorem placeImage_keeps (pay : Bytes) (s : DM) (h1 : Canon s.2) : Canon (placeImage pay s).2.2 := by
  simp [placeImage, *, memWrite_keeps]

theorem bootPasses_keeps (b : Bytes) (s : DM) (h1 : Canon s.2) : Canon (bootPasses b s).2 := by
  simp only [bootPasses]; (repeat' split) <;> simp_all [becomeActive_keeps, placeImage_keeps]

theorem otherImage_keeps (b : Bytes) (s : DM) (h1 : Canon s.2) : Canon (otherImage b s).2 := by
  simp only [otherImage]; (repeat' split) <;> simp_all [bootPasses_keeps]

theorem flashImage_keeps (b : Option Bytes) (s : DM) (h1 : Canon s.2) : Canon (flashImage b s).2 := by
  simp only [flashImage]; (repeat' split) <;> simp_all [bootPasses_keeps]

theorem imageEnds_keeps (b : Option Bytes) (s : DM) (h1 : Canon s.2) : Canon (imageEnds b s).2 := by
  unfold imageEnds; (repeat' split) <;> simp_all [otherImage_keeps, flashImage_keeps]

theorem uartImage_keeps (b : Bytes) (s : DM) (h1 : Canon s.2) : Canon (uartImage b s).2 := by
  simp only [uartImage]; (repeat' split) <;> simp_all [otherImage_keeps]

theorem quickDone_keeps (t : Int) (s : DM) (h1 : Canon s.2) : Canon (quickDone t s).2 := by
  simp only [quickDone]; (repeat' split) <;> simp_all [becomeActive_keeps]

theorem wdogExpires_keeps (s : DM) (h0 : Canon s.2) : Canon (wdogExpires s).2 := by
  unfold wdogExpires; (repeat' split) <;> simp_all [requestAction_keeps]

theorem stopBlocks_keeps (ps : List Nat) (s : DM) (h1 : Canon s.2) : Canon (stopBlocks ps s).2 :=
  foldl_keeps _ (fun x p h => enFalls_keeps p x h) _ _ h1

theorem drainCores_keeps (s : DM) (h0 : Canon s.2) : Canon (drainCores s).2 := by
  unfold drainCores; (repeat' split) <;> simp_all [onDev_keeps, stopBlocks_keeps]

theorem coresSettle_keeps (s : DM) (h0 : Canon s.2) : Canon (coresSettle s).2 := by
  unfold coresSettle; (repeat' split) <;> simp_all [drainCores_keeps]

theorem finalAction_keeps (s : DM) (h0 : Canon s.2) : Canon (finalAction s).2 := by
  unfold finalAction; (repeat' split) <;> simp_all [onDev_keeps, requestCold_keeps, requestWarm_keeps]

theorem phaseBegins_keeps (k : Nat) (s : DM) (h1 : Canon s.2) : Canon (phaseBegins k s).2 := by
  unfold phaseBegins; grind [onDev_keeps, stopBlocks_keeps, coresSettle_keeps, finalAction_keeps]

theorem phaseEnds_keeps (s : DM) (h0 : Canon s.2) : Canon (phaseEnds s).2 := by
  simp only [phaseEnds]; (repeat' split) <;> simp_all [onDev_keeps, phaseBegins_keeps]

theorem shutdownWrite_keeps (m : Nat) (v : Nat) (s : DM) (h2 : Canon s.2) : Canon (shutdownWrite m v s).2 := by
  unfold shutdownWrite; (repeat' split) <;> simp_all [onDev_keeps, phaseBegins_keeps]

theorem graceEnds_keeps (s : DM) (h0 : Canon s.2) : Canon (graceEnds s).2 := by
  unfold graceEnds; (repeat' split) <;> simp_all [onDev_keeps, stopBlocks_keeps]

theorem coreTimeout_keeps (s : DM) (h0 : Canon s.2) : Canon (coreTimeout s).2 := by
  unfold coreTimeout; (repeat' split) <;> simp_all [drainCores_keeps]

theorem coreHalts_keeps (n : Nat) (s : DM) (h1 : Canon s.2) : Canon (coreHalts n s).2 := by
  unfold coreHalts; (repeat' split) <;> simp_all [onDev_keeps, coresSettle_keeps]

theorem plain_keeps (p : Nat) (off : Nat) (v : Nat) (s : DM) (h3 : Canon s.2) : Canon (plain p off v s).2 := by
  simp [plain, *, onDev_keeps]

theorem discardWith_keeps (code : Nat) (m : Nat) (p : Nat) (off : Nat) (s : DM) (h4 : Canon s.2) : Canon (discardWith code m p off s).2 := by
  simp [discardWith, *, onDev_keeps]

theorem sysPageWrite_keeps (m : Nat) (off : Nat) (v : Nat) (s : DM) (h3 : Canon s.2) : Canon (sysPageWrite m off v s).2 := by
  unfold sysPageWrite; (repeat' split) <;> simp_all [onDev_keeps, resetCtrl_keeps, shutdownWrite_keeps, plain_keeps]

theorem sysfeatPageWrite_keeps (m : Nat) (off : Nat) (v : Nat) (s : DM) (h3 : Canon s.2) : Canon (sysfeatPageWrite m off v s).2 := by
  unfold sysfeatPageWrite; (repeat' split) <;> simp_all [onDev_keeps, plain_keeps, discardWith_keeps]

theorem pacePageWrite_keeps (off : Nat) (v : Nat) (s : DM) (h2 : Canon s.2) : Canon (pacePageWrite off v s).2 := by
  simp [pacePageWrite, *, onDev_keeps, plain_keeps]

theorem seraiPageWrite_keeps (m : Nat) (off : Nat) (v : Nat) (s : DM) (h3 : Canon s.2) : Canon (seraiPageWrite m off v s).2 := by
  unfold seraiPageWrite; (repeat' split) <;> simp_all [onDev_keeps, plain_keeps]

theorem spillPageWrite_keeps (m : Nat) (off : Nat) (v : Nat) (s : DM) (h3 : Canon s.2) : Canon (spillPageWrite m off v s).2 := by
  unfold spillPageWrite; (repeat' split) <;> simp_all [onDev_keeps, plain_keeps, discardWith_keeps]

theorem qmgrPageWrite_keeps (m : Nat) (off : Nat) (v : Nat) (s : DM) (h3 : Canon s.2) : Canon (qmgrPageWrite m off v s).2 := by
  unfold qmgrPageWrite; (repeat' split) <;> simp_all [onDev_keeps, plain_keeps, discardWith_keeps]

theorem ringRegWrite_keeps (m : Nat) (p : Nat) (n : Nat) (off : Nat) (v : Nat) (d : Dev) (mem : Memory) (h6 : Canon mem) : Canon (ringRegWrite m p n off v d mem).2 := by
  simp only [ringRegWrite]; (repeat' split) <;> simp_all [onDev_keeps, ringDisable_keeps, ringArm_keeps]

theorem ringsPageWrite_keeps (m : Nat) (p : Nat) (off : Nat) (v : Nat) (s : DM) (h4 : Canon s.2) : Canon (ringsPageWrite m p off v s).2 := by
  unfold ringsPageWrite; (repeat' split) <;> simp_all [ringGuard_keeps, ringRegWrite_keeps]

theorem ringIdxPageWrite_keeps (m : Nat) (off : Nat) (v : Nat) (s : DM) (h3 : Canon s.2) : Canon (ringIdxPageWrite m off v s).2 := by
  unfold ringIdxPageWrite; (repeat' split) <;> simp_all [ringGuard_keeps]

theorem radioPageWrite_keeps (m : Nat) (p : Nat) (n : Nat) (k : Nat) (off : Nat) (v : Nat) (s : DM) (h6 : Canon s.2) : Canon (radioPageWrite m p n k off v s).2 := by
  unfold radioPageWrite; (repeat' split) <;> simp_all [onDev_keeps, plain_keeps]

theorem strcPageWrite_keeps (off : Nat) (v : Nat) (s : DM) (h2 : Canon s.2) : Canon (strcPageWrite off v s).2 := by
  unfold strcPageWrite; (repeat' split) <;> simp_all [onDev_keeps, plain_keeps]

theorem mldPageWrite_keeps (m : Nat) (p : Nat) (off : Nat) (v : Nat) (s : DM) (h4 : Canon s.2) : Canon (mldPageWrite m p off v s).2 := by
  unfold mldPageWrite; (repeat' split) <;> simp_all [onDev_keeps, plain_keeps]

theorem airPageWrite_keeps (m : Nat) (p : Nat) (off : Nat) (v : Nat) (s : DM) (h4 : Canon s.2) : Canon (airPageWrite m p off v s).2 := by
  simp only [airPageWrite]; (repeat' split) <;> simp_all [onDev_keeps, plain_keeps, discardWith_keeps]

theorem staPageWrite_keeps (m : Nat) (p : Nat) (off : Nat) (v : Nat) (s : DM) (h4 : Canon s.2) : Canon (staPageWrite m p off v s).2 := by
  simp only [staPageWrite]; (repeat' split) <;> simp_all [onDev_keeps, staTop_keeps, plain_keeps]

theorem outrPageWrite_keeps (m : Nat) (p : Nat) (off : Nat) (v : Nat) (s : DM) (h4 : Canon s.2) : Canon (outrPageWrite m p off v s).2 := by
  unfold outrPageWrite; (repeat' split) <;> simp_all [onDev_keeps, plain_keeps]

theorem wayPageWrite_keeps (m : Nat) (p : Nat) (off : Nat) (v : Nat) (s : DM) (h4 : Canon s.2) : Canon (wayPageWrite m p off v s).2 := by
  unfold wayPageWrite; (repeat' split) <;> simp_all [onDev_keeps, ctCmdWrite_keeps, plain_keeps]

theorem tmPageWrite_keeps (m : Nat) (p : Nat) (off : Nat) (v : Nat) (s : DM) (h4 : Canon s.2) : Canon (tmPageWrite m p off v s).2 := by
  unfold tmPageWrite; (repeat' split) <;> simp_all [onDev_keeps, plain_keeps, discardWith_keeps]

theorem gatePageWrite_keeps (m : Nat) (p : Nat) (off : Nat) (v : Nat) (s : DM) (h4 : Canon s.2) : Canon (gatePageWrite m p off v s).2 := by
  simp only [gatePageWrite]; (repeat' split) <;> simp_all [onDev_keeps, plain_keeps, discardWith_keeps]

theorem timePageWrite_keeps (m : Nat) (p : Nat) (off : Nat) (v : Nat) (s : DM) (h4 : Canon s.2) : Canon (timePageWrite m p off v s).2 := by
  unfold timePageWrite; (repeat' split) <;> simp_all [onDev_keeps, timeCmdWord_keeps, smpPush_keeps, plain_keeps, discardWith_keeps]

theorem rtcPageWrite_keeps (m : Nat) (off : Nat) (v : Nat) (s : DM) (h3 : Canon s.2) : Canon (rtcPageWrite m off v s).2 := by
  unfold rtcPageWrite; (repeat' split) <;> simp_all [onDev_keeps, plain_keeps]

theorem ciphPageWrite_keeps (m : Nat) (p : Nat) (off : Nat) (v : Nat) (s : DM) (h4 : Canon s.2) : Canon (ciphPageWrite m p off v s).2 := by
  unfold ciphPageWrite; (repeat' split) <;> simp_all [onDev_keeps, plain_keeps]

theorem keyCmdWrite_keeps (m : Nat) (v : Nat) (s : DM) (h2 : Canon s.2) : Canon (keyCmdWrite m v s).2 := by
  unfold keyCmdWrite; (repeat' split) <;> simp_all [keyCommand_keeps, keyLoadEff_keeps, keyExportEff_keeps, keySealEff_keeps, keyDeriveEff_keeps, keyEraseEff_keeps]

theorem keyPageWrite_keeps (m : Nat) (off : Nat) (v : Nat) (s : DM) (h3 : Canon s.2) : Canon (keyPageWrite m off v s).2 := by
  unfold keyPageWrite; (repeat' split) <;> simp_all [plain_keeps, keyCmdWrite_keeps]

theorem taskPageWrite_keeps (m : Nat) (off : Nat) (v : Nat) (s : DM) (h3 : Canon s.2) : Canon (taskPageWrite m off v s).2 := by
  unfold taskPageWrite; (repeat' split) <;> simp_all [onDev_keeps, taskCmd_keeps, taskSetWrite_keeps, plain_keeps]

theorem drvWindowPageWrite_keeps (m : Nat) (off : Nat) (mask : Nat) (v : Nat) (s : DM) (h4 : Canon s.2) : Canon (drvWindowPageWrite m off mask v s).2 := by
  simp only [drvWindowPageWrite]; (repeat' split) <;> simp_all [windowAccess_keeps, turnWrite_keeps, disposeWrite_keeps, plain_keeps]

theorem drvPageWrite_keeps (p : Nat) (off : Nat) (v : Nat) (s : DM) (h3 : Canon s.2) : Canon (drvPageWrite p off v s).2 := by
  unfold drvPageWrite; (repeat' split) <;> simp_all [onDev_keeps, timerCfgWrite_keeps, plain_keeps]

theorem dramPageWrite_keeps (m : Nat) (p : Nat) (c : Nat) (k : Nat) (off : Nat) (v : Nat) (s : DM) (h6 : Canon s.2) : Canon (dramPageWrite m p c k off v s).2 := by
  unfold dramPageWrite; (repeat' split) <;> simp_all [onDev_keeps, plain_keeps]

theorem lanePageWrite_keeps (m : Nat) (p : Nat) (n : Nat) (off : Nat) (v : Nat) (s : DM) (h5 : Canon s.2) : Canon (lanePageWrite m p n off v s).2 := by
  unfold lanePageWrite; (repeat' split) <;> simp_all [onDev_keeps, plain_keeps]

theorem pciePageWrite_keeps (off : Nat) (v : Nat) (s : DM) (h2 : Canon s.2) : Canon (pciePageWrite off v s).2 := by
  unfold pciePageWrite; (repeat' split) <;> simp_all [onDev_keeps, plain_keeps]

theorem cvyPageWrite_keeps (m : Nat) (p : Nat) (off : Nat) (v : Nat) (s : DM) (h4 : Canon s.2) : Canon (cvyPageWrite m p off v s).2 := by
  unfold cvyPageWrite; (repeat' split) <;> simp_all [hoStart_keeps, recCmdWrite_keeps, plain_keeps]

theorem gpioPageWrite_keeps (off : Nat) (v : Nat) (s : DM) (h2 : Canon s.2) : Canon (gpioPageWrite off v s).2 := by
  unfold gpioPageWrite; (repeat' split) <;> simp_all [onDev_keeps, plain_keeps]

theorem spiPageWrite_keeps (m : Nat) (off : Nat) (v : Nat) (s : DM) (h3 : Canon s.2) : Canon (spiPageWrite m off v s).2 := by
  unfold spiPageWrite; (repeat' split) <;> simp_all [onDev_keeps, plain_keeps]

theorem diagPageWrite_keeps (off : Nat) (v : Nat) (s : DM) (h2 : Canon s.2) : Canon (diagPageWrite off v s).2 := by
  unfold diagPageWrite; grind [onDev_keeps, plain_keeps]

theorem blockWrite_keeps (m : Nat) (p : Nat) (off : Nat) (lo : Nat) (v : Nat) (s : DM) (h5 : Canon s.2) :
    Canon (blockWrite m p off lo v s).2 := by
  unfold blockWrite
  dsimp only
  repeat' (with_reducible apply ite_dm)
  all_goals first
    | with_reducible exact h5
    | (with_reducible apply onDev_keeps <;> exact h5)
    | (with_reducible apply plain_keeps <;> exact h5)
    | (with_reducible apply sysPageWrite_keeps <;> exact h5)
    | (with_reducible apply sysfeatPageWrite_keeps <;> exact h5)
    | (with_reducible apply pacePageWrite_keeps <;> exact h5)
    | (with_reducible apply seraiPageWrite_keeps <;> exact h5)
    | (with_reducible apply spillPageWrite_keeps <;> exact h5)
    | (with_reducible apply qmgrPageWrite_keeps <;> exact h5)
    | (with_reducible apply ringsPageWrite_keeps <;> exact h5)
    | (with_reducible apply ringIdxPageWrite_keeps <;> exact h5)
    | (with_reducible apply radioPageWrite_keeps <;> exact h5)
    | (with_reducible apply strcPageWrite_keeps <;> exact h5)
    | (with_reducible apply mldPageWrite_keeps <;> exact h5)
    | (with_reducible apply airPageWrite_keeps <;> exact h5)
    | (with_reducible apply staPageWrite_keeps <;> exact h5)
    | (with_reducible apply outrPageWrite_keeps <;> exact h5)
    | (with_reducible apply wayPageWrite_keeps <;> exact h5)
    | (with_reducible apply tmPageWrite_keeps <;> exact h5)
    | (with_reducible apply gatePageWrite_keeps <;> exact h5)
    | (with_reducible apply timePageWrite_keeps <;> exact h5)
    | (with_reducible apply rtcPageWrite_keeps <;> exact h5)
    | (with_reducible apply ciphPageWrite_keeps <;> exact h5)
    | (with_reducible apply keyPageWrite_keeps <;> exact h5)
    | (with_reducible apply taskPageWrite_keeps <;> exact h5)
    | (with_reducible apply drvWindowPageWrite_keeps <;> exact h5)
    | (with_reducible apply drvPageWrite_keeps <;> exact h5)
    | (with_reducible apply dramPageWrite_keeps <;> exact h5)
    | (with_reducible apply lanePageWrite_keeps <;> exact h5)
    | (with_reducible apply pciePageWrite_keeps <;> exact h5)
    | (with_reducible apply cvyPageWrite_keeps <;> exact h5)
    | (with_reducible apply gpioPageWrite_keeps <;> exact h5)
    | (with_reducible apply spiPageWrite_keeps <;> exact h5)
    | (with_reducible apply diagPageWrite_keeps <;> exact h5)

theorem pairStop_keeps (m : Nat) (p : Nat) (off : Nat) (v : Nat) (s : DM) (h4 : Canon s.2) : ∀ r, (pairStop m p off v s) = some r → Canon r.2 := by
  simp only [pairStop]; (repeat' split) <;> simp_all [onDev_keeps, windowAccess_keeps, discardWith_keeps]

theorem pairEffect_keeps (m : Nat) (p : Nat) (off : Nat) (lo : Nat) (v : Nat) (s : DM) (h5 : Canon s.2) : Canon (pairEffect m p off lo v s).2 := by
  unfold pairEffect; (repeat' split) <;> simp_all [onDev_keeps, blockWrite_keeps]

theorem pairWrite_keeps (m : Nat) (p : Nat) (off : Nat) (lo : Option Nat) (v : Nat) (s : DM) (h5 : Canon s.2) : Canon (pairWrite m p off lo v s).2 := by
  unfold pairWrite; grind [discardWith_keeps, pairStop_keeps, pairEffect_keeps]

theorem blockStore_keeps (m : Nat) (p : Nat) (off : Nat) (v : Nat) (s : DM) (h4 : Canon s.2) : Canon (blockStore m p off v s).2 := by
  unfold blockStore; grind [onDev_keeps, discardWith_keeps, blockWrite_keeps, pairStop_keeps, pairWrite_keeps]

theorem brynStore_keeps (m : Nat) (off : Nat) (v : Nat) (s : DM) (h3 : Canon s.2) : Canon (brynStore m off v s).2 := by
  unfold brynStore; (repeat' split) <;> simp_all [onDev_keeps, brynCommand_keeps, ctrlWord_keeps]

theorem regStore_keeps (m : Nat) (p : Nat) (off : Nat) (v : Nat) (s : DM) (h4 : Canon s.2) : Canon (regStore m p off v s).2 := by
  unfold regStore; (repeat' split) <;> simp_all [onDev_keeps, ctrlWrite_keeps, ctrlWord_keeps, blockStore_keeps, brynStore_keeps]

theorem blockRead_keeps (m : Nat) (p : Nat) (off : Nat) (s : DM) (h3 : Canon s.2) : Canon (blockRead m p off s).2 := by
  unfold blockRead
  dsimp only
  repeat' (with_reducible apply ite_dm)
  all_goals first
    | exact onDev_keeps _ _ h3
    | (split <;> exact onDev_keeps _ _ h3)

theorem windowRead_keeps (m : Nat) (p : Nat) (off : Nat) (s : DM) (h3 : Canon s.2) : Canon (windowRead m p off s).2 := by
  simp only [windowRead]; (repeat' split) <;> simp_all [onDev_keeps, windowAccess_keeps, itemRead_keeps, slotTake_keeps]

theorem regLoad_keeps (m : Nat) (p : Nat) (off : Nat) (s : DM) (h3 : Canon s.2) : Canon (regLoad m p off s).2 := by
  fun_cases regLoad m p off s <;> simp_all [onDev_keeps, blockRead_keeps, windowRead_keeps]

theorem storeOne_keeps (m : Nat) (a : Nat) (bs : Bytes) (x : DM) (w : Nat) (h3 : Canon x.2) :
    Canon (storeOne m a bs x w).2 := regStore_keeps _ _ _ _ _ (snd_keeps h3)

theorem regStoreBytes_keeps (m : Nat) (a : Nat) (bs : Bytes) (s : DM) (h3 : Canon s.2) :
    Canon (regStoreBytes m a bs s).2 :=
  foldl_keeps (storeOne m a bs) (fun x w h => storeOne_keeps m a bs x w h) _ s h3

theorem regLoadBytes_keeps (m : Nat) (a : Nat) (n : Nat) (s : DM) (h3 : Canon s.2) :
    Canon (regLoadBytes m a n s).2 := by
  have go : ∀ (l : List Nat) (x : Bytes × Bool × DM), Canon x.2.2.2 →
      Canon (l.foldl (fun (x : Bytes × Bool × DM) w =>
        let o := w - regBase
        let y := regLoad m (o / 4096) (o % 4096) x.2.2
        (x.1 ++ y.1.sh.readData, x.2.1 || y.1.sh.blocked, y)) x).2.2.2 := by
    intro l
    induction l with
    | nil => intro x h; exact h
    | cons w l ih => intro x h; exact ih _ (regLoad_keeps _ _ _ _ h)
  exact go _ _ h3

theorem memoryNow_keeps (m : Nat) (write : Bool) (a : Nat) (n : Nat) (bs : Bytes) (s : DM) (h5 : Canon s.2) : Canon (memoryNow m write a n bs s).2 := by
  simp only [memoryNow]; (repeat' split) <;> simp_all [memWrite_keeps]

theorem mapAccess_keeps (m : Nat) (kind : AccKind) (a : Nat) (n : Nat) (bs : Bytes) (queued : Bool) (s : DM) (h6 : Canon s.2) : Canon (mapAccess m kind a n bs queued s).2 := by
  simp only [mapAccess]; (repeat' split) <;> simp_all [onDev_keeps, dramAccess_keeps, regStoreBytes_keeps, regLoadBytes_keeps, memoryNow_keeps]

theorem access_keeps (a : Access) (s : DM) (h1 : Canon s.2) : Canon (access a s).2 := by
  unfold access; (repeat' split) <;> simp_all [onDev_keeps, mapAccess_keeps]

theorem cacheWriteBack_keeps (n a : Nat) (s : DM) (h : Canon s.2) : Canon (cacheWriteBack n a s).2 := by
  simp only [cacheWriteBack]; (repeat' split) <;> simp_all [memWrite_keeps]

theorem cacheError_keeps (n : Nat) (kind : AccKind) (a len : Nat) (s : DM) (e : CacheErr) (h : Canon s.2) :
    Canon (cacheError n kind a len s e).2 := by
  cases e with
  | writeBack l => exact onDev_keeps _ _ (cacheWriteBack_keeps n l s h)
  | _ => exact onDev_keeps _ _ h

theorem cachedAccess_keeps (a : Access) (s : DM) (h : Canon s.2) : Canon (cachedAccess a s).2 := by
  have k := access_keeps a s h
  simp only [cachedAccess]
  split
  · split
    · exact foldl_keeps _ (fun x e h => cacheError_keeps _ _ _ _ x e h) _ _ k
    · exact k
  · exact k

theorem inbound_keeps (bar : Option Nat) (a : Nat) (write : Bool) (n : Nat) (bs : Bytes) (s : DM) (h5 : Canon s.2) : Canon (inbound bar a write n bs s).2 := by
  simp only [inbound]; (repeat' split) <;> simp_all [onDev_keeps, mapAccess_keeps, memWrite_keeps]

theorem memap_keeps (a : Nat) (write : Bool) (v : Nat) (s : DM) (h3 : Canon s.2) : Canon (memap a write v s).2 := by
  unfold memap; grind [onDev_keeps, mapAccess_keeps]

theorem wordWrite_keeps (m : Nat) (a : Nat) (v : Nat) (s : DM) (h3 : Canon s.2) : Canon (wordWrite m a v s).2 := by
  unfold wordWrite; (repeat' split) <;> simp_all [regStore_keeps, mapAccess_keeps]

theorem drainPorts_keeps (s : DM) (h0 : Canon s.2) : Canon (drainPorts s).2 := by
  simp [drainPorts, *, portDrain_keeps]

theorem idleTick_keeps (s : DM) (h0 : Canon s.2) : Canon (idleTick s).2 := by
  simp only [idleTick]; (repeat' split) <;> simp_all [drainPorts_keeps]

end Sys2Proof.Machine
end

