-- ==== Sys2Proof/Laws/Fine.lean ====
section
/-! SUPPORT. Every command answers a next state, leaves the commands that wait, and keeps memory in its canonical form. -/

namespace Sys2Proof.Machine

open Sys2Proof

/-- The outcome is a next state with the same commands waiting, whose memory is in canonical form if that of `s` is. -/
def Fine (s : State) (o : Host.Outcome State Fault Refusal) : Prop :=
  ∃ t, o = .next t ∧ t.pending = s.pending ∧ (Canon s.mem → Canon t.mem)

theorem upd_fine (s : State) (f : Dev → Dev) : Fine s (upd s f) := by
  refine ⟨_, rfl, ?_, ?_⟩
  · split <;> rfl
  · intro h; split <;> exact h

theorem updAlways_fine (s : State) (f : Dev → Dev) : Fine s (updAlways s f) := ⟨_, rfl, rfl, fun h => h⟩

theorem updMem_fine (s : State) (f : Dev → Memory → Dev × Memory) (hf : ∀ d m, Canon m → Canon (f d m).2) :
    Fine s (updMem s f) := by
  refine ⟨_, rfl, ?_, ?_⟩
  · split <;> rfl
  · intro h
    split
    · exact h
    · exact hf _ _ h

theorem updMemAlways_fine (s : State) (f : Dev → Memory → Dev × Memory) (hf : ∀ d m, Canon m → Canon (f d m).2) :
    Fine s (updMemAlways s f) := ⟨_, rfl, rfl, fun h => hf _ _ h⟩

theorem execCellAdmit_fine (cls : Nat) (size : Nat) (s : State) : Fine s (execCellAdmit cls size s) := upd_fine s _

theorem execSeraiTransfer_fine (port : Nat) (m : Nat) (write : Bool) (off : Nat) (data : List Byte) (mask : List Bool) (errs : List SymErr) (errs2 : List SymErr) (s : State) : Fine s (execSeraiTransfer port m write off data mask errs errs2 s) := by
  refine updMem_fine s _ (fun d m h => ?_); (repeat' split) <;> simp_all [portRun_keeps]

theorem execAllocFree_fine (m : Nat) (win : Nat) (v : Nat) (s : State) : Fine s (execAllocFree m win v s) := upd_fine s _

theorem execAllocReq_fine (m : Nat) (win : Nat) (v : Nat) (s : State) : Fine s (execAllocReq m win v s) := upd_fine s _

theorem execAllocNext_fine (m : Nat) (win : Nat) (v : Nat) (s : State) : Fine s (execAllocNext m win v s) := upd_fine s _

theorem execScrubRead_fine (errs : List SymErr) (s : State) : Fine s (execScrubRead errs s) := by
  refine updMem_fine s _ (fun d m h => ?_); (repeat' split) <;> simp_all [readWord_keeps]

theorem execQuarRelease_fine (m : Nat) (v : Nat) (s : State) : Fine s (execQuarRelease m v s) := upd_fine s _

theorem execClassApply_fine (m : Nat) (v : Nat) (s : State) : Fine s (execClassApply m v s) := upd_fine s _

theorem execEnqueue_fine (u : EnqUnit) (x : Manifest) (further : Bool) (s : State) : Fine s (execEnqueue u x further s) := upd_fine s _

theorem execQEnable_fine (m : Nat) (s : State) : Fine s (execQEnable m s) := upd_fine s _

theorem execQPause_fine (m : Nat) (s : State) : Fine s (execQPause m s) := upd_fine s _

theorem execQResume_fine (m : Nat) (s : State) : Fine s (execQResume m s) := upd_fine s _

theorem execQFlush_fine (m : Nat) (s : State) : Fine s (execQFlush m s) := upd_fine s _

theorem execQDisable_fine (m : Nat) (s : State) : Fine s (execQDisable m s) := upd_fine s _

theorem execQRemovalDone_fine (q : Nat) (s : State) : Fine s (execQRemovalDone q s) := upd_fine s _

theorem ringWrite_fine (m n page off : Nat) (f : Dev → Memory → Dev × Memory) (s : State) (hf : ∀ d m, Canon m → Canon (f d m).2) :
    Fine s (ringWrite m n page off f s) := by
  refine updMem_fine s _ (fun d x h => ?_)
  with_reducible exact ite_dm (cmdWriteMem_keeps _ _ _ _ _ _ (fun d x h => ringGuard_keeps _ _ _ _ _ (fun d x h => hf d x h) h) h) h

theorem execRingEnable_fine (m : Nat) (n : Nat) (s : State) : Fine s (execRingEnable m n s) := by
  refine ringWrite_fine _ _ _ _ _ _ (fun d m h => ?_); simp [h]

theorem execRingClaimDone_fine (n : Nat) (s : State) : Fine s (execRingClaimDone n s) := upd_fine s _

theorem execRingDisable_fine (m : Nat) (n : Nat) (s : State) : Fine s (execRingDisable m n s) := by
  refine ringWrite_fine _ _ _ _ _ _ (fun d m h => ?_); simp [h, ringDisable_keeps]

theorem execHrDoorbell_fine (m : Nat) (n : Nat) (v : Nat) (s : State) : Fine s (execHrDoorbell m n v s) := by
  refine ringWrite_fine _ _ _ _ _ _ (fun d m h => ?_); simp [h]

theorem execTxDescProcess_fine (n : Nat) (host : Option (List Byte)) (s : State) : Fine s (execTxDescProcess n host s) := by
  refine updMem_fine s _ (fun d m h => ?_); (repeat' split) <;> simp_all [txDescriptor_keeps]

theorem execRingEnqueueRetry_fine (n : Nat) (s : State) : Fine s (execRingEnqueueRetry n s) := by
  refine updMem_fine s _ (fun d m h => ?_); grind [txComplete_keeps]

theorem execTxDescComplete_fine (n : Nat) (idx : Nat) (s : State) : Fine s (execTxDescComplete n idx s) := by
  refine updMem_fine s _ (fun d m h => ?_); simp [h, txComplete_keeps]

theorem execTxManifestEntry_fine (n : Nat) (s : State) : Fine s (execTxManifestEntry n s) := by
  refine updMem_fine s _ (fun d m h => ?_); (repeat' split) <;> simp_all [txManifestEntry_keeps]

theorem execRxRingDeliver_fine (n : Nat) (hostOk : Bool) (s : State) : Fine s (execRxRingDeliver n hostOk s) := by
  refine updMem_fine s _ (fun d m h => ?_); simp [h, rxDeliver_keeps]

theorem execRingFire_fine (n : Nat) (s : State) : Fine s (execRingFire n s) := by
  refine updMem_fine s _ (fun d m h => ?_); simp [h, fireIfMet_keeps]

theorem execHrArm_fine (m : Nat) (n : Nat) (v : Nat) (s : State) : Fine s (execHrArm m n v s) := by
  refine ringWrite_fine _ _ _ _ _ _ (fun d m h => ?_); simp [h, ringArm_keeps]

theorem execBackupPowerUp_fine (s : State) : Fine s (execBackupPowerUp s) := updAlways_fine s _

theorem execSupplySwitch_fine (battery : Bool) (vbat : Nat) (s : State) : Fine s (execSupplySwitch battery vbat s) := updAlways_fine s _

theorem execCrystalStop_fine (s : State) : Fine s (execCrystalStop s) := updAlways_fine s _

theorem execVbatLowReset_fine (s : State) : Fine s (execVbatLowReset s) := updAlways_fine s _

theorem execRtcSecond_fine (s : State) : Fine s (execRtcSecond s) := updAlways_fine s _

theorem execRtcSnapshotRead_fine (m : Nat) (r : Nat) (sub : Nat) (s : State) : Fine s (execRtcSnapshotRead m r sub s) := upd_fine s _

theorem execRtcSnapshotExpire_fine (s : State) : Fine s (execRtcSnapshotExpire s) := upd_fine s _

theorem execRtcHoldWrite_fine (m : Nat) (r : Nat) (v : Nat) (s : State) : Fine s (execRtcHoldWrite m r v s) := upd_fine s _

theorem execRtcApply_fine (m : Nat) (s : State) : Fine s (execRtcApply m s) := upd_fine s _

theorem execRtcApplyTakeEffect_fine (s : State) : Fine s (execRtcApplyTakeEffect s) := updAlways_fine s _

theorem execOsfClear_fine (m : Nat) (s : State) : Fine s (execOsfClear m s) := upd_fine s _

theorem execNetWindowEnd_fine (t : Nat) (s : State) : Fine s (execNetWindowEnd t s) := upd_fine s _

theorem execTempSample_fine (temp : Int) (s : State) : Fine s (execTempSample temp s) := updAlways_fine s _

theorem execCrystalRestart_fine (s : State) : Fine s (execCrystalRestart s) := updAlways_fine s _

theorem timeWrite_fine (m : Nat) (p : Nat) (off : Nat) (f : Dev → Dev) (s : State) : Fine s (timeWrite m p off f s) := upd_fine s _

theorem execTimeCmdSlew_fine (m : Nat) (s : State) : Fine s (execTimeCmdSlew m s) := timeWrite_fine _ _ _ _ _

theorem execTimeCmdClrAsym_fine (m : Nat) (s : State) : Fine s (execTimeCmdClrAsym m s) := timeWrite_fine _ _ _ _ _

theorem execSlewDone_fine (s : State) : Fine s (execSlewDone s) := upd_fine s _

theorem execServoHoldTimeout_fine (s : State) : Fine s (execServoHoldTimeout s) := upd_fine s _

theorem execTimeNowRead_fine (m : Nat) (s : State) : Fine s (execTimeNowRead m s) := upd_fine s _

theorem execTimeFifoPop_fine (m : Nat) (p : Nat) (s : State) : Fine s (execTimeFifoPop m p s) := upd_fine s _

theorem execReferenceLoss_fine (s : State) : Fine s (execReferenceLoss s) := updAlways_fine s _

theorem execPpsOutSecond_fine (s : State) : Fine s (execPpsOutSecond s) := upd_fine s _

theorem execPpsOutPulseEnd_fine (s : State) : Fine s (execPpsOutPulseEnd s) := upd_fine s _

theorem execCaptureEdge_fine (c : Nat) (falling : Bool) (s : State) : Fine s (execCaptureEdge c falling s) := upd_fine s _

theorem execCapturePop_fine (m : Nat) (c : Nat) (s : State) : Fine s (execCapturePop m c s) := upd_fine s _

theorem execEvtEnable_fine (m : Nat) (e : Nat) (s : State) : Fine s (execEvtEnable m e s) := timeWrite_fine _ _ _ _ _

theorem execEvtInstant_fine (e : Nat) (s : State) : Fine s (execEvtInstant e s) := upd_fine s _

theorem execEvtPulseEnd_fine (e : Nat) (s : State) : Fine s (execEvtPulseEnd e s) := upd_fine s _

theorem staWrite_fine (m : Nat) (k : Nat) (s : State) : Fine s (staWrite m k s) := upd_fine s _

theorem execStaCreate_fine (m : Nat) (s : State) : Fine s (execStaCreate m s) := staWrite_fine _ _ _

theorem execStaAuthorize_fine (m : Nat) (s : State) : Fine s (execStaAuthorize m s) := staWrite_fine _ _ _

theorem execStaUpdate_fine (m : Nat) (s : State) : Fine s (execStaUpdate m s) := staWrite_fine _ _ _

theorem execStaFreeze_fine (m : Nat) (s : State) : Fine s (execStaFreeze m s) := staWrite_fine _ _ _

theorem execStaThaw_fine (m : Nat) (s : State) : Fine s (execStaThaw m s) := staWrite_fine _ _ _

theorem execStaRemoveDone_fine (e : Nat) (s : State) : Fine s (execStaRemoveDone e s) := upd_fine s _

theorem execProbeAgeExpire_fine (e : Nat) (s : State) : Fine s (execProbeAgeExpire e s) := upd_fine s _

theorem execMpduLifetimeExpire_fine (e : Nat) (tid : Nat) (sn : Nat) (s : State) : Fine s (execMpduLifetimeExpire e tid sn s) := upd_fine s _

theorem execBaRxWrite_fine (m : Nat) (v : Nat) (s : State) : Fine s (execBaRxWrite m v s) := upd_fine s _

theorem execReorderTimeout_fine (e : Nat) (tid : Nat) (s : State) : Fine s (execReorderTimeout e tid s) := upd_fine s _

theorem execStaEvtPop_fine (m : Nat) (s : State) : Fine s (execStaEvtPop m s) := upd_fine s _

theorem execFatalGraceEnd_fine (s : State) : Fine s (execFatalGraceEnd s) := by
  refine updMem_fine s _ (fun d m h => ?_); simp [h, graceEnd_keeps]

theorem execDiagSnapTrigger_fine (m : Nat) (s : State) : Fine s (execDiagSnapTrigger m s) := upd_fine s _

theorem execDiagSnapRelease_fine (m : Nat) (s : State) : Fine s (execDiagSnapRelease m s) := upd_fine s _

theorem execSnapHoldExpire_fine (s : State) : Fine s (execSnapHoldExpire s) := upd_fine s _

theorem execDiagLogClr_fine (m : Nat) (v : Nat) (s : State) : Fine s (execDiagLogClr m v s) := upd_fine s _

theorem execWayManifestIn_fine (s : State) : Fine s (execWayManifestIn s) := by
  refine updMem_fine s _ (fun d m h => ?_); simp [h, wayIn_keeps]

theorem execWayTableFetchDone_fine (line : Nat) (bad : Bool) (s : State) : Fine s (execWayTableFetchDone line bad s) := by
  refine updMem_fine s _ (fun d m h => ?_); simp [h, fetchDone_keeps]

theorem execWayReturn_fine (s : State) : Fine s (execWayReturn s) := by
  refine updMem_fine s _ (fun d m h => ?_); simp [h, wayReturn_keeps]

theorem execWayExcPost_fine (s : State) : Fine s (execWayExcPost s) := upd_fine s _

theorem execBrAgeScan_fine (s : State) : Fine s (execBrAgeScan s) := upd_fine s _

theorem execCtScan_fine (s : State) : Fine s (execCtScan s) := by
  refine updMem_fine s _ (fun d m h => ?_); simp [h, ctScan_keeps]

theorem execCtHotWriteback_fine (e : Nat) (s : State) : Fine s (execCtHotWriteback e s) := by
  refine updMem_fine s _ (fun d m h => ?_); simp [h, ctHotBack_keeps]

theorem execCtExpiryPop_fine (m : Nat) (s : State) : Fine s (execCtExpiryPop m s) := upd_fine s _

theorem execCtInsert_fine (m : Nat) (e : Nat) (s : State) : Fine s (execCtInsert m e s) := by
  refine updMem_fine s _ (fun d m h => ?_); (repeat' split) <;> simp_all [cmdWriteMem_keeps, ctCommand_keeps]

theorem execCtDelete_fine (m : Nat) (e : Nat) (s : State) : Fine s (execCtDelete m e s) := by
  refine updMem_fine s _ (fun d m h => ?_); (repeat' split) <;> simp_all [cmdWriteMem_keeps, ctCommand_keeps]

theorem execBrLookup_fine (m : Nat) (s : State) : Fine s (execBrLookup m s) := upd_fine s _

theorem execBrInsert_fine (m : Nat) (s : State) : Fine s (execBrInsert m s) := upd_fine s _

theorem execBrDelete_fine (m : Nat) (s : State) : Fine s (execBrDelete m s) := upd_fine s _

theorem execBrFlushDynamic_fine (m : Nat) (s : State) : Fine s (execBrFlushDynamic m s) := upd_fine s _

theorem execTblInv_fine (m : Nat) (lines : Nat) (s : State) : Fine s (execTblInv m lines s) := upd_fine s _

theorem execAclWrite_fine (m : Nat) (s : State) : Fine s (execAclWrite m s) := upd_fine s _

theorem execAclRead_fine (m : Nat) (s : State) : Fine s (execAclRead m s) := upd_fine s _

theorem execPolBurstWrite_fine (m : Nat) (v : Nat) (s : State) : Fine s (execPolBurstWrite m v s) := upd_fine s _

theorem execKeyLoad_fine (m : Nat) (host : Option (List Byte)) (s : State) : Fine s (execKeyLoad m host s) := by
  refine updMem_fine s _ (fun d m h => ?_); (repeat' split) <;> simp_all [keyLoadEff_keeps, keyCmd_keeps]

theorem execKeySeal_fine (m : Nat) (host : Option (List Byte)) (s : State) : Fine s (execKeySeal m host s) := by
  refine updMem_fine s _ (fun d m h => ?_); (repeat' split) <;> simp_all [keySealEff_keeps, keyCmd_keeps]

theorem execKeyExport_fine (m : Nat) (s : State) : Fine s (execKeyExport m s) := by
  refine updMem_fine s _ (fun d m h => ?_); (repeat' split) <;> simp_all [keyExportEff_keeps, keyCmd_keeps]

theorem execKeyDerive_fine (m : Nat) (s : State) : Fine s (execKeyDerive m s) := by
  refine updMem_fine s _ (fun d m h => ?_); (repeat' split) <;> simp_all [keyDeriveEff_keeps, keyCmd_keeps]

theorem execKeyErase_fine (m : Nat) (s : State) : Fine s (execKeyErase m s) := by
  refine updMem_fine s _ (fun d m h => ?_); (repeat' split) <;> simp_all [keyEraseEff_keeps, keyCmd_keeps]

theorem execKeyEraseDone_fine (slot : Nat) (s : State) : Fine s (execKeyEraseDone slot s) := upd_fine s _

theorem execKeyPnWrite_fine (m : Nat) (pn : Nat) (s : State) : Fine s (execKeyPnWrite m pn s) := upd_fine s _

theorem execCtxWrite_fine (m : Nat) (s : State) : Fine s (execCtxWrite m s) := upd_fine s _

theorem execCtxRead_fine (m : Nat) (s : State) : Fine s (execCtxRead m s) := upd_fine s _

theorem execCtxInvalidate_fine (m : Nat) (s : State) : Fine s (execCtxInvalidate m s) := upd_fine s _

theorem execCrDoorbell_fine (m : Nat) (n : Nat) (v : Nat) (s : State) : Fine s (execCrDoorbell m n v s) := upd_fine s _

theorem execCiphJobStart_fine (r : Nat) (host : Option (List Byte)) (hostState : Option (List Byte)) (s : State) : Fine s (execCiphJobStart r host hostState s) := upd_fine s _

theorem execCiphJobComplete_fine (r : Nat) (s : State) : Fine s (execCiphJobComplete r s) := by
  refine updMem_fine s _ (fun d m h => ?_); (repeat' split) <;> simp_all [crComplete_keeps]

theorem execCiphManifestPass_fine (r : Nat) (s : State) : Fine s (execCiphManifestPass r s) := by
  refine updMem_fine s _ (fun d m h => ?_); (repeat' split) <;> simp_all [passComplete_keeps]

theorem drvWrite_fine (p off m : Nat) (f : DM → DM) (s : State) (hf : ∀ x, Canon x.2 → Canon (f x).2) :
    Fine s (drvWrite p off m f s) :=
  updMem_fine s _ (fun _ _ h => cmdWriteMem_keeps _ _ _ _ _ _ (fun d x h => hf (d, x) h) h)

theorem execTaskCreate_fine (m : Nat) (s : State) : Fine s (execTaskCreate m s) := by
  refine drvWrite_fine _ _ _ _ _ (fun x h => ?_); simp [h, taskCmd_keeps]

theorem execTaskStart_fine (m : Nat) (s : State) : Fine s (execTaskStart m s) := by
  refine drvWrite_fine _ _ _ _ _ (fun x h => ?_); simp [h, taskCmd_keeps]

theorem execTaskCancel_fine (m : Nat) (s : State) : Fine s (execTaskCancel m s) := by
  refine drvWrite_fine _ _ _ _ _ (fun x h => ?_); simp [h, taskCmd_keeps]

theorem execTaskDelete_fine (m : Nat) (s : State) : Fine s (execTaskDelete m s) := by
  refine drvWrite_fine _ _ _ _ _ (fun x h => ?_); simp [h, taskCmd_keeps]

theorem execTaskSetPrio_fine (m : Nat) (s : State) : Fine s (execTaskSetPrio m s) := by
  refine drvWrite_fine _ _ _ _ _ (fun x h => ?_); simp [h, taskCmd_keeps]

theorem execTaskFlagSet_fine (m : Nat) (v : Nat) (s : State) : Fine s (execTaskFlagSet m v s) := by
  refine drvWrite_fine _ _ _ _ _ (fun x h => ?_); simp [h, taskSetWrite_keeps]

theorem execTaskFlagClr_fine (m : Nat) (v : Nat) (s : State) : Fine s (execTaskFlagClr m v s) := upd_fine s _

theorem execEventPost_fine (s : State) : Fine s (execEventPost s) := by
  refine updMem_fine s _ (fun d m h => ?_); (repeat' split) <;> simp_all [takePost_keeps]

theorem execDrvWait_fine (m : Nat) (n : Nat) (mask : Nat) (all : Bool) (s : State) : Fine s (execDrvWait m n mask all s) := by
  refine drvWrite_fine _ _ _ _ _ (fun x h => ?_); simp [h, turnWrite_keeps]

theorem execDrvYield_fine (m : Nat) (n : Nat) (s : State) : Fine s (execDrvYield m n s) := by
  refine drvWrite_fine _ _ _ _ _ (fun x h => ?_); simp [h, turnWrite_keeps]

theorem execDrvPreempted_fine (m : Nat) (n : Nat) (s : State) : Fine s (execDrvPreempted m n s) := by
  refine drvWrite_fine _ _ _ _ _ (fun x h => ?_); simp [h, turnWrite_keeps]

theorem drvRead_fine (off m : Nat) (f : DM → DM) (s : State) (hf : ∀ x, Canon x.2 → Canon (f x).2) :
    Fine s (drvRead off m f s) :=
  updMem_fine s _ (fun d x h => ite_dm (hf (d, x) h) h)

theorem execDrvSlotTake_fine (m : Nat) (n : Nat) (s : State) : Fine s (execDrvSlotTake m n s) := by
  refine drvRead_fine _ _ _ _ (fun x h => ?_); (repeat' split) <;> simp_all [windowAccess_keeps, slotTake_keeps]

theorem execDrvItemTake_fine (m : Nat) (n : Nat) (s : State) : Fine s (execDrvItemTake m n s) := by
  refine drvRead_fine _ _ _ _ (fun x h => ?_); (repeat' split) <;> simp_all [windowAccess_keeps, itemRead_keeps]

theorem execDisposeReturn_fine (m : Nat) (n : Nat) (s : State) : Fine s (execDisposeReturn m n s) := by
  refine drvWrite_fine _ _ _ _ _ (fun x h => ?_); simp [h, disposeWrite_keeps]

theorem execDisposeQueue_fine (m : Nat) (n : Nat) (s : State) : Fine s (execDisposeQueue m n s) := by
  refine drvWrite_fine _ _ _ _ _ (fun x h => ?_); simp [h, disposeWrite_keeps]

theorem execDisposeDiscard_fine (m : Nat) (n : Nat) (s : State) : Fine s (execDisposeDiscard m n s) := by
  refine drvWrite_fine _ _ _ _ _ (fun x h => ?_); simp [h, disposeWrite_keeps]

theorem execDisposeDone_fine (t : Nat) (s : State) : Fine s (execDisposeDone t s) := by
  refine updMem_fine s _ (fun d m h => ?_); simp [h, disposeEnd_keeps]

theorem execDrvTimerFire_fine (n : Nat) (s : State) : Fine s (execDrvTimerFire n s) := by
  refine updMem_fine s _ (fun d m h => ?_); simp [h, timerDue_keeps]

theorem execTimerArm_fine (m : Nat) (v : Nat) (s : State) : Fine s (execTimerArm m v s) := by
  refine drvWrite_fine _ _ _ _ _ (fun x h => ?_); simp [h, timerCfgWrite_keeps]

theorem execTimerDisarm_fine (m : Nat) (v : Nat) (s : State) : Fine s (execTimerDisarm m v s) := by
  refine drvWrite_fine _ _ _ _ _ (fun x h => ?_); simp [h, timerCfgWrite_keeps]

theorem brynRow_fine (cmd : Nat) (m : Nat) (key : Nat) (arg : Nat) (s : State) : Fine s (brynRow cmd m key arg s) := by
  refine updMem_fine s _ (fun d m h => ?_); simp [h, brynCommand_keeps]

theorem execBrynVerify_fine (m : Nat) (s : State) : Fine s (execBrynVerify m s) := brynRow_fine _ _ _ _ _

theorem execBrynAttest_fine (m : Nat) (s : State) : Fine s (execBrynAttest m s) := brynRow_fine _ _ _ _ _

theorem execBrynIdExport_fine (m : Nat) (s : State) : Fine s (execBrynIdExport m s) := brynRow_fine _ _ _ _ _

theorem execBrynArbAdvance_fine (m : Nat) (key : Nat) (arg : Nat) (s : State) : Fine s (execBrynArbAdvance m key arg s) := brynRow_fine _ _ _ _ _

theorem execBrynOwnerProgram_fine (m : Nat) (key : Nat) (arg : Nat) (s : State) : Fine s (execBrynOwnerProgram m key arg s) := brynRow_fine _ _ _ _ _

theorem execBrynOwnerRevoke_fine (m : Nat) (key : Nat) (arg : Nat) (s : State) : Fine s (execBrynOwnerRevoke m key arg s) := brynRow_fine _ _ _ _ _

theorem execBrynLcDeploy_fine (m : Nat) (key : Nat) (s : State) : Fine s (execBrynLcDeploy m key s) := brynRow_fine _ _ _ _ _

theorem execBrynOtpWrite_fine (m : Nat) (key : Nat) (arg : Nat) (s : State) : Fine s (execBrynOtpWrite m key arg s) := brynRow_fine _ _ _ _ _

theorem execBrynChallenge_fine (m : Nat) (s : State) : Fine s (execBrynChallenge m s) := brynRow_fine _ _ _ _ _

theorem execBrynUnlock_fine (m : Nat) (key : Nat) (s : State) : Fine s (execBrynUnlock m key s) := brynRow_fine _ _ _ _ _

theorem execBrynDebugOpen_fine (m : Nat) (s : State) : Fine s (execBrynDebugOpen m s) := brynRow_fine _ _ _ _ _

theorem execBrynScrap_fine (m : Nat) (key : Nat) (s : State) : Fine s (execBrynScrap m key s) := brynRow_fine _ _ _ _ _

theorem execBrynSyskeyLoad_fine (m : Nat) (key : Nat) (arg : Nat) (s : State) : Fine s (execBrynSyskeyLoad m key arg s) := brynRow_fine _ _ _ _ _

theorem execBrynCmdDone_fine (fails : Bool) (s : State) : Fine s (execBrynCmdDone fails s) := by
  refine updMem_fine s _ (fun d m h => ?_); simp [h, brynDone_keeps]

theorem execCoreHaltReq_fine (m : Nat) (n : Nat) (halt : Bool) (s : State) : Fine s (execCoreHaltReq m n halt s) := upd_fine s _

theorem execCoreStep_fine (m : Nat) (n : Nat) (s : State) : Fine s (execCoreStep m n s) := upd_fine s _

theorem execPmbVoltageCmd_fine (s : State) : Fine s (execPmbVoltageCmd s) := upd_fine s _

theorem execPmbXferGo_fine (m : Nat) (v : Nat) (s : State) : Fine s (execPmbXferGo m v s) := upd_fine s _

theorem execPmbXferDone_fine (result : Nat) (data : Nat) (s : State) : Fine s (execPmbXferDone result data s) := upd_fine s _

theorem execPmbSclTimeout_fine (s : State) : Fine s (execPmbSclTimeout s) := upd_fine s _

theorem execPmbAlert_fine (low : Bool) (s : State) : Fine s (execPmbAlert low s) := updAlways_fine s _

theorem execGpioBallEvent_fine (n : Nat) (level : Bool) (s : State) : Fine s (execGpioBallEvent n level s) := updAlways_fine s _

theorem execGpioSet_fine (m : Nat) (v : Nat) (s : State) : Fine s (execGpioSet m v s) := upd_fine s _

theorem execGpioClr_fine (m : Nat) (v : Nat) (s : State) : Fine s (execGpioClr m v s) := upd_fine s _

theorem execSpiCmdGo_fine (m : Nat) (v : Nat) (s : State) : Fine s (execSpiCmdGo m v s) := upd_fine s _

theorem execSpiCmdDone_fine (data : List Byte) (s : State) : Fine s (execSpiCmdDone data s) := upd_fine s _

theorem execUartTxWrite_fine (m : Nat) (v : Nat) (s : State) : Fine s (execUartTxWrite m v s) := upd_fine s _

theorem execUartCharSent_fine (s : State) : Fine s (execUartCharSent s) := upd_fine s _

theorem execUartCharRx_fine (c : Nat) (err : Nat) (s : State) : Fine s (execUartCharRx c err s) := upd_fine s _

theorem execUartRxPop_fine (m : Nat) (s : State) : Fine s (execUartRxPop m s) := upd_fine s _

theorem execTapIdcode_fine (s : State) : Fine s (execTapIdcode s) := updAlways_fine s _

theorem execTapStatus_fine (s : State) : Fine s (execTapStatus s) := updAlways_fine s _

theorem execTapBrynbox_fine (i : Nat) (write : Bool) (v : Nat) (s : State) : Fine s (execTapBrynbox i write v s) := by
  refine updMem_fine s _ (fun d m h => ?_); simp [h, tapBox_keeps]

theorem execTapExtest_fine (balls : List Bool) (cells : List Bool) (s : State) : Fine s (execTapExtest balls cells s) := updAlways_fine s _

theorem execTapSamplePreload_fine (balls : List Bool) (cells : List Bool) (s : State) : Fine s (execTapSamplePreload balls cells s) := updAlways_fine s _

theorem execTapHighz_fine (s : State) : Fine s (execTapHighz s) := updAlways_fine s _

theorem execTapClamp_fine (s : State) : Fine s (execTapClamp s) := updAlways_fine s _

theorem execTapBypass_fine (s : State) : Fine s (execTapBypass s) := updAlways_fine s _

theorem execPaceWindowEnd_fine (counts : List Nat) (s : State) : Fine s (execPaceWindowEnd counts s) := upd_fine s _

theorem execGovernorInterval_fine (s : State) : Fine s (execGovernorInterval s) := upd_fine s _

theorem radioWrite_fine (m : Nat) (n : Nat) (sub : Nat) (off : Nat) (f : Dev → Dev) (s : State) : Fine s (radioWrite m n sub off f s) := upd_fine s _

theorem execCalStepDone_fine (n : Nat) (temp : Int) (lat : List (Nat × Nat × Nat)) (s : State) : Fine s (execCalStepDone n temp lat s) := upd_fine s _

theorem execCalTrackPiece_fine (_n : Nat) (_chain : Nat) (s : State) : Fine s (execCalTrackPiece _n _chain s) := upd_fine s _

theorem execShadowCapture_fine (n : Nat) (est : Int) (power : Int) (inData : Bool) (passed : Bool) (s : State) : Fine s (execShadowCapture n est power inData passed s) := upd_fine s _

theorem execRxPowerDrop_fine (n : Nat) (s : State) : Fine s (execRxPowerDrop n s) := upd_fine s _

theorem execNoiseFloorUpdate_fine (n : Nat) (nf : Int) (s : State) : Fine s (execNoiseFloorUpdate n nf s) := upd_fine s _

theorem execRefTrimUpdate_fine (n : Nat) (s : State) : Fine s (execRefTrimUpdate n s) := upd_fine s _

theorem execFirApply_fine (m : Nat) (n : Nat) (s : State) : Fine s (execFirApply m n s) := radioWrite_fine _ _ _ _ _ _

theorem execFirBankSwitch_fine (n : Nat) (s : State) : Fine s (execFirBankSwitch n s) := upd_fine s _

theorem execMaskApply_fine (m : Nat) (n : Nat) (s : State) : Fine s (execMaskApply m n s) := radioWrite_fine _ _ _ _ _ _

theorem execMaskTakeEffect_fine (n : Nat) (s : State) : Fine s (execMaskTakeEffect n s) := upd_fine s _

theorem execRadarPulse_fine (width : Nat) (power : Int) (s : State) : Fine s (execRadarPulse width power s) := upd_fine s _

theorem execRadarFifoPop_fine (m : Nat) (s : State) : Fine s (execRadarFifoPop m s) := upd_fine s _

theorem execSynthLockLost_fine (n : Nat) (s : State) : Fine s (execSynthLockLost n s) := upd_fine s _

theorem execSynthRelock_fine (n : Nat) (s : State) : Fine s (execSynthRelock n s) := upd_fine s _

theorem execStaExport_fine (m : Nat) (s : State) : Fine s (execStaExport m s) := by
  refine updMem_fine s _ (fun d m h => ?_); (repeat' split) <;> simp_all [cmdWriteMem_keeps, staCmdAll_keeps]

theorem execStaImport_fine (m : Nat) (s : State) : Fine s (execStaImport m s) := by
  refine updMem_fine s _ (fun d m h => ?_); (repeat' split) <;> simp_all [cmdWriteMem_keeps, staCmdAll_keeps]

theorem execLaneSignalDetect_fine (n : Nat) (s : State) : Fine s (execLaneSignalDetect n s) := upd_fine s _

theorem execLaneTrainDone_fine (n : Nat) (ok : Bool) (gen : Nat) (width : Nat) (s : State) : Fine s (execLaneTrainDone n ok gen width s) := upd_fine s _

theorem execLaneLockAchieved_fine (n : Nat) (s : State) : Fine s (execLaneLockAchieved n s) := upd_fine s _

theorem execLaneLockTimeout_fine (n : Nat) (s : State) : Fine s (execLaneLockTimeout n s) := upd_fine s _

theorem execLaneAutonegDone_fine (n : Nat) (ok : Bool) (full : Bool) (speed : Nat) (s : State) : Fine s (execLaneAutonegDone n ok full speed s) := upd_fine s _

theorem execCapxInterval_fine (n : Nat) (s : State) : Fine s (execCapxInterval n s) := upd_fine s _

theorem execCapxFrameRx_fine (n : Nat) (frame : List Byte) (fcsOk : Bool) (s : State) : Fine s (execCapxFrameRx n frame fcsOk s) := upd_fine s _

theorem execCapxTimeout_fine (n : Nat) (s : State) : Fine s (execCapxTimeout n s) := upd_fine s _

theorem execUpshiftTimeout_fine (n : Nat) (s : State) : Fine s (execUpshiftTimeout n s) := upd_fine s _

theorem execLinkHoldExpire_fine (n : Nat) (s : State) : Fine s (execLinkHoldExpire n s) := upd_fine s _

theorem execLpbkModeWrite_fine (m : Nat) (n : Nat) (v : Nat) (s : State) : Fine s (execLpbkModeWrite m n v s) := upd_fine s _

theorem execPrbsEnableWrite_fine (m : Nat) (n : Nat) (v : Nat) (s : State) : Fine s (execPrbsEnableWrite m n v s) := upd_fine s _

theorem execPrbsInjOne_fine (m : Nat) (n : Nat) (s : State) : Fine s (execPrbsInjOne m n s) := upd_fine s _

theorem execPrbsCheckerLocked_fine (n : Nat) (s : State) : Fine s (execPrbsCheckerLocked n s) := upd_fine s _

theorem execPrbsCheckerUnlocked_fine (n : Nat) (errs : Nat) (s : State) : Fine s (execPrbsCheckerUnlocked n errs s) := upd_fine s _

theorem cvyReceive_fine (t : Nat) (act : CvyMsg → DM → DM) (s : State) (hf : ∀ g x, Canon x.2 → Canon (act g x).2) :
    Fine s (cvyReceive t act s) :=
  updMem_fine s _ (fun d x h => ite_dm (cvySettle_keeps _ (cvyTake_keeps _ _ _ _ (fun g x h => hf g x h) h)) h)

theorem execHelloTimer_fine (s : State) : Fine s (execHelloTimer s) := by
  refine updMem_fine s _ (fun d m h => ?_); (repeat' split) <;> simp_all [cvyFlood_keeps]

theorem execHelloRx_fine (s : State) : Fine s (execHelloRx s) := by
  refine cvyReceive_fine _ _ _ (fun d m h => ?_); simp [h, helloTake_keeps]

theorem execRecordRx_fine (s : State) : Fine s (execRecordRx s) := by
  refine cvyReceive_fine _ _ _ (fun d m h => ?_); simp [h, recordTake_keeps]

theorem execSummaryRx_fine (s : State) : Fine s (execSummaryRx s) := by
  refine cvyReceive_fine _ _ _ (fun d m h => ?_); simp [h, summaryTake_keeps]

theorem execHoReqRx_fine (s : State) : Fine s (execHoReqRx s) := by
  refine cvyReceive_fine _ _ _ (fun d m h => ?_); simp [h, hoReqTake_keeps]

theorem execHoDataRx_fine (s : State) : Fine s (execHoDataRx s) := by
  refine cvyReceive_fine _ _ _ (fun d m h => ?_); simp [h, hoDataTake_keeps]

theorem execHoDoneRx_fine (s : State) : Fine s (execHoDoneRx s) := by
  refine cvyReceive_fine _ _ _ (fun d m h => ?_); simp [h, onDev_keeps]

theorem execHoNakRx_fine (s : State) : Fine s (execHoNakRx s) := by
  refine cvyReceive_fine _ _ _ (fun d m h => ?_); simp [h, onDev_keeps]

theorem execDepartRx_fine (s : State) : Fine s (execDepartRx s) := by
  refine cvyReceive_fine _ _ _ (fun d m h => ?_); simp [h, departTake_keeps]

theorem execAckRx_fine (s : State) : Fine s (execAckRx s) := by
  refine updMem_fine s _ (fun d m h => ?_); grind [onDev_keeps, cvySettle_keeps, cvyTake_keeps]

theorem execMemberAgeSuspect_fine (id : Nat) (s : State) : Fine s (execMemberAgeSuspect id s) := by
  refine updMem_fine s _ (fun d m h => ?_); (repeat' split) <;> simp_all [cvySettle_keeps]

theorem execMemberAgeSeparated_fine (id : Nat) (s : State) : Fine s (execMemberAgeSeparated id s) := by
  refine updMem_fine s _ (fun d m h => ?_); (repeat' split) <;> simp_all [cvySettle_keeps]

theorem execCvyRetxTimer_fine (dest : Nat) (seq : Nat) (s : State) : Fine s (execCvyRetxTimer dest seq s) := by
  refine updMem_fine s _ (fun d m h => ?_); grind [cvyEmit_keeps]

theorem execTombExpire_fine (kind : Nat) (rkey : Nat) (s : State) : Fine s (execTombExpire kind rkey s) := by
  refine updMem_fine s _ (fun d m h => ?_)
  dsimp only
  with_reducible apply ite_dm
  · exact h
  · generalize findRec kind rkey d m = f
    split
    · with_reducible exact ite_dm (unitWrite_keeps _ _ _ _ _ h) h
    · exact h

theorem execKeyActivation_fine (gen : Nat) (s : State) : Fine s (execKeyActivation gen s) := upd_fine s _

theorem recExec_fine (m : Nat) (c : Nat) (host : Option (List Byte)) (s : State) : Fine s (recExec m c host s) := by
  refine updMem_fine s _ (fun d m h => ?_); (repeat' split) <;> simp_all [cmdWriteMem_keeps, recCommand_keeps]

theorem execRecWrite_fine (m : Nat) (host : Option (List Byte)) (s : State) : Fine s (execRecWrite m host s) := recExec_fine _ _ _ _

theorem execRecRead_fine (m : Nat) (host : Option (List Byte)) (s : State) : Fine s (execRecRead m host s) := recExec_fine _ _ _ _

theorem execRecDelete_fine (m : Nat) (host : Option (List Byte)) (s : State) : Fine s (execRecDelete m host s) := recExec_fine _ _ _ _

theorem execHoRequest_fine (m : Nat) (s : State) : Fine s (execHoRequest m s) := by
  refine updMem_fine s _ (fun d m h => ?_); (repeat' split) <;> simp_all [cmdWriteMem_keeps, hoStart_keeps]

theorem execHoRetxTimer_fine (s : State) : Fine s (execHoRetxTimer s) := by
  refine updMem_fine s _ (fun d m h => ?_); (repeat' split) <;> simp_all [cvyTo_keeps]

theorem execHoTimeout_fine (s : State) : Fine s (execHoTimeout s) := upd_fine s _

theorem execHoHoldExpire_fine (addr : Nat) (s : State) : Fine s (execHoHoldExpire addr s) := by
  refine updMem_fine s _ (fun d m h => ?_); (repeat' split) <;> simp_all [writeStation_keeps]

theorem execDepartWaitEnd_fine (s : State) : Fine s (execDepartWaitEnd s) := upd_fine s _

theorem execCvyEvtPop_fine (m : Nat) (s : State) : Fine s (execCvyEvtPop m s) := upd_fine s _

theorem execStaAssoc_fine (m : Nat) (s : State) : Fine s (execStaAssoc m s) := by
  refine updMem_fine s _ (fun d m h => ?_); (repeat' split) <;> simp_all [cmdWriteMem_keeps, staTop_keeps]

theorem execStaRemove_fine (m : Nat) (s : State) : Fine s (execStaRemove m s) := by
  refine updMem_fine s _ (fun d m h => ?_); (repeat' split) <;> simp_all [cmdWriteMem_keeps, staTop_keeps]

theorem execStaFreezeDone_fine (e : Nat) (s : State) : Fine s (execStaFreezeDone e s) := by
  refine updMem_fine s _ (fun d m h => ?_); simp [h, hoFrozen_keeps]

theorem execStaAgeCheck_fine (s : State) : Fine s (execStaAgeCheck s) := by
  refine updMem_fine s _ (fun d m h => ?_); (repeat' split) <;> simp_all [dirFollow_keeps]

theorem linkWrite_fine (m : Nat) (l : Nat) (c : Nat) (s : State) : Fine s (linkWrite m l c s) := upd_fine s _

theorem execLinkAdd_fine (m : Nat) (l : Nat) (s : State) : Fine s (execLinkAdd m l s) := linkWrite_fine _ _ _ _

theorem execLinkRemove_fine (m : Nat) (l : Nat) (s : State) : Fine s (execLinkRemove m l s) := linkWrite_fine _ _ _ _

theorem execLinkCancel_fine (m : Nat) (l : Nat) (s : State) : Fine s (execLinkCancel m l s) := linkWrite_fine _ _ _ _

theorem execLinkRadioActive_fine (l : Nat) (s : State) : Fine s (execLinkRadioActive l s) := upd_fine s _

theorem execPairStrHoldEnd_fine (s : State) : Fine s (execPairStrHoldEnd s) := upd_fine s _

theorem execMsdTimerEnd_fine (l : Nat) (s : State) : Fine s (execMsdTimerEnd l s) := upd_fine s _

theorem execStrcTrain_fine (m : Nat) (s : State) : Fine s (execStrcTrain m s) := upd_fine s _

theorem execStrcTrainStepDone_fine (figs : List StrcFig) (silent : List Nat) (lost : Nat) (s : State) :
    Fine s (execStrcTrainStepDone figs silent lost s) := upd_fine s _

theorem execStrcTrainTimeout_fine (s : State) : Fine s (execStrcTrainTimeout s) := upd_fine s _

theorem execStrcSilentSymbol_fine (victim : Nat) (figs : List StrcFig) (s : State) : Fine s (execStrcSilentSymbol victim figs s) := upd_fine s _

theorem execGateCancel_fine (m : Nat) (s : State) : Fine s (execGateCancel m s) := upd_fine s _

theorem execGateCommit_fine (m : Nat) (s : State) : Fine s (execGateCommit m s) := upd_fine s _

theorem execTmDecision_fine (o : Nat) (s : State) : Fine s (execTmDecision o s) := upd_fine s _

theorem execAirOccDequeue_fine (l : Nat) (q : Nat) (s : State) : Fine s (execAirOccDequeue l q s) := upd_fine s _

theorem execLaunchEligible_fine (q : Nat) (s : State) : Fine s (execLaunchEligible q s) := upd_fine s _

theorem execShaperApply_fine (m : Nat) (s : State) : Fine s (execShaperApply m s) := upd_fine s _

theorem execShaperHoldEnd_fine (s : Nat) (st : State) : Fine st (execShaperHoldEnd s st) := upd_fine st _

theorem execGateTakeover_fine (n : Nat) (s : State) : Fine s (execGateTakeover n s) := upd_fine s _

theorem execGateChange_fine (n : Nat) (s : State) : Fine s (execGateChange n s) := upd_fine s _

theorem execAirSlotStart_fine (s : State) : Fine s (execAirSlotStart s) := by
  refine updMem_fine s _ (fun d m h => ?_); simp [h, airSlot_keeps]

theorem execAirBlockAccess_fine (l : Nat) (short : Bool) (s : State) : Fine s (execAirBlockAccess l short s) := upd_fine s _

theorem execAirTblApply_fine (m : Nat) (s : State) : Fine s (execAirTblApply m s) := upd_fine s _

theorem execAirResResume_fine (m : Nat) (s : State) : Fine s (execAirResResume m s) := upd_fine s _

theorem execAirResClrSkips_fine (m : Nat) (s : State) : Fine s (execAirResClrSkips m s) := upd_fine s _

theorem execBsrpTimer_fine (s : State) : Fine s (execBsrpTimer s) := upd_fine s _

theorem execEdcaTxop_fine (l : Nat) (otherRx : Bool) (s : State) : Fine s (execEdcaTxop l otherRx s) := upd_fine s _

theorem execPlanRx_fine (s : State) : Fine s (execPlanRx s) := by
  refine cvyReceive_fine _ _ _ (fun d m h => ?_); simp [h, planTake_keeps]

theorem execChanApply_fine (m : Nat) (n : Nat) (s : State) : Fine s (execChanApply m n s) := radioWrite_fine _ _ _ _ _ _

theorem execRetuneStart_fine (n : Nat) (s : State) : Fine s (execRetuneStart n s) := upd_fine s _

theorem execRetuneForceAbort_fine (n : Nat) (s : State) : Fine s (execRetuneForceAbort n s) := upd_fine s _

theorem execRetuneDone_fine (n : Nat) (s : State) : Fine s (execRetuneDone n s) := upd_fine s _

theorem execTempRecalPiece_fine (n : Nat) (temp : Int) (cut : Bool) (s : State) : Fine s (execTempRecalPiece n temp cut s) := upd_fine s _

theorem execPpduRx_fine (n : Nat) (p : RxPpdu) (s : State) : Fine s (execPpduRx n p s) := by
  refine updMem_fine s _ (fun d m h => ?_); simp [h, ppduRx_keeps]

theorem execPpduTx_fine (n : Nat) (p : TxPpdu) (s : State) : Fine s (execPpduTx n p s) := by
  refine updMem_fine s _ (fun d m h => ?_); simp [h, ppduTx_keeps]

theorem execTbtt_fine (l : Nat) (s : State) : Fine s (execTbtt l s) := by
  refine updMem_fine s _ (fun d m h => ?_); simp [h, tbtt_keeps]

theorem nbrWrite_fine (m : Nat) (c : Nat) (s : State) : Fine s (nbrWrite m c s) := upd_fine s _

theorem execNbrCreate_fine (m : Nat) (s : State) : Fine s (execNbrCreate m s) := nbrWrite_fine _ _ _

theorem execNbrUpdate_fine (m : Nat) (s : State) : Fine s (execNbrUpdate m s) := nbrWrite_fine _ _ _

theorem execNbrRemove_fine (m : Nat) (s : State) : Fine s (execNbrRemove m s) := nbrWrite_fine _ _ _

theorem execNbrResync_fine (m : Nat) (s : State) : Fine s (execNbrResync m s) := nbrWrite_fine _ _ _

theorem execOutrFrameRx_fine (p : OutrRx) (s : State) : Fine s (execOutrFrameRx p s) := by
  refine updMem_fine s _ (fun d m h => ?_); simp [h, outrFrameRx_keeps]

theorem execOutrCapture_fine (est : Int) (power : Int) (passed : Bool) (s : State) : Fine s (execOutrCapture est power passed s) := upd_fine s _

theorem execOutrRxLost_fine (s : State) : Fine s (execOutrRxLost s) := upd_fine s _

theorem execOutrCalStepDone_fine (overrun : Bool) (lat : List Nat) (s : State) : Fine s (execOutrCalStepDone overrun lat s) := upd_fine s _

theorem execOutrTimeslot_fine (s : State) : Fine s (execOutrTimeslot s) := upd_fine s _

theorem execOutrFrameTx_fine (nbr : Nat) (t : OutrTx) (s : State) : Fine s (execOutrFrameTx nbr t s) := upd_fine s _

theorem execOutrAckTimeout_fine (nbr : Nat) (s : State) : Fine s (execOutrAckTimeout nbr s) := upd_fine s _

theorem execOutrRxWindowEnd_fine (s : State) : Fine s (execOutrRxWindowEnd s) := upd_fine s _

theorem execNbrAgeExpire_fine (e : Nat) (s : State) : Fine s (execNbrAgeExpire e s) := upd_fine s _

theorem execExtListen_fine (e : Nat) (s : State) : Fine s (execExtListen e s) := upd_fine s _

theorem execCslSequence_fine (e : Nat) (t : OutrTx) (wake : Nat) (s : State) : Fine s (execCslSequence e t wake s) := upd_fine s _

theorem execRfsDelivery_fine (e : Nat) (t : OutrTx) (copies : Nat) (acked : Bool) (s : State) : Fine s (execRfsDelivery e t copies acked s) := upd_fine s _

theorem execOmEvtPop_fine (m : Nat) (s : State) : Fine s (execOmEvtPop m s) := upd_fine s _

theorem execLaneLos_fine (n : Nat) (tx : Bool) (rx : Bool) (s : State) : Fine s (execLaneLos n tx rx s) := upd_fine s _

theorem execLaneLol_fine (n : Nat) (tx : Bool) (rx : Bool) (s : State) : Fine s (execLaneLol n tx rx s) := upd_fine s _

theorem execEthFrameRx_fine (p : Nat) (quarter : Nat) (frame : List Byte) (fcsOk : Bool) (s : State) : Fine s (execEthFrameRx p quarter frame fcsOk s) := by
  refine updMem_fine s _ (fun d m h => ?_); simp [h, ethFrameRx_keeps]

theorem execPauseExpire_fine (p : Nat) (prio : Nat) (s : State) : Fine s (execPauseExpire p prio s) := upd_fine s _

theorem execEthFrameTx_fine (p : Nat) (quarter : Nat) (frags : Nat) (s : State) : Fine s (execEthFrameTx p quarter frags s) := by
  refine updMem_fine s _ (fun d m h => ?_); (repeat' split) <;> simp_all [ethSend_keeps]

theorem execXoffRefresh_fine (p : Nat) (prio : Nat) (s : State) : Fine s (execXoffRefresh p prio s) := upd_fine s _

theorem execPreemptVerifyTimeout_fine (p : Nat) (s : State) : Fine s (execPreemptVerifyTimeout p s) := upd_fine s _

theorem execPreemptVerifyResponse_fine (p : Nat) (s : State) : Fine s (execPreemptVerifyResponse p s) := upd_fine s _

theorem execPcieObMemRead_fine (m : Nat) (be : Nat) (s : State) : Fine s (execPcieObMemRead m be s) := upd_fine s _

theorem execPcieObMemWrite_fine (m : Nat) (be : Nat) (s : State) : Fine s (execPcieObMemWrite m be s) := upd_fine s _

theorem execPcieObCfgRead_fine (m : Nat) (be : Nat) (s : State) : Fine s (execPcieObCfgRead m be s) := upd_fine s _

theorem execPcieObCfgWrite_fine (m : Nat) (be : Nat) (s : State) : Fine s (execPcieObCfgWrite m be s) := upd_fine s _

theorem execPcieCompletion_fine (status : Nat) (data : Nat) (s : State) : Fine s (execPcieCompletion status data s) := upd_fine s _

theorem execPcieCompletionTimeout_fine (ring : Option Nat) (s : State) : Fine s (execPcieCompletionTimeout ring s) := by
  refine updMem_fine s _ (fun d m h => ?_); (repeat' split) <;> simp_all [txDescriptor_keeps]

theorem execPcieLinkDown_fine (s : State) : Fine s (execPcieLinkDown s) := upd_fine s _

theorem execEpReadyWrite_fine (m : Nat) (s : State) : Fine s (execEpReadyWrite m s) := upd_fine s _

theorem execDramRequestServe_fine (c : Nat) (s : Nat) (act : Bool) (parity : Bool) (errs : List LineErr) (st : State) : Fine st (execDramRequestServe c s act parity errs st) := by
  refine updMem_fine st _ (fun d m h => ?_); (repeat' split) <;> simp_all [dramServe_keeps]

theorem execDramRefresh_fine (c : Nat) (s : State) : Fine s (execDramRefresh c s) := upd_fine s _

theorem execRtBurstDeclare_fine (m : Nat) (a : Nat) (n : Nat) (s : State) : Fine s (execRtBurstDeclare m a n s) := upd_fine s _

theorem execSelfRefreshEntry_fine (c : Nat) (s : State) : Fine s (execSelfRefreshEntry c s) := upd_fine s _

theorem execSelfRefreshExit_fine (c : Nat) (s : State) : Fine s (execSelfRefreshExit c s) := upd_fine s _

theorem execRhWindowStart_fine (c : Nat) (s : State) : Fine s (execRhWindowStart c s) := upd_fine s _

theorem execDramScrubRead_fine (c : Nat) (errs : List LineErr) (s : State) : Fine s (execDramScrubRead c errs s) := by
  refine updMem_fine s _ (fun d m h => ?_); simp [h, dramScrub_keeps]

theorem execDramInitLine_fine (c : Nat) (s : State) : Fine s (execDramInitLine c s) := upd_fine s _

theorem execMigStart_fine (m : Nat) (c : Nat) (s : State) : Fine s (execMigStart m c s) := upd_fine s _

theorem execMigCopyLine_fine (c : Nat) (errs : List LineErr) (s : State) : Fine s (execMigCopyLine c errs s) := by
  refine updMem_fine s _ (fun d m h => ?_); simp [h, migCopy_keeps]

theorem execDramErrLogPop_fine (m : Nat) (c : Nat) (s : State) : Fine s (execDramErrLogPop m c s) := upd_fine s _

theorem trnWrite_fine (m : Nat) (c : Nat) (op : Nat) (s : State) : Fine s (trnWrite m c op s) := upd_fine s _

theorem execTrnMrw_fine (m : Nat) (c : Nat) (s : State) : Fine s (execTrnMrw m c s) := trnWrite_fine _ _ _ _

theorem execTrnMrr_fine (m : Nat) (c : Nat) (s : State) : Fine s (execTrnMrr m c s) := trnWrite_fine _ _ _ _

theorem execTrnMpc_fine (m : Nat) (c : Nat) (s : State) : Fine s (execTrnMpc m c s) := trnWrite_fine _ _ _ _

theorem execTrnCsSample_fine (m : Nat) (c : Nat) (s : State) : Fine s (execTrnCsSample m c s) := trnWrite_fine _ _ _ _

theorem execTrnCaSample_fine (m : Nat) (c : Nat) (s : State) : Fine s (execTrnCaSample m c s) := trnWrite_fine _ _ _ _

theorem execTrnWlevel_fine (m : Nat) (c : Nat) (s : State) : Fine s (execTrnWlevel m c s) := trnWrite_fine _ _ _ _

theorem execTrnPatWrite_fine (m : Nat) (c : Nat) (s : State) : Fine s (execTrnPatWrite m c s) := trnWrite_fine _ _ _ _

theorem execTrnRdCompare_fine (m : Nat) (c : Nat) (s : State) : Fine s (execTrnRdCompare m c s) := trnWrite_fine _ _ _ _

theorem execTrnEyeScan_fine (m : Nat) (c : Nat) (s : State) : Fine s (execTrnEyeScan m c s) := trnWrite_fine _ _ _ _

theorem execTrnHelperDone_fine (c : Nat) (data : Nat) (mask : Nat) (cnt : Nat) (points : Nat) (s : State) : Fine s (execTrnHelperDone c data mask cnt points s) := upd_fine s _

theorem execSpillEnable_fine (m : Nat) (s : State) : Fine s (execSpillEnable m s) := upd_fine s _

theorem execSpillRegionReady_fine (s : State) : Fine s (execSpillRegionReady s) := by
  refine updMem_fine s _ (fun d m h => ?_); simp [h, spillRegion_keeps]

theorem execSpillCaravan_fine (s : State) : Fine s (execSpillCaravan s) := by
  refine updMem_fine s _ (fun d m h => ?_); simp [h, spillNext_keeps]

theorem execSpillReturn_fine (q : Nat) (s : State) : Fine s (execSpillReturn q s) := by
  refine updMem_fine s _ (fun d m h => ?_); simp [h, spillReturn_keeps]

theorem execSpillDisable_fine (m : Nat) (s : State) : Fine s (execSpillDisable m s) := upd_fine s _

theorem execCtrlEnSet_fine (m : Nat) (page : Nat) (s : State) : Fine s (execCtrlEnSet m page s) := by
  refine updMem_fine s _ (fun d m h => ?_); (repeat' split) <;> simp_all [ctrlWrite_keeps, enRises_keeps]

theorem execCtrlEnClear_fine (m : Nat) (page : Nat) (s : State) : Fine s (execCtrlEnClear m page s) := by
  refine updMem_fine s _ (fun d m h => ?_); (repeat' split) <;> simp_all [ctrlWrite_keeps, enClears_keeps]

theorem execCtrlSoftRst_fine (m : Nat) (page : Nat) (s : State) : Fine s (execCtrlSoftRst m page s) := by
  refine updMem_fine s _ (fun d m h => ?_); (repeat' split) <;> simp_all [ctrlWrite_keeps, softRises_keeps]

theorem execCtrlFreezeWrite_fine (m : Nat) (page : Nat) (v : Nat) (s : State) : Fine s (execCtrlFreezeWrite m page v s) := by
  refine updMem_fine s _ (fun d m h => ?_); (repeat' split) <;> simp_all [onDev_keeps, ctrlWrite_keeps]

theorem execSoftResetComplete_fine (page : Nat) (s : State) : Fine s (execSoftResetComplete page s) := upd_fine s _

theorem execStartUpDone_fine (page : Nat) (s : State) : Fine s (execStartUpDone page s) := by
  refine updMem_fine s _ (fun d m h => ?_); simp [h, startUpDone_keeps]

theorem execDrainEnd_fine (page : Nat) (s : State) : Fine s (execDrainEnd page s) := upd_fine s _

theorem timeWriteMem_fine (m p off : Nat) (f : DM → DM) (s : State) (hf : ∀ x, Canon x.2 → Canon (f x).2) :
    Fine s (timeWriteMem m p off f s) :=
  updMem_fine s _ (fun _ _ h => cmdWriteMem_keeps _ _ _ _ _ _ (fun d x h => hf (d, x) h) h)

theorem execTimeCmdSet_fine (m : Nat) (s : State) : Fine s (execTimeCmdSet m s) := by
  refine timeWriteMem_fine _ _ _ _ _ (fun x h => ?_); simp [h, timeSet_keeps]

theorem execTimeCmdStep_fine (m : Nat) (s : State) : Fine s (execTimeCmdStep m s) := by
  refine timeWriteMem_fine _ _ _ _ _ (fun x h => ?_); simp [h, timeStep_keeps]

theorem execTimeSmpPush_fine (m : Nat) (s : State) : Fine s (execTimeSmpPush m s) := by
  refine timeWriteMem_fine _ _ _ _ _ (fun x h => ?_); simp [h, smpPush_keeps]

theorem execPpsInEdge_fine (falling : Bool) (s : State) : Fine s (execPpsInEdge falling s) := by
  refine updMem_fine s _ (fun d m h => ?_); simp [h, withStep_keeps]

theorem execReferenceReturn_fine (s : State) : Fine s (execReferenceReturn s) := updAlways_fine s _

theorem sysWrite_fine (m off : Nat) (f : DM → DM) (s : State) (hf : ∀ x, Canon x.2 → Canon (f x).2) :
    Fine s (sysWrite m off f s) :=
  updMem_fine s _ (fun _ _ h => cmdWriteMem_keeps _ _ _ _ _ _ (fun d x h => hf (d, x) h) h)

theorem execPowerOnReset_fine (pwrLow : Bool) (monitors : List Nat) (s : State) : Fine s (execPowerOnReset pwrLow monitors s) := by
  refine updMemAlways_fine s _ (fun d m h => ?_); simp [h, powerFails_keeps]

theorem execSupplyMonitorRelease_fine (n : Nat) (s : State) : Fine s (execSupplyMonitorRelease n s) := updAlways_fine s _

theorem execResetBall_fine (s : State) : Fine s (execResetBall s) := by
  refine updMemAlways_fine s _ (fun d m h => ?_); simp [h, resetBallLow_keeps]

theorem execResetInputsHigh_fine (s : State) : Fine s (execResetInputsHigh s) := updAlways_fine s _

theorem execSwResetWarm_fine (m : Nat) (key : Nat) (s : State) : Fine s (execSwResetWarm m key s) := by
  refine sysWrite_fine _ _ _ _ (fun x h => ?_); simp [h, resetCtrl_keeps]

theorem execSwResetCold_fine (m : Nat) (key : Nat) (s : State) : Fine s (execSwResetCold m key s) := by
  refine sysWrite_fine _ _ _ _ (fun x h => ?_); simp [h, resetCtrl_keeps]

theorem execWarmResetAssert_fine (s : State) : Fine s (execWarmResetAssert s) := by
  refine updMemAlways_fine s _ (fun d m h => ?_); simp [h, warmAssert_keeps]

theorem execInternalResetRelease_fine (boot : Nat) (ep : Bool) (width : Nat) (otpFault : Bool) (s : State) : Fine s (execInternalResetRelease boot ep width otpFault s) := by
  refine updMemAlways_fine s _ (fun d m h => ?_); simp [h, resetReleases_keeps]

theorem execThermalTrip_fine (s : State) : Fine s (execThermalTrip s) := by
  refine updMemAlways_fine s _ (fun d m h => ?_); simp [h, thermalTrips_keeps]

theorem execThermalRecover_fine (s : State) : Fine s (execThermalRecover s) := updAlways_fine s _

theorem execDebugResetRequest_fine (s : State) : Fine s (execDebugResetRequest s) := by
  refine updMem_fine s _ (fun d m h => ?_); simp [h, debugReset_keeps]

theorem execPcieFundamentalReset_fine (s : State) : Fine s (execPcieFundamentalReset s) := upd_fine s _

theorem execPcieTrainingStart_fine (s : State) : Fine s (execPcieTrainingStart s) := upd_fine s _

theorem execPrepStart_fine (m : Nat) (v : Nat) (s : State) : Fine s (execPrepStart m v s) := by
  refine sysWrite_fine _ _ _ _ (fun x h => ?_); simp [h, onDev_keeps]

theorem execPreparationDone_fine (u : Nat) (s : State) : Fine s (execPreparationDone u s) := upd_fine s _

theorem execPreparationTimeout_fine (u : Nat) (s : State) : Fine s (execPreparationTimeout u s) := upd_fine s _

theorem execCalStepOverrun_fine (n : Nat) (s : State) : Fine s (execCalStepOverrun n s) := upd_fine s _

theorem execQuickCalDone_fine (temp : Int) (s : State) : Fine s (execQuickCalDone temp s) := by
  refine updMem_fine s _ (fun d m h => ?_); simp [h, quickDone_keeps]

theorem execReferenceAbsentAtReset_fine (s : State) : Fine s (execReferenceAbsentAtReset s) := upd_fine s _

theorem execReferenceAppear_fine (s : State) : Fine s (execReferenceAppear s) := updAlways_fine s _

theorem execTrnDonePass_fine (m : Nat) (c : Nat) (s : State) : Fine s (execTrnDonePass m c s) := upd_fine s _

theorem execTrnDoneFail_fine (m : Nat) (c : Nat) (s : State) : Fine s (execTrnDoneFail m c s) := upd_fine s _

theorem execBootImageVerified_fine (image : Option (List Byte)) (s : State) : Fine s (execBootImageVerified image s) := by
  refine updMem_fine s _ (fun d m h => ?_); simp [h, imageEnds_keeps]

theorem execUartImageArrived_fine (image : List Byte) (s : State) : Fine s (execUartImageArrived image s) := by
  refine updMem_fine s _ (fun d m h => ?_); simp [h, uartImage_keeps]

theorem execBrynRecovGo_fine (m : Nat) (v : Nat) (s : State) : Fine s (execBrynRecovGo m v s) := upd_fine s _

theorem execWdogKick_fine (m : Nat) (v : Nat) (s : State) : Fine s (execWdogKick m v s) := by
  refine sysWrite_fine _ _ _ _ (fun x h => ?_); simp [h, onDev_keeps]

theorem execWdogHalfTimeout_fine (s : State) : Fine s (execWdogHalfTimeout s) := upd_fine s _

theorem execWdogExpire_fine (s : State) : Fine s (execWdogExpire s) := by
  refine updMem_fine s _ (fun d m h => ?_); simp [h, wdogExpires_keeps]

theorem execShutdownStart_fine (m : Nat) (v : Nat) (s : State) : Fine s (execShutdownStart m v s) := by
  refine sysWrite_fine _ _ _ _ (fun x h => ?_); simp [h, shutdownWrite_keeps]

theorem execShutdownPhaseEnd_fine (s : State) : Fine s (execShutdownPhaseEnd s) := by
  refine updMem_fine s _ (fun d m h => ?_); simp [h, phaseEnds_keeps]

theorem execShutdownGraceEnd_fine (s : State) : Fine s (execShutdownGraceEnd s) := by
  refine updMem_fine s _ (fun d m h => ?_); simp [h, graceEnds_keeps]

theorem execShutdownCoreTimeout_fine (s : State) : Fine s (execShutdownCoreTimeout s) := by
  refine updMem_fine s _ (fun d m h => ?_); simp [h, coreTimeout_keeps]

theorem execCoreHalt_fine (n : Nat) (s : State) : Fine s (execCoreHalt n s) := by
  refine updMem_fine s _ (fun d m h => ?_); simp [h, coreHalts_keeps]

theorem pageWrite_fine (m : Nat) (p : Nat) (off : Nat) (v : Nat) (s : State) : Fine s (pageWrite m p off v s) := by
  refine updMem_fine s _ (fun d m h => ?_); simp [h, regStore_keeps]

theorem execRegWrite_fine (m : Nat) (addr : Nat) (v : Nat) (s : State) : Fine s (execRegWrite m addr v s) := by
  refine updMem_fine s _ (fun d m h => ?_); simp [h, wordWrite_keeps]

theorem execAbsentPageWrite_fine (m : Nat) (page : Nat) (s : State) : Fine s (execAbsentPageWrite m page s) := upd_fine s _

theorem execAbsentClr_fine (m : Nat) (v : Nat) (s : State) : Fine s (execAbsentClr m v s) := pageWrite_fine _ _ _ _ _

theorem execIntTestWrite_fine (m : Nat) (page : Nat) (v : Nat) (s : State) : Fine s (execIntTestWrite m page v s) := pageWrite_fine _ _ _ _ _

theorem execErrCodeClear_fine (m : Nat) (page : Nat) (s : State) : Fine s (execErrCodeClear m page s) := pageWrite_fine _ _ _ _ _

theorem execLockSetCfg_fine (m : Nat) (page : Nat) (s : State) : Fine s (execLockSetCfg m page s) := pageWrite_fine _ _ _ _ _

theorem execLockSetCtrl_fine (m : Nat) (page : Nat) (s : State) : Fine s (execLockSetCtrl m page s) := pageWrite_fine _ _ _ _ _

theorem execIntrHeldPost_fine (s : State) : Fine s (execIntrHeldPost s) := upd_fine s _

theorem execMasterAccess_fine (a : Access) (s : State) : Fine s (execMasterAccess a s) := by
  exact updMem_fine s _ (fun d m h => cachedAccess_keeps a (d, m) h)

theorem execSysfeatCommit_fine (m : Nat) (v : Nat) (s : State) : Fine s (execSysfeatCommit m v s) := pageWrite_fine _ _ _ _ _

theorem execCommitComplete_fine (s : State) : Fine s (execCommitComplete s) := upd_fine s _

theorem execPcieInboundRequest_fine (bar : Option Nat) (a : Nat) (write : Bool) (len : Nat) (data : List Byte) (s : State) : Fine s (execPcieInboundRequest bar a write len data s) := by
  refine updMem_fine s _ (fun d m h => ?_); simp [h, inbound_keeps]

theorem execTapMemap_fine (a : Nat) (write : Bool) (v : Nat) (s : State) : Fine s (execTapMemap a write v s) := by
  refine updMem_fine s _ (fun d m h => ?_); simp [h, memap_keeps]

/-- Every command answers a next state, leaves the commands that wait, and keeps memory in its canonical form. -/
theorem exec_fine (c : Instr) (s : State) : Fine s (exec c s) := by
  cases c with
  | regWrite m addr v => exact execRegWrite_fine m addr v s
  | absentPageWrite m page => exact execAbsentPageWrite_fine m page s
  | absentClr m v => exact execAbsentClr_fine m v s
  | ctrlEnSet m page => exact execCtrlEnSet_fine m page s
  | ctrlEnClear m page => exact execCtrlEnClear_fine m page s
  | ctrlSoftRst m page => exact execCtrlSoftRst_fine m page s
  | softResetComplete page => exact execSoftResetComplete_fine page s
  | ctrlFreezeWrite m page v => exact execCtrlFreezeWrite_fine m page v s
  | startUpDone page => exact execStartUpDone_fine page s
  | drainEnd page => exact execDrainEnd_fine page s
  | intTestWrite m page v => exact execIntTestWrite_fine m page v s
  | errCodeClear m page => exact execErrCodeClear_fine m page s
  | lockSetCfg m page => exact execLockSetCfg_fine m page s
  | lockSetCtrl m page => exact execLockSetCtrl_fine m page s
  | intrHeldPost => exact execIntrHeldPost_fine s
  | masterAccess a => exact execMasterAccess_fine a s
  | sysfeatCommit m v => exact execSysfeatCommit_fine m v s
  | commitComplete => exact execCommitComplete_fine s
  | paceWindowEnd counts => exact execPaceWindowEnd_fine counts s
  | governorInterval => exact execGovernorInterval_fine s
  | cellAdmit cls size => exact execCellAdmit_fine cls size s
  | seraiTransfer port m write off data mask errs errs2 => exact execSeraiTransfer_fine port m write off data mask errs errs2 s
  | allocFree m win v => exact execAllocFree_fine m win v s
  | allocReq m win v => exact execAllocReq_fine m win v s
  | allocNext m win v => exact execAllocNext_fine m win v s
  | scrubRead errs => exact execScrubRead_fine errs s
  | quarRelease m v => exact execQuarRelease_fine m v s
  | classApply m v => exact execClassApply_fine m v s
  | spillEnable m => exact execSpillEnable_fine m s
  | spillRegionReady => exact execSpillRegionReady_fine s
  | spillCaravan => exact execSpillCaravan_fine s
  | spillReturn q => exact execSpillReturn_fine q s
  | spillDisable m => exact execSpillDisable_fine m s
  | enqueue u x further => exact execEnqueue_fine u x further s
  | qEnable m => exact execQEnable_fine m s
  | qPause m => exact execQPause_fine m s
  | qResume m => exact execQResume_fine m s
  | qFlush m => exact execQFlush_fine m s
  | qDisable m => exact execQDisable_fine m s
  | qRemovalDone q => exact execQRemovalDone_fine q s
  | ringEnable m n => exact execRingEnable_fine m n s
  | ringClaimDone n => exact execRingClaimDone_fine n s
  | ringDisable m n => exact execRingDisable_fine m n s
  | hrDoorbell m n v => exact execHrDoorbell_fine m n v s
  | txDescProcess n host => exact execTxDescProcess_fine n host s
  | ringEnqueueRetry n => exact execRingEnqueueRetry_fine n s
  | txDescComplete n idx => exact execTxDescComplete_fine n idx s
  | txManifestEntry n => exact execTxManifestEntry_fine n s
  | rxRingDeliver n hostOk => exact execRxRingDeliver_fine n hostOk s
  | ringFire n => exact execRingFire_fine n s
  | hrArm m n v => exact execHrArm_fine m n v s
  | timeCmdSet m => exact execTimeCmdSet_fine m s
  | timeCmdStep m => exact execTimeCmdStep_fine m s
  | timeCmdSlew m => exact execTimeCmdSlew_fine m s
  | timeCmdClrAsym m => exact execTimeCmdClrAsym_fine m s
  | slewDone => exact execSlewDone_fine s
  | timeSmpPush m => exact execTimeSmpPush_fine m s
  | servoHoldTimeout => exact execServoHoldTimeout_fine s
  | timeNowRead m => exact execTimeNowRead_fine m s
  | timeFifoPop m p => exact execTimeFifoPop_fine m p s
  | referenceLoss => exact execReferenceLoss_fine s
  | referenceReturn => exact execReferenceReturn_fine s
  | ppsInEdge falling => exact execPpsInEdge_fine falling s
  | ppsOutSecond => exact execPpsOutSecond_fine s
  | ppsOutPulseEnd => exact execPpsOutPulseEnd_fine s
  | captureEdge c falling => exact execCaptureEdge_fine c falling s
  | capturePop m c => exact execCapturePop_fine m c s
  | evtEnable m e => exact execEvtEnable_fine m e s
  | evtInstant e => exact execEvtInstant_fine e s
  | evtPulseEnd e => exact execEvtPulseEnd_fine e s
  | dramRequestServe c sub act parity errs => exact execDramRequestServe_fine c sub act parity errs s
  | dramRefresh c => exact execDramRefresh_fine c s
  | rtBurstDeclare m a n => exact execRtBurstDeclare_fine m a n s
  | selfRefreshEntry c => exact execSelfRefreshEntry_fine c s
  | selfRefreshExit c => exact execSelfRefreshExit_fine c s
  | rhWindowStart c => exact execRhWindowStart_fine c s
  | dramScrubRead c errs => exact execDramScrubRead_fine c errs s
  | dramInitLine c => exact execDramInitLine_fine c s
  | migStart m c => exact execMigStart_fine m c s
  | migCopyLine c errs => exact execMigCopyLine_fine c errs s
  | dramErrLogPop m c => exact execDramErrLogPop_fine m c s
  | trnMrw m c => exact execTrnMrw_fine m c s
  | trnMrr m c => exact execTrnMrr_fine m c s
  | trnMpc m c => exact execTrnMpc_fine m c s
  | trnCsSample m c => exact execTrnCsSample_fine m c s
  | trnCaSample m c => exact execTrnCaSample_fine m c s
  | trnWlevel m c => exact execTrnWlevel_fine m c s
  | trnPatWrite m c => exact execTrnPatWrite_fine m c s
  | trnRdCompare m c => exact execTrnRdCompare_fine m c s
  | trnEyeScan m c => exact execTrnEyeScan_fine m c s
  | trnHelperDone c data mask cnt points => exact execTrnHelperDone_fine c data mask cnt points s
  | trnDonePass m c => exact execTrnDonePass_fine m c s
  | trnDoneFail m c => exact execTrnDoneFail_fine m c s
  | wayManifestIn => exact execWayManifestIn_fine s
  | wayTableFetchDone line bad => exact execWayTableFetchDone_fine line bad s
  | wayReturn => exact execWayReturn_fine s
  | wayExcPost => exact execWayExcPost_fine s
  | brAgeScan => exact execBrAgeScan_fine s
  | ctScan => exact execCtScan_fine s
  | ctHotWriteback e => exact execCtHotWriteback_fine e s
  | ctExpiryPop m => exact execCtExpiryPop_fine m s
  | ctInsert m e => exact execCtInsert_fine m e s
  | ctDelete m e => exact execCtDelete_fine m e s
  | brLookup m => exact execBrLookup_fine m s
  | brInsert m => exact execBrInsert_fine m s
  | brDelete m => exact execBrDelete_fine m s
  | brFlushDynamic m => exact execBrFlushDynamic_fine m s
  | tblInv m lines => exact execTblInv_fine m lines s
  | aclWrite m => exact execAclWrite_fine m s
  | aclRead m => exact execAclRead_fine m s
  | polBurstWrite m v => exact execPolBurstWrite_fine m v s
  | staCreate m => exact execStaCreate_fine m s
  | staAssoc m => exact execStaAssoc_fine m s
  | staAuthorize m => exact execStaAuthorize_fine m s
  | staUpdate m => exact execStaUpdate_fine m s
  | staFreeze m => exact execStaFreeze_fine m s
  | staFreezeDone e => exact execStaFreezeDone_fine e s
  | staThaw m => exact execStaThaw_fine m s
  | staRemove m => exact execStaRemove_fine m s
  | staRemoveDone e => exact execStaRemoveDone_fine e s
  | probeAgeExpire e => exact execProbeAgeExpire_fine e s
  | staAgeCheck => exact execStaAgeCheck_fine s
  | mpduLifetimeExpire e tid sn => exact execMpduLifetimeExpire_fine e tid sn s
  | baRxWrite m v => exact execBaRxWrite_fine m v s
  | reorderTimeout e tid => exact execReorderTimeout_fine e tid s
  | staEvtPop m => exact execStaEvtPop_fine m s
  | tmDecision o => exact execTmDecision_fine o s
  | airOccDequeue l q => exact execAirOccDequeue_fine l q s
  | launchEligible q => exact execLaunchEligible_fine q s
  | shaperApply m => exact execShaperApply_fine m s
  | gateCommit m => exact execGateCommit_fine m s
  | gateCancel m => exact execGateCancel_fine m s
  | gateTakeover n => exact execGateTakeover_fine n s
  | gateChange n => exact execGateChange_fine n s
  | shaperHoldEnd sub => exact execShaperHoldEnd_fine sub s
  | keyLoad m host => exact execKeyLoad_fine m host s
  | keySeal m host => exact execKeySeal_fine m host s
  | keyExport m => exact execKeyExport_fine m s
  | keyDerive m => exact execKeyDerive_fine m s
  | keyErase m => exact execKeyErase_fine m s
  | keyEraseDone slot => exact execKeyEraseDone_fine slot s
  | keyPnWrite m pn => exact execKeyPnWrite_fine m pn s
  | ctxWrite m => exact execCtxWrite_fine m s
  | ctxRead m => exact execCtxRead_fine m s
  | ctxInvalidate m => exact execCtxInvalidate_fine m s
  | crDoorbell m n v => exact execCrDoorbell_fine m n v s
  | ciphJobStart r host hostState => exact execCiphJobStart_fine r host hostState s
  | ciphJobComplete r => exact execCiphJobComplete_fine r s
  | ciphManifestPass r => exact execCiphManifestPass_fine r s
  | staExport m => exact execStaExport_fine m s
  | staImport m => exact execStaImport_fine m s
  | taskCreate m => exact execTaskCreate_fine m s
  | taskStart m => exact execTaskStart_fine m s
  | taskCancel m => exact execTaskCancel_fine m s
  | taskDelete m => exact execTaskDelete_fine m s
  | taskSetPrio m => exact execTaskSetPrio_fine m s
  | taskFlagSet m v => exact execTaskFlagSet_fine m v s
  | taskFlagClr m v => exact execTaskFlagClr_fine m v s
  | eventPost => exact execEventPost_fine s
  | drvWait m n mask all => exact execDrvWait_fine m n mask all s
  | drvYield m n => exact execDrvYield_fine m n s
  | drvPreempted m n => exact execDrvPreempted_fine m n s
  | drvSlotTake m n => exact execDrvSlotTake_fine m n s
  | drvItemTake m n => exact execDrvItemTake_fine m n s
  | disposeReturn m n => exact execDisposeReturn_fine m n s
  | disposeQueue m n => exact execDisposeQueue_fine m n s
  | disposeDiscard m n => exact execDisposeDiscard_fine m n s
  | disposeDone t => exact execDisposeDone_fine t s
  | drvTimerFire n => exact execDrvTimerFire_fine n s
  | timerArm m v => exact execTimerArm_fine m v s
  | timerDisarm m v => exact execTimerDisarm_fine m v s
  | laneSignalDetect n => exact execLaneSignalDetect_fine n s
  | laneTrainDone n ok gen width => exact execLaneTrainDone_fine n ok gen width s
  | laneLockAchieved n => exact execLaneLockAchieved_fine n s
  | laneLockTimeout n => exact execLaneLockTimeout_fine n s
  | laneAutonegDone n ok full speed => exact execLaneAutonegDone_fine n ok full speed s
  | capxInterval n => exact execCapxInterval_fine n s
  | capxFrameRx n frame fcsOk => exact execCapxFrameRx_fine n frame fcsOk s
  | capxTimeout n => exact execCapxTimeout_fine n s
  | upshiftTimeout n => exact execUpshiftTimeout_fine n s
  | linkHoldExpire n => exact execLinkHoldExpire_fine n s
  | laneLos n tx rx => exact execLaneLos_fine n tx rx s
  | laneLol n tx rx => exact execLaneLol_fine n tx rx s
  | lpbkModeWrite m n v => exact execLpbkModeWrite_fine m n v s
  | prbsEnableWrite m n v => exact execPrbsEnableWrite_fine m n v s
  | prbsInjOne m n => exact execPrbsInjOne_fine m n s
  | ethFrameRx p quarter frame fcsOk => exact execEthFrameRx_fine p quarter frame fcsOk s
  | pauseExpire p prio => exact execPauseExpire_fine p prio s
  | ethFrameTx p quarter frags => exact execEthFrameTx_fine p quarter frags s
  | xoffRefresh p prio => exact execXoffRefresh_fine p prio s
  | preemptVerifyTimeout p => exact execPreemptVerifyTimeout_fine p s
  | preemptVerifyResponse p => exact execPreemptVerifyResponse_fine p s
  | pcieInboundRequest bar a write len data => exact execPcieInboundRequest_fine bar a write len data s
  | pcieObMemRead m be => exact execPcieObMemRead_fine m be s
  | pcieObMemWrite m be => exact execPcieObMemWrite_fine m be s
  | pcieObCfgRead m be => exact execPcieObCfgRead_fine m be s
  | pcieObCfgWrite m be => exact execPcieObCfgWrite_fine m be s
  | pcieCompletion status data => exact execPcieCompletion_fine status data s
  | pcieCompletionTimeout ring => exact execPcieCompletionTimeout_fine ring s
  | pcieLinkDown => exact execPcieLinkDown_fine s
  | epReadyWrite m => exact execEpReadyWrite_fine m s
  | prbsCheckerLocked n => exact execPrbsCheckerLocked_fine n s
  | prbsCheckerUnlocked n errs => exact execPrbsCheckerUnlocked_fine n errs s
  | helloTimer => exact execHelloTimer_fine s
  | helloRx => exact execHelloRx_fine s
  | recordRx => exact execRecordRx_fine s
  | ackRx => exact execAckRx_fine s
  | summaryRx => exact execSummaryRx_fine s
  | hoReqRx => exact execHoReqRx_fine s
  | hoDataRx => exact execHoDataRx_fine s
  | hoDoneRx => exact execHoDoneRx_fine s
  | hoNakRx => exact execHoNakRx_fine s
  | planRx => exact execPlanRx_fine s
  | departRx => exact execDepartRx_fine s
  | memberAgeSuspect id => exact execMemberAgeSuspect_fine id s
  | memberAgeSeparated id => exact execMemberAgeSeparated_fine id s
  | cvyRetxTimer dest seq => exact execCvyRetxTimer_fine dest seq s
  | tombExpire kind rkey => exact execTombExpire_fine kind rkey s
  | keyActivation gen => exact execKeyActivation_fine gen s
  | recWrite m host => exact execRecWrite_fine m host s
  | recRead m host => exact execRecRead_fine m host s
  | recDelete m host => exact execRecDelete_fine m host s
  | hoRequest m => exact execHoRequest_fine m s
  | hoRetxTimer => exact execHoRetxTimer_fine s
  | hoTimeout => exact execHoTimeout_fine s
  | hoHoldExpire addr => exact execHoHoldExpire_fine addr s
  | departWaitEnd => exact execDepartWaitEnd_fine s
  | cvyEvtPop m => exact execCvyEvtPop_fine m s
  | calStepDone n temp lat => exact execCalStepDone_fine n temp lat s
  | calTrackPiece n chain => exact execCalTrackPiece_fine n chain s
  | shadowCapture n est power inData passed => exact execShadowCapture_fine n est power inData passed s
  | rxPowerDrop n => exact execRxPowerDrop_fine n s
  | noiseFloorUpdate n nf => exact execNoiseFloorUpdate_fine n nf s
  | refTrimUpdate n => exact execRefTrimUpdate_fine n s
  | firApply m n => exact execFirApply_fine m n s
  | firBankSwitch n => exact execFirBankSwitch_fine n s
  | maskApply m n => exact execMaskApply_fine m n s
  | maskTakeEffect n => exact execMaskTakeEffect_fine n s
  | radarPulse width power => exact execRadarPulse_fine width power s
  | radarFifoPop m => exact execRadarFifoPop_fine m s
  | synthLockLost n => exact execSynthLockLost_fine n s
  | synthRelock n => exact execSynthRelock_fine n s
  | linkAdd m l => exact execLinkAdd_fine m l s
  | linkRemove m l => exact execLinkRemove_fine m l s
  | linkCancel m l => exact execLinkCancel_fine m l s
  | linkRadioActive l => exact execLinkRadioActive_fine l s
  | pairStrHoldEnd => exact execPairStrHoldEnd_fine s
  | msdTimerEnd l => exact execMsdTimerEnd_fine l s
  | strcTrain m => exact execStrcTrain_fine m s
  | strcTrainStepDone figs silent lost => exact execStrcTrainStepDone_fine figs silent lost s
  | strcTrainTimeout => exact execStrcTrainTimeout_fine s
  | strcSilentSymbol victim figs => exact execStrcSilentSymbol_fine victim figs s
  | airSlotStart => exact execAirSlotStart_fine s
  | airBlockAccess l short => exact execAirBlockAccess_fine l short s
  | airTblApply m => exact execAirTblApply_fine m s
  | airResResume m => exact execAirResResume_fine m s
  | airResClrSkips m => exact execAirResClrSkips_fine m s
  | bsrpTimer => exact execBsrpTimer_fine s
  | edcaTxop l otherRx => exact execEdcaTxop_fine l otherRx s
  | chanApply m n => exact execChanApply_fine m n s
  | retuneStart n => exact execRetuneStart_fine n s
  | retuneForceAbort n => exact execRetuneForceAbort_fine n s
  | retuneDone n => exact execRetuneDone_fine n s
  | calStepOverrun n => exact execCalStepOverrun_fine n s
  | tempRecalPiece n temp cut => exact execTempRecalPiece_fine n temp cut s
  | ppduRx n p => exact execPpduRx_fine n p s
  | ppduTx n p => exact execPpduTx_fine n p s
  | tbtt l => exact execTbtt_fine l s
  | outrFrameRx p => exact execOutrFrameRx_fine p s
  | outrCapture est power passed => exact execOutrCapture_fine est power passed s
  | outrRxLost => exact execOutrRxLost_fine s
  | outrCalStepDone overrun lat => exact execOutrCalStepDone_fine overrun lat s
  | outrTimeslot => exact execOutrTimeslot_fine s
  | outrFrameTx nbr t => exact execOutrFrameTx_fine nbr t s
  | outrAckTimeout nbr => exact execOutrAckTimeout_fine nbr s
  | outrRxWindowEnd => exact execOutrRxWindowEnd_fine s
  | nbrCreate m => exact execNbrCreate_fine m s
  | nbrUpdate m => exact execNbrUpdate_fine m s
  | nbrRemove m => exact execNbrRemove_fine m s
  | nbrResync m => exact execNbrResync_fine m s
  | nbrAgeExpire e => exact execNbrAgeExpire_fine e s
  | extListen e => exact execExtListen_fine e s
  | cslSequence e t wake => exact execCslSequence_fine e t wake s
  | rfsDelivery e t copies acked => exact execRfsDelivery_fine e t copies acked s
  | omEvtPop m => exact execOmEvtPop_fine m s
  | backupPowerUp => exact execBackupPowerUp_fine s
  | supplySwitch battery vbat => exact execSupplySwitch_fine battery vbat s
  | crystalStop => exact execCrystalStop_fine s
  | vbatLowReset => exact execVbatLowReset_fine s
  | rtcSecond => exact execRtcSecond_fine s
  | rtcSnapshotRead m r sub => exact execRtcSnapshotRead_fine m r sub s
  | rtcSnapshotExpire => exact execRtcSnapshotExpire_fine s
  | rtcHoldWrite m r v => exact execRtcHoldWrite_fine m r v s
  | rtcApply m => exact execRtcApply_fine m s
  | rtcApplyTakeEffect => exact execRtcApplyTakeEffect_fine s
  | osfClear m => exact execOsfClear_fine m s
  | netWindowEnd t => exact execNetWindowEnd_fine t s
  | tempSample temp => exact execTempSample_fine temp s
  | crystalRestart => exact execCrystalRestart_fine s
  | brynVerify m => exact execBrynVerify_fine m s
  | brynAttest m => exact execBrynAttest_fine m s
  | brynIdExport m => exact execBrynIdExport_fine m s
  | brynArbAdvance m key arg => exact execBrynArbAdvance_fine m key arg s
  | brynOwnerProgram m key arg => exact execBrynOwnerProgram_fine m key arg s
  | brynOwnerRevoke m key arg => exact execBrynOwnerRevoke_fine m key arg s
  | brynLcDeploy m key => exact execBrynLcDeploy_fine m key s
  | brynOtpWrite m key arg => exact execBrynOtpWrite_fine m key arg s
  | brynChallenge m => exact execBrynChallenge_fine m s
  | brynUnlock m key => exact execBrynUnlock_fine m key s
  | brynDebugOpen m => exact execBrynDebugOpen_fine m s
  | brynScrap m key => exact execBrynScrap_fine m key s
  | brynSyskeyLoad m key arg => exact execBrynSyskeyLoad_fine m key arg s
  | brynCmdDone fails => exact execBrynCmdDone_fine fails s
  | coreHaltReq m n halt => exact execCoreHaltReq_fine m n halt s
  | coreStep m n => exact execCoreStep_fine m n s
  | pmbVoltageCmd => exact execPmbVoltageCmd_fine s
  | pmbXferGo m v => exact execPmbXferGo_fine m v s
  | pmbXferDone result data => exact execPmbXferDone_fine result data s
  | pmbSclTimeout => exact execPmbSclTimeout_fine s
  | pmbAlert low => exact execPmbAlert_fine low s
  | gpioBallEvent n level => exact execGpioBallEvent_fine n level s
  | gpioSet m v => exact execGpioSet_fine m v s
  | gpioClr m v => exact execGpioClr_fine m v s
  | spiCmdGo m v => exact execSpiCmdGo_fine m v s
  | spiCmdDone data => exact execSpiCmdDone_fine data s
  | uartTxWrite m v => exact execUartTxWrite_fine m v s
  | uartCharSent => exact execUartCharSent_fine s
  | uartCharRx c err => exact execUartCharRx_fine c err s
  | uartRxPop m => exact execUartRxPop_fine m s
  | tapIdcode => exact execTapIdcode_fine s
  | tapStatus => exact execTapStatus_fine s
  | tapBrynbox j write v => exact execTapBrynbox_fine j write v s
  | tapMemap a write v => exact execTapMemap_fine a write v s
  | tapExtest balls cells => exact execTapExtest_fine balls cells s
  | tapSamplePreload balls cells => exact execTapSamplePreload_fine balls cells s
  | tapHighz => exact execTapHighz_fine s
  | tapClamp => exact execTapClamp_fine s
  | tapBypass => exact execTapBypass_fine s
  | fatalGraceEnd => exact execFatalGraceEnd_fine s
  | diagSnapTrigger m => exact execDiagSnapTrigger_fine m s
  | diagSnapRelease m => exact execDiagSnapRelease_fine m s
  | snapHoldExpire => exact execSnapHoldExpire_fine s
  | diagLogClr m v => exact execDiagLogClr_fine m v s
  | powerOnReset pwrLow monitors => exact execPowerOnReset_fine pwrLow monitors s
  | supplyMonitorRelease n => exact execSupplyMonitorRelease_fine n s
  | resetBall => exact execResetBall_fine s
  | resetInputsHigh => exact execResetInputsHigh_fine s
  | swResetWarm m key => exact execSwResetWarm_fine m key s
  | swResetCold m key => exact execSwResetCold_fine m key s
  | warmResetAssert => exact execWarmResetAssert_fine s
  | internalResetRelease boot ep width otpFault => exact execInternalResetRelease_fine boot ep width otpFault s
  | thermalTrip => exact execThermalTrip_fine s
  | thermalRecover => exact execThermalRecover_fine s
  | debugResetRequest => exact execDebugResetRequest_fine s
  | pcieFundamentalReset => exact execPcieFundamentalReset_fine s
  | prepStart m v => exact execPrepStart_fine m v s
  | preparationDone u => exact execPreparationDone_fine u s
  | preparationTimeout u => exact execPreparationTimeout_fine u s
  | referenceAbsentAtReset => exact execReferenceAbsentAtReset_fine s
  | referenceAppear => exact execReferenceAppear_fine s
  | pcieTrainingStart => exact execPcieTrainingStart_fine s
  | bootImageVerified image => exact execBootImageVerified_fine image s
  | brynRecovGo m v => exact execBrynRecovGo_fine m v s
  | uartImageArrived image => exact execUartImageArrived_fine image s
  | quickCalDone temp => exact execQuickCalDone_fine temp s
  | wdogKick m v => exact execWdogKick_fine m v s
  | wdogHalfTimeout => exact execWdogHalfTimeout_fine s
  | wdogExpire => exact execWdogExpire_fine s
  | shutdownStart m v => exact execShutdownStart_fine m v s
  | shutdownPhaseEnd => exact execShutdownPhaseEnd_fine s
  | shutdownGraceEnd => exact execShutdownGraceEnd_fine s
  | shutdownCoreTimeout => exact execShutdownCoreTimeout_fine s
  | coreHalt n => exact execCoreHalt_fine n s

end Sys2Proof.Machine
end

