-- ==== Sys2Proof/Laws/Regs.lean ====
section
/-! SUPPORT. The register store: what a write of one field does to a read of any. -/

namespace Sys2Proof.Machine

open Sys2Proof

theorem regLook_regDel_self (k : Key) (r : RegStore) : regLook k (regDel k r) = none := by
  induction r with
  | nil => rfl
  | cons e r ih =>
    by_cases h : e.1 = k
    · simpa [regDel, h] using ih
    · simp only [regDel, List.filter_cons, ne_eq, h, not_false_eq_true, decide_true, if_true, regLook,
        if_false]
      simpa [regDel] using ih

theorem regLook_regDel_ne {k j : Key} (h : k ≠ j) (r : RegStore) : regLook j (regDel k r) = regLook j r := by
  induction r with
  | nil => rfl
  | cons e r ih =>
    by_cases he : e.1 = k
    · have : e.1 ≠ j := fun x => h (he ▸ x)
      simpa [regDel, regLook, he, h] using ih
    · simp only [regDel, List.filter_cons, ne_eq, he, not_false_eq_true, decide_true, if_true, regLook]
      split
      · rfl
      · simpa [regDel] using ih

theorem regLook_regIns_self (k : Key) (v : Nat) (r : RegStore) (h : regLook k r = none) :
    regLook k (regIns (k, v) r) = some v := by
  induction r with
  | nil => simp [regIns, regLook]
  | cons e r ih =>
    simp only [regIns]
    split
    · simp [regLook]
    · by_cases he : e.1 = k
      · simp [regLook, he] at h
      · simp only [regLook, he, if_false] at h ⊢
        exact ih h

theorem regLook_regIns_ne {k j : Key} (h : k ≠ j) (v : Nat) (r : RegStore) :
    regLook j (regIns (k, v) r) = regLook j r := by
  induction r with
  | nil => simp [regIns, regLook, h]
  | cons e r ih =>
    simp only [regIns]
    split
    · simp [regLook, h]
    · simp only [regLook]
      split
      · rfl
      · exact ih

/-- A field that is written reads back, and is listed only where it differs from its reset value. -/
theorem regLook_regPut_self (k : Key) (v z : Nat) (r : RegStore) :
    regLook k (regPut k v z r) = if v = z then none else some v := by
  simp only [regPut]
  split
  · exact regLook_regDel_self k r
  · exact regLook_regIns_self k v _ (regLook_regDel_self k r)

/-- A write of one field leaves every other. -/
theorem regLook_regPut_ne {k j : Key} (h : k ≠ j) (v z : Nat) (r : RegStore) :
    regLook j (regPut k v z r) = regLook j r := by
  simp only [regPut]
  split
  · exact regLook_regDel_ne h r
  · rw [regLook_regIns_ne h, regLook_regDel_ne h]

/-- The field that was written holds the value, kept to its width. -/
theorem Dev.rd_put_self (d : Dev) (F : Fld) (v n i : Nat) : (d.put F v n i).rd F n i = v % 2 ^ F.width := by
  simp only [Dev.rd, Dev.put, regLook_regPut_self]
  split
  · next h => simp [h]
  · rfl

/-- Any other field holds what it held. -/
theorem Dev.rd_put_ne (d : Dev) (F G : Fld) (v n i m j : Nat) (h : F.key n i ≠ G.key m j) :
    (d.put F v n i).rd G m j = d.rd G m j := by
  simp only [Dev.rd, Dev.put, regLook_regPut_ne h]

/-- The store after a write of one field, at any other home. -/
theorem Dev.look_put_ne (d : Dev) (F : Fld) (v n i : Nat) (k : Key) (h : F.key n i ≠ k) :
    regLook k (d.put F v n i).regs = regLook k d.regs := regLook_regPut_ne h _ _ _

end Sys2Proof.Machine
end

