-- ==== Sys2Proof/Laws/State.lean ====
section
/-! SUPPORT. Updates of the device: a register write changes the register store and nothing else. -/

namespace Sys2Proof.Machine

open Sys2Proof

@[simp] theorem Dev.put_variant (d : Dev) (F : Fld) (v n i : Nat) : (d.put F v n i).variant = d.variant := rfl
@[simp] theorem Dev.put_sh (d : Dev) (F : Fld) (v n i : Nat) : (d.put F v n i).sh = d.sh := rfl
@[simp] theorem Dev.put_rst (d : Dev) (F : Fld) (v n i : Nat) : (d.put F v n i).rst = d.rst := rfl
@[simp] theorem Dev.put_tb (d : Dev) (F : Fld) (v n i : Nat) : (d.put F v n i).tb = d.tb := rfl
@[simp] theorem Dev.put_time (d : Dev) (F : Fld) (v n i : Nat) : (d.put F v n i).time = d.time := rfl
@[simp] theorem Dev.put_rtc (d : Dev) (F : Fld) (v n i : Nat) : (d.put F v n i).rtc = d.rtc := rfl
@[simp] theorem Dev.put_ser (d : Dev) (F : Fld) (v n i : Nat) : (d.put F v n i).ser = d.ser := rfl
@[simp] theorem Dev.put_q (d : Dev) (F : Fld) (v n i : Nat) : (d.put F v n i).q = d.q := rfl
@[simp] theorem Dev.put_way (d : Dev) (F : Fld) (v n i : Nat) : (d.put F v n i).way = d.way := rfl
@[simp] theorem Dev.put_radios (d : Dev) (F : Fld) (v n i : Nat) : (d.put F v n i).radios = d.radios := rfl
@[simp] theorem Dev.put_mld (d : Dev) (F : Fld) (v n i : Nat) : (d.put F v n i).mld = d.mld := rfl
@[simp] theorem Dev.put_strc (d : Dev) (F : Fld) (v n i : Nat) : (d.put F v n i).strc = d.strc := rfl
@[simp] theorem Dev.put_air (d : Dev) (F : Fld) (v n i : Nat) : (d.put F v n i).air = d.air := rfl
@[simp] theorem Dev.put_sta (d : Dev) (F : Fld) (v n i : Nat) : (d.put F v n i).sta = d.sta := rfl
@[simp] theorem Dev.put_outr (d : Dev) (F : Fld) (v n i : Nat) : (d.put F v n i).outr = d.outr := rfl
@[simp] theorem Dev.put_tm (d : Dev) (F : Fld) (v n i : Nat) : (d.put F v n i).tm = d.tm := rfl
@[simp] theorem Dev.put_ciph (d : Dev) (F : Fld) (v n i : Nat) : (d.put F v n i).ciph = d.ciph := rfl
@[simp] theorem Dev.put_bryn (d : Dev) (F : Fld) (v n i : Nat) : (d.put F v n i).bryn = d.bryn := rfl
@[simp] theorem Dev.put_drv (d : Dev) (F : Fld) (v n i : Nat) : (d.put F v n i).drv = d.drv := rfl
@[simp] theorem Dev.put_pcie (d : Dev) (F : Fld) (v n i : Nat) : (d.put F v n i).pcie = d.pcie := rfl
@[simp] theorem Dev.put_lanes (d : Dev) (F : Fld) (v n i : Nat) : (d.put F v n i).lanes = d.lanes := rfl
@[simp] theorem Dev.put_eth (d : Dev) (F : Fld) (v n i : Nat) : (d.put F v n i).eth = d.eth := rfl
@[simp] theorem Dev.put_dram (d : Dev) (F : Fld) (v n i : Nat) : (d.put F v n i).dram = d.dram := rfl
@[simp] theorem Dev.put_cvy (d : Dev) (F : Fld) (v n i : Nat) : (d.put F v n i).cvy = d.cvy := rfl
@[simp] theorem Dev.put_edge (d : Dev) (F : Fld) (v n i : Nat) : (d.put F v n i).edge = d.edge := rfl
@[simp] theorem Dev.put_out (d : Dev) (F : Fld) (v n i : Nat) : (d.put F v n i).out = d.out := rfl
@[simp] theorem Dev.put_drawn (d : Dev) (F : Fld) (v n i : Nat) : (d.put F v n i).drawn = d.drawn := rfl

@[simp] theorem Dev.set1_variant (d : Dev) (F : Fld) (n i : Nat) : (d.set1 F n i).variant = d.variant := rfl
@[simp] theorem Dev.set1_sh (d : Dev) (F : Fld) (n i : Nat) : (d.set1 F n i).sh = d.sh := rfl
@[simp] theorem Dev.set1_rst (d : Dev) (F : Fld) (n i : Nat) : (d.set1 F n i).rst = d.rst := rfl
@[simp] theorem Dev.set1_tb (d : Dev) (F : Fld) (n i : Nat) : (d.set1 F n i).tb = d.tb := rfl
@[simp] theorem Dev.set1_time (d : Dev) (F : Fld) (n i : Nat) : (d.set1 F n i).time = d.time := rfl
@[simp] theorem Dev.set1_rtc (d : Dev) (F : Fld) (n i : Nat) : (d.set1 F n i).rtc = d.rtc := rfl
@[simp] theorem Dev.set1_ser (d : Dev) (F : Fld) (n i : Nat) : (d.set1 F n i).ser = d.ser := rfl
@[simp] theorem Dev.set1_q (d : Dev) (F : Fld) (n i : Nat) : (d.set1 F n i).q = d.q := rfl
@[simp] theorem Dev.set1_way (d : Dev) (F : Fld) (n i : Nat) : (d.set1 F n i).way = d.way := rfl
@[simp] theorem Dev.set1_radios (d : Dev) (F : Fld) (n i : Nat) : (d.set1 F n i).radios = d.radios := rfl
@[simp] theorem Dev.set1_mld (d : Dev) (F : Fld) (n i : Nat) : (d.set1 F n i).mld = d.mld := rfl
@[simp] theorem Dev.set1_strc (d : Dev) (F : Fld) (n i : Nat) : (d.set1 F n i).strc = d.strc := rfl
@[simp] theorem Dev.set1_air (d : Dev) (F : Fld) (n i : Nat) : (d.set1 F n i).air = d.air := rfl
@[simp] theorem Dev.set1_sta (d : Dev) (F : Fld) (n i : Nat) : (d.set1 F n i).sta = d.sta := rfl
@[simp] theorem Dev.set1_outr (d : Dev) (F : Fld) (n i : Nat) : (d.set1 F n i).outr = d.outr := rfl
@[simp] theorem Dev.set1_tm (d : Dev) (F : Fld) (n i : Nat) : (d.set1 F n i).tm = d.tm := rfl
@[simp] theorem Dev.set1_ciph (d : Dev) (F : Fld) (n i : Nat) : (d.set1 F n i).ciph = d.ciph := rfl
@[simp] theorem Dev.set1_bryn (d : Dev) (F : Fld) (n i : Nat) : (d.set1 F n i).bryn = d.bryn := rfl
@[simp] theorem Dev.set1_drv (d : Dev) (F : Fld) (n i : Nat) : (d.set1 F n i).drv = d.drv := rfl
@[simp] theorem Dev.set1_pcie (d : Dev) (F : Fld) (n i : Nat) : (d.set1 F n i).pcie = d.pcie := rfl
@[simp] theorem Dev.set1_lanes (d : Dev) (F : Fld) (n i : Nat) : (d.set1 F n i).lanes = d.lanes := rfl
@[simp] theorem Dev.set1_eth (d : Dev) (F : Fld) (n i : Nat) : (d.set1 F n i).eth = d.eth := rfl
@[simp] theorem Dev.set1_dram (d : Dev) (F : Fld) (n i : Nat) : (d.set1 F n i).dram = d.dram := rfl
@[simp] theorem Dev.set1_cvy (d : Dev) (F : Fld) (n i : Nat) : (d.set1 F n i).cvy = d.cvy := rfl
@[simp] theorem Dev.set1_edge (d : Dev) (F : Fld) (n i : Nat) : (d.set1 F n i).edge = d.edge := rfl
@[simp] theorem Dev.set1_out (d : Dev) (F : Fld) (n i : Nat) : (d.set1 F n i).out = d.out := rfl
@[simp] theorem Dev.set1_drawn (d : Dev) (F : Fld) (n i : Nat) : (d.set1 F n i).drawn = d.drawn := rfl

@[simp] theorem Dev.clr_variant (d : Dev) (F : Fld) (n i : Nat) : (d.clr F n i).variant = d.variant := rfl
@[simp] theorem Dev.clr_sh (d : Dev) (F : Fld) (n i : Nat) : (d.clr F n i).sh = d.sh := rfl
@[simp] theorem Dev.clr_rst (d : Dev) (F : Fld) (n i : Nat) : (d.clr F n i).rst = d.rst := rfl
@[simp] theorem Dev.clr_tb (d : Dev) (F : Fld) (n i : Nat) : (d.clr F n i).tb = d.tb := rfl
@[simp] theorem Dev.clr_time (d : Dev) (F : Fld) (n i : Nat) : (d.clr F n i).time = d.time := rfl
@[simp] theorem Dev.clr_rtc (d : Dev) (F : Fld) (n i : Nat) : (d.clr F n i).rtc = d.rtc := rfl
@[simp] theorem Dev.clr_ser (d : Dev) (F : Fld) (n i : Nat) : (d.clr F n i).ser = d.ser := rfl
@[simp] theorem Dev.clr_q (d : Dev) (F : Fld) (n i : Nat) : (d.clr F n i).q = d.q := rfl
@[simp] theorem Dev.clr_way (d : Dev) (F : Fld) (n i : Nat) : (d.clr F n i).way = d.way := rfl
@[simp] theorem Dev.clr_radios (d : Dev) (F : Fld) (n i : Nat) : (d.clr F n i).radios = d.radios := rfl
@[simp] theorem Dev.clr_mld (d : Dev) (F : Fld) (n i : Nat) : (d.clr F n i).mld = d.mld := rfl
@[simp] theorem Dev.clr_strc (d : Dev) (F : Fld) (n i : Nat) : (d.clr F n i).strc = d.strc := rfl
@[simp] theorem Dev.clr_air (d : Dev) (F : Fld) (n i : Nat) : (d.clr F n i).air = d.air := rfl
@[simp] theorem Dev.clr_sta (d : Dev) (F : Fld) (n i : Nat) : (d.clr F n i).sta = d.sta := rfl
@[simp] theorem Dev.clr_outr (d : Dev) (F : Fld) (n i : Nat) : (d.clr F n i).outr = d.outr := rfl
@[simp] theorem Dev.clr_tm (d : Dev) (F : Fld) (n i : Nat) : (d.clr F n i).tm = d.tm := rfl
@[simp] theorem Dev.clr_ciph (d : Dev) (F : Fld) (n i : Nat) : (d.clr F n i).ciph = d.ciph := rfl
@[simp] theorem Dev.clr_bryn (d : Dev) (F : Fld) (n i : Nat) : (d.clr F n i).bryn = d.bryn := rfl
@[simp] theorem Dev.clr_drv (d : Dev) (F : Fld) (n i : Nat) : (d.clr F n i).drv = d.drv := rfl
@[simp] theorem Dev.clr_pcie (d : Dev) (F : Fld) (n i : Nat) : (d.clr F n i).pcie = d.pcie := rfl
@[simp] theorem Dev.clr_lanes (d : Dev) (F : Fld) (n i : Nat) : (d.clr F n i).lanes = d.lanes := rfl
@[simp] theorem Dev.clr_eth (d : Dev) (F : Fld) (n i : Nat) : (d.clr F n i).eth = d.eth := rfl
@[simp] theorem Dev.clr_dram (d : Dev) (F : Fld) (n i : Nat) : (d.clr F n i).dram = d.dram := rfl
@[simp] theorem Dev.clr_cvy (d : Dev) (F : Fld) (n i : Nat) : (d.clr F n i).cvy = d.cvy := rfl
@[simp] theorem Dev.clr_edge (d : Dev) (F : Fld) (n i : Nat) : (d.clr F n i).edge = d.edge := rfl
@[simp] theorem Dev.clr_out (d : Dev) (F : Fld) (n i : Nat) : (d.clr F n i).out = d.out := rfl
@[simp] theorem Dev.clr_drawn (d : Dev) (F : Fld) (n i : Nat) : (d.clr F n i).drawn = d.drawn := rfl

/-- A device put into a state stands there, and memory and the queue are as they were. -/
@[simp] theorem State.with_dev_dev (s : State) (d : Dev) : ({ s with dev := d } : State).dev = d := rfl
@[simp] theorem State.with_dev_mem (s : State) (d : Dev) : ({ s with dev := d } : State).mem = s.mem := rfl
@[simp] theorem State.with_dev_pending (s : State) (d : Dev) : ({ s with dev := d } : State).pending = s.pending := rfl
@[simp] theorem State.with_mem_dev (s : State) (m : Memory) : ({ s with mem := m } : State).dev = s.dev := rfl
@[simp] theorem State.with_mem_mem (s : State) (m : Memory) : ({ s with mem := m } : State).mem = m := rfl
@[simp] theorem State.with_mem_pending (s : State) (m : Memory) : ({ s with mem := m } : State).pending = s.pending := rfl
@[simp] theorem State.with_pending_dev (s : State) (l : List Instr) : ({ s with pending := l } : State).dev = s.dev := rfl
@[simp] theorem State.with_pending_mem (s : State) (l : List Instr) : ({ s with pending := l } : State).mem = s.mem := rfl
@[simp] theorem State.with_pending_pending (s : State) (l : List Instr) : ({ s with pending := l } : State).pending = l := rfl

end Sys2Proof.Machine
end

