-- ==== Sys2Proof/Laws/Ops.lean ====
section
/-! SUPPORT. What the shared operations leave: raising a cause, capturing and reporting an error, counting, and the writes
that are not taken. -/

namespace Sys2Proof.Machine

open Sys2Proof

/-! ### The units -/

@[simp] theorem units_put (d : Dev) (F : Fld) (v n i : Nat) : (d.put F v n i).units = d.units := rfl
@[simp] theorem units_clr (d : Dev) (F : Fld) (n i : Nat) : (d.clr F n i).units = d.units := rfl
@[simp] theorem units_set1 (d : Dev) (F : Fld) (n i : Nat) : (d.set1 F n i).units = d.units := rfl
@[simp] theorem units_emit (o : Out) (d : Dev) : (emit o d).units = d.units := rfl
@[simp] theorem units_pushPost (p : Post) (d : Dev) : (pushPost p d).units = d.units := rfl

theorem foldl_units {α : Type} (f : Dev → α → Dev) (hf : ∀ d a, (f d a).units = d.units) :
    ∀ (l : List α) (d : Dev), (l.foldl f d).units = d.units
  | [], _ => rfl
  | a :: l, d => (foldl_units f hf l (f d a)).trans (hf d a)

@[simp] theorem units_msixFire (v : Nat) (d : Dev) : (msixFire v d).units = d.units := by
  unfold msixFire; (repeat' split) <;> rfl

@[simp] theorem units_routeEdge (n : Nat) (d : Dev) : (routeEdge n d).units = d.units := by
  unfold routeEdge
  split
  · split <;> rfl
  · exact units_msixFire _ _
  · rfl

@[simp] theorem units_routeRises (p : Nat) (d e : Dev) : (routeRises p d e).units = e.units := by
  unfold routeRises
  refine foldl_units _ (fun x l => ?_) _ _
  split
  · exact units_routeEdge _ _
  · rfl

@[simp] theorem units_withLines (p : Nat) (f : Dev → Dev) (d : Dev) : (withLines p f d).units = (f d).units :=
  units_routeRises _ _ _

@[simp] theorem units_raise (p m : Nat) (d : Dev) : (raise p m d).units = d.units := by simp [raise]
@[simp] theorem units_raiseBit (p b : Nat) (d : Dev) : (raiseBit p b d).units = d.units := by simp [raiseBit]
@[simp] theorem units_lowerBit (p b : Nat) (d : Dev) : (lowerBit p b d).units = d.units := rfl
@[simp] theorem units_satPut (F : Fld) (n i a : Nat) (d : Dev) : (satPut F n i a d).units = d.units := rfl

@[simp] theorem units_bump (F : Fld) (n i a : Nat) (d : Dev) : (bump F n i a d).units = d.units := by
  unfold bump; split <;> rfl

@[simp] theorem units_count (F : Fld) (n i : Nat) (d : Dev) : (count F n i d).units = d.units := units_bump _ _ _ _ _

@[simp] theorem units_captureNow (e : ErrRec) (d : Dev) : (captureNow e d).units = d.units := by
  unfold captureNow; split <;> simp

@[simp] theorem units_capture (e : ErrRec) (d : Dev) : (capture e d).units = d.units := by
  unfold capture
  split
  · rfl
  · exact units_captureNow e d

@[simp] theorem units_diagLog (e : ErrRec) (d : Dev) : (diagLog e d).units = d.units := by
  unfold diagLog; dsimp only; split <;> simp

@[simp] theorem units_snapStart (d : Dev) : (snapStart d).units = d.units := by
  unfold snapStart; split <;> simp

@[simp] theorem units_fatalReport (d : Dev) : (fatalReport d).units = d.units := by
  unfold fatalReport; split <;> simp <;> rfl

@[simp] theorem units_diagReport (e : ErrRec) (d : Dev) : (diagReport e d).units = d.units := by
  unfold diagReport; dsimp only; (repeat' split) <;> simp

@[simp] theorem units_report (e : ErrRec) (d : Dev) : (report e d).units = d.units := by simp [report]
@[simp] theorem units_refuseWrite (p c m a : Nat) (d : Dev) : (refuseWrite p c m a d).units = d.units := by
  simp [refuseWrite]
@[simp] theorem units_fault0 (p c s i : Nat) (d : Dev) : (fault0 p c s i d).units = d.units := by simp [fault0]
@[simp] theorem units_absentWrite (m p : Nat) (d : Dev) : (absentWrite m p d).units = d.units := rfl
@[simp] theorem units_customsRefuse (t : CustomsTarget) (m : Nat) (k : AccKind) (a : Nat) (d : Dev) :
    (customsRefuse t m k a d).units = d.units := by simp [customsRefuse]
@[simp] theorem units_writeLost (p o m : Nat) (d : Dev) : (writeLost p o m d).units = d.units := by
  unfold writeLost; (repeat' split) <;> simp
@[simp] theorem units_answer (v : Nat) (d : Dev) : (answer v d).units = d.units := rfl
@[simp] theorem units_readLost (p o m : Nat) (d : Dev) : (readLost p o m d).units = d.units := by
  have h : ∀ (e : Dev) (x : Shared), ({ e with sh := x } : Dev).units = e.units := fun _ _ => rfl
  unfold readLost
  exact (h _ _).trans (units_customsRefuse _ _ _ _ _)

/-! ### One unit at a time -/

@[simp] theorem raise_variant (p m : Nat) (d : Dev) : (raise p m d).variant = d.variant := (congrArg Dev.variant (units_raise p m d) :)
@[simp] theorem raise_rst (p m : Nat) (d : Dev) : (raise p m d).rst = d.rst := (congrArg Dev.rst (units_raise p m d) :)
@[simp] theorem raise_tb (p m : Nat) (d : Dev) : (raise p m d).tb = d.tb := (congrArg Dev.tb (units_raise p m d) :)
@[simp] theorem raise_time (p m : Nat) (d : Dev) : (raise p m d).time = d.time := (congrArg Dev.time (units_raise p m d) :)
@[simp] theorem raise_rtc (p m : Nat) (d : Dev) : (raise p m d).rtc = d.rtc := (congrArg Dev.rtc (units_raise p m d) :)
@[simp] theorem raise_ser (p m : Nat) (d : Dev) : (raise p m d).ser = d.ser := (congrArg Dev.ser (units_raise p m d) :)
@[simp] theorem raise_q (p m : Nat) (d : Dev) : (raise p m d).q = d.q := (congrArg Dev.q (units_raise p m d) :)
@[simp] theorem raise_way (p m : Nat) (d : Dev) : (raise p m d).way = d.way := (congrArg Dev.way (units_raise p m d) :)
@[simp] theorem raise_radios (p m : Nat) (d : Dev) : (raise p m d).radios = d.radios := (congrArg Dev.radios (units_raise p m d) :)
@[simp] theorem raise_mld (p m : Nat) (d : Dev) : (raise p m d).mld = d.mld := (congrArg Dev.mld (units_raise p m d) :)
@[simp] theorem raise_strc (p m : Nat) (d : Dev) : (raise p m d).strc = d.strc := (congrArg Dev.strc (units_raise p m d) :)
@[simp] theorem raise_air (p m : Nat) (d : Dev) : (raise p m d).air = d.air := (congrArg Dev.air (units_raise p m d) :)
@[simp] theorem raise_sta (p m : Nat) (d : Dev) : (raise p m d).sta = d.sta := (congrArg Dev.sta (units_raise p m d) :)
@[simp] theorem raise_outr (p m : Nat) (d : Dev) : (raise p m d).outr = d.outr := (congrArg Dev.outr (units_raise p m d) :)
@[simp] theorem raise_tm (p m : Nat) (d : Dev) : (raise p m d).tm = d.tm := (congrArg Dev.tm (units_raise p m d) :)
@[simp] theorem raise_ciph (p m : Nat) (d : Dev) : (raise p m d).ciph = d.ciph := (congrArg Dev.ciph (units_raise p m d) :)
@[simp] theorem raise_bryn (p m : Nat) (d : Dev) : (raise p m d).bryn = d.bryn := (congrArg Dev.bryn (units_raise p m d) :)
@[simp] theorem raise_drv (p m : Nat) (d : Dev) : (raise p m d).drv = d.drv := (congrArg Dev.drv (units_raise p m d) :)
@[simp] theorem raise_pcie (p m : Nat) (d : Dev) : (raise p m d).pcie = d.pcie := (congrArg Dev.pcie (units_raise p m d) :)
@[simp] theorem raise_lanes (p m : Nat) (d : Dev) : (raise p m d).lanes = d.lanes := (congrArg Dev.lanes (units_raise p m d) :)
@[simp] theorem raise_eth (p m : Nat) (d : Dev) : (raise p m d).eth = d.eth := (congrArg Dev.eth (units_raise p m d) :)
@[simp] theorem raise_dram (p m : Nat) (d : Dev) : (raise p m d).dram = d.dram := (congrArg Dev.dram (units_raise p m d) :)
@[simp] theorem raise_cvy (p m : Nat) (d : Dev) : (raise p m d).cvy = d.cvy := (congrArg Dev.cvy (units_raise p m d) :)
@[simp] theorem raise_edge (p m : Nat) (d : Dev) : (raise p m d).edge = d.edge := (congrArg Dev.edge (units_raise p m d) :)

@[simp] theorem raiseBit_variant (p b : Nat) (d : Dev) : (raiseBit p b d).variant = d.variant := (congrArg Dev.variant (units_raiseBit p b d) :)
@[simp] theorem raiseBit_rst (p b : Nat) (d : Dev) : (raiseBit p b d).rst = d.rst := (congrArg Dev.rst (units_raiseBit p b d) :)
@[simp] theorem raiseBit_tb (p b : Nat) (d : Dev) : (raiseBit p b d).tb = d.tb := (congrArg Dev.tb (units_raiseBit p b d) :)
@[simp] theorem raiseBit_time (p b : Nat) (d : Dev) : (raiseBit p b d).time = d.time := (congrArg Dev.time (units_raiseBit p b d) :)
@[simp] theorem raiseBit_rtc (p b : Nat) (d : Dev) : (raiseBit p b d).rtc = d.rtc := (congrArg Dev.rtc (units_raiseBit p b d) :)
@[simp] theorem raiseBit_ser (p b : Nat) (d : Dev) : (raiseBit p b d).ser = d.ser := (congrArg Dev.ser (units_raiseBit p b d) :)
@[simp] theorem raiseBit_q (p b : Nat) (d : Dev) : (raiseBit p b d).q = d.q := (congrArg Dev.q (units_raiseBit p b d) :)
@[simp] theorem raiseBit_way (p b : Nat) (d : Dev) : (raiseBit p b d).way = d.way := (congrArg Dev.way (units_raiseBit p b d) :)
@[simp] theorem raiseBit_radios (p b : Nat) (d : Dev) : (raiseBit p b d).radios = d.radios := (congrArg Dev.radios (units_raiseBit p b d) :)
@[simp] theorem raiseBit_mld (p b : Nat) (d : Dev) : (raiseBit p b d).mld = d.mld := (congrArg Dev.mld (units_raiseBit p b d) :)
@[simp] theorem raiseBit_strc (p b : Nat) (d : Dev) : (raiseBit p b d).strc = d.strc := (congrArg Dev.strc (units_raiseBit p b d) :)
@[simp] theorem raiseBit_air (p b : Nat) (d : Dev) : (raiseBit p b d).air = d.air := (congrArg Dev.air (units_raiseBit p b d) :)
@[simp] theorem raiseBit_sta (p b : Nat) (d : Dev) : (raiseBit p b d).sta = d.sta := (congrArg Dev.sta (units_raiseBit p b d) :)
@[simp] theorem raiseBit_outr (p b : Nat) (d : Dev) : (raiseBit p b d).outr = d.outr := (congrArg Dev.outr (units_raiseBit p b d) :)
@[simp] theorem raiseBit_tm (p b : Nat) (d : Dev) : (raiseBit p b d).tm = d.tm := (congrArg Dev.tm (units_raiseBit p b d) :)
@[simp] theorem raiseBit_ciph (p b : Nat) (d : Dev) : (raiseBit p b d).ciph = d.ciph := (congrArg Dev.ciph (units_raiseBit p b d) :)
@[simp] theorem raiseBit_bryn (p b : Nat) (d : Dev) : (raiseBit p b d).bryn = d.bryn := (congrArg Dev.bryn (units_raiseBit p b d) :)
@[simp] theorem raiseBit_drv (p b : Nat) (d : Dev) : (raiseBit p b d).drv = d.drv := (congrArg Dev.drv (units_raiseBit p b d) :)
@[simp] theorem raiseBit_pcie (p b : Nat) (d : Dev) : (raiseBit p b d).pcie = d.pcie := (congrArg Dev.pcie (units_raiseBit p b d) :)
@[simp] theorem raiseBit_lanes (p b : Nat) (d : Dev) : (raiseBit p b d).lanes = d.lanes := (congrArg Dev.lanes (units_raiseBit p b d) :)
@[simp] theorem raiseBit_eth (p b : Nat) (d : Dev) : (raiseBit p b d).eth = d.eth := (congrArg Dev.eth (units_raiseBit p b d) :)
@[simp] theorem raiseBit_dram (p b : Nat) (d : Dev) : (raiseBit p b d).dram = d.dram := (congrArg Dev.dram (units_raiseBit p b d) :)
@[simp] theorem raiseBit_cvy (p b : Nat) (d : Dev) : (raiseBit p b d).cvy = d.cvy := (congrArg Dev.cvy (units_raiseBit p b d) :)
@[simp] theorem raiseBit_edge (p b : Nat) (d : Dev) : (raiseBit p b d).edge = d.edge := (congrArg Dev.edge (units_raiseBit p b d) :)

@[simp] theorem lowerBit_variant (p b : Nat) (d : Dev) : (lowerBit p b d).variant = d.variant := (congrArg Dev.variant (units_lowerBit p b d) :)
@[simp] theorem lowerBit_rst (p b : Nat) (d : Dev) : (lowerBit p b d).rst = d.rst := (congrArg Dev.rst (units_lowerBit p b d) :)
@[simp] theorem lowerBit_tb (p b : Nat) (d : Dev) : (lowerBit p b d).tb = d.tb := (congrArg Dev.tb (units_lowerBit p b d) :)
@[simp] theorem lowerBit_time (p b : Nat) (d : Dev) : (lowerBit p b d).time = d.time := (congrArg Dev.time (units_lowerBit p b d) :)
@[simp] theorem lowerBit_rtc (p b : Nat) (d : Dev) : (lowerBit p b d).rtc = d.rtc := (congrArg Dev.rtc (units_lowerBit p b d) :)
@[simp] theorem lowerBit_ser (p b : Nat) (d : Dev) : (lowerBit p b d).ser = d.ser := (congrArg Dev.ser (units_lowerBit p b d) :)
@[simp] theorem lowerBit_q (p b : Nat) (d : Dev) : (lowerBit p b d).q = d.q := (congrArg Dev.q (units_lowerBit p b d) :)
@[simp] theorem lowerBit_way (p b : Nat) (d : Dev) : (lowerBit p b d).way = d.way := (congrArg Dev.way (units_lowerBit p b d) :)
@[simp] theorem lowerBit_radios (p b : Nat) (d : Dev) : (lowerBit p b d).radios = d.radios := (congrArg Dev.radios (units_lowerBit p b d) :)
@[simp] theorem lowerBit_mld (p b : Nat) (d : Dev) : (lowerBit p b d).mld = d.mld := (congrArg Dev.mld (units_lowerBit p b d) :)
@[simp] theorem lowerBit_strc (p b : Nat) (d : Dev) : (lowerBit p b d).strc = d.strc := (congrArg Dev.strc (units_lowerBit p b d) :)
@[simp] theorem lowerBit_air (p b : Nat) (d : Dev) : (lowerBit p b d).air = d.air := (congrArg Dev.air (units_lowerBit p b d) :)
@[simp] theorem lowerBit_sta (p b : Nat) (d : Dev) : (lowerBit p b d).sta = d.sta := (congrArg Dev.sta (units_lowerBit p b d) :)
@[simp] theorem lowerBit_outr (p b : Nat) (d : Dev) : (lowerBit p b d).outr = d.outr := (congrArg Dev.outr (units_lowerBit p b d) :)
@[simp] theorem lowerBit_tm (p b : Nat) (d : Dev) : (lowerBit p b d).tm = d.tm := (congrArg Dev.tm (units_lowerBit p b d) :)
@[simp] theorem lowerBit_ciph (p b : Nat) (d : Dev) : (lowerBit p b d).ciph = d.ciph := (congrArg Dev.ciph (units_lowerBit p b d) :)
@[simp] theorem lowerBit_bryn (p b : Nat) (d : Dev) : (lowerBit p b d).bryn = d.bryn := (congrArg Dev.bryn (units_lowerBit p b d) :)
@[simp] theorem lowerBit_drv (p b : Nat) (d : Dev) : (lowerBit p b d).drv = d.drv := (congrArg Dev.drv (units_lowerBit p b d) :)
@[simp] theorem lowerBit_pcie (p b : Nat) (d : Dev) : (lowerBit p b d).pcie = d.pcie := (congrArg Dev.pcie (units_lowerBit p b d) :)
@[simp] theorem lowerBit_lanes (p b : Nat) (d : Dev) : (lowerBit p b d).lanes = d.lanes := (congrArg Dev.lanes (units_lowerBit p b d) :)
@[simp] theorem lowerBit_eth (p b : Nat) (d : Dev) : (lowerBit p b d).eth = d.eth := (congrArg Dev.eth (units_lowerBit p b d) :)
@[simp] theorem lowerBit_dram (p b : Nat) (d : Dev) : (lowerBit p b d).dram = d.dram := (congrArg Dev.dram (units_lowerBit p b d) :)
@[simp] theorem lowerBit_cvy (p b : Nat) (d : Dev) : (lowerBit p b d).cvy = d.cvy := (congrArg Dev.cvy (units_lowerBit p b d) :)
@[simp] theorem lowerBit_edge (p b : Nat) (d : Dev) : (lowerBit p b d).edge = d.edge := (congrArg Dev.edge (units_lowerBit p b d) :)

@[simp] theorem satPut_variant (F : Fld) (n i a : Nat) (d : Dev) : (satPut F n i a d).variant = d.variant := (congrArg Dev.variant (units_satPut F n i a d) :)
@[simp] theorem satPut_rst (F : Fld) (n i a : Nat) (d : Dev) : (satPut F n i a d).rst = d.rst := (congrArg Dev.rst (units_satPut F n i a d) :)
@[simp] theorem satPut_tb (F : Fld) (n i a : Nat) (d : Dev) : (satPut F n i a d).tb = d.tb := (congrArg Dev.tb (units_satPut F n i a d) :)
@[simp] theorem satPut_time (F : Fld) (n i a : Nat) (d : Dev) : (satPut F n i a d).time = d.time := (congrArg Dev.time (units_satPut F n i a d) :)
@[simp] theorem satPut_rtc (F : Fld) (n i a : Nat) (d : Dev) : (satPut F n i a d).rtc = d.rtc := (congrArg Dev.rtc (units_satPut F n i a d) :)
@[simp] theorem satPut_ser (F : Fld) (n i a : Nat) (d : Dev) : (satPut F n i a d).ser = d.ser := (congrArg Dev.ser (units_satPut F n i a d) :)
@[simp] theorem satPut_q (F : Fld) (n i a : Nat) (d : Dev) : (satPut F n i a d).q = d.q := (congrArg Dev.q (units_satPut F n i a d) :)
@[simp] theorem satPut_way (F : Fld) (n i a : Nat) (d : Dev) : (satPut F n i a d).way = d.way := (congrArg Dev.way (units_satPut F n i a d) :)
@[simp] theorem satPut_radios (F : Fld) (n i a : Nat) (d : Dev) : (satPut F n i a d).radios = d.radios := (congrArg Dev.radios (units_satPut F n i a d) :)
@[simp] theorem satPut_mld (F : Fld) (n i a : Nat) (d : Dev) : (satPut F n i a d).mld = d.mld := (congrArg Dev.mld (units_satPut F n i a d) :)
@[simp] theorem satPut_strc (F : Fld) (n i a : Nat) (d : Dev) : (satPut F n i a d).strc = d.strc := (congrArg Dev.strc (units_satPut F n i a d) :)
@[simp] theorem satPut_air (F : Fld) (n i a : Nat) (d : Dev) : (satPut F n i a d).air = d.air := (congrArg Dev.air (units_satPut F n i a d) :)
@[simp] theorem satPut_sta (F : Fld) (n i a : Nat) (d : Dev) : (satPut F n i a d).sta = d.sta := (congrArg Dev.sta (units_satPut F n i a d) :)
@[simp] theorem satPut_outr (F : Fld) (n i a : Nat) (d : Dev) : (satPut F n i a d).outr = d.outr := (congrArg Dev.outr (units_satPut F n i a d) :)
@[simp] theorem satPut_tm (F : Fld) (n i a : Nat) (d : Dev) : (satPut F n i a d).tm = d.tm := (congrArg Dev.tm (units_satPut F n i a d) :)
@[simp] theorem satPut_ciph (F : Fld) (n i a : Nat) (d : Dev) : (satPut F n i a d).ciph = d.ciph := (congrArg Dev.ciph (units_satPut F n i a d) :)
@[simp] theorem satPut_bryn (F : Fld) (n i a : Nat) (d : Dev) : (satPut F n i a d).bryn = d.bryn := (congrArg Dev.bryn (units_satPut F n i a d) :)
@[simp] theorem satPut_drv (F : Fld) (n i a : Nat) (d : Dev) : (satPut F n i a d).drv = d.drv := (congrArg Dev.drv (units_satPut F n i a d) :)
@[simp] theorem satPut_pcie (F : Fld) (n i a : Nat) (d : Dev) : (satPut F n i a d).pcie = d.pcie := (congrArg Dev.pcie (units_satPut F n i a d) :)
@[simp] theorem satPut_lanes (F : Fld) (n i a : Nat) (d : Dev) : (satPut F n i a d).lanes = d.lanes := (congrArg Dev.lanes (units_satPut F n i a d) :)
@[simp] theorem satPut_eth (F : Fld) (n i a : Nat) (d : Dev) : (satPut F n i a d).eth = d.eth := (congrArg Dev.eth (units_satPut F n i a d) :)
@[simp] theorem satPut_dram (F : Fld) (n i a : Nat) (d : Dev) : (satPut F n i a d).dram = d.dram := (congrArg Dev.dram (units_satPut F n i a d) :)
@[simp] theorem satPut_cvy (F : Fld) (n i a : Nat) (d : Dev) : (satPut F n i a d).cvy = d.cvy := (congrArg Dev.cvy (units_satPut F n i a d) :)
@[simp] theorem satPut_edge (F : Fld) (n i a : Nat) (d : Dev) : (satPut F n i a d).edge = d.edge := (congrArg Dev.edge (units_satPut F n i a d) :)

@[simp] theorem count_variant (F : Fld) (n i : Nat) (d : Dev) : (count F n i d).variant = d.variant := (congrArg Dev.variant (units_count F n i d) :)
@[simp] theorem count_rst (F : Fld) (n i : Nat) (d : Dev) : (count F n i d).rst = d.rst := (congrArg Dev.rst (units_count F n i d) :)
@[simp] theorem count_tb (F : Fld) (n i : Nat) (d : Dev) : (count F n i d).tb = d.tb := (congrArg Dev.tb (units_count F n i d) :)
@[simp] theorem count_time (F : Fld) (n i : Nat) (d : Dev) : (count F n i d).time = d.time := (congrArg Dev.time (units_count F n i d) :)
@[simp] theorem count_rtc (F : Fld) (n i : Nat) (d : Dev) : (count F n i d).rtc = d.rtc := (congrArg Dev.rtc (units_count F n i d) :)
@[simp] theorem count_ser (F : Fld) (n i : Nat) (d : Dev) : (count F n i d).ser = d.ser := (congrArg Dev.ser (units_count F n i d) :)
@[simp] theorem count_q (F : Fld) (n i : Nat) (d : Dev) : (count F n i d).q = d.q := (congrArg Dev.q (units_count F n i d) :)
@[simp] theorem count_way (F : Fld) (n i : Nat) (d : Dev) : (count F n i d).way = d.way := (congrArg Dev.way (units_count F n i d) :)
@[simp] theorem count_radios (F : Fld) (n i : Nat) (d : Dev) : (count F n i d).radios = d.radios := (congrArg Dev.radios (units_count F n i d) :)
@[simp] theorem count_mld (F : Fld) (n i : Nat) (d : Dev) : (count F n i d).mld = d.mld := (congrArg Dev.mld (units_count F n i d) :)
@[simp] theorem count_strc (F : Fld) (n i : Nat) (d : Dev) : (count F n i d).strc = d.strc := (congrArg Dev.strc (units_count F n i d) :)
@[simp] theorem count_air (F : Fld) (n i : Nat) (d : Dev) : (count F n i d).air = d.air := (congrArg Dev.air (units_count F n i d) :)
@[simp] theorem count_sta (F : Fld) (n i : Nat) (d : Dev) : (count F n i d).sta = d.sta := (congrArg Dev.sta (units_count F n i d) :)
@[simp] theorem count_outr (F : Fld) (n i : Nat) (d : Dev) : (count F n i d).outr = d.outr := (congrArg Dev.outr (units_count F n i d) :)
@[simp] theorem count_tm (F : Fld) (n i : Nat) (d : Dev) : (count F n i d).tm = d.tm := (congrArg Dev.tm (units_count F n i d) :)
@[simp] theorem count_ciph (F : Fld) (n i : Nat) (d : Dev) : (count F n i d).ciph = d.ciph := (congrArg Dev.ciph (units_count F n i d) :)
@[simp] theorem count_bryn (F : Fld) (n i : Nat) (d : Dev) : (count F n i d).bryn = d.bryn := (congrArg Dev.bryn (units_count F n i d) :)
@[simp] theorem count_drv (F : Fld) (n i : Nat) (d : Dev) : (count F n i d).drv = d.drv := (congrArg Dev.drv (units_count F n i d) :)
@[simp] theorem count_pcie (F : Fld) (n i : Nat) (d : Dev) : (count F n i d).pcie = d.pcie := (congrArg Dev.pcie (units_count F n i d) :)
@[simp] theorem count_lanes (F : Fld) (n i : Nat) (d : Dev) : (count F n i d).lanes = d.lanes := (congrArg Dev.lanes (units_count F n i d) :)
@[simp] theorem count_eth (F : Fld) (n i : Nat) (d : Dev) : (count F n i d).eth = d.eth := (congrArg Dev.eth (units_count F n i d) :)
@[simp] theorem count_dram (F : Fld) (n i : Nat) (d : Dev) : (count F n i d).dram = d.dram := (congrArg Dev.dram (units_count F n i d) :)
@[simp] theorem count_cvy (F : Fld) (n i : Nat) (d : Dev) : (count F n i d).cvy = d.cvy := (congrArg Dev.cvy (units_count F n i d) :)
@[simp] theorem count_edge (F : Fld) (n i : Nat) (d : Dev) : (count F n i d).edge = d.edge := (congrArg Dev.edge (units_count F n i d) :)

@[simp] theorem report_variant (e : ErrRec) (d : Dev) : (report e d).variant = d.variant := (congrArg Dev.variant (units_report e d) :)
@[simp] theorem report_rst (e : ErrRec) (d : Dev) : (report e d).rst = d.rst := (congrArg Dev.rst (units_report e d) :)
@[simp] theorem report_tb (e : ErrRec) (d : Dev) : (report e d).tb = d.tb := (congrArg Dev.tb (units_report e d) :)
@[simp] theorem report_time (e : ErrRec) (d : Dev) : (report e d).time = d.time := (congrArg Dev.time (units_report e d) :)
@[simp] theorem report_rtc (e : ErrRec) (d : Dev) : (report e d).rtc = d.rtc := (congrArg Dev.rtc (units_report e d) :)
@[simp] theorem report_ser (e : ErrRec) (d : Dev) : (report e d).ser = d.ser := (congrArg Dev.ser (units_report e d) :)
@[simp] theorem report_q (e : ErrRec) (d : Dev) : (report e d).q = d.q := (congrArg Dev.q (units_report e d) :)
@[simp] theorem report_way (e : ErrRec) (d : Dev) : (report e d).way = d.way := (congrArg Dev.way (units_report e d) :)
@[simp] theorem report_radios (e : ErrRec) (d : Dev) : (report e d).radios = d.radios := (congrArg Dev.radios (units_report e d) :)
@[simp] theorem report_mld (e : ErrRec) (d : Dev) : (report e d).mld = d.mld := (congrArg Dev.mld (units_report e d) :)
@[simp] theorem report_strc (e : ErrRec) (d : Dev) : (report e d).strc = d.strc := (congrArg Dev.strc (units_report e d) :)
@[simp] theorem report_air (e : ErrRec) (d : Dev) : (report e d).air = d.air := (congrArg Dev.air (units_report e d) :)
@[simp] theorem report_sta (e : ErrRec) (d : Dev) : (report e d).sta = d.sta := (congrArg Dev.sta (units_report e d) :)
@[simp] theorem report_outr (e : ErrRec) (d : Dev) : (report e d).outr = d.outr := (congrArg Dev.outr (units_report e d) :)
@[simp] theorem report_tm (e : ErrRec) (d : Dev) : (report e d).tm = d.tm := (congrArg Dev.tm (units_report e d) :)
@[simp] theorem report_ciph (e : ErrRec) (d : Dev) : (report e d).ciph = d.ciph := (congrArg Dev.ciph (units_report e d) :)
@[simp] theorem report_bryn (e : ErrRec) (d : Dev) : (report e d).bryn = d.bryn := (congrArg Dev.bryn (units_report e d) :)
@[simp] theorem report_drv (e : ErrRec) (d : Dev) : (report e d).drv = d.drv := (congrArg Dev.drv (units_report e d) :)
@[simp] theorem report_pcie (e : ErrRec) (d : Dev) : (report e d).pcie = d.pcie := (congrArg Dev.pcie (units_report e d) :)
@[simp] theorem report_lanes (e : ErrRec) (d : Dev) : (report e d).lanes = d.lanes := (congrArg Dev.lanes (units_report e d) :)
@[simp] theorem report_eth (e : ErrRec) (d : Dev) : (report e d).eth = d.eth := (congrArg Dev.eth (units_report e d) :)
@[simp] theorem report_dram (e : ErrRec) (d : Dev) : (report e d).dram = d.dram := (congrArg Dev.dram (units_report e d) :)
@[simp] theorem report_cvy (e : ErrRec) (d : Dev) : (report e d).cvy = d.cvy := (congrArg Dev.cvy (units_report e d) :)
@[simp] theorem report_edge (e : ErrRec) (d : Dev) : (report e d).edge = d.edge := (congrArg Dev.edge (units_report e d) :)

@[simp] theorem refuseWrite_variant (p c m a : Nat) (d : Dev) : (refuseWrite p c m a d).variant = d.variant := (congrArg Dev.variant (units_refuseWrite p c m a d) :)
@[simp] theorem refuseWrite_rst (p c m a : Nat) (d : Dev) : (refuseWrite p c m a d).rst = d.rst := (congrArg Dev.rst (units_refuseWrite p c m a d) :)
@[simp] theorem refuseWrite_tb (p c m a : Nat) (d : Dev) : (refuseWrite p c m a d).tb = d.tb := (congrArg Dev.tb (units_refuseWrite p c m a d) :)
@[simp] theorem refuseWrite_time (p c m a : Nat) (d : Dev) : (refuseWrite p c m a d).time = d.time := (congrArg Dev.time (units_refuseWrite p c m a d) :)
@[simp] theorem refuseWrite_rtc (p c m a : Nat) (d : Dev) : (refuseWrite p c m a d).rtc = d.rtc := (congrArg Dev.rtc (units_refuseWrite p c m a d) :)
@[simp] theorem refuseWrite_ser (p c m a : Nat) (d : Dev) : (refuseWrite p c m a d).ser = d.ser := (congrArg Dev.ser (units_refuseWrite p c m a d) :)
@[simp] theorem refuseWrite_q (p c m a : Nat) (d : Dev) : (refuseWrite p c m a d).q = d.q := (congrArg Dev.q (units_refuseWrite p c m a d) :)
@[simp] theorem refuseWrite_way (p c m a : Nat) (d : Dev) : (refuseWrite p c m a d).way = d.way := (congrArg Dev.way (units_refuseWrite p c m a d) :)
@[simp] theorem refuseWrite_radios (p c m a : Nat) (d : Dev) : (refuseWrite p c m a d).radios = d.radios := (congrArg Dev.radios (units_refuseWrite p c m a d) :)
@[simp] theorem refuseWrite_mld (p c m a : Nat) (d : Dev) : (refuseWrite p c m a d).mld = d.mld := (congrArg Dev.mld (units_refuseWrite p c m a d) :)
@[simp] theorem refuseWrite_strc (p c m a : Nat) (d : Dev) : (refuseWrite p c m a d).strc = d.strc := (congrArg Dev.strc (units_refuseWrite p c m a d) :)
@[simp] theorem refuseWrite_air (p c m a : Nat) (d : Dev) : (refuseWrite p c m a d).air = d.air := (congrArg Dev.air (units_refuseWrite p c m a d) :)
@[simp] theorem refuseWrite_sta (p c m a : Nat) (d : Dev) : (refuseWrite p c m a d).sta = d.sta := (congrArg Dev.sta (units_refuseWrite p c m a d) :)
@[simp] theorem refuseWrite_outr (p c m a : Nat) (d : Dev) : (refuseWrite p c m a d).outr = d.outr := (congrArg Dev.outr (units_refuseWrite p c m a d) :)
@[simp] theorem refuseWrite_tm (p c m a : Nat) (d : Dev) : (refuseWrite p c m a d).tm = d.tm := (congrArg Dev.tm (units_refuseWrite p c m a d) :)
@[simp] theorem refuseWrite_ciph (p c m a : Nat) (d : Dev) : (refuseWrite p c m a d).ciph = d.ciph := (congrArg Dev.ciph (units_refuseWrite p c m a d) :)
@[simp] theorem refuseWrite_bryn (p c m a : Nat) (d : Dev) : (refuseWrite p c m a d).bryn = d.bryn := (congrArg Dev.bryn (units_refuseWrite p c m a d) :)
@[simp] theorem refuseWrite_drv (p c m a : Nat) (d : Dev) : (refuseWrite p c m a d).drv = d.drv := (congrArg Dev.drv (units_refuseWrite p c m a d) :)
@[simp] theorem refuseWrite_pcie (p c m a : Nat) (d : Dev) : (refuseWrite p c m a d).pcie = d.pcie := (congrArg Dev.pcie (units_refuseWrite p c m a d) :)
@[simp] theorem refuseWrite_lanes (p c m a : Nat) (d : Dev) : (refuseWrite p c m a d).lanes = d.lanes := (congrArg Dev.lanes (units_refuseWrite p c m a d) :)
@[simp] theorem refuseWrite_eth (p c m a : Nat) (d : Dev) : (refuseWrite p c m a d).eth = d.eth := (congrArg Dev.eth (units_refuseWrite p c m a d) :)
@[simp] theorem refuseWrite_dram (p c m a : Nat) (d : Dev) : (refuseWrite p c m a d).dram = d.dram := (congrArg Dev.dram (units_refuseWrite p c m a d) :)
@[simp] theorem refuseWrite_cvy (p c m a : Nat) (d : Dev) : (refuseWrite p c m a d).cvy = d.cvy := (congrArg Dev.cvy (units_refuseWrite p c m a d) :)
@[simp] theorem refuseWrite_edge (p c m a : Nat) (d : Dev) : (refuseWrite p c m a d).edge = d.edge := (congrArg Dev.edge (units_refuseWrite p c m a d) :)

@[simp] theorem fault0_variant (p c s i : Nat) (d : Dev) : (fault0 p c s i d).variant = d.variant := (congrArg Dev.variant (units_fault0 p c s i d) :)
@[simp] theorem fault0_rst (p c s i : Nat) (d : Dev) : (fault0 p c s i d).rst = d.rst := (congrArg Dev.rst (units_fault0 p c s i d) :)
@[simp] theorem fault0_tb (p c s i : Nat) (d : Dev) : (fault0 p c s i d).tb = d.tb := (congrArg Dev.tb (units_fault0 p c s i d) :)
@[simp] theorem fault0_time (p c s i : Nat) (d : Dev) : (fault0 p c s i d).time = d.time := (congrArg Dev.time (units_fault0 p c s i d) :)
@[simp] theorem fault0_rtc (p c s i : Nat) (d : Dev) : (fault0 p c s i d).rtc = d.rtc := (congrArg Dev.rtc (units_fault0 p c s i d) :)
@[simp] theorem fault0_ser (p c s i : Nat) (d : Dev) : (fault0 p c s i d).ser = d.ser := (congrArg Dev.ser (units_fault0 p c s i d) :)
@[simp] theorem fault0_q (p c s i : Nat) (d : Dev) : (fault0 p c s i d).q = d.q := (congrArg Dev.q (units_fault0 p c s i d) :)
@[simp] theorem fault0_way (p c s i : Nat) (d : Dev) : (fault0 p c s i d).way = d.way := (congrArg Dev.way (units_fault0 p c s i d) :)
@[simp] theorem fault0_radios (p c s i : Nat) (d : Dev) : (fault0 p c s i d).radios = d.radios := (congrArg Dev.radios (units_fault0 p c s i d) :)
@[simp] theorem fault0_mld (p c s i : Nat) (d : Dev) : (fault0 p c s i d).mld = d.mld := (congrArg Dev.mld (units_fault0 p c s i d) :)
@[simp] theorem fault0_strc (p c s i : Nat) (d : Dev) : (fault0 p c s i d).strc = d.strc := (congrArg Dev.strc (units_fault0 p c s i d) :)
@[simp] theorem fault0_air (p c s i : Nat) (d : Dev) : (fault0 p c s i d).air = d.air := (congrArg Dev.air (units_fault0 p c s i d) :)
@[simp] theorem fault0_sta (p c s i : Nat) (d : Dev) : (fault0 p c s i d).sta = d.sta := (congrArg Dev.sta (units_fault0 p c s i d) :)
@[simp] theorem fault0_outr (p c s i : Nat) (d : Dev) : (fault0 p c s i d).outr = d.outr := (congrArg Dev.outr (units_fault0 p c s i d) :)
@[simp] theorem fault0_tm (p c s i : Nat) (d : Dev) : (fault0 p c s i d).tm = d.tm := (congrArg Dev.tm (units_fault0 p c s i d) :)
@[simp] theorem fault0_ciph (p c s i : Nat) (d : Dev) : (fault0 p c s i d).ciph = d.ciph := (congrArg Dev.ciph (units_fault0 p c s i d) :)
@[simp] theorem fault0_bryn (p c s i : Nat) (d : Dev) : (fault0 p c s i d).bryn = d.bryn := (congrArg Dev.bryn (units_fault0 p c s i d) :)
@[simp] theorem fault0_drv (p c s i : Nat) (d : Dev) : (fault0 p c s i d).drv = d.drv := (congrArg Dev.drv (units_fault0 p c s i d) :)
@[simp] theorem fault0_pcie (p c s i : Nat) (d : Dev) : (fault0 p c s i d).pcie = d.pcie := (congrArg Dev.pcie (units_fault0 p c s i d) :)
@[simp] theorem fault0_lanes (p c s i : Nat) (d : Dev) : (fault0 p c s i d).lanes = d.lanes := (congrArg Dev.lanes (units_fault0 p c s i d) :)
@[simp] theorem fault0_eth (p c s i : Nat) (d : Dev) : (fault0 p c s i d).eth = d.eth := (congrArg Dev.eth (units_fault0 p c s i d) :)
@[simp] theorem fault0_dram (p c s i : Nat) (d : Dev) : (fault0 p c s i d).dram = d.dram := (congrArg Dev.dram (units_fault0 p c s i d) :)
@[simp] theorem fault0_cvy (p c s i : Nat) (d : Dev) : (fault0 p c s i d).cvy = d.cvy := (congrArg Dev.cvy (units_fault0 p c s i d) :)
@[simp] theorem fault0_edge (p c s i : Nat) (d : Dev) : (fault0 p c s i d).edge = d.edge := (congrArg Dev.edge (units_fault0 p c s i d) :)

@[simp] theorem customsRefuse_variant (t : CustomsTarget) (m : Nat) (k : AccKind) (a : Nat) (d : Dev) : (customsRefuse t m k a d).variant = d.variant := (congrArg Dev.variant (units_customsRefuse t m k a d) :)
@[simp] theorem customsRefuse_rst (t : CustomsTarget) (m : Nat) (k : AccKind) (a : Nat) (d : Dev) : (customsRefuse t m k a d).rst = d.rst := (congrArg Dev.rst (units_customsRefuse t m k a d) :)
@[simp] theorem customsRefuse_tb (t : CustomsTarget) (m : Nat) (k : AccKind) (a : Nat) (d : Dev) : (customsRefuse t m k a d).tb = d.tb := (congrArg Dev.tb (units_customsRefuse t m k a d) :)
@[simp] theorem customsRefuse_time (t : CustomsTarget) (m : Nat) (k : AccKind) (a : Nat) (d : Dev) : (customsRefuse t m k a d).time = d.time := (congrArg Dev.time (units_customsRefuse t m k a d) :)
@[simp] theorem customsRefuse_rtc (t : CustomsTarget) (m : Nat) (k : AccKind) (a : Nat) (d : Dev) : (customsRefuse t m k a d).rtc = d.rtc := (congrArg Dev.rtc (units_customsRefuse t m k a d) :)
@[simp] theorem customsRefuse_ser (t : CustomsTarget) (m : Nat) (k : AccKind) (a : Nat) (d : Dev) : (customsRefuse t m k a d).ser = d.ser := (congrArg Dev.ser (units_customsRefuse t m k a d) :)
@[simp] theorem customsRefuse_q (t : CustomsTarget) (m : Nat) (k : AccKind) (a : Nat) (d : Dev) : (customsRefuse t m k a d).q = d.q := (congrArg Dev.q (units_customsRefuse t m k a d) :)
@[simp] theorem customsRefuse_way (t : CustomsTarget) (m : Nat) (k : AccKind) (a : Nat) (d : Dev) : (customsRefuse t m k a d).way = d.way := (congrArg Dev.way (units_customsRefuse t m k a d) :)
@[simp] theorem customsRefuse_radios (t : CustomsTarget) (m : Nat) (k : AccKind) (a : Nat) (d : Dev) : (customsRefuse t m k a d).radios = d.radios := (congrArg Dev.radios (units_customsRefuse t m k a d) :)
@[simp] theorem customsRefuse_mld (t : CustomsTarget) (m : Nat) (k : AccKind) (a : Nat) (d : Dev) : (customsRefuse t m k a d).mld = d.mld := (congrArg Dev.mld (units_customsRefuse t m k a d) :)
@[simp] theorem customsRefuse_strc (t : CustomsTarget) (m : Nat) (k : AccKind) (a : Nat) (d : Dev) : (customsRefuse t m k a d).strc = d.strc := (congrArg Dev.strc (units_customsRefuse t m k a d) :)
@[simp] theorem customsRefuse_air (t : CustomsTarget) (m : Nat) (k : AccKind) (a : Nat) (d : Dev) : (customsRefuse t m k a d).air = d.air := (congrArg Dev.air (units_customsRefuse t m k a d) :)
@[simp] theorem customsRefuse_sta (t : CustomsTarget) (m : Nat) (k : AccKind) (a : Nat) (d : Dev) : (customsRefuse t m k a d).sta = d.sta := (congrArg Dev.sta (units_customsRefuse t m k a d) :)
@[simp] theorem customsRefuse_outr (t : CustomsTarget) (m : Nat) (k : AccKind) (a : Nat) (d : Dev) : (customsRefuse t m k a d).outr = d.outr := (congrArg Dev.outr (units_customsRefuse t m k a d) :)
@[simp] theorem customsRefuse_tm (t : CustomsTarget) (m : Nat) (k : AccKind) (a : Nat) (d : Dev) : (customsRefuse t m k a d).tm = d.tm := (congrArg Dev.tm (units_customsRefuse t m k a d) :)
@[simp] theorem customsRefuse_ciph (t : CustomsTarget) (m : Nat) (k : AccKind) (a : Nat) (d : Dev) : (customsRefuse t m k a d).ciph = d.ciph := (congrArg Dev.ciph (units_customsRefuse t m k a d) :)
@[simp] theorem customsRefuse_bryn (t : CustomsTarget) (m : Nat) (k : AccKind) (a : Nat) (d : Dev) : (customsRefuse t m k a d).bryn = d.bryn := (congrArg Dev.bryn (units_customsRefuse t m k a d) :)
@[simp] theorem customsRefuse_drv (t : CustomsTarget) (m : Nat) (k : AccKind) (a : Nat) (d : Dev) : (customsRefuse t m k a d).drv = d.drv := (congrArg Dev.drv (units_customsRefuse t m k a d) :)
@[simp] theorem customsRefuse_pcie (t : CustomsTarget) (m : Nat) (k : AccKind) (a : Nat) (d : Dev) : (customsRefuse t m k a d).pcie = d.pcie := (congrArg Dev.pcie (units_customsRefuse t m k a d) :)
@[simp] theorem customsRefuse_lanes (t : CustomsTarget) (m : Nat) (k : AccKind) (a : Nat) (d : Dev) : (customsRefuse t m k a d).lanes = d.lanes := (congrArg Dev.lanes (units_customsRefuse t m k a d) :)
@[simp] theorem customsRefuse_eth (t : CustomsTarget) (m : Nat) (k : AccKind) (a : Nat) (d : Dev) : (customsRefuse t m k a d).eth = d.eth := (congrArg Dev.eth (units_customsRefuse t m k a d) :)
@[simp] theorem customsRefuse_dram (t : CustomsTarget) (m : Nat) (k : AccKind) (a : Nat) (d : Dev) : (customsRefuse t m k a d).dram = d.dram := (congrArg Dev.dram (units_customsRefuse t m k a d) :)
@[simp] theorem customsRefuse_cvy (t : CustomsTarget) (m : Nat) (k : AccKind) (a : Nat) (d : Dev) : (customsRefuse t m k a d).cvy = d.cvy := (congrArg Dev.cvy (units_customsRefuse t m k a d) :)
@[simp] theorem customsRefuse_edge (t : CustomsTarget) (m : Nat) (k : AccKind) (a : Nat) (d : Dev) : (customsRefuse t m k a d).edge = d.edge := (congrArg Dev.edge (units_customsRefuse t m k a d) :)

@[simp] theorem writeLost_variant (p o m : Nat) (d : Dev) : (writeLost p o m d).variant = d.variant := (congrArg Dev.variant (units_writeLost p o m d) :)
@[simp] theorem writeLost_rst (p o m : Nat) (d : Dev) : (writeLost p o m d).rst = d.rst := (congrArg Dev.rst (units_writeLost p o m d) :)
@[simp] theorem writeLost_tb (p o m : Nat) (d : Dev) : (writeLost p o m d).tb = d.tb := (congrArg Dev.tb (units_writeLost p o m d) :)
@[simp] theorem writeLost_time (p o m : Nat) (d : Dev) : (writeLost p o m d).time = d.time := (congrArg Dev.time (units_writeLost p o m d) :)
@[simp] theorem writeLost_rtc (p o m : Nat) (d : Dev) : (writeLost p o m d).rtc = d.rtc := (congrArg Dev.rtc (units_writeLost p o m d) :)
@[simp] theorem writeLost_ser (p o m : Nat) (d : Dev) : (writeLost p o m d).ser = d.ser := (congrArg Dev.ser (units_writeLost p o m d) :)
@[simp] theorem writeLost_q (p o m : Nat) (d : Dev) : (writeLost p o m d).q = d.q := (congrArg Dev.q (units_writeLost p o m d) :)
@[simp] theorem writeLost_way (p o m : Nat) (d : Dev) : (writeLost p o m d).way = d.way := (congrArg Dev.way (units_writeLost p o m d) :)
@[simp] theorem writeLost_radios (p o m : Nat) (d : Dev) : (writeLost p o m d).radios = d.radios := (congrArg Dev.radios (units_writeLost p o m d) :)
@[simp] theorem writeLost_mld (p o m : Nat) (d : Dev) : (writeLost p o m d).mld = d.mld := (congrArg Dev.mld (units_writeLost p o m d) :)
@[simp] theorem writeLost_strc (p o m : Nat) (d : Dev) : (writeLost p o m d).strc = d.strc := (congrArg Dev.strc (units_writeLost p o m d) :)
@[simp] theorem writeLost_air (p o m : Nat) (d : Dev) : (writeLost p o m d).air = d.air := (congrArg Dev.air (units_writeLost p o m d) :)
@[simp] theorem writeLost_sta (p o m : Nat) (d : Dev) : (writeLost p o m d).sta = d.sta := (congrArg Dev.sta (units_writeLost p o m d) :)
@[simp] theorem writeLost_outr (p o m : Nat) (d : Dev) : (writeLost p o m d).outr = d.outr := (congrArg Dev.outr (units_writeLost p o m d) :)
@[simp] theorem writeLost_tm (p o m : Nat) (d : Dev) : (writeLost p o m d).tm = d.tm := (congrArg Dev.tm (units_writeLost p o m d) :)
@[simp] theorem writeLost_ciph (p o m : Nat) (d : Dev) : (writeLost p o m d).ciph = d.ciph := (congrArg Dev.ciph (units_writeLost p o m d) :)
@[simp] theorem writeLost_bryn (p o m : Nat) (d : Dev) : (writeLost p o m d).bryn = d.bryn := (congrArg Dev.bryn (units_writeLost p o m d) :)
@[simp] theorem writeLost_drv (p o m : Nat) (d : Dev) : (writeLost p o m d).drv = d.drv := (congrArg Dev.drv (units_writeLost p o m d) :)
@[simp] theorem writeLost_pcie (p o m : Nat) (d : Dev) : (writeLost p o m d).pcie = d.pcie := (congrArg Dev.pcie (units_writeLost p o m d) :)
@[simp] theorem writeLost_lanes (p o m : Nat) (d : Dev) : (writeLost p o m d).lanes = d.lanes := (congrArg Dev.lanes (units_writeLost p o m d) :)
@[simp] theorem writeLost_eth (p o m : Nat) (d : Dev) : (writeLost p o m d).eth = d.eth := (congrArg Dev.eth (units_writeLost p o m d) :)
@[simp] theorem writeLost_dram (p o m : Nat) (d : Dev) : (writeLost p o m d).dram = d.dram := (congrArg Dev.dram (units_writeLost p o m d) :)
@[simp] theorem writeLost_cvy (p o m : Nat) (d : Dev) : (writeLost p o m d).cvy = d.cvy := (congrArg Dev.cvy (units_writeLost p o m d) :)
@[simp] theorem writeLost_edge (p o m : Nat) (d : Dev) : (writeLost p o m d).edge = d.edge := (congrArg Dev.edge (units_writeLost p o m d) :)

@[simp] theorem answer_variant (v : Nat) (d : Dev) : (answer v d).variant = d.variant := (congrArg Dev.variant (units_answer v d) :)
@[simp] theorem answer_rst (v : Nat) (d : Dev) : (answer v d).rst = d.rst := (congrArg Dev.rst (units_answer v d) :)
@[simp] theorem answer_tb (v : Nat) (d : Dev) : (answer v d).tb = d.tb := (congrArg Dev.tb (units_answer v d) :)
@[simp] theorem answer_time (v : Nat) (d : Dev) : (answer v d).time = d.time := (congrArg Dev.time (units_answer v d) :)
@[simp] theorem answer_rtc (v : Nat) (d : Dev) : (answer v d).rtc = d.rtc := (congrArg Dev.rtc (units_answer v d) :)
@[simp] theorem answer_ser (v : Nat) (d : Dev) : (answer v d).ser = d.ser := (congrArg Dev.ser (units_answer v d) :)
@[simp] theorem answer_q (v : Nat) (d : Dev) : (answer v d).q = d.q := (congrArg Dev.q (units_answer v d) :)
@[simp] theorem answer_way (v : Nat) (d : Dev) : (answer v d).way = d.way := (congrArg Dev.way (units_answer v d) :)
@[simp] theorem answer_radios (v : Nat) (d : Dev) : (answer v d).radios = d.radios := (congrArg Dev.radios (units_answer v d) :)
@[simp] theorem answer_mld (v : Nat) (d : Dev) : (answer v d).mld = d.mld := (congrArg Dev.mld (units_answer v d) :)
@[simp] theorem answer_strc (v : Nat) (d : Dev) : (answer v d).strc = d.strc := (congrArg Dev.strc (units_answer v d) :)
@[simp] theorem answer_air (v : Nat) (d : Dev) : (answer v d).air = d.air := (congrArg Dev.air (units_answer v d) :)
@[simp] theorem answer_sta (v : Nat) (d : Dev) : (answer v d).sta = d.sta := (congrArg Dev.sta (units_answer v d) :)
@[simp] theorem answer_outr (v : Nat) (d : Dev) : (answer v d).outr = d.outr := (congrArg Dev.outr (units_answer v d) :)
@[simp] theorem answer_tm (v : Nat) (d : Dev) : (answer v d).tm = d.tm := (congrArg Dev.tm (units_answer v d) :)
@[simp] theorem answer_ciph (v : Nat) (d : Dev) : (answer v d).ciph = d.ciph := (congrArg Dev.ciph (units_answer v d) :)
@[simp] theorem answer_bryn (v : Nat) (d : Dev) : (answer v d).bryn = d.bryn := (congrArg Dev.bryn (units_answer v d) :)
@[simp] theorem answer_drv (v : Nat) (d : Dev) : (answer v d).drv = d.drv := (congrArg Dev.drv (units_answer v d) :)
@[simp] theorem answer_pcie (v : Nat) (d : Dev) : (answer v d).pcie = d.pcie := (congrArg Dev.pcie (units_answer v d) :)
@[simp] theorem answer_lanes (v : Nat) (d : Dev) : (answer v d).lanes = d.lanes := (congrArg Dev.lanes (units_answer v d) :)
@[simp] theorem answer_eth (v : Nat) (d : Dev) : (answer v d).eth = d.eth := (congrArg Dev.eth (units_answer v d) :)
@[simp] theorem answer_dram (v : Nat) (d : Dev) : (answer v d).dram = d.dram := (congrArg Dev.dram (units_answer v d) :)
@[simp] theorem answer_cvy (v : Nat) (d : Dev) : (answer v d).cvy = d.cvy := (congrArg Dev.cvy (units_answer v d) :)
@[simp] theorem answer_edge (v : Nat) (d : Dev) : (answer v d).edge = d.edge := (congrArg Dev.edge (units_answer v d) :)

@[simp] theorem emit_variant (o : Out) (d : Dev) : (emit o d).variant = d.variant := (congrArg Dev.variant (units_emit o d) :)
@[simp] theorem emit_rst (o : Out) (d : Dev) : (emit o d).rst = d.rst := (congrArg Dev.rst (units_emit o d) :)
@[simp] theorem emit_tb (o : Out) (d : Dev) : (emit o d).tb = d.tb := (congrArg Dev.tb (units_emit o d) :)
@[simp] theorem emit_time (o : Out) (d : Dev) : (emit o d).time = d.time := (congrArg Dev.time (units_emit o d) :)
@[simp] theorem emit_rtc (o : Out) (d : Dev) : (emit o d).rtc = d.rtc := (congrArg Dev.rtc (units_emit o d) :)
@[simp] theorem emit_ser (o : Out) (d : Dev) : (emit o d).ser = d.ser := (congrArg Dev.ser (units_emit o d) :)
@[simp] theorem emit_q (o : Out) (d : Dev) : (emit o d).q = d.q := (congrArg Dev.q (units_emit o d) :)
@[simp] theorem emit_way (o : Out) (d : Dev) : (emit o d).way = d.way := (congrArg Dev.way (units_emit o d) :)
@[simp] theorem emit_radios (o : Out) (d : Dev) : (emit o d).radios = d.radios := (congrArg Dev.radios (units_emit o d) :)
@[simp] theorem emit_mld (o : Out) (d : Dev) : (emit o d).mld = d.mld := (congrArg Dev.mld (units_emit o d) :)
@[simp] theorem emit_strc (o : Out) (d : Dev) : (emit o d).strc = d.strc := (congrArg Dev.strc (units_emit o d) :)
@[simp] theorem emit_air (o : Out) (d : Dev) : (emit o d).air = d.air := (congrArg Dev.air (units_emit o d) :)
@[simp] theorem emit_sta (o : Out) (d : Dev) : (emit o d).sta = d.sta := (congrArg Dev.sta (units_emit o d) :)
@[simp] theorem emit_outr (o : Out) (d : Dev) : (emit o d).outr = d.outr := (congrArg Dev.outr (units_emit o d) :)
@[simp] theorem emit_tm (o : Out) (d : Dev) : (emit o d).tm = d.tm := (congrArg Dev.tm (units_emit o d) :)
@[simp] theorem emit_ciph (o : Out) (d : Dev) : (emit o d).ciph = d.ciph := (congrArg Dev.ciph (units_emit o d) :)
@[simp] theorem emit_bryn (o : Out) (d : Dev) : (emit o d).bryn = d.bryn := (congrArg Dev.bryn (units_emit o d) :)
@[simp] theorem emit_drv (o : Out) (d : Dev) : (emit o d).drv = d.drv := (congrArg Dev.drv (units_emit o d) :)
@[simp] theorem emit_pcie (o : Out) (d : Dev) : (emit o d).pcie = d.pcie := (congrArg Dev.pcie (units_emit o d) :)
@[simp] theorem emit_lanes (o : Out) (d : Dev) : (emit o d).lanes = d.lanes := (congrArg Dev.lanes (units_emit o d) :)
@[simp] theorem emit_eth (o : Out) (d : Dev) : (emit o d).eth = d.eth := (congrArg Dev.eth (units_emit o d) :)
@[simp] theorem emit_dram (o : Out) (d : Dev) : (emit o d).dram = d.dram := (congrArg Dev.dram (units_emit o d) :)
@[simp] theorem emit_cvy (o : Out) (d : Dev) : (emit o d).cvy = d.cvy := (congrArg Dev.cvy (units_emit o d) :)
@[simp] theorem emit_edge (o : Out) (d : Dev) : (emit o d).edge = d.edge := (congrArg Dev.edge (units_emit o d) :)

/-! ### Registers -/

theorem foldl_look {α : Type} (k : Key) (f : Dev → α → Dev) (hf : ∀ d a, regLook k (f d a).regs = regLook k d.regs) :
    ∀ (l : List α) (d : Dev), regLook k (l.foldl f d).regs = regLook k d.regs
  | [], _ => rfl
  | a :: l, d => (foldl_look k f hf l (f d a)).trans (hf d a)

/-- The home of the MSI-X pending bits. -/
def pbaReg : Nat := 0xCEC00

theorem look_msixFire (k : Key) (h : k.reg ≠ pbaReg) (v : Nat) (d : Dev) :
    regLook k (msixFire v d).regs = regLook k d.regs := by
  unfold msixFire
  split
  · rfl
  · split
    · refine Dev.look_put_ne _ _ _ _ _ _ (fun x => h ?_)
      rw [← x]
      rfl
    · rfl

theorem look_routeEdge (k : Key) (h : k.reg ≠ pbaReg) (n : Nat) (d : Dev) :
    regLook k (routeEdge n d).regs = regLook k d.regs := by
  unfold routeEdge
  split
  · split <;> rfl
  · exact look_msixFire k h _ _
  · rfl

/-- Routing edges changes no register but the MSI-X pending bits. -/
theorem look_routeRises (k : Key) (h : k.reg ≠ pbaReg) (p : Nat) (d e : Dev) :
    regLook k (routeRises p d e).regs = regLook k e.regs := by
  unfold routeRises
  refine foldl_look k _ (fun x l => ?_) _ _
  split
  · exact look_routeEdge k h _ _
  · rfl

theorem look_withLines (k : Key) (h : k.reg ≠ pbaReg) (p : Nat) (f : Dev → Dev) (d : Dev) :
    regLook k (withLines p f d).regs = regLook k (f d).regs := look_routeRises k h _ _ _

/-- Raising causes of page `p` changes INT_RAW of that page and the MSI-X pending bits alone. -/
theorem look_raise (k : Key) (h : k.reg ≠ pbaReg) (p : Nat) (hp : k.reg ≠ p * 4096 + 0x14) (m : Nat) (d : Dev) :
    regLook k (raise p m d).regs = regLook k d.regs := by
  unfold raise
  rw [look_withLines k h]
  refine Dev.look_put_ne _ _ _ _ _ _ (fun x => hp ?_)
  rw [← x]
  simp [Fld.key, HDR_INT_RAW_RAW]

/-- INT_RAW after causes are raised. -/
theorem rd_raise (p m : Nat) (d : Dev) :
    (raise p m d).rd HDR_INT_RAW_RAW p = (d.rd HDR_INT_RAW_RAW p ||| m) % 2 ^ 32 := by
  have hk : (HDR_INT_RAW_RAW.key p 0).reg ≠ pbaReg := by
    simp only [Fld.key, HDR_INT_RAW_RAW, pbaReg]
    omega
  have h := Dev.rd_put_self d HDR_INT_RAW_RAW (d.rd HDR_INT_RAW_RAW p ||| m) p 0
  simp only [Dev.rd] at h ⊢
  unfold raise
  rw [look_withLines _ hk]
  exact h

theorem look_raiseBit (k : Key) (h : k.reg ≠ pbaReg) (p : Nat) (hp : k.reg ≠ p * 4096 + 0x14) (b : Nat) (d : Dev) :
    regLook k (raiseBit p b d).regs = regLook k d.regs := look_raise k h p hp _ d

theorem look_lowerBit (k : Key) (p : Nat) (hp : k.reg ≠ p * 4096 + 0x14) (b : Nat) (d : Dev) :
    regLook k (lowerBit p b d).regs = regLook k d.regs := by
  refine Dev.look_put_ne _ _ _ _ _ _ (fun x => hp ?_)
  rw [← x]
  simp [Fld.key, HDR_INT_RAW_RAW]

/-- The page that a key lies on. -/
theorem Fld.key_page (F : Fld) (n i : Nat) (h : F.off < 4096) : (F.key n i).reg / 4096 = F.pageOf n := by
  simp only [Fld.key, Fld.pageOf]
  omega

/-- A write of a field leaves every other page. -/
theorem look_put_page (k : Key) (F : Fld) (v n i : Nat) (d : Dev) (ho : F.off < 4096) (hp : k.reg / 4096 ≠ F.pageOf n) :
    regLook k (d.put F v n i).regs = regLook k d.regs := by
  refine Dev.look_put_ne _ _ _ _ _ _ (fun x => hp ?_)
  rw [← x]
  exact F.key_page n i ho

theorem look_bump_page (k : Key) (F : Fld) (n i a : Nat) (d : Dev) (ho : F.off < 4096) (hp : k.reg / 4096 ≠ F.pageOf n) :
    regLook k (bump F n i a d).regs = regLook k d.regs := by
  unfold bump
  split
  · rfl
  · exact look_put_page k F _ n i d ho hp

theorem look_count_page (k : Key) (F : Fld) (n i : Nat) (d : Dev) (ho : F.off < 4096) (hp : k.reg / 4096 ≠ F.pageOf n) :
    regLook k (count F n i d).regs = regLook k d.regs := look_bump_page k F n i 1 d ho hp

theorem look_raise_page (k : Key) (p m : Nat) (d : Dev) (hp : k.reg / 4096 ≠ p) (hx : k.reg / 4096 ≠ 0xCE) :
    regLook k (raise p m d).regs = regLook k d.regs :=
  look_raise k (fun h => hx (by rw [h]; rfl)) p (fun h => hp (by omega)) m d

theorem look_raiseBit_page (k : Key) (p b : Nat) (d : Dev) (hp : k.reg / 4096 ≠ p) (hx : k.reg / 4096 ≠ 0xCE) :
    regLook k (raiseBit p b d).regs = regLook k d.regs := look_raise_page k p _ d hp hx

theorem look_captureNow_page (k : Key) (e : ErrRec) (d : Dev) (hp : k.reg / 4096 ≠ e.page) (hx : k.reg / 4096 ≠ 0xCE) :
    regLook k (captureNow e d).regs = regLook k d.regs := by
  have h : ∀ (F : Fld), F.off < 4096 → F.page + F.span * e.page = e.page → ∀ (v : Nat) (x : Dev),
      regLook k (x.put F v e.page).regs = regLook k x.regs :=
    fun F ho hf v x => look_put_page k F v _ _ x ho (by rw [Fld.pageOf, hf]; exact hp)
  unfold captureNow
  split
  · exact h _ (by decide) (by simp [HDR_ERR_CODE_MORE]) _ _
  · rw [look_raiseBit_page k _ _ _ hp hx, h, h, h, h, h, h, h] <;>
      first
      | decide
      | simp [HDR_ERR_CODE_VALID, HDR_ERR_CODE_SEVERITY, HDR_ERR_CODE_KIND, HDR_ERR_CODE_MASTER, HDR_ERR_CODE_CODE,
          HDR_ERR_ADDR_LO_ADDR, HDR_ERR_ADDR_HI_ADDR]

/-- A capture changes its own page and the MSI-X pending bits alone. -/
theorem look_capture_page (k : Key) (e : ErrRec) (d : Dev) (hp : k.reg / 4096 ≠ e.page) (hx : k.reg / 4096 ≠ 0xCE) :
    regLook k (capture e d).regs = regLook k d.regs := by
  unfold capture
  split
  · rfl
  · exact look_captureNow_page k e d hp hx

theorem look_diag (k : Key) (hp : k.reg / 4096 ≠ 0xF0) (F : Fld) (v i : Nat) (d : Dev) (ho : F.off < 4096) (hf : F.page = 0xF0) :
    regLook k (d.put F v 0 i).regs = regLook k d.regs :=
  look_put_page k F v 0 i d ho (by simpa [Fld.pageOf, hf] using hp)

theorem look_diagLog_page (k : Key) (e : ErrRec) (d : Dev) (hp : k.reg / 4096 ≠ 0xF0) (hx : k.reg / 4096 ≠ 0xCE) :
    regLook k (diagLog e d).regs = regLook k d.regs := by
  unfold diagLog
  dsimp only
  split
  · repeat rw [look_diag k hp _ _ _ _ (by decide) rfl]
  · rw [look_raiseBit_page k pDiag _ _ hp hx]
    exact look_count_page k _ _ _ _ (by decide) hp

theorem look_snapStart_page (k : Key) (d : Dev) (hp : k.reg / 4096 ≠ 0xF0) (hx : k.reg / 4096 ≠ 0xCE) :
    regLook k (snapStart d).regs = regLook k d.regs := by
  unfold snapStart
  split
  · rw [look_raiseBit_page k pDiag _ _ hp hx]
    repeat rw [look_diag k hp _ _ _ _ (by decide) rfl]
  · rfl

theorem look_fatalReport_page (k : Key) (d : Dev) (hp : k.reg / 4096 ≠ 0xF0) (hx : k.reg / 4096 ≠ 0xCE) :
    regLook k (fatalReport d).regs = regLook k d.regs := by
  unfold fatalReport
  split
  · rw [look_raiseBit_page k pDiag _ _ hp hx]
    exact look_diag k hp _ _ _ _ (by decide) rfl
  · rw [look_raiseBit_page k pDiag _ _ hp hx]
    dsimp only
    exact (look_diag k hp DIAG_STATUS_GRACE _ _ _ (by decide) rfl).trans (look_diag k hp DIAG_STATUS_FATAL _ _ _ (by decide) rfl)

theorem look_diagReport_page (k : Key) (e : ErrRec) (d : Dev) (hp : k.reg / 4096 ≠ 0xF0) (hx : k.reg / 4096 ≠ 0xCE) :
    regLook k (diagReport e d).regs = regLook k d.regs := by
  have hc : ∀ (F : Fld), F.off < 4096 → F.page = 0xF0 → ∀ x : Dev, regLook k (count F 0 0 x).regs = regLook k x.regs :=
    fun F ho hf x => look_count_page k F 0 0 x ho (by simpa [Fld.pageOf, hf] using hp)
  have hl := fun x : Dev => look_diagLog_page k e x hp hx
  have hs := fun x : Dev => look_snapStart_page k x hp hx
  have hf := fun x : Dev => look_fatalReport_page k x hp hx
  have hr := fun (b : Nat) (x : Dev) => look_raiseBit_page k pDiag b x hp hx
  unfold diagReport
  dsimp only
  (repeat' split) <;> (try simp only [hs, hf, hr, hl]) <;> exact hc _ (by decide) rfl _

/-- A report changes the page of the error, DIAG and the MSI-X pending bits alone. -/
theorem look_report_page (k : Key) (e : ErrRec) (d : Dev) (hp : k.reg / 4096 ≠ e.page) (hd : k.reg / 4096 ≠ 0xF0)
    (hx : k.reg / 4096 ≠ 0xCE) : regLook k (report e d).regs = regLook k d.regs :=
  (look_diagReport_page k e _ hd hx).trans (look_capture_page k e d hp hx)

theorem look_fault0_page (k : Key) (p c s i : Nat) (d : Dev) (hp : k.reg / 4096 ≠ p) (hd : k.reg / 4096 ≠ 0xF0)
    (hx : k.reg / 4096 ≠ 0xCE) : regLook k (fault0 p c s i d).regs = regLook k d.regs := look_report_page k _ d hp hd hx

theorem look_refuseWrite_page (k : Key) (p c m a : Nat) (d : Dev) (hp : k.reg / 4096 ≠ p) (hd : k.reg / 4096 ≠ 0xF0)
    (hx : k.reg / 4096 ≠ 0xCE) : regLook k (refuseWrite p c m a d).regs = regLook k d.regs :=
  look_report_page k _ d hp hd hx

/-! ### Commands -/

/-- A write that is taken has its effect. -/
theorem cmdWrite_taken {d : Dev} {m page : Nat} (h : writeTaken d m page = true) (off : Nat) (f : Dev → Dev) :
    cmdWrite page off m f d = f d := by simp [cmdWrite, h]

theorem cmdWriteMem_taken {d : Dev} {m page : Nat} (h : writeTaken d m page = true) (off : Nat)
    (f : Dev → Memory → Dev × Memory) (mem : Memory) : cmdWriteMem page off m f d mem = f d mem := by
  simp [cmdWriteMem, h]

/-- A command carries out its effect unless the device is frozen. -/
theorem upd_live {s : State} (h : frozen s.dev = false) (f : Dev → Dev) : upd s f = .next { s with dev := f s.dev } := by
  simp [upd, h]

theorem updMem_live {s : State} (h : frozen s.dev = false) (f : Dev → Memory → Dev × Memory) :
    updMem s f = .next { s with dev := (f s.dev s.mem).1, mem := (f s.dev s.mem).2 } := by simp [updMem, h]

/-- A frozen device is as it was. -/
theorem upd_frozen {s : State} (h : frozen s.dev = true) (f : Dev → Dev) : upd s f = .next s := by simp [upd, h]

theorem updMem_frozen {s : State} (h : frozen s.dev = true) (f : Dev → Memory → Dev × Memory) : updMem s f = .next s := by
  simp [updMem, h]

end Sys2Proof.Machine
end

