-- ==== Sys2Proof/Laws/PerInstr.lean ====
section
/-! SUPPORT. What holds of every command as syntax: a well-formed command that a master gives names a master that exists
(R33, R34). -/

namespace Sys2Proof.Laws

open Sys2Proof

theorem and_left : ∀ a b : Bool, (a && b) = true → a = true
  | true, _, _ => rfl

theorem and_right : ∀ a b : Bool, (a && b) = true → b = true
  | true, _, h => h

theorem master_lt (m : Nat) (h : masterOk m = true) : m < 22 := of_decide_eq_true h

/-- The master of a well-formed command is one of those that issue accesses. -/
def Syntactic.Statement (i : Instr) : Prop := i.wf = true → ∀ m, i.master? = some m → m < 22

theorem Syntactic.regWrite (m addr v : Nat) : Syntactic.Statement (.regWrite m addr v) :=
  fun h _ e => Option.some.inj e ▸ master_lt _ (and_left _ _ (and_left _ _ h))
theorem Syntactic.absentPageWrite (m page : Nat) : Syntactic.Statement (.absentPageWrite m page) :=
  fun h _ e => Option.some.inj e ▸ master_lt _ (and_left _ _ h)
theorem Syntactic.absentClr (m v : Nat) : Syntactic.Statement (.absentClr m v) :=
  fun h _ e => Option.some.inj e ▸ master_lt _ (and_left _ _ h)
theorem Syntactic.ctrlEnSet (m page : Nat) : Syntactic.Statement (.ctrlEnSet m page) :=
  fun h _ e => Option.some.inj e ▸ master_lt _ (and_left _ _ h)
theorem Syntactic.ctrlEnClear (m page : Nat) : Syntactic.Statement (.ctrlEnClear m page) :=
  fun h _ e => Option.some.inj e ▸ master_lt _ (and_left _ _ h)
theorem Syntactic.ctrlSoftRst (m page : Nat) : Syntactic.Statement (.ctrlSoftRst m page) :=
  fun h _ e => Option.some.inj e ▸ master_lt _ (and_left _ _ h)
theorem Syntactic.softResetComplete (page : Nat) : Syntactic.Statement (.softResetComplete page) :=
  fun _ _ h => nomatch h
theorem Syntactic.ctrlFreezeWrite (m page v : Nat) : Syntactic.Statement (.ctrlFreezeWrite m page v) :=
  fun h _ e => Option.some.inj e ▸ master_lt _ (and_left _ _ (and_left _ _ h))
theorem Syntactic.startUpDone (page : Nat) : Syntactic.Statement (.startUpDone page) := fun _ _ h => nomatch h
theorem Syntactic.drainEnd (page : Nat) : Syntactic.Statement (.drainEnd page) := fun _ _ h => nomatch h
theorem Syntactic.intTestWrite (m page v : Nat) : Syntactic.Statement (.intTestWrite m page v) :=
  fun h _ e => Option.some.inj e ▸ master_lt _ (and_left _ _ (and_left _ _ h))
theorem Syntactic.errCodeClear (m page : Nat) : Syntactic.Statement (.errCodeClear m page) :=
  fun h _ e => Option.some.inj e ▸ master_lt _ (and_left _ _ h)
theorem Syntactic.lockSetCfg (m page : Nat) : Syntactic.Statement (.lockSetCfg m page) :=
  fun h _ e => Option.some.inj e ▸ master_lt _ (and_left _ _ h)
theorem Syntactic.lockSetCtrl (m page : Nat) : Syntactic.Statement (.lockSetCtrl m page) :=
  fun h _ e => Option.some.inj e ▸ master_lt _ (and_left _ _ h)
theorem Syntactic.intrHeldPost : Syntactic.Statement .intrHeldPost := fun _ _ h => nomatch h
theorem Syntactic.masterAccess (a : Access) : Syntactic.Statement (.masterAccess a) :=
  fun h _ e => Option.some.inj e ▸ master_lt _ (and_left _ _ (and_left _ _ (and_left _ _ h)))
theorem Syntactic.sysfeatCommit (m v : Nat) : Syntactic.Statement (.sysfeatCommit m v) :=
  fun h _ e => Option.some.inj e ▸ master_lt _ (and_left _ _ h)
theorem Syntactic.commitComplete : Syntactic.Statement .commitComplete := fun _ _ h => nomatch h
theorem Syntactic.paceWindowEnd (counts : List Nat) : Syntactic.Statement (.paceWindowEnd counts) :=
  fun _ _ h => nomatch h
theorem Syntactic.governorInterval : Syntactic.Statement .governorInterval := fun _ _ h => nomatch h
theorem Syntactic.cellAdmit (cls size : Nat) : Syntactic.Statement (.cellAdmit cls size) := fun _ _ h => nomatch h
theorem Syntactic.seraiTransfer (port m : Nat) (write : Bool) (off : Nat) (data : List Byte) (mask : List Bool) (errs errs2 : List SymErr) : Syntactic.Statement (.seraiTransfer port m write off data mask errs errs2) :=
  fun h _ e => Option.some.inj e ▸ master_lt _ (and_right _ _ (and_left _ _ (and_left _ _ (and_left _ _ (and_left _ _ (and_left _ _ (and_left _ _ h)))))))
theorem Syntactic.allocFree (m win v : Nat) : Syntactic.Statement (.allocFree m win v) :=
  fun h _ e => Option.some.inj e ▸ master_lt _ (and_left _ _ (and_left _ _ h))
theorem Syntactic.allocReq (m win v : Nat) : Syntactic.Statement (.allocReq m win v) :=
  fun h _ e => Option.some.inj e ▸ master_lt _ (and_left _ _ (and_left _ _ h))
theorem Syntactic.allocNext (m win v : Nat) : Syntactic.Statement (.allocNext m win v) :=
  fun h _ e => Option.some.inj e ▸ master_lt _ (and_left _ _ (and_left _ _ h))
theorem Syntactic.scrubRead (errs : List SymErr) : Syntactic.Statement (.scrubRead errs) := fun _ _ h => nomatch h
theorem Syntactic.quarRelease (m v : Nat) : Syntactic.Statement (.quarRelease m v) :=
  fun h _ e => Option.some.inj e ▸ master_lt _ (and_left _ _ h)
theorem Syntactic.classApply (m v : Nat) : Syntactic.Statement (.classApply m v) :=
  fun h _ e => Option.some.inj e ▸ master_lt _ (and_left _ _ h)
theorem Syntactic.spillEnable (m : Nat) : Syntactic.Statement (.spillEnable m) :=
  fun h _ e => Option.some.inj e ▸ master_lt _ h
theorem Syntactic.spillRegionReady : Syntactic.Statement .spillRegionReady := fun _ _ h => nomatch h
theorem Syntactic.spillCaravan : Syntactic.Statement .spillCaravan := fun _ _ h => nomatch h
theorem Syntactic.spillReturn (q : Nat) : Syntactic.Statement (.spillReturn q) := fun _ _ h => nomatch h
theorem Syntactic.spillDisable (m : Nat) : Syntactic.Statement (.spillDisable m) :=
  fun h _ e => Option.some.inj e ▸ master_lt _ h
theorem Syntactic.enqueue (u : EnqUnit) (x : Manifest) (further : Bool) : Syntactic.Statement (.enqueue u x further) :=
  fun _ _ h => nomatch h
theorem Syntactic.qEnable (m : Nat) : Syntactic.Statement (.qEnable m) :=
  fun h _ e => Option.some.inj e ▸ master_lt _ h
theorem Syntactic.qPause (m : Nat) : Syntactic.Statement (.qPause m) := fun h _ e => Option.some.inj e ▸ master_lt _ h
theorem Syntactic.qResume (m : Nat) : Syntactic.Statement (.qResume m) :=
  fun h _ e => Option.some.inj e ▸ master_lt _ h
theorem Syntactic.qFlush (m : Nat) : Syntactic.Statement (.qFlush m) := fun h _ e => Option.some.inj e ▸ master_lt _ h
theorem Syntactic.qDisable (m : Nat) : Syntactic.Statement (.qDisable m) :=
  fun h _ e => Option.some.inj e ▸ master_lt _ h
theorem Syntactic.qRemovalDone (q : Nat) : Syntactic.Statement (.qRemovalDone q) := fun _ _ h => nomatch h
theorem Syntactic.ringEnable (m n : Nat) : Syntactic.Statement (.ringEnable m n) :=
  fun h _ e => Option.some.inj e ▸ master_lt _ (and_left _ _ h)
theorem Syntactic.ringClaimDone (n : Nat) : Syntactic.Statement (.ringClaimDone n) := fun _ _ h => nomatch h
theorem Syntactic.ringDisable (m n : Nat) : Syntactic.Statement (.ringDisable m n) :=
  fun h _ e => Option.some.inj e ▸ master_lt _ (and_left _ _ h)
theorem Syntactic.hrDoorbell (m n v : Nat) : Syntactic.Statement (.hrDoorbell m n v) :=
  fun h _ e => Option.some.inj e ▸ master_lt _ (and_left _ _ (and_left _ _ h))
theorem Syntactic.txDescProcess (n : Nat) (host : Option (List Byte)) : Syntactic.Statement (.txDescProcess n host) :=
  fun _ _ h => nomatch h
theorem Syntactic.ringEnqueueRetry (n : Nat) : Syntactic.Statement (.ringEnqueueRetry n) := fun _ _ h => nomatch h
theorem Syntactic.txDescComplete (n idx : Nat) : Syntactic.Statement (.txDescComplete n idx) := fun _ _ h => nomatch h
theorem Syntactic.txManifestEntry (n : Nat) : Syntactic.Statement (.txManifestEntry n) := fun _ _ h => nomatch h
theorem Syntactic.rxRingDeliver (n : Nat) (hostOk : Bool) : Syntactic.Statement (.rxRingDeliver n hostOk) :=
  fun _ _ h => nomatch h
theorem Syntactic.ringFire (n : Nat) : Syntactic.Statement (.ringFire n) := fun _ _ h => nomatch h
theorem Syntactic.hrArm (m n v : Nat) : Syntactic.Statement (.hrArm m n v) :=
  fun h _ e => Option.some.inj e ▸ master_lt _ (and_left _ _ (and_left _ _ h))
theorem Syntactic.timeCmdSet (m : Nat) : Syntactic.Statement (.timeCmdSet m) :=
  fun h _ e => Option.some.inj e ▸ master_lt _ h
theorem Syntactic.timeCmdStep (m : Nat) : Syntactic.Statement (.timeCmdStep m) :=
  fun h _ e => Option.some.inj e ▸ master_lt _ h
theorem Syntactic.timeCmdSlew (m : Nat) : Syntactic.Statement (.timeCmdSlew m) :=
  fun h _ e => Option.some.inj e ▸ master_lt _ h
theorem Syntactic.timeCmdClrAsym (m : Nat) : Syntactic.Statement (.timeCmdClrAsym m) :=
  fun h _ e => Option.some.inj e ▸ master_lt _ h
theorem Syntactic.slewDone : Syntactic.Statement .slewDone := fun _ _ h => nomatch h
theorem Syntactic.timeSmpPush (m : Nat) : Syntactic.Statement (.timeSmpPush m) :=
  fun h _ e => Option.some.inj e ▸ master_lt _ h
theorem Syntactic.servoHoldTimeout : Syntactic.Statement .servoHoldTimeout := fun _ _ h => nomatch h
theorem Syntactic.timeNowRead (m : Nat) : Syntactic.Statement (.timeNowRead m) :=
  fun h _ e => Option.some.inj e ▸ master_lt _ h
theorem Syntactic.timeFifoPop (m p : Nat) : Syntactic.Statement (.timeFifoPop m p) :=
  fun h _ e => Option.some.inj e ▸ master_lt _ (and_left _ _ h)
theorem Syntactic.referenceLoss : Syntactic.Statement .referenceLoss := fun _ _ h => nomatch h
theorem Syntactic.referenceReturn : Syntactic.Statement .referenceReturn := fun _ _ h => nomatch h
theorem Syntactic.ppsInEdge (falling : Bool) : Syntactic.Statement (.ppsInEdge falling) := fun _ _ h => nomatch h
theorem Syntactic.ppsOutSecond : Syntactic.Statement .ppsOutSecond := fun _ _ h => nomatch h
theorem Syntactic.ppsOutPulseEnd : Syntactic.Statement .ppsOutPulseEnd := fun _ _ h => nomatch h
theorem Syntactic.captureEdge (c : Nat) (falling : Bool) : Syntactic.Statement (.captureEdge c falling) :=
  fun _ _ h => nomatch h
theorem Syntactic.capturePop (m c : Nat) : Syntactic.Statement (.capturePop m c) :=
  fun h _ e => Option.some.inj e ▸ master_lt _ (and_left _ _ h)
theorem Syntactic.evtEnable (m e : Nat) : Syntactic.Statement (.evtEnable m e) :=
  fun h _ e => Option.some.inj e ▸ master_lt _ (and_left _ _ h)
theorem Syntactic.evtInstant (e : Nat) : Syntactic.Statement (.evtInstant e) := fun _ _ h => nomatch h
theorem Syntactic.evtPulseEnd (e : Nat) : Syntactic.Statement (.evtPulseEnd e) := fun _ _ h => nomatch h
theorem Syntactic.dramRequestServe (c s : Nat) (act parity : Bool) (errs : List LineErr) : Syntactic.Statement (.dramRequestServe c s act parity errs) :=
  fun _ _ h => nomatch h
theorem Syntactic.dramRefresh (c : Nat) : Syntactic.Statement (.dramRefresh c) := fun _ _ h => nomatch h
theorem Syntactic.rtBurstDeclare (m a n : Nat) : Syntactic.Statement (.rtBurstDeclare m a n) :=
  fun h _ e => Option.some.inj e ▸ master_lt _ (and_left _ _ (and_left _ _ h))
theorem Syntactic.selfRefreshEntry (c : Nat) : Syntactic.Statement (.selfRefreshEntry c) := fun _ _ h => nomatch h
theorem Syntactic.selfRefreshExit (c : Nat) : Syntactic.Statement (.selfRefreshExit c) := fun _ _ h => nomatch h
theorem Syntactic.rhWindowStart (c : Nat) : Syntactic.Statement (.rhWindowStart c) := fun _ _ h => nomatch h
theorem Syntactic.dramScrubRead (c : Nat) (errs : List LineErr) : Syntactic.Statement (.dramScrubRead c errs) :=
  fun _ _ h => nomatch h
theorem Syntactic.dramInitLine (c : Nat) : Syntactic.Statement (.dramInitLine c) := fun _ _ h => nomatch h
theorem Syntactic.migStart (m c : Nat) : Syntactic.Statement (.migStart m c) :=
  fun h _ e => Option.some.inj e ▸ master_lt _ (and_left _ _ h)
theorem Syntactic.migCopyLine (c : Nat) (errs : List LineErr) : Syntactic.Statement (.migCopyLine c errs) :=
  fun _ _ h => nomatch h
theorem Syntactic.dramErrLogPop (m c : Nat) : Syntactic.Statement (.dramErrLogPop m c) :=
  fun h _ e => Option.some.inj e ▸ master_lt _ (and_left _ _ h)
theorem Syntactic.trnMrw (m c : Nat) : Syntactic.Statement (.trnMrw m c) :=
  fun h _ e => Option.some.inj e ▸ master_lt _ (and_left _ _ h)
theorem Syntactic.trnMrr (m c : Nat) : Syntactic.Statement (.trnMrr m c) :=
  fun h _ e => Option.some.inj e ▸ master_lt _ (and_left _ _ h)
theorem Syntactic.trnMpc (m c : Nat) : Syntactic.Statement (.trnMpc m c) :=
  fun h _ e => Option.some.inj e ▸ master_lt _ (and_left _ _ h)
theorem Syntactic.trnCsSample (m c : Nat) : Syntactic.Statement (.trnCsSample m c) :=
  fun h _ e => Option.some.inj e ▸ master_lt _ (and_left _ _ h)
theorem Syntactic.trnCaSample (m c : Nat) : Syntactic.Statement (.trnCaSample m c) :=
  fun h _ e => Option.some.inj e ▸ master_lt _ (and_left _ _ h)
theorem Syntactic.trnWlevel (m c : Nat) : Syntactic.Statement (.trnWlevel m c) :=
  fun h _ e => Option.some.inj e ▸ master_lt _ (and_left _ _ h)
theorem Syntactic.trnPatWrite (m c : Nat) : Syntactic.Statement (.trnPatWrite m c) :=
  fun h _ e => Option.some.inj e ▸ master_lt _ (and_left _ _ h)
theorem Syntactic.trnRdCompare (m c : Nat) : Syntactic.Statement (.trnRdCompare m c) :=
  fun h _ e => Option.some.inj e ▸ master_lt _ (and_left _ _ h)
theorem Syntactic.trnEyeScan (m c : Nat) : Syntactic.Statement (.trnEyeScan m c) :=
  fun h _ e => Option.some.inj e ▸ master_lt _ (and_left _ _ h)
theorem Syntactic.trnHelperDone (c data mask cnt points : Nat) : Syntactic.Statement (.trnHelperDone c data mask cnt points) :=
  fun _ _ h => nomatch h
theorem Syntactic.trnDonePass (m c : Nat) : Syntactic.Statement (.trnDonePass m c) :=
  fun h _ e => Option.some.inj e ▸ master_lt _ (and_left _ _ h)
theorem Syntactic.trnDoneFail (m c : Nat) : Syntactic.Statement (.trnDoneFail m c) :=
  fun h _ e => Option.some.inj e ▸ master_lt _ (and_left _ _ h)
theorem Syntactic.wayManifestIn : Syntactic.Statement .wayManifestIn := fun _ _ h => nomatch h
theorem Syntactic.wayTableFetchDone (line : Nat) (bad : Bool) : Syntactic.Statement (.wayTableFetchDone line bad) :=
  fun _ _ h => nomatch h
theorem Syntactic.wayReturn : Syntactic.Statement .wayReturn := fun _ _ h => nomatch h
theorem Syntactic.wayExcPost : Syntactic.Statement .wayExcPost := fun _ _ h => nomatch h
theorem Syntactic.brAgeScan : Syntactic.Statement .brAgeScan := fun _ _ h => nomatch h
theorem Syntactic.ctScan : Syntactic.Statement .ctScan := fun _ _ h => nomatch h
theorem Syntactic.ctHotWriteback (e : Nat) : Syntactic.Statement (.ctHotWriteback e) := fun _ _ h => nomatch h
theorem Syntactic.ctExpiryPop (m : Nat) : Syntactic.Statement (.ctExpiryPop m) :=
  fun h _ e => Option.some.inj e ▸ master_lt _ h
theorem Syntactic.ctInsert (m e : Nat) : Syntactic.Statement (.ctInsert m e) :=
  fun h _ e => Option.some.inj e ▸ master_lt _ (and_left _ _ h)
theorem Syntactic.ctDelete (m e : Nat) : Syntactic.Statement (.ctDelete m e) :=
  fun h _ e => Option.some.inj e ▸ master_lt _ (and_left _ _ h)
theorem Syntactic.brLookup (m : Nat) : Syntactic.Statement (.brLookup m) :=
  fun h _ e => Option.some.inj e ▸ master_lt _ h
theorem Syntactic.brInsert (m : Nat) : Syntactic.Statement (.brInsert m) :=
  fun h _ e => Option.some.inj e ▸ master_lt _ h
theorem Syntactic.brDelete (m : Nat) : Syntactic.Statement (.brDelete m) :=
  fun h _ e => Option.some.inj e ▸ master_lt _ h
theorem Syntactic.brFlushDynamic (m : Nat) : Syntactic.Statement (.brFlushDynamic m) :=
  fun h _ e => Option.some.inj e ▸ master_lt _ h
theorem Syntactic.tblInv (m lines : Nat) : Syntactic.Statement (.tblInv m lines) :=
  fun h _ e => Option.some.inj e ▸ master_lt _ (and_left _ _ h)
theorem Syntactic.aclWrite (m : Nat) : Syntactic.Statement (.aclWrite m) :=
  fun h _ e => Option.some.inj e ▸ master_lt _ h
theorem Syntactic.aclRead (m : Nat) : Syntactic.Statement (.aclRead m) :=
  fun h _ e => Option.some.inj e ▸ master_lt _ h
theorem Syntactic.polBurstWrite (m v : Nat) : Syntactic.Statement (.polBurstWrite m v) :=
  fun h _ e => Option.some.inj e ▸ master_lt _ (and_left _ _ h)
theorem Syntactic.staCreate (m : Nat) : Syntactic.Statement (.staCreate m) :=
  fun h _ e => Option.some.inj e ▸ master_lt _ h
theorem Syntactic.staAssoc (m : Nat) : Syntactic.Statement (.staAssoc m) :=
  fun h _ e => Option.some.inj e ▸ master_lt _ h
theorem Syntactic.staAuthorize (m : Nat) : Syntactic.Statement (.staAuthorize m) :=
  fun h _ e => Option.some.inj e ▸ master_lt _ h
theorem Syntactic.staUpdate (m : Nat) : Syntactic.Statement (.staUpdate m) :=
  fun h _ e => Option.some.inj e ▸ master_lt _ h
theorem Syntactic.staFreeze (m : Nat) : Syntactic.Statement (.staFreeze m) :=
  fun h _ e => Option.some.inj e ▸ master_lt _ h
theorem Syntactic.staFreezeDone (e : Nat) : Syntactic.Statement (.staFreezeDone e) := fun _ _ h => nomatch h
theorem Syntactic.staThaw (m : Nat) : Syntactic.Statement (.staThaw m) :=
  fun h _ e => Option.some.inj e ▸ master_lt _ h
theorem Syntactic.staRemove (m : Nat) : Syntactic.Statement (.staRemove m) :=
  fun h _ e => Option.some.inj e ▸ master_lt _ h
theorem Syntactic.staRemoveDone (e : Nat) : Syntactic.Statement (.staRemoveDone e) := fun _ _ h => nomatch h
theorem Syntactic.probeAgeExpire (e : Nat) : Syntactic.Statement (.probeAgeExpire e) := fun _ _ h => nomatch h
theorem Syntactic.staAgeCheck : Syntactic.Statement .staAgeCheck := fun _ _ h => nomatch h
theorem Syntactic.mpduLifetimeExpire (e tid sn : Nat) : Syntactic.Statement (.mpduLifetimeExpire e tid sn) :=
  fun _ _ h => nomatch h
theorem Syntactic.baRxWrite (m v : Nat) : Syntactic.Statement (.baRxWrite m v) :=
  fun h _ e => Option.some.inj e ▸ master_lt _ (and_left _ _ h)
theorem Syntactic.reorderTimeout (e tid : Nat) : Syntactic.Statement (.reorderTimeout e tid) := fun _ _ h => nomatch h
theorem Syntactic.staEvtPop (m : Nat) : Syntactic.Statement (.staEvtPop m) :=
  fun h _ e => Option.some.inj e ▸ master_lt _ h
theorem Syntactic.tmDecision (o : Nat) : Syntactic.Statement (.tmDecision o) := fun _ _ h => nomatch h
theorem Syntactic.airOccDequeue (l q : Nat) : Syntactic.Statement (.airOccDequeue l q) := fun _ _ h => nomatch h
theorem Syntactic.launchEligible (q : Nat) : Syntactic.Statement (.launchEligible q) := fun _ _ h => nomatch h
theorem Syntactic.shaperApply (m : Nat) : Syntactic.Statement (.shaperApply m) :=
  fun h _ e => Option.some.inj e ▸ master_lt _ h
theorem Syntactic.gateCommit (m : Nat) : Syntactic.Statement (.gateCommit m) :=
  fun h _ e => Option.some.inj e ▸ master_lt _ h
theorem Syntactic.gateCancel (m : Nat) : Syntactic.Statement (.gateCancel m) :=
  fun h _ e => Option.some.inj e ▸ master_lt _ h
theorem Syntactic.gateTakeover (n : Nat) : Syntactic.Statement (.gateTakeover n) := fun _ _ h => nomatch h
theorem Syntactic.gateChange (n : Nat) : Syntactic.Statement (.gateChange n) := fun _ _ h => nomatch h
theorem Syntactic.shaperHoldEnd (s : Nat) : Syntactic.Statement (.shaperHoldEnd s) := fun _ _ h => nomatch h
theorem Syntactic.keyLoad (m : Nat) (host : Option (List Byte)) : Syntactic.Statement (.keyLoad m host) :=
  fun h _ e => Option.some.inj e ▸ master_lt _ h
theorem Syntactic.keySeal (m : Nat) (host : Option (List Byte)) : Syntactic.Statement (.keySeal m host) :=
  fun h _ e => Option.some.inj e ▸ master_lt _ h
theorem Syntactic.keyExport (m : Nat) : Syntactic.Statement (.keyExport m) :=
  fun h _ e => Option.some.inj e ▸ master_lt _ h
theorem Syntactic.keyDerive (m : Nat) : Syntactic.Statement (.keyDerive m) :=
  fun h _ e => Option.some.inj e ▸ master_lt _ h
theorem Syntactic.keyErase (m : Nat) : Syntactic.Statement (.keyErase m) :=
  fun h _ e => Option.some.inj e ▸ master_lt _ h
theorem Syntactic.keyEraseDone (slot : Nat) : Syntactic.Statement (.keyEraseDone slot) := fun _ _ h => nomatch h
theorem Syntactic.keyPnWrite (m pn : Nat) : Syntactic.Statement (.keyPnWrite m pn) :=
  fun h _ e => Option.some.inj e ▸ master_lt _ (and_left _ _ h)
theorem Syntactic.ctxWrite (m : Nat) : Syntactic.Statement (.ctxWrite m) :=
  fun h _ e => Option.some.inj e ▸ master_lt _ h
theorem Syntactic.ctxRead (m : Nat) : Syntactic.Statement (.ctxRead m) :=
  fun h _ e => Option.some.inj e ▸ master_lt _ h
theorem Syntactic.ctxInvalidate (m : Nat) : Syntactic.Statement (.ctxInvalidate m) :=
  fun h _ e => Option.some.inj e ▸ master_lt _ h
theorem Syntactic.crDoorbell (m n v : Nat) : Syntactic.Statement (.crDoorbell m n v) :=
  fun h _ e => Option.some.inj e ▸ master_lt _ (and_left _ _ (and_left _ _ (and_left _ _ h)))
theorem Syntactic.ciphJobStart (r : Nat) (host hostState : Option (List Byte)) : Syntactic.Statement (.ciphJobStart r host hostState) :=
  fun _ _ h => nomatch h
theorem Syntactic.ciphJobComplete (r : Nat) : Syntactic.Statement (.ciphJobComplete r) := fun _ _ h => nomatch h
theorem Syntactic.ciphManifestPass (r : Nat) : Syntactic.Statement (.ciphManifestPass r) := fun _ _ h => nomatch h
theorem Syntactic.staExport (m : Nat) : Syntactic.Statement (.staExport m) :=
  fun h _ e => Option.some.inj e ▸ master_lt _ h
theorem Syntactic.staImport (m : Nat) : Syntactic.Statement (.staImport m) :=
  fun h _ e => Option.some.inj e ▸ master_lt _ h
theorem Syntactic.taskCreate (m : Nat) : Syntactic.Statement (.taskCreate m) :=
  fun h _ e => Option.some.inj e ▸ master_lt _ h
theorem Syntactic.taskStart (m : Nat) : Syntactic.Statement (.taskStart m) :=
  fun h _ e => Option.some.inj e ▸ master_lt _ h
theorem Syntactic.taskCancel (m : Nat) : Syntactic.Statement (.taskCancel m) :=
  fun h _ e => Option.some.inj e ▸ master_lt _ h
theorem Syntactic.taskDelete (m : Nat) : Syntactic.Statement (.taskDelete m) :=
  fun h _ e => Option.some.inj e ▸ master_lt _ h
theorem Syntactic.taskSetPrio (m : Nat) : Syntactic.Statement (.taskSetPrio m) :=
  fun h _ e => Option.some.inj e ▸ master_lt _ h
theorem Syntactic.taskFlagSet (m v : Nat) : Syntactic.Statement (.taskFlagSet m v) :=
  fun h _ e => Option.some.inj e ▸ master_lt _ (and_left _ _ h)
theorem Syntactic.taskFlagClr (m v : Nat) : Syntactic.Statement (.taskFlagClr m v) :=
  fun h _ e => Option.some.inj e ▸ master_lt _ (and_left _ _ h)
theorem Syntactic.eventPost : Syntactic.Statement .eventPost := fun _ _ h => nomatch h
theorem Syntactic.drvWait (m n mask : Nat) (all : Bool) : Syntactic.Statement (.drvWait m n mask all) :=
  fun h _ e => Option.some.inj e ▸ master_lt _ (and_left _ _ (and_left _ _ h))
theorem Syntactic.drvYield (m n : Nat) : Syntactic.Statement (.drvYield m n) :=
  fun h _ e => Option.some.inj e ▸ master_lt _ (and_left _ _ h)
theorem Syntactic.drvPreempted (m n : Nat) : Syntactic.Statement (.drvPreempted m n) :=
  fun h _ e => Option.some.inj e ▸ master_lt _ (and_left _ _ h)
theorem Syntactic.drvSlotTake (m n : Nat) : Syntactic.Statement (.drvSlotTake m n) :=
  fun h _ e => Option.some.inj e ▸ master_lt _ (and_left _ _ h)
theorem Syntactic.drvItemTake (m n : Nat) : Syntactic.Statement (.drvItemTake m n) :=
  fun h _ e => Option.some.inj e ▸ master_lt _ (and_left _ _ h)
theorem Syntactic.disposeReturn (m n : Nat) : Syntactic.Statement (.disposeReturn m n) :=
  fun h _ e => Option.some.inj e ▸ master_lt _ (and_left _ _ h)
theorem Syntactic.disposeQueue (m n : Nat) : Syntactic.Statement (.disposeQueue m n) :=
  fun h _ e => Option.some.inj e ▸ master_lt _ (and_left _ _ h)
theorem Syntactic.disposeDiscard (m n : Nat) : Syntactic.Statement (.disposeDiscard m n) :=
  fun h _ e => Option.some.inj e ▸ master_lt _ (and_left _ _ h)
theorem Syntactic.disposeDone (t : Nat) : Syntactic.Statement (.disposeDone t) := fun _ _ h => nomatch h
theorem Syntactic.drvTimerFire (n : Nat) : Syntactic.Statement (.drvTimerFire n) := fun _ _ h => nomatch h
theorem Syntactic.timerArm (m v : Nat) : Syntactic.Statement (.timerArm m v) :=
  fun h _ e => Option.some.inj e ▸ master_lt _ (and_left _ _ h)
theorem Syntactic.timerDisarm (m v : Nat) : Syntactic.Statement (.timerDisarm m v) :=
  fun h _ e => Option.some.inj e ▸ master_lt _ (and_left _ _ h)
theorem Syntactic.laneSignalDetect (n : Nat) : Syntactic.Statement (.laneSignalDetect n) := fun _ _ h => nomatch h
theorem Syntactic.laneTrainDone (n : Nat) (ok : Bool) (gen width : Nat) : Syntactic.Statement (.laneTrainDone n ok gen width) :=
  fun _ _ h => nomatch h
theorem Syntactic.laneLockAchieved (n : Nat) : Syntactic.Statement (.laneLockAchieved n) := fun _ _ h => nomatch h
theorem Syntactic.laneLockTimeout (n : Nat) : Syntactic.Statement (.laneLockTimeout n) := fun _ _ h => nomatch h
theorem Syntactic.laneAutonegDone (n : Nat) (ok full : Bool) (speed : Nat) : Syntactic.Statement (.laneAutonegDone n ok full speed) :=
  fun _ _ h => nomatch h
theorem Syntactic.capxInterval (n : Nat) : Syntactic.Statement (.capxInterval n) := fun _ _ h => nomatch h
theorem Syntactic.capxFrameRx (n : Nat) (frame : List Byte) (fcsOk : Bool) : Syntactic.Statement (.capxFrameRx n frame fcsOk) :=
  fun _ _ h => nomatch h
theorem Syntactic.capxTimeout (n : Nat) : Syntactic.Statement (.capxTimeout n) := fun _ _ h => nomatch h
theorem Syntactic.upshiftTimeout (n : Nat) : Syntactic.Statement (.upshiftTimeout n) := fun _ _ h => nomatch h
theorem Syntactic.linkHoldExpire (n : Nat) : Syntactic.Statement (.linkHoldExpire n) := fun _ _ h => nomatch h
theorem Syntactic.laneLos (n : Nat) (tx rx : Bool) : Syntactic.Statement (.laneLos n tx rx) := fun _ _ h => nomatch h
theorem Syntactic.laneLol (n : Nat) (tx rx : Bool) : Syntactic.Statement (.laneLol n tx rx) := fun _ _ h => nomatch h
theorem Syntactic.lpbkModeWrite (m n v : Nat) : Syntactic.Statement (.lpbkModeWrite m n v) :=
  fun h _ e => Option.some.inj e ▸ master_lt _ (and_left _ _ (and_left _ _ h))
theorem Syntactic.prbsEnableWrite (m n v : Nat) : Syntactic.Statement (.prbsEnableWrite m n v) :=
  fun h _ e => Option.some.inj e ▸ master_lt _ (and_left _ _ (and_left _ _ h))
theorem Syntactic.prbsInjOne (m n : Nat) : Syntactic.Statement (.prbsInjOne m n) :=
  fun h _ e => Option.some.inj e ▸ master_lt _ (and_left _ _ h)
theorem Syntactic.ethFrameRx (p quarter : Nat) (frame : List Byte) (fcsOk : Bool) : Syntactic.Statement (.ethFrameRx p quarter frame fcsOk) :=
  fun _ _ h => nomatch h
theorem Syntactic.pauseExpire (p prio : Nat) : Syntactic.Statement (.pauseExpire p prio) := fun _ _ h => nomatch h
theorem Syntactic.ethFrameTx (p quarter frags : Nat) : Syntactic.Statement (.ethFrameTx p quarter frags) :=
  fun _ _ h => nomatch h
theorem Syntactic.xoffRefresh (p prio : Nat) : Syntactic.Statement (.xoffRefresh p prio) := fun _ _ h => nomatch h
theorem Syntactic.preemptVerifyTimeout (p : Nat) : Syntactic.Statement (.preemptVerifyTimeout p) :=
  fun _ _ h => nomatch h
theorem Syntactic.preemptVerifyResponse (p : Nat) : Syntactic.Statement (.preemptVerifyResponse p) :=
  fun _ _ h => nomatch h
theorem Syntactic.pcieInboundRequest (bar : Option Nat) (a : Nat) (write : Bool) (len : Nat) (data : List Byte) : Syntactic.Statement (.pcieInboundRequest bar a write len data) :=
  fun _ _ h => nomatch h
theorem Syntactic.pcieObMemRead (m be : Nat) : Syntactic.Statement (.pcieObMemRead m be) :=
  fun h _ e => Option.some.inj e ▸ master_lt _ (and_left _ _ h)
theorem Syntactic.pcieObMemWrite (m be : Nat) : Syntactic.Statement (.pcieObMemWrite m be) :=
  fun h _ e => Option.some.inj e ▸ master_lt _ (and_left _ _ h)
theorem Syntactic.pcieObCfgRead (m be : Nat) : Syntactic.Statement (.pcieObCfgRead m be) :=
  fun h _ e => Option.some.inj e ▸ master_lt _ (and_left _ _ h)
theorem Syntactic.pcieObCfgWrite (m be : Nat) : Syntactic.Statement (.pcieObCfgWrite m be) :=
  fun h _ e => Option.some.inj e ▸ master_lt _ (and_left _ _ h)
theorem Syntactic.pcieCompletion (status data : Nat) : Syntactic.Statement (.pcieCompletion status data) :=
  fun _ _ h => nomatch h
theorem Syntactic.pcieCompletionTimeout (ring : Option Nat) : Syntactic.Statement (.pcieCompletionTimeout ring) :=
  fun _ _ h => nomatch h
theorem Syntactic.pcieLinkDown : Syntactic.Statement .pcieLinkDown := fun _ _ h => nomatch h
theorem Syntactic.epReadyWrite (m : Nat) : Syntactic.Statement (.epReadyWrite m) :=
  fun h _ e => Option.some.inj e ▸ master_lt _ h
theorem Syntactic.prbsCheckerLocked (n : Nat) : Syntactic.Statement (.prbsCheckerLocked n) := fun _ _ h => nomatch h
theorem Syntactic.prbsCheckerUnlocked (n errs : Nat) : Syntactic.Statement (.prbsCheckerUnlocked n errs) :=
  fun _ _ h => nomatch h
theorem Syntactic.helloTimer : Syntactic.Statement .helloTimer := fun _ _ h => nomatch h
theorem Syntactic.helloRx : Syntactic.Statement .helloRx := fun _ _ h => nomatch h
theorem Syntactic.recordRx : Syntactic.Statement .recordRx := fun _ _ h => nomatch h
theorem Syntactic.ackRx : Syntactic.Statement .ackRx := fun _ _ h => nomatch h
theorem Syntactic.summaryRx : Syntactic.Statement .summaryRx := fun _ _ h => nomatch h
theorem Syntactic.hoReqRx : Syntactic.Statement .hoReqRx := fun _ _ h => nomatch h
theorem Syntactic.hoDataRx : Syntactic.Statement .hoDataRx := fun _ _ h => nomatch h
theorem Syntactic.hoDoneRx : Syntactic.Statement .hoDoneRx := fun _ _ h => nomatch h
theorem Syntactic.hoNakRx : Syntactic.Statement .hoNakRx := fun _ _ h => nomatch h
theorem Syntactic.planRx : Syntactic.Statement .planRx := fun _ _ h => nomatch h
theorem Syntactic.departRx : Syntactic.Statement .departRx := fun _ _ h => nomatch h
theorem Syntactic.memberAgeSuspect (id : Nat) : Syntactic.Statement (.memberAgeSuspect id) := fun _ _ h => nomatch h
theorem Syntactic.memberAgeSeparated (id : Nat) : Syntactic.Statement (.memberAgeSeparated id) :=
  fun _ _ h => nomatch h
theorem Syntactic.cvyRetxTimer (dest seq : Nat) : Syntactic.Statement (.cvyRetxTimer dest seq) :=
  fun _ _ h => nomatch h
theorem Syntactic.tombExpire (kind rkey : Nat) : Syntactic.Statement (.tombExpire kind rkey) := fun _ _ h => nomatch h
theorem Syntactic.keyActivation (gen : Nat) : Syntactic.Statement (.keyActivation gen) := fun _ _ h => nomatch h
theorem Syntactic.recWrite (m : Nat) (host : Option (List Byte)) : Syntactic.Statement (.recWrite m host) :=
  fun h _ e => Option.some.inj e ▸ master_lt _ h
theorem Syntactic.recRead (m : Nat) (host : Option (List Byte)) : Syntactic.Statement (.recRead m host) :=
  fun h _ e => Option.some.inj e ▸ master_lt _ h
theorem Syntactic.recDelete (m : Nat) (host : Option (List Byte)) : Syntactic.Statement (.recDelete m host) :=
  fun h _ e => Option.some.inj e ▸ master_lt _ h
theorem Syntactic.hoRequest (m : Nat) : Syntactic.Statement (.hoRequest m) :=
  fun h _ e => Option.some.inj e ▸ master_lt _ h
theorem Syntactic.hoRetxTimer : Syntactic.Statement .hoRetxTimer := fun _ _ h => nomatch h
theorem Syntactic.hoTimeout : Syntactic.Statement .hoTimeout := fun _ _ h => nomatch h
theorem Syntactic.hoHoldExpire (addr : Nat) : Syntactic.Statement (.hoHoldExpire addr) := fun _ _ h => nomatch h
theorem Syntactic.departWaitEnd : Syntactic.Statement .departWaitEnd := fun _ _ h => nomatch h
theorem Syntactic.cvyEvtPop (m : Nat) : Syntactic.Statement (.cvyEvtPop m) :=
  fun h _ e => Option.some.inj e ▸ master_lt _ h
theorem Syntactic.calStepDone (n : Nat) (temp : Int) (lat : List (Nat × Nat × Nat)) : Syntactic.Statement (.calStepDone n temp lat) :=
  fun _ _ h => nomatch h
theorem Syntactic.calTrackPiece (n chain : Nat) : Syntactic.Statement (.calTrackPiece n chain) :=
  fun _ _ h => nomatch h
theorem Syntactic.shadowCapture (n : Nat) (est power : Int) (inData passed : Bool) : Syntactic.Statement (.shadowCapture n est power inData passed) :=
  fun _ _ h => nomatch h
theorem Syntactic.rxPowerDrop (n : Nat) : Syntactic.Statement (.rxPowerDrop n) := fun _ _ h => nomatch h
theorem Syntactic.noiseFloorUpdate (n : Nat) (nf : Int) : Syntactic.Statement (.noiseFloorUpdate n nf) :=
  fun _ _ h => nomatch h
theorem Syntactic.refTrimUpdate (n : Nat) : Syntactic.Statement (.refTrimUpdate n) := fun _ _ h => nomatch h
theorem Syntactic.firApply (m n : Nat) : Syntactic.Statement (.firApply m n) :=
  fun h _ e => Option.some.inj e ▸ master_lt _ (and_left _ _ h)
theorem Syntactic.firBankSwitch (n : Nat) : Syntactic.Statement (.firBankSwitch n) := fun _ _ h => nomatch h
theorem Syntactic.maskApply (m n : Nat) : Syntactic.Statement (.maskApply m n) :=
  fun h _ e => Option.some.inj e ▸ master_lt _ (and_left _ _ h)
theorem Syntactic.maskTakeEffect (n : Nat) : Syntactic.Statement (.maskTakeEffect n) := fun _ _ h => nomatch h
theorem Syntactic.radarPulse (width : Nat) (power : Int) : Syntactic.Statement (.radarPulse width power) :=
  fun _ _ h => nomatch h
theorem Syntactic.radarFifoPop (m : Nat) : Syntactic.Statement (.radarFifoPop m) :=
  fun h _ e => Option.some.inj e ▸ master_lt _ h
theorem Syntactic.synthLockLost (n : Nat) : Syntactic.Statement (.synthLockLost n) := fun _ _ h => nomatch h
theorem Syntactic.synthRelock (n : Nat) : Syntactic.Statement (.synthRelock n) := fun _ _ h => nomatch h
theorem Syntactic.linkAdd (m l : Nat) : Syntactic.Statement (.linkAdd m l) :=
  fun h _ e => Option.some.inj e ▸ master_lt _ (and_left _ _ h)
theorem Syntactic.linkRemove (m l : Nat) : Syntactic.Statement (.linkRemove m l) :=
  fun h _ e => Option.some.inj e ▸ master_lt _ (and_left _ _ h)
theorem Syntactic.linkCancel (m l : Nat) : Syntactic.Statement (.linkCancel m l) :=
  fun h _ e => Option.some.inj e ▸ master_lt _ (and_left _ _ h)
theorem Syntactic.linkRadioActive (l : Nat) : Syntactic.Statement (.linkRadioActive l) := fun _ _ h => nomatch h
theorem Syntactic.pairStrHoldEnd : Syntactic.Statement .pairStrHoldEnd := fun _ _ h => nomatch h
theorem Syntactic.msdTimerEnd (l : Nat) : Syntactic.Statement (.msdTimerEnd l) := fun _ _ h => nomatch h
theorem Syntactic.strcTrain (m : Nat) : Syntactic.Statement (.strcTrain m) :=
  fun h _ e => Option.some.inj e ▸ master_lt _ h
theorem Syntactic.strcTrainStepDone (figs : List StrcFig) (silent : List Nat) (lost : Nat) :
    Syntactic.Statement (.strcTrainStepDone figs silent lost) :=
  fun _ _ h => nomatch h
theorem Syntactic.strcTrainTimeout : Syntactic.Statement .strcTrainTimeout := fun _ _ h => nomatch h
theorem Syntactic.strcSilentSymbol (victim : Nat) (figs : List StrcFig) : Syntactic.Statement (.strcSilentSymbol victim figs) :=
  fun _ _ h => nomatch h
theorem Syntactic.airSlotStart : Syntactic.Statement .airSlotStart := fun _ _ h => nomatch h
theorem Syntactic.airBlockAccess (l : Nat) (short : Bool) : Syntactic.Statement (.airBlockAccess l short) :=
  fun _ _ h => nomatch h
theorem Syntactic.airTblApply (m : Nat) : Syntactic.Statement (.airTblApply m) :=
  fun h _ e => Option.some.inj e ▸ master_lt _ h
theorem Syntactic.airResResume (m : Nat) : Syntactic.Statement (.airResResume m) :=
  fun h _ e => Option.some.inj e ▸ master_lt _ h
theorem Syntactic.airResClrSkips (m : Nat) : Syntactic.Statement (.airResClrSkips m) :=
  fun h _ e => Option.some.inj e ▸ master_lt _ h
theorem Syntactic.bsrpTimer : Syntactic.Statement .bsrpTimer := fun _ _ h => nomatch h
theorem Syntactic.edcaTxop (l : Nat) (otherRx : Bool) : Syntactic.Statement (.edcaTxop l otherRx) :=
  fun _ _ h => nomatch h
theorem Syntactic.chanApply (m n : Nat) : Syntactic.Statement (.chanApply m n) :=
  fun h _ e => Option.some.inj e ▸ master_lt _ (and_left _ _ h)
theorem Syntactic.retuneStart (n : Nat) : Syntactic.Statement (.retuneStart n) := fun _ _ h => nomatch h
theorem Syntactic.retuneForceAbort (n : Nat) : Syntactic.Statement (.retuneForceAbort n) := fun _ _ h => nomatch h
theorem Syntactic.retuneDone (n : Nat) : Syntactic.Statement (.retuneDone n) := fun _ _ h => nomatch h
theorem Syntactic.calStepOverrun (n : Nat) : Syntactic.Statement (.calStepOverrun n) := fun _ _ h => nomatch h
theorem Syntactic.tempRecalPiece (n : Nat) (temp : Int) (cut : Bool) : Syntactic.Statement (.tempRecalPiece n temp cut) :=
  fun _ _ h => nomatch h
theorem Syntactic.ppduRx (n : Nat) (p : RxPpdu) : Syntactic.Statement (.ppduRx n p) := fun _ _ h => nomatch h
theorem Syntactic.ppduTx (n : Nat) (p : TxPpdu) : Syntactic.Statement (.ppduTx n p) := fun _ _ h => nomatch h
theorem Syntactic.tbtt (l : Nat) : Syntactic.Statement (.tbtt l) := fun _ _ h => nomatch h
theorem Syntactic.outrFrameRx (p : OutrRx) : Syntactic.Statement (.outrFrameRx p) := fun _ _ h => nomatch h
theorem Syntactic.outrCapture (est power : Int) (passed : Bool) : Syntactic.Statement (.outrCapture est power passed) :=
  fun _ _ h => nomatch h
theorem Syntactic.outrRxLost : Syntactic.Statement .outrRxLost := fun _ _ h => nomatch h
theorem Syntactic.outrCalStepDone (overrun : Bool) (lat : List Nat) : Syntactic.Statement (.outrCalStepDone overrun lat) :=
  fun _ _ h => nomatch h
theorem Syntactic.outrTimeslot : Syntactic.Statement .outrTimeslot := fun _ _ h => nomatch h
theorem Syntactic.outrFrameTx (nbr : Nat) (t : OutrTx) : Syntactic.Statement (.outrFrameTx nbr t) :=
  fun _ _ h => nomatch h
theorem Syntactic.outrAckTimeout (nbr : Nat) : Syntactic.Statement (.outrAckTimeout nbr) := fun _ _ h => nomatch h
theorem Syntactic.outrRxWindowEnd : Syntactic.Statement .outrRxWindowEnd := fun _ _ h => nomatch h
theorem Syntactic.nbrCreate (m : Nat) : Syntactic.Statement (.nbrCreate m) :=
  fun h _ e => Option.some.inj e ▸ master_lt _ h
theorem Syntactic.nbrUpdate (m : Nat) : Syntactic.Statement (.nbrUpdate m) :=
  fun h _ e => Option.some.inj e ▸ master_lt _ h
theorem Syntactic.nbrRemove (m : Nat) : Syntactic.Statement (.nbrRemove m) :=
  fun h _ e => Option.some.inj e ▸ master_lt _ h
theorem Syntactic.nbrResync (m : Nat) : Syntactic.Statement (.nbrResync m) :=
  fun h _ e => Option.some.inj e ▸ master_lt _ h
theorem Syntactic.nbrAgeExpire (e : Nat) : Syntactic.Statement (.nbrAgeExpire e) := fun _ _ h => nomatch h
theorem Syntactic.extListen (e : Nat) : Syntactic.Statement (.extListen e) := fun _ _ h => nomatch h
theorem Syntactic.cslSequence (e : Nat) (t : OutrTx) (wake : Nat) : Syntactic.Statement (.cslSequence e t wake) :=
  fun _ _ h => nomatch h
theorem Syntactic.rfsDelivery (e : Nat) (t : OutrTx) (copies : Nat) (acked : Bool) : Syntactic.Statement (.rfsDelivery e t copies acked) :=
  fun _ _ h => nomatch h
theorem Syntactic.omEvtPop (m : Nat) : Syntactic.Statement (.omEvtPop m) :=
  fun h _ e => Option.some.inj e ▸ master_lt _ h
theorem Syntactic.backupPowerUp : Syntactic.Statement .backupPowerUp := fun _ _ h => nomatch h
theorem Syntactic.supplySwitch (battery : Bool) (vbat : Nat) : Syntactic.Statement (.supplySwitch battery vbat) :=
  fun _ _ h => nomatch h
theorem Syntactic.crystalStop : Syntactic.Statement .crystalStop := fun _ _ h => nomatch h
theorem Syntactic.vbatLowReset : Syntactic.Statement .vbatLowReset := fun _ _ h => nomatch h
theorem Syntactic.rtcSecond : Syntactic.Statement .rtcSecond := fun _ _ h => nomatch h
theorem Syntactic.rtcSnapshotRead (m r sub : Nat) : Syntactic.Statement (.rtcSnapshotRead m r sub) :=
  fun h _ e => Option.some.inj e ▸ master_lt _ (and_left _ _ (and_left _ _ h))
theorem Syntactic.rtcSnapshotExpire : Syntactic.Statement .rtcSnapshotExpire := fun _ _ h => nomatch h
theorem Syntactic.rtcHoldWrite (m r v : Nat) : Syntactic.Statement (.rtcHoldWrite m r v) :=
  fun h _ e => Option.some.inj e ▸ master_lt _ (and_left _ _ (and_left _ _ (and_left _ _ h)))
theorem Syntactic.rtcApply (m : Nat) : Syntactic.Statement (.rtcApply m) :=
  fun h _ e => Option.some.inj e ▸ master_lt _ h
theorem Syntactic.rtcApplyTakeEffect : Syntactic.Statement .rtcApplyTakeEffect := fun _ _ h => nomatch h
theorem Syntactic.osfClear (m : Nat) : Syntactic.Statement (.osfClear m) :=
  fun h _ e => Option.some.inj e ▸ master_lt _ h
theorem Syntactic.netWindowEnd (t : Nat) : Syntactic.Statement (.netWindowEnd t) := fun _ _ h => nomatch h
theorem Syntactic.tempSample (temp : Int) : Syntactic.Statement (.tempSample temp) := fun _ _ h => nomatch h
theorem Syntactic.crystalRestart : Syntactic.Statement .crystalRestart := fun _ _ h => nomatch h
theorem Syntactic.brynVerify (m : Nat) : Syntactic.Statement (.brynVerify m) :=
  fun h _ e => Option.some.inj e ▸ master_lt _ h
theorem Syntactic.brynAttest (m : Nat) : Syntactic.Statement (.brynAttest m) :=
  fun h _ e => Option.some.inj e ▸ master_lt _ h
theorem Syntactic.brynIdExport (m : Nat) : Syntactic.Statement (.brynIdExport m) :=
  fun h _ e => Option.some.inj e ▸ master_lt _ h
theorem Syntactic.brynArbAdvance (m key arg : Nat) : Syntactic.Statement (.brynArbAdvance m key arg) :=
  fun h _ e => Option.some.inj e ▸ master_lt _ (and_left _ _ (and_left _ _ h))
theorem Syntactic.brynOwnerProgram (m key arg : Nat) : Syntactic.Statement (.brynOwnerProgram m key arg) :=
  fun h _ e => Option.some.inj e ▸ master_lt _ (and_left _ _ (and_left _ _ h))
theorem Syntactic.brynOwnerRevoke (m key arg : Nat) : Syntactic.Statement (.brynOwnerRevoke m key arg) :=
  fun h _ e => Option.some.inj e ▸ master_lt _ (and_left _ _ (and_left _ _ h))
theorem Syntactic.brynLcDeploy (m key : Nat) : Syntactic.Statement (.brynLcDeploy m key) :=
  fun h _ e => Option.some.inj e ▸ master_lt _ (and_left _ _ h)
theorem Syntactic.brynOtpWrite (m key arg : Nat) : Syntactic.Statement (.brynOtpWrite m key arg) :=
  fun h _ e => Option.some.inj e ▸ master_lt _ (and_left _ _ (and_left _ _ h))
theorem Syntactic.brynChallenge (m : Nat) : Syntactic.Statement (.brynChallenge m) :=
  fun h _ e => Option.some.inj e ▸ master_lt _ h
theorem Syntactic.brynUnlock (m key : Nat) : Syntactic.Statement (.brynUnlock m key) :=
  fun h _ e => Option.some.inj e ▸ master_lt _ (and_left _ _ h)
theorem Syntactic.brynDebugOpen (m : Nat) : Syntactic.Statement (.brynDebugOpen m) :=
  fun h _ e => Option.some.inj e ▸ master_lt _ h
theorem Syntactic.brynScrap (m key : Nat) : Syntactic.Statement (.brynScrap m key) :=
  fun h _ e => Option.some.inj e ▸ master_lt _ (and_left _ _ h)
theorem Syntactic.brynSyskeyLoad (m key arg : Nat) : Syntactic.Statement (.brynSyskeyLoad m key arg) :=
  fun h _ e => Option.some.inj e ▸ master_lt _ (and_left _ _ (and_left _ _ h))
theorem Syntactic.brynCmdDone (fails : Bool) : Syntactic.Statement (.brynCmdDone fails) := fun _ _ h => nomatch h
theorem Syntactic.coreHaltReq (m n : Nat) (halt : Bool) : Syntactic.Statement (.coreHaltReq m n halt) :=
  fun h _ e => Option.some.inj e ▸ master_lt _ (and_left _ _ h)
theorem Syntactic.coreStep (m n : Nat) : Syntactic.Statement (.coreStep m n) :=
  fun h _ e => Option.some.inj e ▸ master_lt _ (and_left _ _ h)
theorem Syntactic.pmbVoltageCmd : Syntactic.Statement .pmbVoltageCmd := fun _ _ h => nomatch h
theorem Syntactic.pmbXferGo (m v : Nat) : Syntactic.Statement (.pmbXferGo m v) :=
  fun h _ e => Option.some.inj e ▸ master_lt _ (and_left _ _ h)
theorem Syntactic.pmbXferDone (result data : Nat) : Syntactic.Statement (.pmbXferDone result data) :=
  fun _ _ h => nomatch h
theorem Syntactic.pmbSclTimeout : Syntactic.Statement .pmbSclTimeout := fun _ _ h => nomatch h
theorem Syntactic.pmbAlert (low : Bool) : Syntactic.Statement (.pmbAlert low) := fun _ _ h => nomatch h
theorem Syntactic.gpioBallEvent (n : Nat) (level : Bool) : Syntactic.Statement (.gpioBallEvent n level) :=
  fun _ _ h => nomatch h
theorem Syntactic.gpioSet (m v : Nat) : Syntactic.Statement (.gpioSet m v) :=
  fun h _ e => Option.some.inj e ▸ master_lt _ (and_left _ _ h)
theorem Syntactic.gpioClr (m v : Nat) : Syntactic.Statement (.gpioClr m v) :=
  fun h _ e => Option.some.inj e ▸ master_lt _ (and_left _ _ h)
theorem Syntactic.spiCmdGo (m v : Nat) : Syntactic.Statement (.spiCmdGo m v) :=
  fun h _ e => Option.some.inj e ▸ master_lt _ (and_left _ _ h)
theorem Syntactic.spiCmdDone (data : List Byte) : Syntactic.Statement (.spiCmdDone data) := fun _ _ h => nomatch h
theorem Syntactic.uartTxWrite (m v : Nat) : Syntactic.Statement (.uartTxWrite m v) :=
  fun h _ e => Option.some.inj e ▸ master_lt _ (and_left _ _ h)
theorem Syntactic.uartCharSent : Syntactic.Statement .uartCharSent := fun _ _ h => nomatch h
theorem Syntactic.uartCharRx (c err : Nat) : Syntactic.Statement (.uartCharRx c err) := fun _ _ h => nomatch h
theorem Syntactic.uartRxPop (m : Nat) : Syntactic.Statement (.uartRxPop m) :=
  fun h _ e => Option.some.inj e ▸ master_lt _ h
theorem Syntactic.tapIdcode : Syntactic.Statement .tapIdcode := fun _ _ h => nomatch h
theorem Syntactic.tapStatus : Syntactic.Statement .tapStatus := fun _ _ h => nomatch h
theorem Syntactic.tapBrynbox (j : Nat) (write : Bool) (v : Nat) : Syntactic.Statement (.tapBrynbox j write v) :=
  fun _ _ h => nomatch h
theorem Syntactic.tapMemap (a : Nat) (write : Bool) (v : Nat) : Syntactic.Statement (.tapMemap a write v) :=
  fun _ _ h => nomatch h
theorem Syntactic.tapExtest (balls cells : List Bool) : Syntactic.Statement (.tapExtest balls cells) :=
  fun _ _ h => nomatch h
theorem Syntactic.tapSamplePreload (balls cells : List Bool) : Syntactic.Statement (.tapSamplePreload balls cells) :=
  fun _ _ h => nomatch h
theorem Syntactic.tapHighz : Syntactic.Statement .tapHighz := fun _ _ h => nomatch h
theorem Syntactic.tapClamp : Syntactic.Statement .tapClamp := fun _ _ h => nomatch h
theorem Syntactic.tapBypass : Syntactic.Statement .tapBypass := fun _ _ h => nomatch h
theorem Syntactic.fatalGraceEnd : Syntactic.Statement .fatalGraceEnd := fun _ _ h => nomatch h
theorem Syntactic.diagSnapTrigger (m : Nat) : Syntactic.Statement (.diagSnapTrigger m) :=
  fun h _ e => Option.some.inj e ▸ master_lt _ h
theorem Syntactic.diagSnapRelease (m : Nat) : Syntactic.Statement (.diagSnapRelease m) :=
  fun h _ e => Option.some.inj e ▸ master_lt _ h
theorem Syntactic.snapHoldExpire : Syntactic.Statement .snapHoldExpire := fun _ _ h => nomatch h
theorem Syntactic.diagLogClr (m v : Nat) : Syntactic.Statement (.diagLogClr m v) :=
  fun h _ e => Option.some.inj e ▸ master_lt _ (and_left _ _ h)
theorem Syntactic.powerOnReset (pwrLow : Bool) (monitors : List Nat) : Syntactic.Statement (.powerOnReset pwrLow monitors) :=
  fun _ _ h => nomatch h
theorem Syntactic.supplyMonitorRelease (n : Nat) : Syntactic.Statement (.supplyMonitorRelease n) :=
  fun _ _ h => nomatch h
theorem Syntactic.resetBall : Syntactic.Statement .resetBall := fun _ _ h => nomatch h
theorem Syntactic.resetInputsHigh : Syntactic.Statement .resetInputsHigh := fun _ _ h => nomatch h
theorem Syntactic.swResetWarm (m key : Nat) : Syntactic.Statement (.swResetWarm m key) :=
  fun h _ e => Option.some.inj e ▸ master_lt _ (and_left _ _ h)
theorem Syntactic.swResetCold (m key : Nat) : Syntactic.Statement (.swResetCold m key) :=
  fun h _ e => Option.some.inj e ▸ master_lt _ (and_left _ _ h)
theorem Syntactic.warmResetAssert : Syntactic.Statement .warmResetAssert := fun _ _ h => nomatch h
theorem Syntactic.internalResetRelease (boot : Nat) (ep : Bool) (width : Nat) (otpFault : Bool) : Syntactic.Statement (.internalResetRelease boot ep width otpFault) :=
  fun _ _ h => nomatch h
theorem Syntactic.thermalTrip : Syntactic.Statement .thermalTrip := fun _ _ h => nomatch h
theorem Syntactic.thermalRecover : Syntactic.Statement .thermalRecover := fun _ _ h => nomatch h
theorem Syntactic.debugResetRequest : Syntactic.Statement .debugResetRequest := fun _ _ h => nomatch h
theorem Syntactic.pcieFundamentalReset : Syntactic.Statement .pcieFundamentalReset := fun _ _ h => nomatch h
theorem Syntactic.prepStart (m v : Nat) : Syntactic.Statement (.prepStart m v) :=
  fun h _ e => Option.some.inj e ▸ master_lt _ (and_left _ _ h)
theorem Syntactic.preparationDone (u : Nat) : Syntactic.Statement (.preparationDone u) := fun _ _ h => nomatch h
theorem Syntactic.preparationTimeout (u : Nat) : Syntactic.Statement (.preparationTimeout u) := fun _ _ h => nomatch h
theorem Syntactic.referenceAbsentAtReset : Syntactic.Statement .referenceAbsentAtReset := fun _ _ h => nomatch h
theorem Syntactic.referenceAppear : Syntactic.Statement .referenceAppear := fun _ _ h => nomatch h
theorem Syntactic.pcieTrainingStart : Syntactic.Statement .pcieTrainingStart := fun _ _ h => nomatch h
theorem Syntactic.bootImageVerified (image : Option (List Byte)) : Syntactic.Statement (.bootImageVerified image) :=
  fun _ _ h => nomatch h
theorem Syntactic.brynRecovGo (m v : Nat) : Syntactic.Statement (.brynRecovGo m v) :=
  fun h _ e => Option.some.inj e ▸ master_lt _ (and_left _ _ h)
theorem Syntactic.uartImageArrived (image : List Byte) : Syntactic.Statement (.uartImageArrived image) :=
  fun _ _ h => nomatch h
theorem Syntactic.quickCalDone (temp : Int) : Syntactic.Statement (.quickCalDone temp) := fun _ _ h => nomatch h
theorem Syntactic.wdogKick (m v : Nat) : Syntactic.Statement (.wdogKick m v) :=
  fun h _ e => Option.some.inj e ▸ master_lt _ (and_left _ _ h)
theorem Syntactic.wdogHalfTimeout : Syntactic.Statement .wdogHalfTimeout := fun _ _ h => nomatch h
theorem Syntactic.wdogExpire : Syntactic.Statement .wdogExpire := fun _ _ h => nomatch h
theorem Syntactic.shutdownStart (m v : Nat) : Syntactic.Statement (.shutdownStart m v) :=
  fun h _ e => Option.some.inj e ▸ master_lt _ (and_left _ _ h)
theorem Syntactic.shutdownPhaseEnd : Syntactic.Statement .shutdownPhaseEnd := fun _ _ h => nomatch h
theorem Syntactic.shutdownGraceEnd : Syntactic.Statement .shutdownGraceEnd := fun _ _ h => nomatch h
theorem Syntactic.shutdownCoreTimeout : Syntactic.Statement .shutdownCoreTimeout := fun _ _ h => nomatch h
theorem Syntactic.coreHalt (n : Nat) : Syntactic.Statement (.coreHalt n) := fun _ _ h => nomatch h

end Sys2Proof.Laws
end

