-- ==== Sys2Proof/Tests/Slice0.lean ====
section
/-! SUPPORT. Tests of the model: ill-formed commands are refused, the spec's worked examples, and for every statement a
state and operands that meet its hypotheses. -/

set_option autoImplicit false
set_option Elab.async false

namespace Sys2Proof.Tests

open Sys2Proof Sys2Proof.Machine

/-- The machine after reset. -/
def live : State := State.reset

/-- The machine after reset with changes to the device, in order. -/
def wit (fs : List (Dev → Dev)) : State := { live with dev := fs.foldl (fun d f => f d) live.dev }

/-- The blocks at the first pages `ps` Active. -/
def upAll (ps : List Nat) (d : Dev) : Dev := ps.foldl (fun e p => setBlockState p .active e) d

def put (F : Fld) (v : Nat) (n : Nat := 0) (i : Nat := 0) (d : Dev) : Dev := d.put F v n i

def rst (f : Bringup → Bringup) (d : Dev) : Dev := { d with rst := f d.rst }

/-- Every offered feature taken at page `p` (R62). -/
def feats (p : Nat) (d : Dev) : Dev := { d with sh := { d.sh with taken := (p, 2 ^ 96 - 1) :: d.sh.taken } }

/-- A caravan of cell 8 that holds frame `b`, and memory with it. -/
def frameAt8 (b : Bytes) (s : State) : State :=
  let d := { s.dev with ser := { s.dev.ser with use := [(8, 5)], caravans := [(8, { cells := [8] })] } }
  { s with dev := d, mem := writeFrame d 8 b s.mem }

/-- Every feature committed. -/
def allFeats (d : Dev) : Dev :=
  [1, 2, 3].foldl (fun e w => e.put DRV_FEAT_ACCEPT (2 ^ 32 - 1) 0 w) (d.put SYSFEAT_STATUS_COMMITTED 1)

/-- Region 0 of a customs table grants every master everything up to granule 0x3FFFFFF. -/
def openTo (t : CustomsTarget) (d : Dev) : Dev :=
  [16, 20, 24, 28, 32, 36, 8].foldl (fun e o => e.put (customsFld t o 31) (if o = 8 then 0x3FFFFFF else 2 ^ 32 - 1) 0 0)
    (d.put (customsFld t 40 0) 1 0 0)

/-- The command on the state, and the state after it. -/
def after (c : Instr) (s : State) : State := match exec c s with
  | .next t => t
  | _ => s

/-! ### Well-formedness: each check refuses a term that breaks it alone -/

def no (l : List Instr) : Bool := l.all (fun c => !c.wf)
def yes (l : List Instr) : Bool := l.all Instr.wf

def b64 : List Byte := List.replicate 64 0
def m64 : List Bool := List.replicate 64 true
def tx0 : OutrTx := ⟨0, 0, false, 0⟩

theorem test_wf_accesses_refused : no [.regWrite 22 0xF000000000 0, .regWrite 0 0xEFFFFFFFFC 0, .regWrite 0 0xF000200000 0,
    .regWrite 0 0xF000000002 0, .regWrite 0 0xF000000000 (2 ^ 32), .absentPageWrite 0 512, .ctrlFreezeWrite 0 0 2,
    .masterAccess { master := 22, kind := .read, target := .addr 0, len := 4, data := [] },
    .masterAccess { master := 0, kind := .read, target := .addr 0, len := 0, data := [] },
    .masterAccess { master := 8, kind := .read, target := .addr 0, len := 4, data := [], cache := [.l1Clean] },
    .masterAccess { master := 0, kind := .write, target := .addr 0, len := 4, data := [0] }] = true := by decide

theorem test_wf_serai_refused : no [.cellAdmit 8 1, .cellAdmit 0 0, .seraiTransfer 16 0 true 0 b64 m64 [] [],
    .seraiTransfer 0 0 true (2 ^ 25) b64 m64 [] [], .seraiTransfer 0 0 true 32 b64 m64 [] [], .seraiTransfer 0 0 true 0 [0] m64 [] [],
    .seraiTransfer 0 0 true 0 b64 [true] [] [], .seraiTransfer 0 0 true 0 b64 m64 [⟨34, 1⟩] [],
    .seraiTransfer 0 0 true 0 b64 m64 [] [⟨0, 0⟩], .scrubRead [⟨34, 1⟩], .scrubRead [⟨33, 0⟩], .allocFree 0 8 0, .spillReturn 16384,
    .enqueue .waystation { head := 0, len := 0, queue := 16384 } false, .ringEnable 0 64, .txDescComplete 0 (2 ^ 16)] = true := by decide

theorem test_wf_time_and_dram_refused : no [.timeFifoPop 0 9, .captureEdge 8 false, .evtEnable 0 8, .dramRequestServe 2 0 true false [],
    .dramRequestServe 0 2 true false [], .dramRequestServe 0 0 true false [⟨8, 0, 1⟩], .dramRequestServe 0 0 true false [⟨0, 10, 1⟩],
    .dramRequestServe 0 0 true false [⟨0, 0, 0⟩], .rtBurstDeclare 0 (2 ^ 38) 1, .rtBurstDeclare 0 0 0,
    .trnHelperDone 0 (2 ^ 32) 0 0 0, .trnHelperDone 0 0 (2 ^ 32) 0 0, .trnHelperDone 0 0 0 (2 ^ 32) 0, .trnHelperDone 0 0 0 0 (2 ^ 32),
    .rtcSnapshotRead 0 9 0, .rtcSnapshotRead 0 0 32768, .rtcHoldWrite 0 0 0, .rtcHoldWrite 0 9 0] = true := by decide

theorem test_wf_traffic_refused : no [.wayTableFetchDone (2 ^ 38) false, .wayTableFetchDone 32 false, .ctInsert 0 (2 ^ 24),
    .tblInv 0 (2 ^ 24), .staFreezeDone 2048, .mpduLifetimeExpire 0 9 0, .mpduLifetimeExpire 0 0 4096, .tmDecision 16,
    .airOccDequeue 3 0, .shaperHoldEnd 4096, .keyEraseDone 8192, .keyPnWrite 0 (2 ^ 48), .crDoorbell 0 7 0, .crDoorbell 0 16 0,
    .ciphManifestPass 4, .drvWait 0 8 0 false, .drvTimerFire 1024] = true := by decide

theorem test_wf_links_refused : no [.laneSignalDetect 9, .laneTrainDone 0 true 16 0, .laneTrainDone 0 true 0 64,
    .laneAutonegDone 0 true true 8, .ethFrameTx 6 0 1, .ethFrameTx 0 8 1, .ethFrameTx 0 0 0, .pauseExpire 0 9,
    .pcieInboundRequest (some 6) 0 false 4 [], .pcieInboundRequest none (2 ^ 40) false 4 [], .pcieInboundRequest none 0 false 0 [],
    .pcieInboundRequest none 0 false 4097 [], .pcieInboundRequest none 0 true 1 [0, 0], .pcieObMemRead 0 16, .pcieCompletion 3 0,
    .pcieCompletion 0 (2 ^ 32), .pcieCompletionTimeout (some 64), .prbsCheckerUnlocked 0 63, .prbsCheckerUnlocked 8 64] = true := by
  decide

theorem test_wf_members_and_radios_refused : no [.memberAgeSuspect 1024, .cvyRetxTimer 1024 0, .cvyRetxTimer 0 (2 ^ 32),
    .tombExpire 16 0, .tombExpire 0 (2 ^ 64), .keyActivation 256, .hoHoldExpire (2 ^ 48), .calStepDone 3 0 [],
    .calStepDone 0 0 [(8, 0, 0)], .calTrackPiece 0 8, .strcSilentSymbol 2 [], .linkAdd 0 3, .nbrAgeExpire 1024,
    .outrFrameTx 1024 tx0, .rfsDelivery 0 tx0 0 false] = true := by decide

theorem test_wf_edge_refused : no [.brynArbAdvance 0 (2 ^ 16) 0, .brynArbAdvance 0 0 256, .pmbXferDone 4 0, .pmbXferDone 2 0,
    .gpioBallEvent 32 true, .uartCharRx 256 0, .uartCharRx 0 8, .tapBrynbox 256 true 0, .powerOnReset false [3],
    .supplyMonitorRelease 3, .internalResetRelease 4 true 0 false, .internalResetRelease 0 true 8 false,
    .preparationDone 16] = true := by decide

theorem test_wf_limits_pass : yes [.regWrite 21 0xF0001FFFFC (2 ^ 32 - 1), .absentPageWrite 0 511, .ctrlFreezeWrite 0 0 1,
    .masterAccess { master := 21, kind := .write, target := .addr 0, len := 1, data := [0] }, .cellAdmit 7 1,
    .seraiTransfer 15 21 true (2 ^ 25 - 64) b64 m64 [⟨33, 1⟩] [⟨0, 255⟩], .ringEnable 0 63, .spillReturn 16383,
    .dramRequestServe 1 1 true false [⟨7, 9, 1⟩], .rtcSnapshotRead 0 8 32767, .crDoorbell 0 8 0, .crDoorbell 0 15 0, .laneSignalDetect 8,
    .pcieInboundRequest (some 5) (2 ^ 40 - 1) true 4096 [], .prbsCheckerUnlocked 7 64, .calStepDone 2 (-40) [(7, 0, 0)], .preparationDone 15,
    .staFreezeDone 2047, .memberAgeSuspect 1023, .nbrAgeExpire 1023, .keyActivation 255] = true := by decide

/-! ### Witnesses: the registers, blocks and resets -/

theorem witness_StepRunsTheFrontCommand : live.pending = [] ∧ ∃ t, step live = .next t := ⟨rfl, _, rfl⟩

theorem witness_EveryStepKeepsStateSound :
    let s := { live with pending := [.wdogKick 16 0xC3A5, .slewDone] }
    s.sound = true ∧ ∃ t, step s = .next t ∧ t.pending = [.slewDone] := ⟨by decide, _, rfl, by decide⟩

theorem witness_ResetIsSound : ∀ p ∈ [0x10, 0xFF], p < 256 ∧ alwaysOn p = false ∧ p ≠ pBryn := by decide

theorem witness_FrozenDeviceIgnoresCommands : 
    frozen (wit [rst (fun r => { r with asserted := true })]).dev = true ∧
    frozen (wit [rst (fun r => { r with warmPending := true })]).dev = true := by decide

theorem witness_CustomsTablesDecide :
    (∀ a ∈ [seraiBase, seraiBase + 0x1FFFFFF], seraiBase ≤ a ∧ a + 1 ≤ seraiBase + 0x2000000) ∧
    memVerdict (wit [upAll [0xB0], put SYS_UNIT_STATE_UNIT 2 0 1, put SYS_UNIT_STATE_UNIT 2 0 2]).dev 16 .write 0 64 = .granted := by decide

theorem witness_FirstErrorIsCaptured :
    holding live.dev 0x10 = false ∧ live.dev.on HDR_ERR_CODE_VALID 0x10 = false ∧
    (wit [put HDR_ERR_CODE_VALID 1 0x10]).dev.on HDR_ERR_CODE_VALID 0x10 = true := by decide

theorem witness_PageWritesAct :
    present live.dev 0x1FF = false ∧ pageWritable live.dev 16 0x1FF = true ∧ pageWritable live.dev 0 0x1FF = false ∧
    writeTaken live.dev 16 0 = true ∧ writeTaken live.dev 16 pPmb = true ∧ cfgLocked live.dev pPmb = false ∧
    isOff (wit [upAll [pPmb]]).dev pPmb = false ∧ heldLo live.dev 16 (regAddr pPmb 0x03C) = none ∧
    postRoom (wit [upAll [pDrover], fun d => { d with sh := { d.sh with heldLines := [1023] } }]).dev = true := by decide

theorem witness_FeatureCommitActs :
    writeTaken live.dev 16 1 = true ∧ live.dev.on SYSFEAT_STATUS_COMMITTED = false ∧ live.dev.sh.commit = none ∧
    (wit [put SYSFEAT_STATUS_COMMITTED 1]).dev.on SYSFEAT_STATUS_COMMITTED = true ∧
    (∀ r ∈ requirements, wordsHave [0, 0, 0] r.1.1 r.1.2 = true → wordsHave [0, 0, 0] r.2.1 r.2.2 = true) ∧
    (∃ r ∈ requirements, wordsHave [2, 0, 0] r.1.1 r.1.2 = true ∧ wordsHave [2, 0, 0] r.2.1 r.2.2 = false) := by
  decide

theorem witness_FabricAccessesAct :
    let d := (wit [upAll [pPcie], put PCIE_STATUS_DL_UP 1, put PCIE_CFG_MODE 1, put PCIE_CFG_EP_READY 1,
      put SYS_STATUS_LEVEL lvFULL, openTo .serai]).dev
    let e := (wit [openTo .serai, upAll [pCore 7]]).dev
    memVerdict e 7 .read seraiBase 1 = .granted ∧ memVerdict e 7 .write (seraiBase + 0x1FFFFC0) 64 = .granted ∧
    present e (pCore 7) = true ∧ isOff e (pCore 7) = false ∧ holding e (pCore 7) = false ∧
    live.memCanonical = true ∧ memVerdict live.dev 16 .write seraiBase 1 = .granted ∧
    memVerdict live.dev 16 .read (seraiBase + 0x1FFFFFF) 1 = .granted ∧ memVerdict live.dev 0 .write seraiBase 1 ≠ .granted ∧
    memVerdict live.dev 0 .read seraiBase 1 ≠ .granted ∧
    pcieAnswers d = true ∧ barsLimited d = false ∧ d.on PCIE_CFG_MODE = true ∧
    memVerdict d 17 .write seraiBase 1 = .granted ∧ memVerdict d 17 .read (seraiBase + 0x1FFFFFF) 1 = .granted := by decide

theorem test_cache_writeback_poisons_its_line :
    let t := after (.masterAccess ⟨7, .read, .addr seraiBase, 4, [], [.writeBack (seraiBase + 0x45)]⟩)
      (wit [openTo .serai, upAll [pCore 7]])
    t.dev.ser.poison = [2, 3] ∨ t.dev.ser.poison = [3, 2] := by decide

theorem witness_BlockStatesMove :
    (∀ b ∈ [BlockState.off, .starting, .active, .draining, .drainingRestart],
      let d := (wit [setBlockState 0x50 b, put SYS_STATUS_LEVEL lvFULL]).dev
      ctrlReaches d 16 0x50 = true ∧ enFixed 0x50 = false ∧ inSoftReset d 0x50 = false ∧ level d ≠ lvSTOPPING ∧
      blockState d 0x50 = b ∧ mayStart d 0x50 = true ∧ drainMayEnd d 0x50 = true) ∧
    present live.dev 0x50 = true ∧ firstPage 0x50 = 0x50 := by decide

theorem witness_SoftResetAndFreezeAct :
    let d := (wit [put HDR_CTRL_SOFT_RST 1 0x50]).dev
    ctrlReaches live.dev 16 0x50 = true ∧ ignoresSoft 0x50 = false ∧ inSoftReset live.dev 0x50 = false ∧
    inSoftReset d 0x50 = true ∧ pageWritable d 16 0x55 = true ∧ present d 0x55 = true ∧ inSoftReset d 0x55 = true ∧
    live.dev.sh.frozenCounts = [] ∧ live.dev.sh.frozenErrs = [] ∧
    ctrlReaches live.dev 16 pUart = true ∧ inSoftReset live.dev pUart = false ∧ live.dev.on DIAG_STATUS_SNAP = false := by
  decide

theorem witness_ReportsReachDiag : holding live.dev pDiag = false ∧ live.dev.rd DIAG_STATUS_LOG_COUNT = 0 ∧
    (wit [put DIAG_STATUS_LOG_COUNT 16]).dev.rd DIAG_STATUS_LOG_COUNT = 16 := by decide

theorem witness_DiagAndPaceAct :
    let g := fun v => (wit [upAll [pPace], feats pPace, put PACE_VNOW_VNOW v,
      put PACE_VLIMIT_VMIN 20, put PACE_FLOOR_FLOOR 100 0 0]).dev
    (∀ b ∈ [0, 1], writeTaken (wit [upAll [pDiag], put DIAG_STATUS_SNAP b]).dev 16 pDiag = true ∧
      isActive (wit [upAll [pDiag], put DIAG_STATUS_SNAP b]).dev pDiag = true) ∧
    (wit [put DIAG_STATUS_GRACE 1]).dev.on DIAG_STATUS_GRACE = true ∧ governorOn live.dev = false ∧ governorOn (g 0) = true ∧
    paceVmax (g 255) < (g 255).rd PACE_VNOW_VNOW ∧ (g 0).rd PACE_VNOW_VNOW < paceVmin (g 0) ∧
    paceVmin (g 120) ≤ 120 ∧ 120 ≤ paceVmax (g 120) ∧ paceLow (g 120) ((g 120).rd PACE_GOV_MARGIN_UP) = true := by decide

theorem witness_ColdResetsAct : writeTaken live.dev 16 0 = true ∧ 0xD4A7 % 2 ^ 16 = 0xD4A7 := by decide

theorem witness_WarmResetsAct : portOpen live.dev = true ∧ live.dev.rst.warmPending = false ∧
    portOpen (wit [fun d => { d with bryn := { d.bryn with lc := lcDEPLOYED } }]).dev = false ∧
    (wit [rst (fun r => { r with warmPending := true })]).dev.rst.warmPending = true := by decide

theorem witness_ResetReleaseActs :
    let r := { live.dev.rst with asserted := true, counting := true }
    releaseOk r = true ∧ releaseOk { r with pwrGood := false } = false ∧ releaseOk { r with otpFaults := 3 } = true ∧ r.otpFaults < 3 ∧ present live.dev pPcie = true := by
  decide

theorem witness_InterruptLinesFollowStatus :
    3 < 4 ∧ lineOn (wit [put HDR_INT_RAW_RAW (2 ^ 31) pGpio, put HDR_INT_EN_EN (2 ^ 31) pGpio]).dev pGpio 3 = true := by decide

theorem witness_PreparationsMove :
    let p := fun u => (wit [put SYS_UNIT_STATE_UNIT 1 0 u, put SYS_UNIT_STATE_UNIT 2 0 0]).dev
    (∀ u ∈ [1, 15], unitPresent live.dev u = true ∧ unitState live.dev u ≠ 1 ∧ unitInUse live.dev u = false) ∧
    unitInUse (wit [upAll [0x58]]).dev 7 = true ∧ level live.dev = lvVERIFY ∧
    (∀ u ∈ [8, 15], unitState (p u) u = 1 ∧ unitWaits (p u) u = false ∧ prepEnded (p u) u = true) ∧
    (∀ c ∈ [0, 1], writeTaken (p (1 + c)) 16 (pDram c + 2) = true ∧ unitState (p (1 + c)) (1 + c) = 1 ∧
      unitWaits (p (1 + c)) (1 + c) = false) ∧
    unitState (wit [put SYS_UNIT_STATE_UNIT 1 0 0]).dev 0 = 1 ∧
    (radioOf (wit [radioMod 2 (fun r => { r with cal := some .prep })]).dev 2).cal = some .prep := by decide

theorem witness_BootImagesAct :
    let d := fun b => (wit [rst (fun r => { r with backup := b, bootMode := 2 })]).dev
    brynReads live.dev = true ∧ level live.dev = lvVERIFY ∧ live.dev.rst.recovGo = none ∧ live.dev.rst.bootMode = 0 ∧
    (∀ b ∈ [false, true], imageFail (d b) kBoot none ≠ 0 ∧ imageFail (d b) kBoot (some []) ≠ 0 ∧ (d b).rst.backup = b) ∧
    live.dev.rst.recovOpen = false ∧ (0x80000000).testBit 31 = true := by decide

/-- An image passes when each check of R625 does: the two signature checks are open functions of Config, so no concrete
image can be shown to pass or to fail them. -/
theorem witness_image_passes (d : Dev) (k : Nat) (b : Bytes) (h0 : headerBytes ≤ b.length) (h1 : headerFormed b = true)
    (h2 : hdrKind b = k) (h3 : isToken k = true) (h4 : hdrLen b = 0) (h5 : signerOk d b = true) (h6 : keyHashOk d b = true)
    (h7 : d.bryn.lc = lcRMA ∨ tabGet d.bryn.arb (hdrArb b) 0 ≤ hdrSvn b) (h8 : tokenBound d b = true)
    (h9 : Config.ed25519Verify (slice b 0x100 32) (b.take 0x8C0) (slice b 0x8C0 64) = true)
    (hA : Config.mlDsaVerify (slice b 0x120 1952) (b.take 0x8C0) (slice b 0x900 3309) = true) :
    imageFail d k (some b) = 0 := by
  have e0 : ¬ b.length < headerBytes := Nat.not_lt.2 h0
  have e7 : ¬ (d.bryn.lc ≠ lcRMA ∧ hdrSvn b < tabGet d.bryn.arb (hdrArb b) 0) := by omega
  simp [imageFail, e0, h1, h2, h3, h4, h5, h6, e7, h8, h9, hA]

theorem witness_WatchdogAndShutdownAct :
    let s := fun k => (wit [put SYS_STATUS_LEVEL lvSTOPPING, put SYS_STATUS_STOP_PHASE k]).dev
    writeTaken live.dev 16 0 = true ∧ level live.dev ≠ lvSTOPPING ∧ bitsOf 0xD4A70000 31 16 = 0xD4A7 ∧
    (∀ a ∈ [0, 1, 2], (wit [put SYS_WDOG_CFG_EN 1, put SYS_WDOG_CFG_ACTION a]).dev.on SYS_WDOG_CFG_EN = true) ∧
    (∀ k ∈ [1, 5], level (s k) = lvSTOPPING ∧ (s k).rd SYS_STATUS_STOP_PHASE = k) ∧ phaseDone (s 1) 1 = true ∧
    phaseDone (s 3) 3 = false ∧ (s 3).rst.graceOver = false ∧
    (∀ n ∈ [0, 7], present live.dev (0xA0 + n) = true ∧ isActive (wit [upAll [0xA0 + n]]).dev (0xA0 + n) = true) := by
  decide

theorem witness_BrynTakesCommands :
    let box := fun l => (wit [fun d => { d with bryn := { d.bryn with lc := l } }]).dev
    (box lcSCRAPPED).bryn.lc = lcSCRAPPED ∧ live.dev.rst.brynHeld = false ∧ live.dev.on BRYN_CMD_STATUS_BUSY = false ∧
    (∀ c ∈ [1, 2, 3, 4, 5, 6, 7, 8, 9, 0xA, 0xB, 0xC, 0xD], brynTakes live.dev 7 c = true) ∧
    (∀ c ∈ [(1, 0, 0), (2, 0, 0), (3, 0, 0), (4, 15, 64), (5, 3, 0), (9, 0, 0), (0xA, 0, 0), (0xB, 0, 0), (0xC, 0, 0),
      (0xD, 7, 0)], brynAllowed live.dev c.1 c.2.1 c.2.2 = true) ∧
    brynAllowed (box lcPROVISIONED) 7 0 0 = true ∧ brynAllowed live.dev 4 16 0 = false ∧
    (wit [put BRYN_CMD_STATUS_BUSY 1]).dev.on BRYN_CMD_STATUS_BUSY = true ∧
    brynInput live.dev [] 7 4 0 = some [] ∧ bufGrant live.dev 7 .write 0 (bufOut 4) = true := by decide

theorem witness_BrynCommandsComplete :
    let d := (wit [upAll [pCore 0]]).dev
    live.dev.bryn.job = none ∧ imageFail live.dev kSecondary (some []) ≠ 0 ∧ live.memCanonical = true ∧
    lcPROVISIONED ≠ lcBLANK ∧ (∀ n ∈ [0, 7], writeTaken live.dev 19 (pCore n) = false ∨ portOpen live.dev = true) ∧
    (∀ n ∈ [0, 7], writeTaken (wit [openTo .regs]).dev 19 (pCore n) = true) ∧ portOpen live.dev = true ∧
    isActive d (pCore 0) = true := by decide

/-! ### Witnesses: time -/

theorem witness_TimeBaseMoves :
    let d := (wit [upAll [pTime], put PPS_CFG_IN_EN 1, put TIME_SMP_CFG_KIND 1]).dev
    writeTaken live.dev 16 pTime = true ∧ writeTaken live.dev 16 (pTime + 1) = true ∧ pageReadable live.dev 16 pTime = true ∧
    (∀ b ∈ [0, 1], (wit [put TIME_SERVO_CFG_EN b]).dev.on TIME_SERVO_CFG_EN = (b == 1)) ∧
    live.dev.on TIME_STATUS_REF_LOST = false ∧ (wit [put TIME_STATUS_REF_LOST 1]).dev.on TIME_STATUS_REF_LOST = true ∧
    isActive d pTime = true ∧ d.on PPS_CFG_IN_EN = true ∧ edgeIs (d.rd PPS_CFG_IN_EDGE) false = true ∧ isSource d 15 = false ∧
    servoState (wit [put TIME_STATUS_STATE stHoldover]).dev ≠ stFree ∧ d.rd TIME_SMP_CFG_KIND = 1 ∧
    portUsable d 0 = true ∧ sampleD d TIME_SMP_D_SM_LO_D TIME_SMP_D_SM_HI_D = 0 ∧
    d.on TIME_PORT_STATUS_VALID 0 0 = false ∧ d.on TIME_PORT_STATUS_STEPPED 0 0 = false := by decide

theorem witness_TimeFifosAndOutputsAct :
    let d := (wit [upAll [pTime], put CAP_CFG_EN 1 0 7, put CAP_CFG_EDGE 2 0 7, put EVT_WIDTH_NS 2 0 7,
      put PPS_CFG_OUT_EN 1]).dev
    let e := (wit [upAll [pTime], put EVT_CFG_EN 1 0 7, put EVT_STATUS_ARMED 1 0 7]).dev
    pageReadable d 16 (pTime + 2) = true ∧ pageReadable d 16 (pTime + 3) = true ∧ (timePort d 8).fifo = [] ∧
    d.on CAP_CFG_EN 0 7 = true ∧ 2 ≤ d.rd CAP_CFG_EDGE 0 7 ∧ capFifo d 7 = [] ∧
    writeTaken d 16 (pTime + 3) = true ∧ d.on EVT_CFG_EN 0 7 = false ∧ d.rd EVT_WIDTH_NS 0 6 < 2 ∧
    2 ≤ d.rd EVT_WIDTH_NS 0 7 ∧ d.rd EVT_CFG_MODE 0 7 ≠ 1 ∧ nowTotal d ≤ evtStart d 7 ∧
    isActive e pTime = true ∧ e.on EVT_CFG_EN 0 7 = true ∧ e.on EVT_STATUS_ARMED 0 7 = true ∧
    d.on PPS_CFG_OUT_EN = true ∧ d.time.ppsLast = none := by decide

theorem witness_TickAdvancesTheTimeBase : live.pending = [] ∧ frozen live.dev = false ∧
    live.dev.on TIME_STATUS_REF_LOST = false ∧ ∃ t, step live = .next t := ⟨rfl, by decide, by decide, _, rfl⟩

theorem witness_CalendarAdvances :
    let t : RtcTime := { live.dev.rtc.now with sec := 0x59, min := 0x59, hour := 0x23 }
    rtcValid live.dev.rtc.now = true ∧ rtcValid t = true ∧ secOfDay live.dev.rtc.now < 86399 ∧ secOfDay t = 86399 ∧
    dateKey t ≠ 23991231 ∧ rtcValid { t with date := 0x31, month := 0x12, year := 0x99, century := 0x23, wday := 5 } = true ∧
    dateKey { t with date := 0x31, month := 0x12, year := 0x99, century := 0x23, wday := 5 } = 23991231 := by decide

theorem witness_BackupDomainAndRtcAct :
    let bad := (wit [fun d => { d with rtc := { d.rtc with hold := some { d.rtc.now with sec := 0x60 }, crystal := false } }]).dev
    live.dev.rtc.onBattery = false ∧ live.dev.rtc.crystal = true ∧ bad.rtc.crystal = false ∧
    pageReadable live.dev 16 pRtc = true ∧ writeTaken live.dev 16 pRtc = true ∧ snapLive live.dev = none ∧
    rtcValid (live.dev.rtc.hold.getD live.dev.rtc.now) = true ∧ rtcValid (bad.rtc.hold.getD bad.rtc.now) = false ∧
    live.dev.rtc.spoilt = false ∧ netMeasuring (wit [put RTC_CFG_NET_EN 1, allFeats, feats pRtc, put HDR_FEAT_ACCEPT_ACCEPT 1 pRtc, put TIME_STATUS_STATE 2, upAll [pRtc]]).dev = true := by decide

/-! ### Witnesses: the edge, the Serai, the queues and the rings -/

theorem witness_GpioAndUartAct :
    let d := (wit [upAll [pGpio, pUart], put GPIO_INT_EDGE_EDGE (2 ^ 31), put GPIO_INT_POL_POL (2 ^ 31),
      fun d => { d with edge := { d.edge with uartTx := [65], uartRx := [66] } }]).dev
    writeTaken d 16 pGpio = true ∧ writeTaken d 16 pUart = true ∧ isActive d pGpio = true ∧ isActive live.dev pGpio = false ∧
    (d.rd GPIO_INT_EDGE_EDGE).testBit 31 = true ∧ (d.rd GPIO_INT_POL_POL).testBit 31 = true ∧
    d.edge.gpio.testBit 31 = false ∧ isActive d pUart = true ∧ d.edge.uartRx.length < 64 ∧
    64 ≤ (List.replicate 64 0).length ∧ pageReadable d 16 pUart = true ∧ present d pUart = true ∧ live.dev.edge.uartRx = [] := by
  decide

theorem witness_SpiAndPmbusAct :
    let d := (wit [upAll [pSpi, pPmb], put PMB_STATUS_MODE_VALID 1, openTo .regs,
      fun d => { d with edge := { d.edge with volts := [80] } }]).dev
    let b := (wit [put SPI_STATUS_BUSY 1, put PMB_STATUS_BUSY 1,
      fun d => { d with edge := { d.edge with spi := some 0, pmb := some (.soft true) } }]).dev
    writeTaken d 16 pSpi = true ∧ writeTaken d 0 pSpi = true ∧ d.rd SYS_STATUS_LEVEL < 3 ∧ isActive d pSpi = true ∧
    d.on SPI_STATUS_BUSY = false ∧ b.on SPI_STATUS_BUSY = true ∧ b.edge.spi = some 0 ∧ writeTaken d 16 pPmb = true ∧
    isActive d pPmb = true ∧ d.on PMB_STATUS_BUSY = false ∧ b.on PMB_STATUS_BUSY = true ∧ d.edge.pmb = none ∧
    d.on PMB_STATUS_MODE_VALID = true ∧ d.edge.volts = [80] ∧ b.edge.pmb = some (.soft true) := by decide

theorem witness_TestAccessPortActs : portOpen live.dev = true ∧ frozen live.dev = false ∧
    portOpen (wit [fun d => { d with bryn := { d.bryn with lc := lcSCRAPPED } }]).dev = false := by decide

/-- A Serai with a caravan of cells 8 and 9, counted twice, and one of cell 7. -/
def seraiWith (d : Dev) : Dev :=
  { d with ser := { d.ser with use := [(7, 3), (8, 3), (9, 3), (10, 3)],
                               caravans := [(8, { cells := [8, 9], refs := 2 }), (7, { cells := [7] })] } }

theorem witness_AdmissionFollowsThresholds :
    let d := (wit [upAll [pSerai]]).dev
    cellsFor (headRoom d) 1 ≤ freeCells d ∧ isActive live.dev pSerai = false ∧
    (∀ c ∈ [0, 7], (admitTest d c (cellsFor (headRoom d) 64)).isSome = true) ∧
    beyondReserve d 0 1 = 0 ∧ beyondReserve d 0 131073 ≠ 0 ∧ admitTest d 7 131073 = none := by decide

theorem witness_AllocationWindowsAct :
    let d := (wit [upAll [pSerai], openTo .regs, seraiWith]).dev
    (∀ n ∈ [0, 7], writeTaken d n pSerai = true) ∧ admitTest d 3 (cellsFor (headRoom d) 64) ≠ none ∧
    admitTest live.dev 3 (cellsFor (headRoom d) 64) = none ∧ caravanAt d 8 = some { cells := [8, 9], refs := 2 } ∧
    caravanAt d 7 = some { cells := [7] } ∧ tabFind d.ser.use 6 = none ∧ tabFind d.ser.use 10 = some 3 ∧
    caravanAt d 10 = none ∧ (∀ e ∈ d.ser.caravans, 8 ∈ e.2.cells → e.2.cells = [] ++ 8 :: [9]) ∧
    (∀ e ∈ d.ser.caravans, 9 ∈ e.2.cells → e.2.cells = [8] ++ 9 :: []) := by decide

theorem witness_SeraiStoreActs :
    let d := (wit [upAll [pSerai], put SERAI_CFG_SCRUB_EN 1]).dev
    live.memCanonical = true ∧ portRoom d 15 = true ∧
    portRoom (wit [put SERAI_PORT_LIMIT_LIMIT 1 0 15, fun d => { d with ser := { d.ser with
      portUs := portUsNow d, portUsed := [(15, 1)] } }]).dev 15 = false ∧
    isActive d pSerai = true ∧ d.on SERAI_CFG_SCRUB_EN = true ∧ d.on SERAI_CFG_ECC_DETECT = false ∧
    decodeWord true [⟨33, 1⟩] = .bad ∧ tabFind d.ser.use (d.ser.scrubPos / 8) = none ∧ writeTaken d 16 pSerai = true ∧
    (classes.map (fun c => d.rd CLS_RESERVE_RESERVE 0 c + d.rd CLS_HEADROOM_HEADROOM 0 c)).sum ≤ 131008 ∧
    (∀ c, c < 8 → d.rd CLS_RESERVE_RESERVE 0 c ≤ d.rd CLS_LIMIT_LIMIT 0 c) ∧
    1025 ≤ d.rd CLS_RESERVE_RESERVE 0 4 ∧ 1024 ≤ d.rd CLS_RESERVE_RESERVE 0 7 ∧
    (wit [put CLS_RESERVE_RESERVE 0 0 4]).dev.rd CLS_RESERVE_RESERVE 0 4 < 1025 := by decide

theorem witness_EnqueueActs :
    let x : Manifest := { len := 64, queue := 16383, head := 8 }
    let d := (wit [put QMGR_Q_STATE_STATE 1 0 16383, seraiWith]).dev
    manifestBad x = false ∧ manifestBad { x with len := 0 } = true ∧ qState d 16383 = 1 ∧
    (qList d 16383).length < depthLimit d 16383 ∧ d.rd QMGR_STORE_RSV_RESERVE < storeFree d ∧ 0 < storeFree d ∧
    caravanAt d 8 = some { cells := [8, 9], refs := 2 } ∧ qState d 0 = 0 := by decide

theorem witness_QueueCommandsMove :
    let d := fun st => (wit [upAll [pQmgr], put QMGR_Q_STATE_STATE st 0 0]).dev
    let two := (wit [upAll [pQmgr], put QMGR_Q_STATE_STATE 1 0 16383, put QMGR_Q_CFG_OWNER_KIND 6 0 16383,
      put QMGR_Q_CFG_OWNER_KIND 6 0 0, put QMGR_Q_CFG_OWNER_INDEX 1 0 0, put QMGR_Q_CFG_OWNER_INDEX 1 0 16383]).dev
    (∀ st ∈ [0, 1, 2, 3], writeTaken (d st) 16 pQmgr = true ∧ qSelected (d st) = 0 ∧ isActive (d st) pQmgr = true ∧
      (d st).on QMGR_Q_CMD_BUSY 0 0 = false ∧ qState (d st) 0 = st) ∧
    isActive live.dev pQmgr = false ∧ ownerTaken (d 0) 0 = false ∧ ownerTaken two 0 = true ∧
    ownerValid live.dev.variant (ownerKind two 0) (ownerIndex two 0) = true ∧
    ownerValid live.dev.variant 7 0 = false ∧
    (wit [put QMGR_Q_CMD_BUSY 1 0 16383]).dev.on QMGR_Q_CMD_BUSY 0 16383 = true ∧
    holding live.dev pQmgr = false ∧ live.dev.rd DIAG_SNAP_AUTO < 2 := by decide

/-- Both DRAM channels up, and the DRAM open to every master. -/
def dramUp (d : Dev) : Dev :=
  openTo .dram (upAll [0xB0, 0xB4] ((d.put SYS_UNIT_STATE_UNIT 2 0 1).put SYS_UNIT_STATE_UNIT 2 0 2))

/-- A spill region of 1 MB, ready, and a queue whose third manifest has a caravan of three cells. -/
def spillWith (d : Dev) : Dev :=
  let e := put SPILL_STATUS_READY 1 0 0 (put SPILL_CFG_EN 1 0 0 (put SPILL_SIZE_SIZE 1 0 0 (allFeats (dramUp d))))
  let f := put SPILL_STATUS_ACTIVE 1 0 0 (put SPILL_SLOTS_FREE_SLOTS 2 0 0 (put SPILL_LOW_LOW 0 0 0 (put SPILL_RETURN_RETURN_DEPTH 1 0 0 e)))
  put QMGR_Q_STATE_STATE 1 0 1 (put QMGR_Q_CFG_SPILLABLE 1 0 1 { f with
    ser := { f.ser with caravans := [(8, { cells := [8, 9, 10] }), (7, { cells := [7] }),
      (6, { cells := [6], spill := some (0, 2) })] }
    q := { f.q with lists := [(1, [{ head := 7, len := 64, queue := 1 }, { head := 7, len := 64, queue := 1 },
      { head := 8, len := 600, queue := 1 }]),
      (2, [{ head := 6, len := 600, queue := 2 }])] } })

theorem spillWith_open (k : AccKind) (a n : Nat) (h0 : 0 < n) (h : a + n ≤ 2 ^ 22) :
    memVerdict (wit [spillWith]).dev 21 k a n = .granted := by
  have c0 : dramCapacity (wit [spillWith]).dev = 34359738368 := by decide
  have a0 : isActive (wit [spillWith]).dev 0xB0 = true := by decide
  have a1 : isActive (wit [spillWith]).dev 0xB4 = true := by decide
  have r1 : regionOf a = .dram := if_pos (by omega)
  have r2 : regionOf (a + (n - 1)) = .dram := if_pos (by omega)
  have ch : channelOf (wit [spillWith]).dev a = 0 ∨ channelOf (wit [spillWith]).dev a = 1 := by
    unfold channelOf
    split
    · exact .inl rfl
    · split
      · omega
      · split <;> simp
  have grant : ∀ g, g ≤ 0x3FFFFFF → granuleGrants (wit [spillWith]).dev .dram g 21 k = true := by
    intro g hg
    have f0 : regionOn (wit [spillWith]).dev .dram 0 = true := by decide
    have f1 : regionFirst (wit [spillWith]).dev .dram 0 = 0 := by decide
    have f2 : regionLast (wit [spillWith]).dev .dram 0 = 0x3FFFFFF := by decide
    have f3 : regionGrants (wit [spillWith]).dev .dram 0 21 k = true := by cases k <;> decide
    have e : List.range 16 = 0 :: (List.range 16).tail := by decide
    rw [granuleGrants, e, List.find?_cons_of_pos (by simp [f0, f1, f2, hg])]
    exact f3
  have act : isActive (wit [spillWith]).dev (0xB0 + 4 * channelOf (wit [spillWith]).dev a) = true := by
    rcases ch with h | h <;> rw [h]
    · exact a0
    · exact a1
  have n1 : ¬ dramCapacity (wit [spillWith]).dev ≤ a + (n - 1) := by rw [c0]; omega
  simp [memVerdict, r1, r2, n1, act, customsGrant, grant (a / 4096) (by omega), grant ((a + (n - 1)) / 4096) (by omega)]

theorem witness_SpillMovesTails :
    let d := (wit [spillWith]).dev
    (wit [spillWith]).memCanonical = true ∧ slotCount d = 4032 ∧
    (∀ i, i < slotCount d → linkAddr d i + 4 ≤ 2 ^ 22 ∧ slotAddr d i + 256 ≤ 2 ^ 22) ∧
    d.on SPILL_CFG_EN = true ∧ spillAccepted d = true ∧ spillReady d = true ∧ d.on SPILL_STATUS_READY = true ∧
    spillAccepted live.dev = false ∧ writeTaken d 16 pSpill = true ∧ d.on SPILL_STATUS_ACTIVE = true ∧
    d.rd SPILL_LOW_LOW ≤ occTotal d ∧ spillQueue d = some (1, { head := 8, len := 600, queue := 1 }) ∧
    caravanAt d 8 = some { cells := [8, 9, 10] } ∧ d.ser.slotFrees = [] ∧ 2 ≤ d.rd SPILL_SLOTS_FREE_SLOTS ∧
    caravanAt d 6 = some { cells := [6], spill := some (0, 2) } ∧ admitTest d 7 2 = none ∧ d.dram.poison = [] ∧
    admitTest (wit [spillWith, upAll [pSerai]]).dev 7 2 ≠ none ∧ (chainSlots 2 d.ser.spillFree d [(0, 1)]).Nodup := by
  refine ⟨by decide, by decide, fun i h => ?_, by decide⟩
  have e : slotCount (wit [spillWith]).dev = 4032 := by decide
  have b : spillBase (wit [spillWith]).dev = 0 := by decide
  have s : spillBytes (wit [spillWith]).dev = 2 ^ 20 := by decide
  simp only [linkAddr, slotAddr, b, s]
  omega

/-- Ring 63 on a DRAM base, of KIND `k` and DIR `dir`, active, with entry 0 owned by the device. -/
def ringWith (k dir : Nat) (d : Dev) : Dev :=
  [put HR_CFG_KIND k 0 63, put HR_CFG_DIR dir 0 63, put HR_CFG_LOC 1 0 63, put HR_CFG_LOG2SIZE 3 0 63, put HR_CFG_MASTER 0 0 63,
    put HR_CFG_EN 1 0 63, put HR_STATUS_ACTIVE 1 0 63, put HR_SW_IDX_SW_IDX 1 0 63].foldl (fun e f => f e)
    (upAll [pRing] (dramUp (openTo .rings (openTo .serai d))))

theorem witness_RingControlActs :
    let d := (wit [ringWith 1 0, openTo .regs]).dev
    let off := (wit [ringWith 1 0, put HR_CFG_EN 0 0 63]).dev
    let p := (wit [ringWith 1 0, put HR_STATUS_PENDING 1 0 63, put HR_MOD_PKT_THRESH 1 0 63, put HR_STATUS_ARMED 1 0 63, put HR_ROUTE_KIND 0 0 63]).dev
    let c := (wit [ringWith 1 0, put HR_CFG_LOC 0 0 63, upAll [pSerai], ringMod 63 (fun r => { r with claiming := true })]).dev
    let used := (wit [ringWith 1 0, upAll [pSerai], seraiWith, ringMod 63 (fun r => { r with claiming := true }),
      put HR_BASE_LO_BASE 8 0 63]).dev
    writeTaken (wit [openTo .regs]).dev 0 (pRingRegs 63) = true ∧
    customsGrant (wit [openTo .regs]).dev .rings 63 63 0 .write = false ∧
    writeTaken d 0 (pRingRegs 63) = true ∧ customsGrant d .rings 63 63 0 .write = true ∧ d.on HR_CFG_EN 0 63 = true ∧
    ringComboOk off 63 = true ∧ ringHostOk off 63 = true ∧ off.on HR_CFG_EN 0 63 = false ∧
    ringComboOk (wit [ringWith 1 0, put HR_CFG_KIND 3 0 63]).dev 63 = false ∧ (ringOf d 63).retry = none ∧
    0 < p.rd HR_STATUS_PENDING 0 63 ∧ p.rd HR_MOD_PKT_THRESH 0 63 ≤ 1 ∧ p.on HR_WB_LO_WB_EN 0 63 = false ∧
    p.rd HR_ROUTE_KIND 0 63 = 0 ∧ p.on HR_STATUS_ARMED 0 63 = true ∧ writeTaken d 16 pRingIdx = true ∧
    doorbellOk d 63 8 = true ∧ doorbellOk d 63 9 = false ∧ d.on HR_CFG_AUTO_FREE 0 63 = false ∧
    (ringOf c 63).claiming = true ∧ isActive c pRing = true ∧
    (∀ y ∈ (List.range (ringCells c 63)).map (ringFirstCell c 63 + ·), y < 131072 ∧ tabFind c.ser.use y = none ∧ y ∉ c.ser.quar) ∧
    admitTest c (ringClass c 63) (ringCells c 63) ≠ none ∧
    ¬(∀ y ∈ (List.range (ringCells used 63)).map (ringFirstCell used 63 + ·), tabFind used.ser.use y = none) := by decide +kernel

/-- Memory with a TX descriptor at DRAM address 0: ADDR 0x1000, LENGTH 64. -/
def descMem (len : Nat) : Memory := memWrite [] 0 (toBytes 8 0x1000 ++ toBytes 4 len ++ toBytes 4 0)

theorem witness_RingTransfersAct :
    let d := (wit [ringWith 1 0]).dev
    let e := (wit [ringWith 0 0]).dev
    let x : Manifest := { head := 8, len := 64, queue := 5, flags := 2 ^ fBypass }
    let r := fun st => (wit [ringWith 1 0, put QMGR_Q_STATE_STATE st 0 5, put HR_CFG_FULL_WAIT 1 0 63,
      ringMod 63 (fun r => { r with retry := some x })]).dev
    let rx := fun k => (wit [ringWith k 1, put HR_SW_IDX_SW_IDX k 0 63, handTo 10 x, seraiWith, put QMGR_Q_CFG_OWNER_KIND 5 0 5,
      put QMGR_Q_CFG_OWNER_INDEX 63 0 5]).dev
    (txNext d 63 = some 0 ∧ ringIsBuffer d 63 = true ∧ memVerdict d 0 .read (entryAddr d 63 0) 32 = .granted ∧
      bitsOf (wordAt (memRead (descMem 64) (entryAddr d 63 0) 32) 2) 17 0 = 64 ∧
      bitsOf (wordAt (memRead (descMem 0) (entryAddr d 63 0) 32) 2) 17 0 = 0 ∧
      admitTest d 2 (cellsFor (headRoom d) 64) = none ∧
      admitTest (wit [ringWith 1 0, upAll [pSerai]]).dev 2 (cellsFor (headRoom d) 64) ≠ none ∧
      (wordAt (memRead (descMem 64) (entryAddr d 63 0) 32) 3).testBit 26 = false ∧
      memVerdict d 0 .read 0x1000 64 = .granted) ∧
    (txNext e 63 = some 0 ∧ ringIsBuffer e 63 = false ∧ ringCompact e 63 = false ∧ (ringOf e 63).waits = [] ∧
      flagOf (manifestOf (memRead [] 0 32)) fBypass = false ∧ flagOf (manifestOf (memRead [] 0 32)) fTsReq = false) ∧
    (memVerdict d 0 .write (entryAddr d 63 7) 32 = .granted ∧ (ringOf d 63).retry = none) ∧
    (∀ st ∈ [1, 2], enqRefused (r st) false 5 = false) ∧ enqRefused (r 0) false 5 = true ∧ flagOf x fBypass = true ∧
    manifestBad x = false ∧
    (∀ k ∈ [0, 1], handedTo (rx k) 10 = [x] ∧ forRing (rx k) 63 x = true ∧ ringActive (rx k) 63 = true ∧
      ringIsTx (rx k) 63 = false ∧ 0 < ownedByDevice (rx k) 63 ∧
      memVerdict (rx k) 0 .write (entryAddr (rx k) 63 (hwIdx (rx k) 63)) 32 = .granted ∧
      caravanAt (rx k) 8 = some { cells := [8, 9], refs := 2 } ∧ framePoisoned (rx k) 8 0 64 = false ∧
      memVerdict (rx k) 0 .write 0x1000 64 = .granted) := by decide +kernel

/-! ### Witnesses: DRAM -/

theorem witness_DramServiceActs :
    let r : DramReq := ⟨0, false, 0, [], true⟩
    let w : DramReq := ⟨0, true, 64, List.replicate 64 0, true⟩
    let d := fun c drain => (wit [dramUp, put DRAM_RT_EN 1 c 0,
      chanMod c (fun k => { k with sub0 := { reads := [r], writes := [w], draining := drain } })]).dev
    (∀ c ∈ [0, 1], present (d c true) (pDram c) = true ∧ isActive (d c true) (pDram c) = true ∧
      (chan (d c true) c).bursts = [] ∧ (d c true).on DRAM_STATUS_SELF_REFRESH c = false ∧
      (subOf (chan (d c true) c) 0).stalled = [] ∧ (subOf (chan (d c true) c) 0).draining = true ∧
      (subOf (chan (d c false) c) 0).draining = false ∧ (subOf (chan (d c true) c) 1).reads = [] ∧
      (chan (d c true) c).caFails < 2 ∧ dramIdle (d c true) c = false ∧ dramIdle live.dev c = true ∧
      isActive live.dev (pDram c) = false ∧ (wit [put DRAM_STATUS_SELF_REFRESH 1 c 0]).dev.on DRAM_STATUS_SELF_REFRESH c = true ∧
      pageReadable live.dev 16 (pDram c + 3) = true ∧ present live.dev (pDram c + 3) = true ∧ (chan live.dev c).log = [] ∧
      ((d c true).rd DRAM_RT_EN c).testBit (10 - 10) = true) ∧
    channelOf (d 0 true) 0 = 0 ∧ 0 / 4096 = (0 + 4096 - 1) / 4096 ∧ 64 / 4096 ≠ (64 + 4096 - 1) / 4096 := by decide

theorem witness_DramEnginesAct :
    let d := fun c => (wit [dramUp, put DRAM_SCRUB_EN 1 c 0, feats (pDram c), put DRAM_GEOM_SPARE 1 c 0,
      chanMod c (fun k => { k with initRun := true })]).dev
    let last := fun c => (wit [dramUp, put DRAM_MIG_STATUS_ACTIVE 1 c 0,
      fun d => d.put DRAM_MIG_PTR_LINE (rankLines d c - 1) c 0]).dev
    let p := fun c => (wit [put SYS_UNIT_STATE_UNIT 1 0 (1 + c), chanMod c (fun k => { k with helper := some 9 })]).dev
    (∀ c ∈ [0, 1], isActive (d c) (pDram c) = true ∧ (d c).on DRAM_SCRUB_EN c = true ∧ dramIdle (d c) c = true ∧
      (d c).on DRAM_SCRUB_ECC_DETECT c = false ∧ CwRead.bad ∈ lineRead true [⟨7, 9, 1⟩] ∧ (chan (d c) c).initRun = true ∧
      (chan live.dev c).initRun = false ∧ initPtr (d c) c 0 < rankLines (d c) c ∧ writeTaken (d c) 16 (pDram c + 3) = true ∧
      spareFree (d c) c = true ∧ spareFree live.dev c = false ∧ live.dev.on DRAM_MIG_STATUS_ACTIVE c = false ∧
      (last c).on DRAM_MIG_STATUS_ACTIVE c = true ∧ rankLines (last c) c ≤ (last c).rd DRAM_MIG_PTR_LINE c + 1 ∧
      live.dev.rd DRAM_MIG_PTR_LINE c + 1 < rankLines live.dev c ∧ writeTaken (p c) 16 (pDram c + 2) = true ∧
      (p c).rd SYS_UNIT_STATE_UNIT 0 (1 + c) = 1 ∧ (p c).on DRAM_TRN_CTRL_BUSY c = false ∧
      (chan (p c) c).helper = some 9 ∧ (chan live.dev c).helper = none) := by decide

/-! ### Witnesses: the Waystation -/

/-- An untagged frame of 64 bytes to 02-00-00-00-00-01. -/
def plainFrame : Bytes := [2, 0, 0, 0, 0, 1, 2, 0, 0, 0, 0, 2, 0x88, 0xB5] ++ List.replicate 50 7

/-- WAY Active, VLAN 1 valid, and a static bridge entry for that address to queue 5, which is enabled. -/
def wayWith (d : Dev) : Dev :=
  let e := [put WAY_VLAN_CFG_VALID 1 0 1, put WAY_ETH_MAP_PVID 1 0 0, put WAY_BR_CFG_LEARN_EN 0, put QMGR_Q_STATE_STATE 1 0 5,
    put WAY_CFG_ACL_DEFAULT 0].foldl (fun e f => f e) (upAll [pWay] d)
  setBr (brBucket e 1 0x010000000002) [⟨1, 0x010000000002, 5, true, 0⟩] e

theorem witness_WaystationForwards :
    let x : Manifest := { head := 8, len := 64, src := 0x3000 }
    let s := frameAt8 plainFrame (wit [wayWith, fun d => { d with q := { d.q with toWay := [x] } }])
    let d := s.dev
    let h := parse (readFrame d s.mem 8 0 64) 64 (d.rd WAY_VXLAN_PORT_PORT) (wayFull d)
    (isActive d pWay = true ∧ d.way.excs = [] ∧ d.way.parked = [] ∧ d.way.flows = [] ∧ d.q.toCiph = [] ∧ d.q.toWay = [x] ∧
      d.q.toWayTask = [] ∧ x.exc = 0 ∧ flagOf x fCipherDone = false ∧ tabFind d.way.saved 8 = none) ∧
    (srcKind x = 3 ∧ x.ciphOp = 0 ∧ manifestBad x = false ∧ framePoisoned d 8 0 64 = false ∧ h.stop = .ok ∧ h.tci = none ∧
      h.tun = none ∧ isControl h.dst = false ∧ isGroup h.dst = false ∧ trapFrame h = false ∧
      d.on WAY_POL_KIND_EN 0 3 = false ∧ d.on WAY_VLAN_CFG_VALID 0 (pvidOf d x) = true ∧ d.on WAY_BR_CFG_LEARN_EN = false ∧
      routerMac d (pvidOf d x) h.dst = false ∧
      (brFind d (pvidOf d x) h.dst).map (fun e => (destKind e.dest, destIndex e.dest)) = some (0, 5) ∧
      d.way.acl = [] ∧ d.on WAY_CFG_ACL_DEFAULT = false ∧ enqRefused d false 5 = false) ∧
    (isActive live.dev pWay = false ∧ has (fetchLines live.dev) 64 = false ∧ poisonedAt live.dev 64 64 = false ∧
      postRoom (wit [upAll [pDrover]]).dev = true ∧ live.dev.on WAY_EXC_ROUTE_DROP 0 0 = false ∧
      (wit [put WAY_EXC_ROUTE_DROP 1 0 15]).dev.on WAY_EXC_ROUTE_DROP 0 15 = true ∧
      memVerdict (wit [dramUp]).dev 9 .read 64 64 = .granted) := by decide +kernel

/-- Connection tracking on, its table at DRAM address 0 with entries 0 and 1 a valid pair. -/
def ctWith (d : Dev) : Dev := feats pWay (upAll [pWay] (dramUp d))
def ctMem : Memory := memWrite (memWrite [] 0 (toBytes 8 (0x80000000 + 2 ^ 32 * 1))) 64 (toBytes 8 0x80000000)

theorem witness_WaystationTablesAct :
    let d := (wit [ctWith, put WAY_CT_TIMEOUT_SEC 0 0 0]).dev
    let five := (wit [fun d => setBr (brBucket d 0 0) ((List.range 4).map (fun i => ⟨1, i, 5, true, 0⟩)) d]).dev
    let e0 := memRead ctMem (ctAddr d 0) 64
    writeTaken d 16 (pWay + 1) = true ∧ writeTaken d 16 (pWay + 2) = true ∧ writeTaken d 16 (pWay + 4) = true ∧
    writeTaken d 16 (pWay + 5) = true ∧ pageReadable d 16 (pWay + 1) = true ∧ present d (pWay + 1) = true ∧
    brFind d (brKey d).1 (brKey d).2 = none ∧
    (brFind (wit [fun d => setBr (brBucket d 0 0) [⟨0, 0, 5, true, 0⟩] d]).dev 0 0).isSome = true ∧
    ((brList five (brBucket five 0 0)).filter (fun e => !(e.vlan == 0 && e.mac == 0))).length = 4 ∧ isActive d pWay = true ∧
    wayFull d = true ∧ dramReady d 0 = true ∧ d.way.hot = [] ∧ Memory.wf ctMem = true ∧
    (∀ e ∈ [0, 1, 4 * 2 ^ ctLog2 d - 1], memVerdict d 9 .read (ctAddr d e) 64 = .granted ∧
      memVerdict d 9 .write (ctAddr d e) 4 = .granted) ∧
    (wordAt e0 0).testBit 31 = true ∧ (wordAt e0 0).testBit 28 = false ∧ wordAt e0 1 % 2 ^ 21 = 1 ∧
    1000 * d.rd WAY_CT_TIMEOUT_SEC 0 (bitsOf (wordAt e0 0) 27 26) = 0 ∧ d.way.expiry = [] ∧
    tabFind d.way.hot 0 = none ∧ memVerdict d 9 .write (ctAddr d 0) 64 = .granted ∧
    tabFind (wit [fun d => { d with way := { d.way with acl := [(0, { key := [], mask := [], act0 := 0, act1 := 0 })] } }]).dev.way.acl 0 ≠
      none := by decide +kernel

/-! ### Witnesses: stations -/

/-- Station entry `e` in state `st`, staging of AID 1 on link A, address 1. -/
def staWith (st e : Nat) (d : Dev) : Dev :=
  [put STA_W0_STATE st 0 e, put STA_W0_LINKS 1 0 e, put STA_W0_AID 2007 0 e, put STA_W1_ADDR 5 0 e, put STA_IDX_ENTRY e,
    put STA_W0_AID 1 0 staging, put STA_W0_LINKS 4 0 staging, put STA_W1_ADDR 1 0 staging].foldl (fun x f => f x)
    (upAll [pSta] d)

theorem witness_StationCommandsAct :
    let d := fun st e => (wit [staWith st e]).dev
    let small := (wit [fun d => { d with variant := .nv9720 }, put STA_IDX_ENTRY 1024, upAll [pSta]]).dev
    let full := (wit [staWith 2 0, put STA_BSS_COUNT_STA 5 0 0, put STA_BSS_LIMIT_MAX_STA 5 0 0]).dev
    let q := (wit [staWith 5 2047, put QMGR_Q_STATE_STATE 2 0 7, put QMGR_Q_CFG_OWNER_KIND 1 0 7,
      put QMGR_Q_CFG_OWNER_INDEX (2047 * 16) 0 7]).dev
    isActive live.dev pConvoy = false ∧ live.dev.cvy.exps = [] ∧ writeTaken (d 0 0) 16 (pSta + 1) = true ∧
    writeTaken (wit [staWith 0 0, openTo .regs]).dev 0 (pSta + 1) = true ∧
    stationCount small.variant ≤ small.rd STA_IDX_ENTRY ∧
    (∀ e ∈ [0, 2047], (d 0 e).rd STA_IDX_ENTRY = e ∧ e < stationCount (d 0 e).variant ∧
      ∀ st ∈ [0, 1, 2, 3, 4, 5, 6], staState (d st e) e = st) ∧
    imageCheck (d 0 0) 0 (imageOf (d 0 0) 2048) true = none ∧
    imageCheck live.dev 0 (imageOf live.dev 2048) true = some (5, false) ∧
    imageFull (d 2 0) (imageOf (d 2 0) 0) = false ∧ imageFull full (imageOf full 0) = true ∧
    imageCheck (d 3 0) 0 { imageOf (d 3 0) 2048 with
      bss := (d 3 0).rd STA_W0_BSS 0 0, mld := staMld (d 3 0) 0, addr := (imageOf (d 3 0) 0).addr } false = none ∧
    7 ∈ staQueues q 2047 ∧ qState q 7 = 2 ∧ (staOf (d 3 0) 0).held = [] ∧
    (staOf (wit [staWith 4 2047, staMod 2047 (fun s => { s with stopping := true })]).dev 2047).stopping = true ∧
    (staOf (wit [staWith 6 2047, staMod 2047 (fun s => { s with removing := true })]).dev 2047).removing = true ∧
    staQueues (d 6 2047) 2047 = [] ∧ (staOf live.dev 0).stopping = false ∧ (staOf live.dev 0).removing = false := by
  decide

/-- The bytes of a record of a station of AID 2007 on link A, recorded in ASSOC, as R379 lays them out, without its CRC. -/
def recMem : Memory :=
  [(549755816000, 0x01), (549755816003, 0x02), (549755816004, 0x23), (549755816016, 0x05), (549755816048, 0x20),
   (549755816050, 0xD7), (549755816051, 0x07), (549755816052, 0xFF), (549755816053, 0xFF), (549755816054, 0xFF),
   (549755816056, 0x01)]

/-- The CRC of that record. -/
def recCrcMem : Memory :=
  [(549755816508, 0x36), (549755816509, 0x9C), (549755816510, 0xDA), (549755816511, 0x41)]

/-- A caravan of three cells from 8 that holds that record with the memory `m` for its CRC; entry 0 is FREE. -/
def recordAt (m : Memory) : State :=
  { wit [staWith 0 0, put STA_XFER_HEAD_HEAD 8, openTo .serai, upAll [pSerai],
      fun d => { d with ser := { d.ser with caravans := [(8, { cells := [8, 9, 10] })] } }] with mem := recMem ++ m }

/-- Bytes 64 i to 64 i + 63 of the record. -/
def recPart (i n : Nat) : Bytes := (List.range n).map (fun j => memGet recMem (549755816000 + 64 * i + j))

theorem rec_crc : recordCrc (recPart 0 64 ++ recPart 1 64 ++ recPart 2 64 ++ recPart 3 64 ++ recPart 4 64 ++ recPart 5 64 ++
    recPart 6 64 ++ recPart 7 60) = 1104845878 := by
  have e : ∀ bs : Bytes, bs.length = 508 → recordCrc bs = bs.foldl crcByte 0xFFFFFFFF ^^^ 0xFFFFFFFF := by
    intro bs h
    rw [recordCrc, crc32, List.take_of_length_le (by omega)]
  rw [e _ (by simp [recPart])]
  simp only [List.foldl_append]
  rw [show (recPart 0 64).foldl crcByte 4294967295 = 769624055 by decide +kernel]
  rw [show (recPart 1 64).foldl crcByte 769624055 = 887750128 by decide +kernel]
  rw [show (recPart 2 64).foldl crcByte 887750128 = 3589750804 by decide +kernel]
  rw [show (recPart 3 64).foldl crcByte 3589750804 = 3574338582 by decide +kernel]
  rw [show (recPart 4 64).foldl crcByte 3574338582 = 1543654801 by decide +kernel]
  rw [show (recPart 5 64).foldl crcByte 1543654801 = 4006114741 by decide +kernel]
  rw [show (recPart 6 64).foldl crcByte 4006114741 = 2248629393 by decide +kernel]
  rw [show (recPart 7 60).foldl crcByte 2248629393 = 3190121417 by decide +kernel]
  decide

theorem rec_read (m : Memory) (h : m = [] ∨ m = recCrcMem) : (recordRead (recordAt m).dev (recordAt m).mem).1 =
    recPart 0 64 ++ recPart 1 64 ++ recPart 2 64 ++ recPart 3 64 ++ recPart 4 64 ++ recPart 5 64 ++
    recPart 6 64 ++ recPart 7 60 ++ (if m = [] then [0, 0, 0, 0] else [0x36, 0x9C, 0xDA, 0x41]) := by
  rcases h with rfl | rfl <;> decide +kernel

theorem witness_StationTrafficActs_import (m : Memory) (h : m = [] ∨ m = recCrcMem) :
    let d := (recordAt m).dev
    let b := (recordRead d (recordAt m).mem).1
    writeTaken d 16 (pSta + 1) = true ∧ d.rd STA_IDX_ENTRY = 0 ∧ staState d 0 = 0 ∧
    (recordRead d (recordAt m).mem).2 = d ∧ wordAt b 0 % 2 ^ 8 = 1 ∧ bitsOf (wordAt b 0) 31 16 = 0x200 ∧
    imageCheck d 0 (recordImage b) true = none ∧ ((b.drop 0x140).take 128).all (· == 0) = true := by
  rcases h with rfl | rfl <;> decide +kernel

theorem witness_StationTrafficActs_crc : let b := fun m => (recordRead (recordAt m).dev (recordAt m).mem).1
    wordAt (b recCrcMem) 127 = recordCrc (b recCrcMem) ∧ wordAt (b []) 127 ≠ recordCrc (b []) := by
  have c : ∀ l : Bytes, recordCrc (recPart 0 64 ++ recPart 1 64 ++ recPart 2 64 ++ recPart 3 64 ++ recPart 4 64 ++ recPart 5 64 ++
    recPart 6 64 ++ recPart 7 60 ++ l) = 1104845878 := by
    intro l
    rw [← rec_crc]
    simp only [recordCrc]
    rw [List.take_append_of_le_length (by simp [recPart])]
  simp only [rec_read recCrcMem (.inr rfl), rec_read [] (.inl rfl), c]
  decide +kernel

theorem witness_StationTrafficActs :
    let x : Manifest := { head := 8, len := 64, queue := 5 }
    let late := fun (d : Dev) => { d with tb := { d.tb with elapsed := 10 ^ 12 } }
    let p := (wit [staWith 1 2047, put STA_AGE_PROBE_AGE 1, late]).dev
    let a := (wit [staWith 3 2047, put STA_AGE_IDLE_LIMIT 1, put STA_CFG_AUTO_REMOVE 0, late]).dev
    let o : OutMpdu := { tid := 7, sn := 4095, x := x, tries := 1, since := 0 }
    let u := (wit [staWith 4 2047, put STA_TX_CFG_LIFETIME 1, seraiWith, late, staMod 2047 (fun s => { s with outst := [o] })]).dev
    let b := (wit [staWith 4 2047, put STA_TID_TID 7, put BA_RX_EN 1 0 (ti 2047 7)]).dev
    let h := (wit [staWith 4 2047, late, staMod 2047 (fun s => { s with held := [(7, [⟨4095, [x], 0, none⟩])] })]).dev
    let f := (wit [staWith 5 2047, openTo .serai, upAll [pSerai]]).dev
    (staState p 2047 = 1 ∧ lastHeard p 2047 + 500000000 * max 1 (p.rd STA_AGE_PROBE_AGE) ≤ p.tb.elapsed) ∧
    staState live.dev 0 ≠ 1 ∧ isActive live.dev pSta = false ∧ isActive live.dev pConvoy = false ∧ staEntries live.dev = [] ∧
    (isActive a pSta = true ∧ isActive a pConvoy = false ∧ staEntries a = [2047] ∧ staState a 2047 = 3 ∧
      a.rd STA_AGE_IDLE_LIMIT ≠ 0 ∧ 500000000 * a.rd STA_AGE_IDLE_LIMIT ≤ a.tb.elapsed - lastHeard a 2047 ∧
      (staOf a 2047).agedSaid = false ∧ a.on STA_CFG_AUTO_REMOVE = false ∧ a.sta.evts.length < 64) ∧
    (staOf live.dev 0).outst = [] ∧ (staOf u 2047).outst.find? (fun q => q.tid == 7 && q.sn == 4095) = some o ∧
    u.rd STA_TX_CFG_LIFETIME ≠ 0 ∧ o.since + 500000 * u.rd STA_TX_CFG_LIFETIME ≤ u.tb.elapsed ∧ holding u pSta = false ∧
    caravanAt u 8 = some { cells := [8, 9], refs := 2 } ∧
    (writeTaken b 16 (pSta + 3) = true ∧ b.rd STA_IDX_ENTRY < stationCount b.variant ∧ b.rd STA_TID_TID < 8 ∧
      heldOf b 2047 7 = [] ∧ b.on BA_RX_EN 0 (ti 2047 7) = true ∧ (0 : Nat).testBit 31 = false ∧ (2 ^ 31).testBit 31 = true) ∧
    heldOf h 2047 7 = [⟨4095, [x], 0, none⟩] ∧ 0 + 500 * max 1 (h.rd STA_REORDER_TIMEOUT) ≤ h.tb.elapsed ∧
    pageReadable live.dev 16 pSta = true ∧ present live.dev pSta = true ∧ live.dev.sta.evts = [] ∧
    (staState f 2047 = 5 ∧ writeTaken f 16 (pSta + 1) = true ∧ (staOf f 2047).held = [] ∧
      admitTest f 6 (cellsFor (headRoom f) 512) ≠ none ∧ f.on STA_W4_KEY_VALID 0 2047 = false ∧
      admitTest (wit [staWith 5 2047]).dev 6 (cellsFor (headRoom f) 512) = none) := by decide

/-- Whatever the granule, the tables of that state grant master 18 the Serai. -/
theorem witness_StationTrafficActs_grants (g : Nat) (hg : g < 131072) :
    customsGrant (wit [staWith 5 2047, openTo .serai, upAll [pSerai]]).dev .serai g g 18 .write = true := by
  generalize hd : (wit [staWith 5 2047, openTo .serai, upAll [pSerai]]).dev = d
  have f0 : regionOn d .serai 0 = true := by subst hd; decide
  have f1 : regionFirst d .serai 0 = 0 := by subst hd; decide
  have f2 : regionLast d .serai 0 = 0x3FFFFFF := by subst hd; decide
  have f3 : regionGrants d .serai 0 18 .write = true := by subst hd; decide
  have e : List.range 16 = 0 :: (List.range 16).tail := by decide
  have h : granuleGrants d .serai g 18 .write = true := by
    rw [granuleGrants, e, List.find?_cons_of_pos (by rw [f0, f1, f2]; simp; omega)]
    exact f3
  simp [customsGrant, h]

/-! ### Witnesses: the traffic manager and the gates -/

/-- TM and GATE Active with their features, queue 5 of port `o`, or the owner that kind `k` and index `i` name, enabled. -/
def tmWith (k i : Nat) (l : List Manifest) (d : Dev) : Dev :=
  [put QMGR_Q_STATE_STATE 1 0 5, put QMGR_Q_CFG_OWNER_KIND k 0 5, put QMGR_Q_CFG_OWNER_INDEX i 0 5, put TM_OUT_CFG_OVERHEAD 0 0 0,
    fun d => { d with q := { d.q with lists := [(5, l)] } }].foldl (fun e f => f e) (feats pGate (feats pTm (upAll [pTm] d)))

theorem witness_TrafficManagerActs :
    let x : Manifest := { head := 8, len := 64, queue := 5 }
    let bare : Dev → Nat → Prop := fun d o => (∀ q ∈ outQueues d o, qShaper d q = none) ∧ ∀ g ∈ List.range 8, gShaper d o g = none
    let p := (wit [tmWith 2 0 [x]]).dev
    let c := (wit [tmWith 4 0 [x]]).dev
    let a := (wit [tmWith 6 0 [x]]).dev
    let late := (wit [tmWith 2 0 [{ x with flags := 2 ^ 10 }], seraiWith, fun d => { d with tb := { d.tb with count := 2 ^ 80 } }]).dev
    let la := (wit [tmWith 2 0 [{ x with flags := 2 ^ 9 }]]).dev
    isActive live.dev pTm = false ∧ (∀ o ∈ [0, 11], bare live.dev o ∧ outQueues live.dev o = []) ∧
    (∀ y ∈ [(p, 0), (c, 11), (a, 6)], isActive y.1 pTm = true ∧ bare y.1 y.2 ∧ outQueues y.1 y.2 = [5] ∧ qGroup y.1 5 < 8 ∧
      qList y.1 5 = [x] ∧ eligible [] y.1 y.2 5 = true ∧ headCost y.1 y.2 5 ≤ quantumOf y.1 5 ∧
      headCost y.1 y.2 5 ≤ quantumOf y.1 (grpChild y.2 (qGroup y.1 5)) ∧ dropOf y.1 y.2 5 x = none ∧ y.2 ∈ qOutputs y.1 5 ∧
      blockOf y.1 y.2 5 = 0 ∧ holding y.1 pTm = false) ∧
    (isActive late pTm = true ∧ bare late 0 ∧ outQueues late 0 = [5] ∧ eligible [] late 0 5 = true ∧
      dropOf late 0 5 { x with flags := 2 ^ 10 } ≠ none ∧ headCost late 0 5 ≤ quantumOf late 5 ∧
      headCost late 0 5 ≤ quantumOf late (grpChild 0 (qGroup late 5)) ∧ caravanAt late 8 = some { cells := [8, 9], refs := 2 }) ∧
    launches la 0 { x with flags := 2 ^ 9 } = true ∧ launchReady la 0 5 { x with flags := 2 ^ 9 } = true ∧
    launches p 0 x = false := by decide

theorem witness_TrafficManagerActs_shapers :
    let d := fun en mode pir i => (wit [tmWith 2 0 [], put TM_SHP_IDX_SHAPER i, put TM_SHP_CFG_EN en 0 i,
      put TM_SHP_CFG_MODE mode 0 i, put TM_SHP_PIR_PIR pir 0 i]).dev
    let x : Shaper := ⟨false, false, 8, 8, 1, 1, 0, 0, some 0, 0⟩
    let sh := (wit [setShaper 1023 x]).dev
    let g := fun n => (wit [tmWith 2 0 [], upAll [pGate], put GATE_IDX_LIST n, put GATE_ADMIN_COUNT_COUNT 1 0 n,
      put GATE_ADMIN_CYCLE_CYCLE 64000 0 n, put GATE_CFG_EN 1 0 n,
      put GATE_ENT_INTERVAL_INTERVAL 64000 0 (1024 * n)]).dev
    let pend := fun n => gateMod n (fun x => { x with pend := some 0 }) (g n)
    (∀ i ∈ [0, 1023], writeTaken (d 1 0 8 i) 16 (pTm + 3) = true ∧ (d 0 0 0 i).rd TM_SHP_IDX_SHAPER = i ∧
      (d 0 0 0 i).on TM_SHP_CFG_EN 0 i = false ∧ (d 1 0 0 i).on TM_SHP_CFG_EN 0 i = true ∧
      (d 1 0 0 i).rd TM_SHP_CFG_MODE 0 i = 0 ∧ (d 1 0 0 i).rd TM_SHP_PIR_PIR 0 i = 0 ∧ 2 ≤ (d 1 2 8 i).rd TM_SHP_CFG_MODE 0 i ∧
      ¬((d 1 0 8 i).rd TM_SHP_PIR_PIR 0 i = 0 ∨ (d 1 0 8 i).rd TM_SHP_PIR_PIR 0 i < (d 1 0 8 i).rd TM_SHP_CIR_CIR 0 i)) ∧
    shaperOf live.dev 0 = none ∧ shaperOf sh 1023 = some x ∧ writeTaken live.dev 16 pGate = true ∧
    (∀ n ∈ [0, 8], gateFeat (g n) = true ∧ (g n).rd GATE_IDX_LIST = n ∧ (gateOf (g n) n).pend = none ∧
      commitReason (g n) n = none ∧ gateActs (g n) n = true ∧ (gateOf (pend n) n).pend = some 0 ∧
      isActive (pend n) pGate = true ∧ 0 ≤ nowTotal (pend n)) ∧
    gateFeat live.dev = false ∧ gateActs live.dev 0 = false ∧
    commitReason (wit [tmWith 2 0 []]).dev 0 = some 1 := by decide

/-! ### Witnesses: keys and ciphers -/

/-- KEY Active, open to every master, slot 8191 to act on and slot 16 wrapping, with all its usages and a key of 32 bytes. -/
def keyWith (d : Dev) : Dev :=
  [put KEY_IDX_SLOT 8191, put KEY_WRAP_SLOT_SLOT 16 0 8191, put KEY_ATTR_VALID 1 0 16, put KEY_ATTR_USAGE 63 0 16,
    put KEY_ATTR_LEN 2 0 16].foldl (fun e f => f e) (upAll [pKey] (openTo .regs (openTo .keyStore d)))

/-- A blob whose header names a key of 32 bytes, with a ciphertext of zeros and the tag `t`. -/
def blobWith (t : Nat) : Bytes :=
  toBytes 4 0x00800101 ++ List.replicate 12 0 ++ List.replicate 80 0 ++ toBE 16 t ++ List.replicate 16 0

theorem witness_KeyStoreActs :
    let d := (wit [keyWith]).dev
    let own := (wit [keyWith, put KEY_IDX_SLOT 15]).dev
    let e := (wit [keyWith, allFeats, feats pKey, put KEY_ATTR_VALID 1 0 8191, put KEY_ATTR_USAGE 63 0 8191, put KEY_CFG_CLEAR_SEAL_EN 1,
      put KEY_PN_LO_PN 5 0 8191, dramUp]).dev
    let er := (wit [keyWith, put KEY_ATTR_ERASING 1 0 8191]).dev
    let bound := (wit [keyWith, put KEY_ATTR_ERASING 1 0 8191, fun d => { d with ciph := { d.ciph with
      jobs := [(8, [{ slots := [8191] }])] } }]).dev
    writeTaken d 17 pKey = true ∧ writeTaken d 16 pKey = true ∧ writeTaken own 0 pKey = true ∧ keySel d = 8191 ∧ wrapSel d = 16 ∧
    slotOk d 16 uWrap = true ∧ slotOk d 16 uUnwrap = true ∧ slotOk d 16 uDerive = true ∧ d.rd KEY_ATTR_LEN 0 16 = 2 ∧
    pnSpent d 16 = false ∧ customsGrant d .keyStore 8191 8191 17 .write = true ∧ keySel own = 15 ∧
    customsGrant own .keyStore 15 15 0 .write = true ∧ customsGrant (wit [openTo .regs]).dev .keyStore 0 0 0 .write = false ∧
    writeTaken (wit [openTo .regs]).dev 0 pKey = true ∧ isActive live.dev pKey = false ∧ isActive d pKey = true ∧
    d.on KEY_ATTR_ERASING 0 8191 = false ∧ slotOk (wit [openTo .keyStore]).dev 0 uUnwrap = false ∧
    spaceRead 17 (blobAddr d) 128 (some (blobWith 0)) d [] = (some (blobWith 0), d) ∧ blobMalformed 17 (blobWith 0) = false ∧
    blobMalformed 17 (List.replicate 128 0) = true ∧ feat d pKey 3 3 = false ∧ feat e pKey 3 3 = true ∧
    slotOk d 8191 uExport = false ∧ slotOk e 8191 uExport = true ∧ e.on KEY_CFG_CLEAR_SEAL_EN = true ∧
    (wit [put KEY_CFG_CLEAR_SEAL_EN 0]).dev.on KEY_CFG_CLEAR_SEAL_EN = false ∧ memVerdict e 0 .write (outAddr e) 128 = .granted ∧
    er.on KEY_ATTR_ERASING 0 8191 = true ∧ slotBound er 8191 = false ∧ slotBound bound 8191 = true ∧
    pnOf e 8191 = 5 ∧ 4 % 2 ^ 48 < pnOf e 8191 ∧ pnOf d 8191 ≤ 4 % 2 ^ 48 := by decide +kernel

/-- The tag of that blob under a key of zeros, as AES-GCM gives it, opens it, and another does not. -/
theorem witness_KeyStoreActs_load : let b := fun t => blobWith t
    let opens := fun t => gcmOpen (slotKey (wit [keyWith]).dev 16) (((b t).drop 0x10).take 12) ((b t).take 16)
      (((b t).drop 0x20).take 64) (((b t).drop 0x60).take 16)
    (opens 327214788298661060934281665820168548408).isSome = true ∧ opens 0 = none := by decide +kernel

/-- CIPH Active and open, context 8191 with first word `w`, and software ring 7 in DRAM with one descriptor to take. -/
def ciphWith (w : Nat) (d : Dev) : Dev :=
  [put CIPH_CTX_IDX_CTX 8191, put CIPH_CTX_W_WORD w 0 (8 * 8191), put CR_CFG_EN 1 0 7, put CR_CFG_LOC 1 0 7,
    put CR_CFG_LOG2SIZE 3 0 7, put CR_SW_IDX_SW_IDX 1 0 7,
    fun d => { d with ciph := { d.ciph with ctxs := [(8191, { words := [w, 0, 0, 0, 0, 0, 0, 0] })] } }].foldl (fun e f => f e)
    (upAll [pCiph, pKey, pSerai] (openTo .contexts (openTo .keyStore (openTo .regs (openTo .serai (dramUp d))))))

/-- A descriptor of a SHA-256 job (OP 5) on context 8191: 64 bytes at 0x1000, output at 0x2000. -/
def hashMem : Memory := memWrite [] 0 (toBytes 4 (5 + 2 ^ 16 * 8191) ++ toBytes 4 64 ++ toBytes 8 0x1000 ++ toBytes 8 0x2000)

theorem witness_CipherEngineActs_contexts :
    let d := (wit [ciphWith 0x80100000]).dev
    let n := (wit [openTo .regs]).dev
    writeTaken d 0 (pCiph + 1) = true ∧ writeTaken d 0 (pCiph + 2) = true ∧ d.rd CIPH_CTX_IDX_CTX = 8191 ∧
    (∀ k ∈ [AccKind.read, .write], customsGrant d .contexts 8191 8191 0 k = true ∧ customsGrant n .contexts 0 0 0 k = false) ∧
    customsGrant d .keyStore (wKey 0x80100000) (wKey 0x80100000) 0 .read = true ∧ stagedWord d 8191 0 = 0x80100000 ∧
    algKnown (wAlg 0x80100000) = true ∧ wAlg 0x80100000 ≠ 7 ∧ (0x80100000 : Nat).testBit 15 = false ∧
    tagAllowed (wAlg 0x80100000) (wTag 0x80100000) = true ∧ writeTaken n 0 (pCiph + 1) = true ∧
    (idxSub 1 0 ≤ idxSub 8 0 ∧ idxSub 8 0 ≤ crSize d 7) ∧ ¬(idxSub 9 0 ≤ crSize d 7) ∧ ¬(idxSub 1 0 ≤ idxSub 0 0) ∧
    isActive live.dev pCiph = false ∧ passNext d 0 = none ∧ jobsOf d 15 = [] := by decide +kernel

theorem witness_CipherEngineActs_jobs :
    let d := (wit [ciphWith 0x80100000]).dev
    let b := fun m => memRead m (crAddr d 7 0) 64
    isActive d pCiph = true ∧ d.on CR_CFG_EN 0 7 = true ∧ live.dev.on CR_CFG_EN 0 0 = false ∧
    (d.rd CR_HW_IDX_HW_IDX 0 7 + (jobsOf d 15).length) % idxMod = 0 ∧ d.rd CR_SW_IDX_SW_IDX 0 7 = 1 ∧
    crMaster d 7 = 0 ∧ memVerdict d 0 .read (crAddr d 7 0) 64 = .granted ∧
    jobCheck (b []) 0 d = (0x0F, d) ∧ jobCheck (b hashMem) 0 d = (0, d) ∧
    jobPrepare (b hashMem) 0 none d hashMem = ((0, [], [0], []), d) ∧
    jobInput (b hashMem) 0 none d hashMem = ((0, List.replicate 64 0), d) ∧ dPart (b hashMem) = 0 ∧
    dOutCar (b hashMem) = false ∧ algNonce (ctxAlg d 8191) = false := by decide +kernel

/-- A job of ring 7, its descriptor at 0 and its output of one byte for 0x2000. -/
def jobWith (st : Nat) : CiphJob := { master := 0, desc := memRead hashMem 0 64, ctx := 8191, status := st, out := [7] }

theorem witness_CipherEngineActs_completions :
    let j := fun st => jobWith st
    let d := fun st => (wit [ciphWith 0x80100000, setJobs 15 [j st]]).dev
    (∀ st ∈ [0, 6], jobsOf (d st) (8 + 7) = [j st] ∧ (j st).outHead = none ∧ (j st).save = none ∧
      memVerdict (d st) 0 .write 0x30 16 = .granted) ∧
    memVerdict (d 0) 0 .write (dOut (j 0).desc) 1 = .granted ∧ 0 + 0x30 + 16 ≤ dOut (j 0).desc := by decide +kernel

/-- A manifest job for ring 3, with a caravan of five cells. -/
def espWith (d : Dev) : Dev :=
  let x : Manifest := { head := 8, len := 64, queue := 5, flow := 3, ciphRef := 8191, ciphOp := 1 }
  [put KEY_ATTR_VALID 1 0 0, put KEY_ATTR_USAGE 63 0 0, put KEY_ATTR_LEN 2 0 0, put KEY_ATTR_PN32 1 0 0,
    fun d => { d with q := { d.q with toCiph := [(x, 0)] }, ser := { d.ser with
      caravans := [(8, { cells := [8, 9, 10, 11, 12], refs := 2, room := 200 })] } }].foldl (fun e f => f e) d

theorem witness_CipherEngineActs_manifests :
    let x : Manifest := { head := 8, len := 64, queue := 5, flow := 3, ciphRef := 8191, ciphOp := 1 }
    let e := (wit [ciphWith 0x80100000, espWith]).dev
    let d := (wit [ciphWith 0x80300000, espWith]).dev
    let tun := tblBase d WAY_TUN_BASE_LO_BASE WAY_TUN_BASE_HI_BASE + 128 * (ctxW d 8191 2 % 4096)
    let n := tunLen (memRead [] tun 128) + 16 + ((x.len - 14 + 2 + 3) / 4 * 4) + 16
    let p : CiphPass := { x := x, vlan := 0, opening := false }
    let y := setFlag { x with len := 64 } fCipherDone true
    let w := fun st op => (wit [put QMGR_Q_STATE_STATE 1 0 5, setJobs 3
      [{ status := st, out := List.replicate 64 0, pass := some { p with opening := op } }], espWith]).dev
    passNext e 3 = some (x, 0) ∧ ctxAlg e 8191 ≠ 0x30 ∧ caravanAt e 8 = some { cells := [8, 9, 10, 11, 12], refs := 2, room := 200 } ∧
    isActive d pCiph = true ∧ passNext d 3 = some (x, 0) ∧ ctxValid d 8191 = true ∧ ctxAlg d 8191 = 0x30 ∧
    (jobKey d 8191 1).1 = 0 ∧ d.on KEY_ATTR_PN32 0 (ctxKey d 8191) = true ∧ framePoisoned d 8 0 64 = false ∧
    pnSpent d (ctxKey d 8191) = false ∧ memVerdict d 15 .read tun 128 = .granted ∧ n ≤ 262143 ∧
    fitsInPlace d 8 ((roomOf d 8 : Int) + 14 - (tunLen (memRead [] tun 128) + 16 : Nat)) n = true ∧
    (∀ st ∈ [0, 6], ∀ op ∈ [false, true], jobsOf (w st op) 3 =
      [{ status := st, out := List.replicate 64 0, pass := some { p with opening := op } }]) ∧
    manifestBad y = false ∧ enqRefused (w 0 false) false y.queue = false := by decide +kernel

/-! ### Witnesses: the Drover -/

/-- Task 4095 in state `st`, of level `p`, its condition `all` over `mask`, with flags `f`; the Drover Active. -/
def taskWith (st p f : Nat) (k : DrvTask) (d : Dev) : Dev :=
  [put DRV_TASK_IDX_TASK 4095, put DRV_TASK_W0_STATE st 0 4095, put DRV_TASK_W0_PRIO p 0 4095, put DRV_TASK_FLAGS_FLAGS f 0 4095,
    put DRV_TASK_MASK_MASK (2 ^ 31) 0 4095,
    fun d => { d with drv := { d.drv with tasks := [(4095, k)] } }].foldl (fun e f => f e) (upAll [pDrover] (openTo .regs d))

/-- Core 7 Active; it runs task 4095 where `busy`. -/
def coreWith (busy : Nat) (d : Dev) : Dev :=
  put DRV_CUR_TASK 4095 0 7 (put DRV_CUR_VALID busy 0 7 (upAll [pCore 7] d))

theorem witness_DroverRunsTasks :
    let k : DrvTask := { prio := 0, affinity := 255, mask := 2 ^ 31 }
    let d := fun st f => (wit [taskWith st 15 f k]).dev
    let w := (wit [taskWith 2 15 0 k, coreWith 0, feats pDrover, put DRV_TASK_W0_CORE 7 0 4095]).dev
    let post : Option Manifest → State := fun x => wit [taskWith 1 15 0 k, fun d => { d with sh := { d.sh with
      posts := [⟨4095, 31, x⟩] } }]

    (∀ st ∈ [0, 1, 2, 3, 4], taskSel (d st 0) = 4095 ∧ taskState (d st 0) 4095 = st ∧ writeTaken (d st 0) 16 (pDrover + 1) = true ∧
      (d st 0).on DRV_LEDGER_CFG_EN = false ∧ (taskOf (d st 0) 4095).items = [] ∧ (taskOf (d st 0) 4095).service = none) ∧
    (∀ n ∈ List.range 8, coreServes (d 1 0) n = false ∧ 4095 ∉ slotOf (d 4 0) n) ∧
    (d 1 0).rd DRV_TASK_MASK_MASK 0 4095 = 2 ^ 31 ∧ taskFlags (d 1 (2 ^ 31)) 4095 &&& 2 ^ 31 ≠ 0 ∧
    (taskOf (wit [taskWith 1 0 0 { k with service := some ⟨{}, 0, 0, 0⟩ }]).dev 4095).service ≠ none ∧
    (taskState w 4095 = 2 ∧ taskFlags w 4095 < 2 ^ 32 ∧ drvNative w = true ∧ w.rd DRV_TASK_W0_CORE 0 4095 = 7 ∧
      coreServes w 7 = true ∧ mayRun w 4095 7 = true ∧ coreBusy w 7 = false ∧ k.mask ≠ 0 ∧
      (taskFlags w 4095 ||| 2 ^ 31 % 2 ^ 32) &&& (taskOf w 4095).mask ≠ 0 ∧ (taskOf w 4095).all = false) ∧
    isActive live.dev pDrover = false ∧ live.dev.sh.posts = [] ∧
    (isActive (post none).dev pDrover = true ∧ (post none).dev.sh.heldLines = [] ∧ taskState (post none).dev 4095 = 1 ∧
      taskState (post none).dev 0 = 0 ∧ taskFlags (post none).dev 4095 < 2 ^ 32) := by decide

theorem witness_DroverRunsTasks_turns :
    let k : DrvTask := { prio := 0, affinity := 255, mask := 2 ^ 31 }
    let w := (wit [taskWith 2 15 0 k, coreWith 0, feats pDrover, put DRV_TASK_W0_CORE 7 0 4095]).dev
    let c := fun cp => (wit [taskWith 4 0 0 k, coreWith 1, feats pDrover, put DRV_TASK_W0_CANCEL_PENDING cp 0 4095]).dev
    let r := (wit [taskWith 4 0 0 k, coreWith 1, feats pDrover, 
      fun d => { d with drv := { d.drv with ready := [(15, [5])], tasks := [(4095, k), (5, { prio := 15, affinity := 255 })] } }]).dev
    let sl := (wit [taskWith 3 0 0 k, coreWith 0, setSlot 7 [4095]]).dev
    (∀ cp ∈ [0, 1], writeTaken (c cp) 7 (pDrover + 2) = true ∧ coreBusy (c cp) 7 = true ∧ coreTask (c cp) 7 = 4095 ∧
      (c cp).drv.ready = [] ∧ slotOf (c cp) 7 = [] ∧ ((c cp).on DRV_TASK_W0_CANCEL_PENDING 0 4095 = true ↔ cp = 1) ∧
      (taskOf (c cp) 4095).items = [] ∧ taskFlags (c cp) 4095 &&& (2 ^ 31 % 2 ^ 32) = 0) ∧
    (coreBusy w 7 = false ∧ writeTaken w 7 (pDrover + 2) = true ∧ writeTaken w 6 (pDrover + 2) = true) ∧
    (r.on DRV_TASK_W0_CANCEL_PENDING 0 4095 = false ∧ drvNative r = true ∧ coreServes r 7 = true ∧
      (∀ j ∈ List.range 7, coreServes r j = false) ∧ r.drv.ready = [(15, [5])] ∧ (taskOf r 5).prio = 15 ∧
      (taskOf r 4095).prio < 15 ∧ mayRun r 5 7 = true) ∧
    (pageReadable sl 7 (pDrover + 2) = true ∧ drvNative sl = false ∧ coreBusy sl 7 = false ∧ coreServes sl 7 = true ∧
      slotOf sl 7 = [4095] ∧ sl.drv.ready = []) := by decide

/-- Whatever the core above 7, it does not serve. -/
theorem witness_DroverRunsTasks_cores (j : Nat) (h : 8 ≤ j) : coreServes live.dev j = false := by
  simp [coreServes, Nat.not_lt.2 h]

theorem witness_DroverItemsAndTimers :
    let x : Manifest := { head := 8, len := 64, queue := 5 }
    let i : Item := ⟨x, 4095, 31, 3⟩
    let it := fun k => (wit [taskWith 4 0 0 k, coreWith 1, put QMGR_Q_STATE_STATE 1 0 5, seraiWith,
      loadMan 7 x]).dev
    let srv := it { service := some i }
    let done := it { service := some i, disposing := some (1, 7) }
    let back := (wit [taskWith 4 0 0 { service := some i, disposing := some (1, 7) },
      fun d => { d with q := { d.q with toWayTask := [x] } }]).dev
    let p := (wit [taskWith 1 15 0 {}, fun d => { d with sh := { d.sh with posts := [⟨4095, 31, some x⟩] } }]).dev
    let t := fun per => (wit [taskWith 1 15 0 {}, put DRV_TMR_CFG_TASK 4095 0 63, put DRV_TMR_CFG_FLAG 31 0 63, put DRV_TMR_IDX_TIMER 63,
      put DRV_TMR_PERIOD_NS per 0 63, fun d => { d with drv := { d.drv with timers := [(63, 5)] } }]).dev
    let later := fun (d : Dev) => { d with tb := { d.tb with count := 2 ^ 80 } }
    (pageReadable srv 7 (pDrover + 2) = true ∧ pageReadable srv 6 (pDrover + 2) = true ∧ coreBusy srv 7 = true ∧
      coreTask srv 7 = 4095 ∧ (taskOf srv 4095).service = some i ∧ coreBusy live.dev 7 = false ∧
      (taskOf (it { items := [i] }) 4095).items = [i] ∧ (taskOf (it { items := [i] }) 4095).service = none) ∧
    (writeTaken srv 7 (pDrover + 2) = true ∧ (taskOf srv 4095).disposing = none ∧ (taskOf done 4095).disposing = some (1, 7)) ∧
    (taskOf live.dev 0).disposing = none ∧ (∃ y ∈ back.q.toWayTask, y.head = i.x.head) ∧
    done.q.toWayTask = [] ∧ done.drv.parked = [] ∧
    (isActive p pDrover = true ∧ p.sh.posts = [⟨4095, 31, some x⟩] ∧ p.sh.heldLines = [] ∧ taskState p 4095 = 1 ∧
      itemCount p < 32768 ∧ flowTaken p x.flow = false ∧ p.drv.parked = [] ∧ taskFlags p 4095 < 2 ^ 32) ∧
    tabFind live.dev.drv.timers 0 = none ∧ nowTotal (t 0) < 5 ∧
    (∀ per ∈ [0, 1], tabFind (later (t per)).drv.timers 63 = some 5 ∧ 5 ≤ nowTotal (later (t per)) ∧
      isActive (t per) pDrover = true ∧ (t per).rd DRV_TMR_CFG_TASK 0 63 = 4095 ∧ taskState (t per) 4095 = 1 ∧
      (t per).rd DRV_TMR_CFG_FLAG 0 63 < 32 ∧ (t per).rd DRV_TMR_IDX_TIMER = 63) ∧
    writeTaken (t 0) 16 (pDrover + 3) = true ∧ nowTotal (t 0) ≤ dueOf (t 0) 63 ∧
    dueOf (later (t 0)) 63 < nowTotal (later (t 0)) ∧ taskState (t 0) (bitsOf (2 ^ 16 * 4095) 27 16) ≠ 2 := by decide

/-! ### Witnesses: lanes, MACs and PCIe -/

/-- Lane `n` in bring-up state `st` under protocol `v`. -/
def laneIn (st v n : Nat) (d : Dev) : Dev := put LANE_CFG_PROTO v n 0 (setLaneProto n v (setLaneState n st d))

/-- A CAPX frame of ETYPE `ty` with the flags `fl` and ECHO 0. -/
def capx (ty fl : Nat) : Bytes :=
  [1, 0x80, 0xC2, 0, 0, 0xE, 2, 0, 0, 0, 0, 2] ++ toBE 2 ty ++ [1] ++ toBE 1 fl ++ [0, 1, 0, 0, 15, 0, 7, 0, 0, 0, 0, 0, 0, 0] ++
    List.replicate 30 0

theorem witness_LanesComeUp :
    let d := fun st v n => (wit [laneIn st v n]).dev
    let link := fun st v n => (wit [laneIn st v n, setLaneLink n true]).dev
    (∀ n ∈ [9], ¬(n = 8 ∨ (n < 8 ∧ present live.dev (pLane n) = true))) ∧ (∀ n ∈ [0, 7], present live.dev (pLane n) = true) ∧
    (∀ st ∈ [1, 2, 3, 4, 5], ∀ v ∈ [1, 3, 5, 7], ∀ n ∈ [0, 7], laneState (d st v n) n = st ∧ laneProto (d st v n) n = v ∧
      laneLink (d st v n) n = false) ∧
    laneLink (link 5 3 0) 0 = true ∧
    (∀ st ∈ [1, 2, 3, 4, 5], let e := (wit [rst (fun r => { r with reducedEth0 := true }),
        laneMod 8 (fun l => { l with rstate := st, rproto := 1 })]).dev
      laneState e 8 = st ∧ laneProto e 8 = 1 ∧ laneLink e 8 = false ∧ laneMac e 8 = some 0) ∧
    protoAutoneg 1 = true ∧ protoAutoneg 3 = false ∧ protoRate 1 3 = true ∧ protoRate 1 4 = false ∧
    (laneOf (d 4 1 0) 0).exchange = false ∧ laneMac (d 5 3 0) 0 = some 0 ∧ holding live.dev (pLane 0) = false := by decide

theorem witness_LanesComeUp_capx :
    let ty := live.dev.rd LANE_CAPX_CFG_ETYPE 0
    let f := capx ty 1
    let up := capx ty 0xB
    let e := fun st v h a => (wit [laneIn st v 0, put LANE_CFG_CAPX_EN 1, put LANE_CFG_UPSHIFT 1, put LANE_CFG_FEC 1,
      laneMod 0 (fun l => { l with exchange := st == 4, heard := h, acked := a, sent := some (capxFields live.dev 0 0) })]).dev
    (∀ st ∈ [4, 5], laneState (e st 3 none false) 0 = st ∧ capxRate (e st 3 none false) 0 = true ∧
      capxValid (e st 3 none false) 0 f true = true ∧ ofBytesBE ((f.drop 12).take 2) = (e st 3 none false).rd LANE_CAPX_CFG_ETYPE 0 ∧
      ((laneOf (e st 3 none false) 0).exchange = true ↔ st = 4)) ∧
    (laneOf (e 4 3 none false) 0).heard = none ∧ (laneOf (e 4 3 (some f) true) 0).heard = some f ∧
    (laneOf (e 4 3 (some f) true) 0).acked = true ∧ upshiftHolds (e 4 3 (some f) true) 0 f = false ∧
    upshiftHolds (e 4 5 (some up) true) 0 up = true ∧ laneLink (e 4 5 (some up) true) 0 = false ∧
    capxRate live.dev 0 = false ∧ partnerLo f ≠ live.dev.rd LANE_PARTNER_ID_LO_ID 0 ∧
    (f.getD 15 0).getLsbD 0 = true ∧ ((capx ty 0).getD 15 0).getLsbD 0 = false ∧
    (let u := (wit [laneIn 2 5 0, setLaneProto 0 6]).dev
     laneProto u 0 = 6 ∧ u.rd LANE_CFG_PROTO 0 = 5 ∧ laneState u 0 = 2) := by decide

theorem witness_LanesComeUp_loopback :
    let d := fun st v => (wit [laneIn st v 7]).dev
    let p := (wit [laneIn 0 3 7, put LANE_PRBS_EN_GEN 1 7, put LANE_PRBS_EN_CHK 1 7, put LANE_PRBS_STATUS_LOCKED 1 7,
      put LANE_LPBK_MODE 1 7]).dev
    let on := (wit [laneIn 0 3 0, upAll [pEth 0], put LANE_PRBS_EN_CHK 1]).dev
    (∀ v ∈ [3, 7], writeTaken (d 3 v) 16 (pLane 7) = true ∧ (d 3 v).rd LANE_CFG_PROTO 7 = v) ∧
    1 % 4 ≠ (d 3 3).rd LANE_LPBK_MODE 7 ∧ 0 % 4 = (d 3 3).rd LANE_LPBK_MODE 7 ∧ laneState (d 3 3) 7 = 3 ∧ laneState (d 0 3) 7 = 0 ∧
    (isOff p (laneOwner p 7) = true ∧ p.rd LANE_PRBS_EN_GEN 7 = 1 ∧ p.rd LANE_PRBS_EN_CHK 7 < 2 ∧ p.rd LANE_PRBS_BAUD 7 < 2 ∧
      p.rd LANE_PRBS_PATTERN 7 < 8 ∧ p.rd LANE_PRBS_INJ_RATE 7 < 32 ∧ lpbkMode p 7 = 1 ∧ p.rd LANE_PRBS_EN_CHK 7 = 1 ∧
      p.on LANE_PRBS_STATUS_LOCKED 7 = true ∧ holding p (pLane 7) = false) ∧
    (writeTaken on 16 (pLane 0) = true ∧ isOff on (laneOwner on 0) = false ∧ 2 ^ 30 ≤ (prbsWord on 0 + 1) % 2 ^ 32 ∧
      2 ^ 30 ≤ 2 ^ 30 % 2 ^ 32 ∧ ¬2 ^ 30 ≤ (2 ^ 30 - 1) % 2 ^ 32) ∧
    live.dev.on LANE_PRBS_EN_CHK 0 = false := by decide

/-- Port 5 in service at lane 5, with a manifest handed to it. -/
def ethWith (d : Dev) : Dev :=
  handTo 5 { head := 8, len := 64, queue := 5 } (seraiWith (put ETH_STATUS_LINK_UP 1 5 0 (put LANE_STATUS_LINK 1 5 0
    (laneIn 5 3 5 (upAll [pEth 5, pSerai] d)))))

/-- A PAUSE frame, or a PFC frame where `op` is 0x0101. -/
def pauseFrame (op : Nat) : Bytes :=
  [1, 0x80, 0xC2, 0, 0, 1, 2, 0, 0, 0, 0, 2, 0x88, 8] ++ toBE 2 op ++ [0, 1] ++ List.replicate 42 1

theorem witness_MacsAndPcieAct_receive :
    let d := (wit [ethWith]).dev
    let f := plainFrame
    let g := fun op => pauseFrame op
    (∀ st ∈ [1, 2, 3, 4, 5], let e := (wit [laneIn st 3 7]).dev
      laneState e 7 = st ∧ laneLink e 7 = false ∧ laneProto e 7 ≠ 7 ∧ present e (pLane 7) = true) ∧
    (laneState d 5 = 5 ∧ laneLink d 5 = true ∧ laneProto d 5 ≠ 7 ∧ laneMac d 5 = some 5 ∧ ethUp d 5 = true) ∧
    ethUp live.dev 0 = false ∧ lpbkNear d (macLane d 5) = false ∧ capxRate d (macLane d 5) = false ∧
    (60 ≤ f.length ∧ f.length ≤ maxLen d 5 ∧ [0].length < 60 ∧ be f 12 2 ≠ 0x8808) ∧
    (∀ op ∈ [1, 0x0101], be (g op) 12 2 = 0x8808 ∧ be (g op) 14 2 = op ∧ 60 ≤ (g op).length ∧ (g op).length ≤ maxLen d 5) ∧
    (wit [rst (fun r => { r with inboundClosed := true })]).dev.rst.inboundClosed = true ∧ d.rst.inboundClosed = false ∧
    admitTest d 1 (cellsFor (headRoom d) (maxLen d 5)) ≠ none ∧
    admitTest live.dev 1 (cellsFor (headRoom live.dev) (maxLen live.dev 0)) = none ∧ live.memCanonical = true := by decide

/-- A frame longer than any MAXLEN exists. -/
theorem witness_MacsAndPcieAct_long : maxLen (wit [ethWith]).dev 5 < (List.replicate 16384 (0 : Byte)).length := by
  rw [List.length_replicate]; decide

theorem witness_MacsAndPcieAct_send :
    let d := fun m => (wit [ethWith, put LANE_LPBK_MODE m 5]).dev
    let p := (wit [ethWith, ethMod 5 (fun e => { e with paused := [8], xoff := [8] }), put SERAI_CLASS_STATE_STATE 2 0 1,
      put ETH_STATUS_VERIFY 1 5, ethMod 5 (fun e => { e with verifies := 2 })]).dev
    (∀ m ∈ [0, 3], ethMayStart (d m) 5 = true ∧ handedTo (d m) 5 = [{ head := 8, len := 64, queue := 5 }] ∧
      lpbkNear (d m) (macLane (d m) 5) = false ∧ lpbkMode (d m) (macLane (d m) 5) = m ∧
      framePoisoned (d m) 8 0 64 = false ∧ caravanAt (d m) 8 = some { cells := [8, 9], refs := 2 }) ∧
    framePoisoned (wit [ethWith, fun d => { d with ser := { d.ser with poison := [66] } }]).dev 8 0 64 = true ∧
    ethMayStart live.dev 0 = false ∧ (ethOf live.dev 0).paused = [] ∧
    (8 ∈ (ethOf p 5).paused ∧ 8 ∈ xoffOf p 5 ∧ isActive p (pEth 5) = true ∧ 2 ≤ p.rd SERAI_CLASS_STATE_STATE 0 1 ∧
      p.rd ETH_STATUS_VERIFY 5 = 1 ∧ (ethOf p 5).verifies = 2 ∧ (ethOf live.dev 5).verifies < 2) := by decide

theorem witness_MacsAndPcieAct_pcie :
    let d := fun up => (wit [upAll [pPcie], put PCIE_STATUS_DL_UP up, fun d => { d with pcie := { d.pcie with ob := some ⟨0⟩ } }]).dev
    let r := (wit [ringWith 1 0, openTo .serai, put HR_CFG_MASTER 17 0 63, upAll [pSerai]]).dev
    (∀ up ∈ [0, 1], writeTaken (d up) 16 pPcie = true ∧ (d up).on PCIE_CFG_MODE = false ∧ isActive (d up) pPcie = true ∧
      (d up).on PCIE_OB_CMD_BUSY = false ∧ ((d up).on PCIE_STATUS_DL_UP = true ↔ up = 1) ∧ (d up).pcie.ob = some ⟨0⟩ ∧
      holding (d up) pPcie = false ∧ (d up).rd DIAG_SNAP_AUTO < 2) ∧
    isActive live.dev pPcie = false ∧ live.dev.pcie.ob = none ∧ txNext live.dev 0 = none ∧
    txNext r 63 = some 0 ∧ ringIsBuffer r 63 = true ∧ ringMaster r 63 = 17 ∧
    memVerdict r 17 .read (entryAddr r 63 0) 32 = .granted ∧
    bitsOf (wordAt (memRead (descMem 64) (entryAddr r 63 0) 32) 2) 17 0 = 64 ∧
    admitTest r 2 (cellsFor (headRoom r) 64) ≠ none ∧
    (let e := (wit [laneIn 5 7 4]).dev
     laneProto e 4 = 7 ∧ 2 ≤ laneState e 4) := by decide +kernel

/-! ### Witnesses: the Convoy -/

/-- The last round of AES gives 16 bytes, whatever went before. -/
theorem aesRounds_length : ∀ (ks : List Bytes) (b : Bytes), ks ≠ [] → (∀ k ∈ ks, k.length = 16) → (aesRounds ks b).length = 16
  | [], _, h, _ => absurd rfl h
  | [k], b, _, h => by simp [aesRounds, xorBytes, shiftRows, h k (by simp)]
  | k :: l :: ks, b, _, h => by
    rw [aesRounds]
    · exact aesRounds_length (l :: ks) _ (by simp) (fun x hx => h x (by simp [hx]))
    · simp

theorem zero_keys : (roundKeys (List.replicate 32 0)).tail ≠ [] ∧ ∀ k ∈ (roundKeys (List.replicate 32 0)).tail, k.length = 16 := by
  decide +kernel

/-- This member is 3, its links port 0; the AUTH key of generation 0 is a key of zeros in slot 100. -/
def cvyWith (d : Dev) : Dev :=
  [put CVY_CFG_MEMBER 3, put CVY_CFG_PORTS 1, put CVY_KEY_CFG_BASE 100, put KEY_ATTR_VALID 1 0 100, put KEY_ATTR_USAGE 63 0 100,
    put KEY_ATTR_LEN 2 0 100, cvyMod (fun u => { u with gens := [(0, 0)], members := [(5, { inc := some 0, high := 6 })] })].foldl
    (fun e f => f e) (upAll [pConvoy, pCiph, pSerai] (dramUp (openTo .serai d)))

theorem cvyIcv_length (f : Dev → Dev) (h : slotKey (f (wit [cvyWith]).dev) (genSlot (f (wit [cvyWith]).dev) 0 0) =
    List.replicate 32 0) (b : Bytes) : (cvyIcv (f (wit [cvyWith]).dev) 0 b).length = 16 := by
  rw [cvyIcv, h]
  exact aesRounds_length _ _ zero_keys.1 zero_keys.2

/-- The header of a message of type `ty` from neighbour 5, SEQ 7, to every member, with a body of `n` bytes. -/
def msgHead (ty n : Nat) : Bytes :=
  [1] ++ toBE 1 ty ++ [0, if ty = 1 ∨ ty = 10 then 16 else 1, 0, 5, 0, 5, 0, 0, 0, 0, 0, 0, 0, 7] ++ List.replicate 12 0 ++ toBE 2 n ++
    [0xFF, 0xFF] ++ List.replicate 8 0

/-- The message with its ICV, and as it came from port 0. -/
def msgRaw (ty : Nat) (body : Bytes) : Bytes :=
  (msgHead ty body.length ++ body) ++ cvyIcv (wit [cvyWith]).dev 0 (msgHead ty body.length ++ body)
def msgIn (ty : Nat) (body : Bytes) : CvyMsg := { link := ⟨3, 0⟩, mac := [2, 0, 0, 0, 0, 5], raw := msgRaw ty body }

def msgMan (body : Bytes) : Manifest := { head := 8, len := 70 + body.length, src := 0x3000 }

/-- The state in which that message stands before the engine, in a caravan of cells 8 to 19. -/
def cvyState (ty : Nat) (body : Bytes) (fs : List (Dev → Dev)) : State :=
  let s := wit (cvyWith :: handTo 11 (msgMan body) ::
    (fun d => { d with ser := { d.ser with caravans := [(8, { cells := List.range' 8 12, refs := 2 })] } }) :: fs)
  let f := List.replicate 6 1 ++ [2, 0, 0, 0, 0, 5] ++ toBE 2 (s.dev.rd CVY_ETYPE_ETYPE) ++ msgRaw ty body
  { s with mem := memWrite [] (seraiBase + 2112) f }

theorem cells_run (j : Nat) (h : j < 3000) : caravanByte { cells := List.range' 8 12, refs := 2 } j = seraiBase + 2112 + j := by
  have e : (List.range' 8 12).getD ((64 + j) / 256) 0 = 8 + (64 + j) / 256 := by
    simp [List.getD_eq_getElem?_getD, List.getElem?_range' (show (64 + j) / 256 < 12 by omega)]
  simp only [caravanByte, e]
  omega

theorem readFrame_run (d : Dev) (bs : Bytes) (h : caravanAt d 8 = some { cells := List.range' 8 12, refs := 2 }) (n : bs.length < 3000) :
    readFrame d (memWrite [] (seraiBase + 2112) bs) 8 0 bs.length = bs := by
  simp only [readFrame, h]
  refine Eq.trans (List.map_congr_left fun j hj => ?_) (memRead_memWrite bs [] (seraiBase + 2112) rfl)
  rw [Nat.zero_add, cells_run j (by simp at hj; omega)]


theorem toBE_length (n v : Nat) : (toBE n v).length = n := by simp [toBE, toBytes]

theorem toBE_two (v : Nat) : toBE 2 v = [BitVec.ofNat 8 (v / 256), BitVec.ofNat 8 v] := by
  simp [toBE, toBytes, List.range_succ]

theorem msgOf_run (x : Manifest) (d : Dev) (raw : Bytes) (h : caravanAt d 8 = some { cells := List.range' 8 12, refs := 2 })
    (hx : x.head = 8) (hl : x.len = 14 + raw.length) (n : raw.length < 2900) (e : d.rd CVY_ETYPE_ETYPE < 65536) :
    msgOf x d (memWrite [] (seraiBase + 2112)
      (List.replicate 6 1 ++ [2, 0, 0, 0, 0, 5] ++ toBE 2 (d.rd CVY_ETYPE_ETYPE) ++ raw)) =
      { link := ⟨srcKind x, srcIndex x⟩, mac := [2, 0, 0, 0, 0, 5], raw := raw } := by
  generalize hv : d.rd CVY_ETYPE_ETYPE = v at e
  have l : (List.replicate 6 (1 : Byte) ++ [2, 0, 0, 0, 0, 5] ++ toBE 2 v ++ raw).length = 14 + raw.length := by
    simp [toBE_length]; omega
  have fr := readFrame_run d (List.replicate 6 1 ++ [2, 0, 0, 0, 0, 5] ++ toBE 2 v ++ raw) h (by omega)
  rw [l] at fr
  simp only [msgOf, hx, hl, fr, hv]
  have b : be (List.replicate 6 (1 : Byte) ++ [2, 0, 0, 0, 0, 5] ++ toBE 2 v ++ raw) 12 2 = v := by
    simp [be, toBE_two, ofBytesBE, ofBytes, List.replicate]
    omega
  rw [if_pos b]
  simp [toBE_two, List.replicate]

/-- A message of `cvyState` reads as it stands, and its ICV verifies. -/
theorem cvy_message (ty t : Nat) (body : Bytes) (fs : List (Dev → Dev)) (n : body.length < 1000)
    (h : caravanAt (cvyState ty body fs).dev 8 = some { cells := List.range' 8 12, refs := 2 })
    (e : (cvyState ty body fs).dev.rd CVY_ETYPE_ETYPE < 65536)
    (k : slotKey (cvyState ty body fs).dev (genSlot (cvyState ty body fs).dev 0 0) = List.replicate 32 0)
    (gl : (msgIn ty body).len = body.length) (gt : (msgIn ty body).ttl ≤ t)
    (gy : t = if (msgIn ty body).type = 1 ∨ (msgIn ty body).type = 10 then 16 else 1)
    (gk : (msgIn ty body).keygen = 0) (go : asOriginated (msgIn ty body) t = msgHead ty body.length ++ body) :
    msgOf (msgMan body) (cvyState ty body fs).dev (cvyState ty body fs).mem = msgIn ty body ∧
    icvOk (msgIn ty body) (cvyState ty body fs).dev = true := by
  have w : slotKey (wit [cvyWith]).dev (genSlot (wit [cvyWith]).dev 0 0) = List.replicate 32 0 := by decide
  have icv : (cvyIcv (wit [cvyWith]).dev 0 (msgHead ty body.length ++ body)).length = 16 := cvyIcv_length id w _
  have hh : (msgHead ty body.length).length = 40 := by simp [msgHead, toBE_length]
  have len : (msgRaw ty body).length = 56 + body.length := by
    simp only [msgRaw, List.length_append, icv, hh]
    omega
  have hm : (cvyState ty body fs).mem = memWrite [] (seraiBase + 2112) (List.replicate 6 1 ++ [2, 0, 0, 0, 0, 5] ++
    toBE 2 ((cvyState ty body fs).dev.rd CVY_ETYPE_ETYPE) ++ msgRaw ty body) := by rw [cvyState]
  have hs : srcKind (msgMan body) = 3 ∧ srcIndex (msgMan body) = 0 := by
    simp only [srcKind, srcIndex, msgMan]; decide
  have hg := msgOf_run (msgMan body) (cvyState ty body fs).dev (msgRaw ty body) h rfl (by simp only [msgMan, len]; omega)
    (by omega) e
  refine ⟨by rw [hm, hg, hs.1, hs.2, msgIn], ?_⟩
  have r : ((msgIn ty body).raw.drop (40 + body.length)).take 16 =
      cvyIcv (wit [cvyWith]).dev 0 (msgHead ty body.length ++ body) := by
    show ((msgRaw ty body).drop _).take 16 = _
    rw [msgRaw, List.drop_left' (by simp [hh]), List.take_of_length_le (by omega)]
  have c : ∀ b, cvyIcv (cvyState ty body fs).dev 0 b = cvyIcv (wit [cvyWith]).dev 0 b := by
    intro b
    rw [cvyIcv, cvyIcv, k, w]
  unfold icvOk
  simp only [gl, gk, r, icv, c]
  rw [Bool.and_eq_true, List.any_eq_true]
  refine ⟨rfl, t, ?_, by simp [gt, go]⟩
  split <;> simp_all

/-- What R739 and R740 ask of a message, apart from its ICV, and what `cvy_message` needs. -/
abbrev CvyReady (ty : Nat) (body : Bytes) (fs : List (Dev → Dev)) : Prop :=
  let d := (cvyState ty body fs).dev
  let g := msgIn ty body
  let y := refDown 8 (setHanded 11 [] d)
  let t := if ty = 1 ∨ ty = 10 then 16 else 1
  (body.length < 1000 ∧ caravanAt d 8 = some { cells := List.range' 8 12, refs := 2 } ∧ d.rd CVY_ETYPE_ETYPE < 65536 ∧
    slotKey d (genSlot d 0 0) = List.replicate 32 0 ∧ g.len = body.length ∧ g.ttl = t ∧ g.type = ty ∧ g.keygen = 0 ∧
    asOriginated g t = msgHead ty body.length ++ body) ∧
  (isActive d pConvoy = true ∧ isActive d pCiph = true ∧ handedTo d 11 = [msgMan body] ∧ frozen d = false ∧
    y.rd SERAI_CLASS_STATE_STATE 0 6 ≠ 3 ∧ g.field 0 1 = 1 ∧ genHeld d 0 0 uDec = true ∧ g.field 16 8 = cvySysid d ∧
    g.dest = 0xFFFF ∧ g.origin = 5 ∧ g.sender = 5 ∧ cvySelf d = 3 ∧
    (memberOf d 5).inc = some g.inc ∧ seqMark (memberOf d 5) g.seq = some { memberOf d 5 with high := 7, map := 1 })

/-- Such a message passes, its ICV included. -/
theorem cvy_passes (ty : Nat) (body : Bytes) (fs : List (Dev → Dev)) (h : CvyReady ty body fs) :
    let d := (cvyState ty body fs).dev
    let g := msgOf (msgMan body) d (cvyState ty body fs).mem
    g = msgIn ty body ∧ icvOk g d = true ∧ g.ttl ≠ 0 ∧ g.ttl ≤ 16 ∧
    seqVerdict g d = .fresh { memberOf d 5 with high := 7, map := 1 } := by
  obtain ⟨⟨h1, h2, h3, h4, h5, h6, h7, h9, h10⟩, -, -, -, -, -, -, -, -, -, ho, -, -, hi, hs⟩ := h
  have m := cvy_message ty _ body fs h1 h2 h3 h4 h5 (Nat.le_of_eq h6) (by rw [h7]) h9 h10
  refine ⟨m.1, by rw [m.1]; exact m.2, ?_, ?_, ?_⟩ <;> rw [m.1]
  · rw [h6]; split <;> decide
  · rw [h6]; split <;> decide
  · rw [seqVerdict, ho]
    simp only [hi, hs, if_true]

/-- Records of this member's store: KIND 2, key 9, from member 5, counter 4. -/
def recBody9 : Bytes := recordOf 2 false 5 4 1 9 0 []

/-- The record of a station of address 5, and with a wrong CRC. -/
def recGood : Bytes := recPart 0 64 ++ recPart 1 64 ++ recPart 2 64 ++ recPart 3 64 ++ recPart 4 64 ++ recPart 5 64 ++
  recPart 6 64 ++ recPart 7 60 ++ (recCrcMem.map (·.2))
def recBad : Bytes := recGood.take 508 ++ [0, 0, 0, 0]

theorem witness_ConvoyMessagesAct : CvyReady 1 (List.replicate 24 0) [] ∧ CvyReady 2 recBody9 [] ∧ CvyReady 3 (List.replicate 4 0) [] ∧
    CvyReady 4 (List.replicate 4 0) [cvyMod (fun u => { u with syncing := [(5, 2)] })] ∧
    CvyReady 5 (toBytes 8 5) [] ∧ CvyReady 5 (toBytes 8 5) [staWith 4 2047] ∧
    CvyReady 7 (toBytes 8 5) [staWith 5 2047, cvyMod (fun u => { u with exps := [⟨5, 2047, 5, 0, some []⟩] })] ∧
    CvyReady 8 (toBytes 8 5) [cvyMod (fun u => { u with ho := some ⟨5, 0, 16, 5⟩ })] ∧ CvyReady 10 [0] [] := by
  refine ⟨?_, ?_, ?_, ?_, ?_, ?_, ?_, ?_, ?_⟩ <;> decide +kernel

/-- Every byte below the Serai window reads as nothing has written it. -/
theorem cvyState_low (ty : Nat) (body : Bytes) (fs : List (Dev → Dev)) (a : Nat) (h : a + 192 ≤ seraiBase) :
    memRead (cvyState ty body fs).mem a 192 = memRead [] a 192 := by
  rw [cvyState]
  refine List.map_congr_left fun i hi => ?_
  rw [memGet_memWrite_out _ _ _ _ (.inl (by simp at hi; omega))]

theorem findRec_low (ty : Nat) (body : Bytes) (fs : List (Dev → Dev)) (kind rkey : Nat) (d : Dev)
    (h : ∀ a ∈ bucketSlots d kind rkey, a + 192 ≤ seraiBase) :
    findRec kind rkey d (cvyState ty body fs).mem = findRec kind rkey d [] := by
  have e : ∀ a, a + 192 ≤ seraiBase → ∀ d', slotRead a d' (cvyState ty body fs).mem = slotRead a d' [] := by
    intro a ha d'
    have u : ∀ m', unitRead cvyMaster a 192 d' m' = if memVerdict d' cvyMaster .read a 192 = .granted then (memRead m' a 192, true, d')
      else (List.replicate 192 0, false, blockAccess (memVerdict d' cvyMaster .read a 192) cvyMaster .read a d') := fun _ => rfl
    have v : unitRead cvyMaster a 192 d' (cvyState ty body fs).mem = unitRead cvyMaster a 192 d' [] := by
      rw [u, u, cvyState_low ty body fs a ha]
    rw [slotRead, slotRead, v]
  have g : ∀ l : List Nat, (∀ a ∈ l, a + 192 ≤ seraiBase) → ∀ d',
      slotScan kind rkey l d' (cvyState ty body fs).mem = slotScan kind rkey l d' [] := by
    intro l
    induction l with
    | nil => intros; rfl
    | cons a l ih =>
      intro hl d'
      have ih' := ih (fun b hb => hl b (by simp [hb]))
      simp only [slotScan, e a (hl a (by simp)), ih']
  exact g _ h _

theorem cvyState_canonical (ty : Nat) (body : Bytes) (fs : List (Dev → Dev)) : (cvyState ty body fs).memCanonical = true := by
  have h : ∀ s : State, s.memCanonical = Memory.wf s.mem := fun _ => rfl
  have g : ∀ (a : Nat) (bs : Bytes), Memory.wf (memWrite [] a bs) = true := fun a bs => memWrite_wf bs a rfl
  rw [h, cvyState]
  dsimp only
  rw [g]

theorem witness_ConvoyMessagesAct_record : let d := (cvyState 2 recBody9 []).dev
    d.rd CVY_LAMPORT_L < 2 ^ 32 ∧ (msgIn 2 recBody9).body = recBody9 ∧ splitRecords 7 recBody9 = [recBody9] ∧
    rKind recBody9 = 2 ∧ rKey recBody9 = 9 ∧ (cvyState 2 recBody9 []).memCanonical = true ∧
    ∃ a, findRec 2 9 d (cvyState 2 recBody9 []).mem = (none, some a, d) ∧ memVerdict d 18 .write a 256 = .granted ∧
      a + 256 ≤ seraiBase := by
  refine ⟨by decide, by decide +kernel, by decide +kernel, by decide +kernel, by decide +kernel, ?_,
    (bucketSlots (cvyState 2 recBody9 []).dev 2 9).headD 0, ?_⟩
  · exact cvyState_canonical _ _ _
  · rw [findRec_low _ _ _ _ _ _ (by decide +kernel)]
    decide +kernel

/-- The handover that this member has asked member 5 for: station address 5, entry 0, slot 16. -/
def hoOf5 (d : Dev) : Dev := cvyMod (fun u => { u with ho := some ⟨5, 0, 16, 5⟩ }) (staWith 0 0 d)

theorem witness_ConvoyMessagesAct_handover :
    let q := (cvyState 5 (toBytes 8 5) [staWith 4 2047]).dev
    let n := (cvyState 5 (toBytes 8 5) []).dev
    let x : CvyExp := ⟨5, 2047, 5, 0, some []⟩
    let f := (cvyState 7 (toBytes 8 5) [staWith 5 2047, cvyMod (fun u => { u with exps := [x] })]).dev
    hoAddr (msgIn 5 (toBytes 8 5)) = 5 ∧ expOf q 5 = none ∧ expOf n 5 = none ∧
    (staEntries q).find? (fun e => staLive q e && stationAddr q e == 5) = some 2047 ∧ staState q 2047 = 4 ∧
    (staOf q 2047).stopping = false ∧ (staEntries n).find? (fun e => staLive n e && stationAddr n e == 5) = none ∧
    hoAddr (msgIn 7 (toBytes 8 5)) = 5 ∧ expOf f 5 = some x ∧ staState f 2047 = 5 ∧ hoAddr (msgIn 8 (toBytes 8 5)) = 5 ∧
    tabFind (cvyState 4 (List.replicate 4 0) [cvyMod (fun u => { u with syncing := [(5, 2)] })]).dev.cvy.syncing 5 = some 2 := by
  decide +kernel

theorem witness_ConvoyMessagesAct_hoData : CvyReady 6 recGood [hoOf5] ∧ CvyReady 6 recBad [hoOf5] := by
  refine ⟨?_, ?_⟩ <;> decide +kernel

theorem witness_ConvoyMessagesAct_hoData_record (r : Bytes) (h : r = recGood ∨ r = recBad) : let d := (cvyState 6 r [hoOf5]).dev
    let b := padTo 512 ((msgIn 6 r).body.take 512)
    d.cvy.ho = some ⟨5, 0, 16, 5⟩ ∧ b = r ∧ ofBytes ((b.drop 0x10).take 6) = 5 ∧ wordAt b 0 % 2 ^ 8 = 1 ∧
    bitsOf (wordAt b 0) 31 16 = 0x200 ∧ staState d 0 = 0 ∧ imageCheck d 0 (recordImage b) true = none ∧
    ((b.drop 0x140).take 128).all (· == 0) = true := by
  rcases h with rfl | rfl <;> decide +kernel

theorem witness_ConvoyMessagesAct_hoData_crc : wordAt recGood 127 = recordCrc recGood ∧ wordAt recBad 127 ≠ recordCrc recBad := by
  have e : recBad = recPart 0 64 ++ recPart 1 64 ++ recPart 2 64 ++ recPart 3 64 ++ recPart 4 64 ++ recPart 5 64 ++
      recPart 6 64 ++ recPart 7 60 ++ [0, 0, 0, 0] := by decide +kernel
  have c : ∀ l : Bytes, recordCrc (recPart 0 64 ++ recPart 1 64 ++ recPart 2 64 ++ recPart 3 64 ++ recPart 4 64 ++ recPart 5 64 ++
    recPart 6 64 ++ recPart 7 60 ++ l) = 1104845878 := by
    intro l
    rw [← rec_crc]
    simp only [recordCrc]
    rw [List.take_append_of_le_length (by simp [recPart])]
  rw [e, c, recGood, c]
  decide +kernel

theorem witness_ConvoyMessagesAct_hello :
    let d := (wit [cvyWith, put QMGR_Q_STATE_STATE 1 0 (cvyQueue (wit [cvyWith]).dev ⟨3, 0⟩)]).dev
    let o := (wit [cvyWith, cvyMod (fun u => { u with outs := [⟨7, 5, 0, []⟩] })]).dev
    let l := (wit [cvyWith, cvyMod (fun u => { u with outs := [⟨7, 5, 31, []⟩] }), put CVY_RETX_RETX_MAX 3]).dev
    cvySends d = true ∧ cvyLinks d = [⟨3, 0⟩] ∧ admitTest d 6 (cellsFor (headRoom d) (14 + 40 + 24 + 16)) ≠ none ∧
    (helloBody d).length = 24 ∧ enqRefused d false (cvyQueue d ⟨3, 0⟩) = false ∧ cvySends live.dev = false ∧
    o.cvy.outs.find? (fun p => p.dest == 5 && p.seq == 7) = some ⟨7, 5, 0, []⟩ ∧ 0 < o.rd CVY_RETX_RETX_MAX ∧
    l.cvy.outs.find? (fun p => p.dest == 5 && p.seq == 7) = some ⟨7, 5, 31, []⟩ ∧ l.rd CVY_RETX_RETX_MAX ≤ 31 ∧
    (isActive live.dev pConvoy = false ∧ live.dev.cvy.departing = false) ∧ handedTo d 11 = [] := by decide +kernel

/-- The other ways in which a message is discarded: no key of its generation, another system, a repeated SEQ. -/
theorem witness_ConvoyMessagesAct_discarded :
    let g := msgIn 1 (List.replicate 24 0)
    msgKnown g = true ∧ genHeld (wit [cvyWith, cvyMod (fun u => { u with gens := [] })]).dev g.keygen 0 uDec = false ∧
    g.field 16 8 ≠ cvySysid (wit [put CVY_SYSID_LO_SYSID 1]).dev ∧
    seqMark { high := 7 } g.seq = none := by decide +kernel

/-- The record of station address 5, served by member 5, and its tombstone; a KEY record of generation 1, due at once. -/
def stRec (del : Bool) : Bytes := recordOf 3 del 5 1 1 (stationKey 5) 0 (toBE 2 5)
def keyRec : Bytes := recordOf 4 false 5 1 1 0x100 0 (toBE 4 1)

/-- A Convoy with member 5 in state `st`, a neighbour, and the store at DRAM address 0. -/
def cvyStore (st : Nat) (d : Dev) : Dev :=
  [put CVY_MBR_STATE_STATE st 0 5, put CVY_MBR_STATE_NEIGHBOUR 1 0 5, put CVY_HO_STA_LO_ADDR 5, put CVY_CFG_WARDEN 1,
    put CVY_STATUS_AUTHORITY 1, put CVY_CFG_MEMBER 0, openTo .regs, fun d => { d with tb := { d.tb with elapsed := 10 ^ 12 } }].foldl
    (fun e f => f e) (cvyWith d)

def cvyStoreAt (r : Bytes) : State :=
  let s := wit [cvyStore 1]
  { s with mem := memWrite [] ((bucketSlots s.dev (rKind r) (rKey r)).headD 0) r }

theorem witness_ConvoyStoreAndHandoverAct_members :
    let d := fun st => (wit [cvyStore st]).dev
    let t := fun del => cvyStoreAt (stRec del)
    (∀ st ∈ [1, 2], isActive (d st) pConvoy = true ∧ memberState (d st) 5 = st ∧ (d st).rd CVY_TIMERS_SEP_N * hbMs (d st) < memberAge (d st) 5 ∧
      (d st).rd CVY_TIMERS_SUSPECT_N * hbMs (d st) < memberAge (d st) 5) ∧
    memberState live.dev 0 = 0 ∧ isActive live.dev pConvoy = false ∧
    findRec 3 (stationKey 5) (d 1) [] = (none, (bucketSlots (d 1) 3 (stationKey 5)).head?, d 1) ∧
    (∀ del ∈ [false, true], findRec 3 (stationKey 5) (t del).dev (t del).mem =
        (some ((bucketSlots (d 1) 3 (stationKey 5)).headD 0, stRec del), none, (t del).dev) ∧ rDeleted (stRec del) = del) ∧
    memVerdict (d 1) 18 .write ((bucketSlots (d 1) 3 (stationKey 5)).headD 0) 256 = .granted ∧
    (t true).memCanonical = true := by decide +kernel

theorem witness_ConvoyStoreAndHandoverAct_keys :
    let s := cvyStoreAt keyRec
    let d := s.dev
    let r := (cvyMod (fun u => { u with gens := [(1, 0), (1, 1)] }) (put KEY_ATTR_VALID 1 0 108 (put KEY_ATTR_VALID 1 0 109
      (put KEY_ATTR_USAGE 63 0 108 (put KEY_ATTR_USAGE 63 0 109 d)))))
    (∀ x ∈ [d, r], isActive x pConvoy = true ∧ cvyGen x < 1 ∧ keyRec ∈ liveRecs kKEY x s.mem ∧ keyDue x keyRec = true) ∧
    keyGenOf keyRec = 1 ∧ genReady d 1 = false ∧ genReady r 1 = true ∧ d.on CVY_STATUS_AUTHORITY = true ∧
    (put CVY_STATUS_AUTHORITY 0 0 0 r).on CVY_STATUS_AUTHORITY = false ∧ ¬cvyGen live.dev < 0 ∧ d.cvy.evts.length < 64 := by
  decide +kernel

/-- A record of 192 bytes that the host asks to have written. -/
def askRec (kind : Nat) : Bytes := recordOf kind false 0 0 0 9 0 []

theorem witness_ConvoyStoreAndHandoverAct_records :
    let d := (wit [cvyStore 1]).dev
    let s := cvyStoreAt (stRec false)
    (∀ k ∈ [0, 2, 3, 5], writeTaken d 17 (pConvoy + 2) = true ∧ (askRec k).length = 192 ∧
      spaceRead 17 (recAddr d) 192 (some (askRec k)) d [] = (some (askRec k), d) ∧ rKind (askRec k) = k ∧
      (findRec k (rKey (askRec k)) d []).1 = none) ∧
    (∀ k ∈ [2, 3], recAllowed k d [] = true ∧ ∃ a ∈ bucketSlots d k 9, (findRec k 9 d []).2.1 = some a ∧
      memVerdict d 18 .write a 256 = .granted ∧ a + 256 ≤ seraiBase) ∧
    recAllowed 2 live.dev [] = false ∧ d.rd CVY_LAMPORT_L + 1 < 2 ^ 32 ∧ cvyEpoch d + 1 < 2 ^ 64 ∧
    (findRec 3 (rKey (stRec false)) s.dev s.mem).1.isSome = true ∧ recAllowed 3 s.dev s.mem = true ∧
    spaceRead 17 (recAddr s.dev) 192 (some (stRec false)) s.dev s.mem = (some (stRec false), s.dev) ∧
    memVerdict d 16 .write (recAddr d) 192 = .granted := by decide +kernel

theorem witness_ConvoyStoreAndHandoverAct_handover :
    let s := cvyStoreAt (stRec false)
    let t := cvyStoreAt (stRec true)
    let d := s.dev
    let b := (wit [cvyStore 1, put CVY_HO_CMD_BUSY 1, cvyMod (fun u => { u with ho := some ⟨5, 0, 16, 5⟩ })]).dev
    let x := fun st r => (wit [cvyStore 1, staWith st 2047, cvyMod (fun u => { u with exps := [⟨5, 2047, 5, 0, r⟩], departing := true })]).dev
    writeTaken d 16 (pConvoy + 2) = true ∧ d.on CVY_HO_CMD_BUSY = false ∧ b.on CVY_HO_CMD_BUSY = true ∧
    d.rd CVY_HO_STA_LO_ADDR + 2 ^ 32 * d.rd CVY_HO_STA_HI_ADDR = 5 ∧ stServing (stRec false) = 5 ∧ isNeighbour d 5 = true ∧
    isNeighbour (put CVY_MBR_STATE_NEIGHBOUR 0 0 5 d) 5 = false ∧ rDeleted (stRec true) = true ∧
    (findRec 3 (stationKey 5) t.dev t.mem).2.2 = t.dev ∧ cvySends d = true ∧ b.cvy.ho = some ⟨5, 0, 16, 5⟩ ∧
    isNeighbour b 5 = true ∧ cvySends b = true ∧ live.dev.cvy.ho = none ∧ expOf live.dev 0 = none ∧
    expOf (x 5 (some [])) 5 = some ⟨5, 2047, 5, 0, some []⟩ ∧ staState (x 5 (some [])) 2047 = 5 ∧
    expOf (x 5 none) 5 = some ⟨5, 2047, 5, 0, none⟩ ∧ (x 5 none).cvy.departing = true ∧ live.dev.cvy.departing = false ∧
    pageReadable live.dev 16 pConvoy = true ∧ present live.dev pConvoy = true ∧ live.dev.cvy.evts = [] := by decide +kernel

/-- A store with 1,025 MEMBER records, more than any limit of R735. -/
def manyMembers (n : Nat) : Memory := (List.range n).map (fun k => (256 * k, 1))

theorem memGet_other (x : Nat) : ∀ m : Memory, (∀ c ∈ m, c.1 ≠ x) → memGet m x = memDefault
  | [], _ => rfl
  | c :: m, h => by rw [memGet, if_neg (h c (by simp))]; exact memGet_other x m (fun e he => h e (by simp [he]))

theorem memGet_one (x : Nat) : ∀ m : Memory, (∀ c ∈ m, c.2 = 1) → (∃ c ∈ m, c.1 = x) → memGet m x = 1
  | [], _, h => by simp at h
  | c :: m, h1, h2 => by
    rw [memGet]
    split
    · exact h1 c (by simp)
    · obtain ⟨e, he, hx⟩ := h2
      refine memGet_one x m (fun y hy => h1 y (by simp [hy])) ⟨e, ?_, hx⟩
      rcases List.mem_cons.1 he with rfl | h
      · exact absurd hx ‹_›
      · exact h

theorem cvyStore_open (a n : Nat) (h0 : 0 < n) (h : a + n ≤ 2 ^ 22) : memVerdict (wit [cvyStore 1]).dev 18 .read a n = .granted := by
  generalize hd : (wit [cvyStore 1]).dev = d
  have c0 : dramCapacity d = 34359738368 := by subst hd; decide +kernel
  have a0 : isActive d 0xB0 = true := by subst hd; decide +kernel
  have a1 : isActive d 0xB4 = true := by subst hd; decide +kernel
  have f0 : regionOn d .dram 0 = true := by subst hd; decide +kernel
  have f1 : regionFirst d .dram 0 = 0 := by subst hd; decide +kernel
  have f2 : regionLast d .dram 0 = 0x3FFFFFF := by subst hd; decide +kernel
  have f3 : regionGrants d .dram 0 18 .read = true := by subst hd; decide +kernel
  have r1 : regionOf a = .dram := if_pos (by omega)
  have r2 : regionOf (a + (n - 1)) = .dram := if_pos (by omega)
  have act : isActive d (0xB0 + 4 * channelOf d a) = true := by
    have ch : channelOf d a = 0 ∨ channelOf d a = 1 := by
      unfold channelOf
      split
      · exact .inl rfl
      · split
        · omega
        · split <;> simp
    rcases ch with h | h <;> rw [h]
    · exact a0
    · exact a1
  have e : List.range 16 = 0 :: (List.range 16).tail := by decide
  have grant : ∀ g, g ≤ 0x3FFFFFF → granuleGrants d .dram g 18 .read = true := by
    intro g hg
    rw [granuleGrants, e, List.find?_cons_of_pos (by simp [f0, f1, f2, hg])]
    exact f3
  have n1 : ¬ dramCapacity d ≤ a + (n - 1) := by rw [c0]; omega
  simp [memVerdict, r1, r2, n1, act, customsGrant, grant (a / 4096) (by omega), grant ((a + (n - 1)) / 4096) (by omega)]

/-- A record of 192 bytes with KIND 1 and nothing else. -/
def bareMember : Bytes := 1 :: List.replicate 191 0

theorem bareMember_get (i : Nat) (h : i < bareMember.length) : bareMember[i] = if i = 0 then 1 else 0 := by
  cases i with
  | zero => rfl
  | succ i => exact List.getElem_replicate _

theorem manyMembers_read (n k : Nat) (hk : k < n) : memRead (manyMembers n) (256 * k) 192 = bareMember := by
  have z : ∀ i, 1 ≤ i → i < 192 → memGet (manyMembers n) (256 * k + i) = 0 := by
    intro i h1 h2
    refine memGet_other _ _ (fun c hc => ?_)
    simp only [manyMembers, List.mem_map, List.mem_range] at hc
    obtain ⟨j, hj, rfl⟩ := hc
    simp only
    omega
  have o : memGet (manyMembers n) (256 * k + 0) = 1 := by
    refine memGet_one _ _ (fun c hc => ?_) ⟨(256 * k, 1), ?_, rfl⟩
    · simp only [manyMembers, List.mem_map, List.mem_range] at hc
      obtain ⟨j, hj, rfl⟩ := hc
      rfl
    · simp only [manyMembers, List.mem_map, List.mem_range]
      exact ⟨k, hk, rfl⟩
  refine List.ext_getElem (by rw [memRead, List.length_map, List.length_range]; rfl) (fun i h1 h2 => ?_)
  rw [bareMember_get i h2]
  simp only [memRead, List.getElem_map, List.getElem_range]
  split
  · next h => rw [h, o]
  · rw [z i (by omega) (by simpa [memRead] using h1)]

theorem manyMembers_scan (n : Nat) (hn : n ≤ 2048) :
    storeScan (wit [cvyStore 1]).dev (manyMembers n) = List.replicate n bareMember := by
  have b : storeBase (wit [cvyStore 1]).dev = 0 := by decide +kernel
  have l : storeLog (wit [cvyStore 1]).dev = 12 := by decide +kernel
  have p : (wit [cvyStore 1]).dev.dram.poison = [] := by decide +kernel
  have f : (manyMembers n).filter (fun c => decide (0 ≤ c.1) && decide (c.1 < 0 + 1024 * 2 ^ 12) && (c.1 - 0) % 256 == 0) =
      manyMembers n := by
    rw [List.filter_eq_self]
    intro c hc
    simp only [manyMembers, List.mem_map, List.mem_range] at hc
    obtain ⟨k, hk, rfl⟩ := hc
    simp
    omega
  have q : ∀ k, k < n → (if memVerdict (wit [cvyStore 1]).dev cvyMaster .read (256 * k) 192 = .granted ∧
      (!poisonedAt (wit [cvyStore 1]).dev (256 * k) 192) = true then some (memRead (manyMembers n) (256 * k) 192) else none) =
      some bareMember := by
    intro k hk
    have q : poisonedAt (wit [cvyStore 1]).dev (256 * k) 192 = false := by
      have g : ¬seraiBase ≤ 256 * k := by rw [show seraiBase = 549755813888 from rfl]; omega
      rw [poisonedAt, if_neg g, dramPoisoned, p]
      rfl
    rw [manyMembers_read n k hk, if_pos ⟨cvyStore_open (256 * k) 192 (by omega) (by omega), by rw [q]; rfl⟩]
  have e : ∀ l : List Nat, (∀ k ∈ l, k < n) → (l.map (fun k => ((256 * k, 1) : Nat × Byte))).filterMap (fun c =>
      if memVerdict (wit [cvyStore 1]).dev cvyMaster .read c.1 192 = .granted ∧
        (!poisonedAt (wit [cvyStore 1]).dev c.1 192) = true then some (memRead (manyMembers n) c.1 192) else none) =
      List.replicate l.length bareMember := by
    intro l
    induction l with
    | nil => intro _; rfl
    | cons k l ih =>
      intro h
      rw [List.map_cons, List.filterMap_cons, q k (h k (by simp)), ih (fun j hj => h j (by simp [hj]))]
      rfl
  rw [storeScan, b, l]
  have g := e (List.range n) (fun k hk => by simpa using hk)
  rw [List.length_range] at g
  rw [← g]
  exact congrArg _ f

theorem witness_ConvoyStoreAndHandoverAct_limit : recAllowed 1 (wit [cvyStore 1]).dev (manyMembers 1025) = true ∧
    memberLimit 1 (List.replicate 160 0) (wit [cvyStore 1]).dev (manyMembers 1025) = true := by
  have k : rKind bareMember = 1 ∧ rDeleted bareMember = false ∧ rKey bareMember % 1024 = 0 := by decide +kernel
  have s := manyMembers_scan 1025 (by omega)
  generalize hb : List.replicate 160 (0 : Byte) = body
  generalize hn : (1025 : Nat) = n at s
  have m : memberRecs (wit [cvyStore 1]).dev (manyMembers n) = List.replicate n (0, rBody bareMember) := by
    rw [memberRecs, liveRecs, s, List.filter_replicate_of_pos (by simp [k, kMEMBER]), List.map_replicate, k.2.2]
  refine ⟨?_, ?_⟩
  · have a : (wit [cvyStore 1]).dev.on CVY_STATUS_AUTHORITY = true ∧ (wit [cvyStore 1]).dev.on CVY_CFG_WARDEN = true ∧
      cvySelf (wit [cvyStore 1]).dev = 0 := by decide +kernel
    obtain ⟨j, rfl⟩ : ∃ j, n = j + 1 := ⟨n - 1, by omega⟩
    rw [recAllowed, selfWarden, wardens, wardenRecs, m, a.1, a.2.1, a.2.2]
    cases h : Config.memberWarden (rBody bareMember) <;>
      simp [h, has, List.replicate_succ]
  · rw [memberLimit, m]
    have fm : ∀ (l : List Nat) (n : Nat), l.foldl min n ≤ n := by
      intro l
      induction l with
      | nil => intro n; exact Nat.le_refl n
      | cons x l ih => intro n; exact Nat.le_trans (ih _) (Nat.min_le_left _ _)
    rw [List.filter_replicate_of_pos (by decide), Bool.or_eq_true]
    refine .inr (decide_eq_true (Nat.lt_of_le_of_lt (fm _ _) ?_))
    rw [List.length_append, List.length_replicate, List.length_singleton]
    omega

/-! ### Witnesses: radios, links and the canceller -/

/-- Radio `n` in service on channel `c`. -/
def radioOn (n : Nat) (c : Chan) (d : Dev) : Dev :=
  put RADIO_CHAN_STATUS_LOCKED 1 n 0 (radioMod n (fun r => { r with use := some c }) (upAll [pRadio n] d))

/-- Radio B on 20 MHz channel 36. -/
def radioB (fs : List (Dev → Dev)) : Dev := (wit (radioOn 1 ⟨36, 36, 0, 0⟩ :: fs)).dev

/-- The channel `c` staged at radio 1. -/
def stage (c : Chan) (d : Dev) : Dev :=
  put RADIO_CHAN_CFG_CENTRE c.centre 1 0 (put RADIO_CHAN_CFG_PRIMARY c.primary 1 0 (put RADIO_CHAN_CFG_WIDTH c.width 1 0
    (put RADIO_CHAN_PUNCT_PUNCT c.punct 1 0 d)))

theorem witness_RadiosAct_calibrate :
    let e := fun k st c => (wit [put RADIO_CFG_CHAIN_MASK 255 1, put RADIO_CAL_STATUS_STEP st 1, put RADIO_CAL_STATUS_CHAIN c 1,
      radioMod 1 (fun r => { r with cal := some k })]).dev
    let u := radioB [put RADIO_CAL_CFG_TRACK_EN 1 1, radioMod 1 (fun r => { r with recal := [(0, 3)] })]
    frozen u = false ∧ frozen (e .prep 1 0) = false ∧ (radioOf live.dev 1).cal = none ∧
    (∀ k ∈ [CalKind.prep, .segment 0, .quick], ∀ st ∈ [1, 2, 8, 9], (radioOf (e k st 0) 1).cal = some k ∧
      (e k st 0).rd RADIO_CAL_STATUS_STEP 1 = st ∧ calChains (e k st 0) 1 k ≠ []) ∧
    nextRound 1 ((e .prep 9 0).rd RADIO_CAL_STATUS_CHAIN 1) (calChains (e .prep 9 0) 1 .prep) = some 2 ∧
    nextRound 1 ((e .prep 9 6).rd RADIO_CAL_STATUS_CHAIN 1) (calChains (e .prep 9 6) 1 .prep) = none ∧
    nextRound 1 ((e .quick 8 0).rd RADIO_CAL_STATUS_CHAIN 1) (calChains (e .quick 8 0) 1 .quick) = none ∧
    calSegment (e .prep 9 6) 1 .prep < 3 ∧
    radioUp u 1 = true ∧ airFreeAhead u 1 250000 = true ∧ u.on RADIO_CAL_CFG_TRACK_EN 1 = true ∧ (radioOf u 1).recal = [(0, 3)] ∧
    radioUp live.dev 1 = false := by decide

theorem witness_RadiosAct_tune :
    let u := fun fs => radioB fs
    let st := fun c => u [stage c]
    let ap := fun c => u [radioMod 1 (fun r => { r with apply := some c })]
    let re := u [radioMod 1 (fun r => { r with retune := some ⟨40, 40, 0, 0⟩ })]
    let off := (wit [stage ⟨36, 36, 0, 0⟩]).dev
    holding (u []) (pRadio 1) = false ∧ (u [put RADIO_FREQ_CFG_REF_TRACK 0 1]).on RADIO_FREQ_CFG_REF_TRACK 1 = false ∧
    (∀ v ∈ [2, stHoldover], let r := u [put RADIO_FREQ_CFG_REF_TRACK 1 1, put TIME_STATUS_STATE v]
      r.on RADIO_FREQ_CFG_REF_TRACK 1 = true ∧ servoState r = v) ∧ stHoldover ≠ 2 ∧
    (∀ k ∈ [0, 2, 3, 4], writeTaken (u []) 16 (pRadio 1 + k) = true) ∧
    (u [put RADIO_FIR_CTRL_PENDING 1 1]).on RADIO_FIR_CTRL_PENDING 1 = true ∧ (u []).on RADIO_FIR_CTRL_PENDING 1 = false ∧
    (let m := fun a => u [put RADIO_MASK_CTRL_COUNT 2 1, put RADIO_MASK_PT_OFFSET a 1 1]
     ascending ((maskPoints (m 1) 1).map (fun x => signed 12 x.1)) = true ∧
     ascending ((maskPoints (m 0) 1).map (fun x => signed 12 x.1)) = false) ∧
    (radioOf (u []) 1).maskNext = none ∧ (radioOf (u [radioMod 1 (fun r => { r with maskNext := some [] })]) 1).maskNext = some [] ∧
    live.dev.on RADIO_CHAN_STATUS_LOCKED 1 = false ∧ (u []).on RADIO_CHAN_STATUS_LOCKED 1 = true ∧
    isActive live.dev (pRadio 1) = false ∧ isActive (u []) (pRadio 1) = true ∧
    (u [put RADIO_CHAN_STATUS_BUSY 1 1]).on RADIO_CHAN_STATUS_BUSY 1 = true ∧ (u []).on RADIO_CHAN_STATUS_BUSY 1 = false ∧
    chanValid (st ⟨37, 36, 0, 0⟩) 1 (stagedChan (st ⟨37, 36, 0, 0⟩) 1) = false ∧
    chanValid (st ⟨40, 40, 0, 0⟩) 1 (stagedChan (st ⟨40, 40, 0, 0⟩) 1) = true ∧ isOff (st ⟨40, 40, 0, 0⟩) (pRadio 1) = false ∧
    chanValid off 1 (stagedChan off 1) = true ∧ isOff off (pRadio 1) = true ∧ writeTaken off 16 (pRadio 1) = true ∧
    (radioOf (u []) 1).apply = none ∧ (∀ c ∈ [Chan.mk 36 36 0 0, ⟨40, 40, 0, 0⟩], (radioOf (ap c) 1).apply = some c ∧
      (radioOf (ap c) 1).cal = none ∧ (radioOf (ap c) 1).use = some ⟨36, 36, 0, 0⟩) ∧
    (ap ⟨40, 40, 0, 0⟩).rd RADIO_CAL_STATUS_SEG_DONE 1 = 0 ∧
    (radioOf (u []) 1).retune = none ∧ (radioOf re 1).retune = some ⟨40, 40, 0, 0⟩ ∧ (radioOf re 1).cal = none ∧
    (∀ k ∈ [0, 63, 64], let r := u [put RADIO_RADAR_CFG_EN 1 1,
        radioMod 1 (fun r => { r with radar := List.replicate k ⟨1, 2, 3⟩ })]
      radioUp r 1 = true ∧ r.on RADIO_RADAR_CFG_EN 1 = true ∧ signed 8 (r.rd RADIO_RADAR_CFG_THRESH 1) < 127 ∧
      (radioOf r 1).radar.length = k ∧ pageReadable r 16 (pRadio 1 + 4) = true ∧ present r (pRadio 1 + 4) = true) ∧
    ¬(live.dev.on RADIO_RADAR_CFG_EN 1 = true) := by decide

/-- The links in the states `a`, `b` and `c`, the multi-link unit and STRC in service. -/
def linksIn (a b c : Nat) (d : Dev) : Dev :=
  put MLD_LINK_STATUS_STATE c 0 2 (put MLD_LINK_STATUS_STATE b 0 1 (put MLD_LINK_STATUS_STATE a 0 0
    (feats pMld (feats pStrc (upAll [pMld, pStrc] d)))))

/-- Links B and C up on radios B and C, STRC tracking. -/
def trackingOn (fs : List (Dev → Dev)) : Dev :=
  (wit ([linksIn 0 2 2, radioOn 1 ⟨36, 36, 0, 0⟩, radioOn 2 ⟨1, 1, 0, 0⟩, put STRC_STATUS_STATE scTRACKING] ++ fs)).dev

theorem witness_LinksAndCancellerAct :
    let li := fun a => (wit [linksIn a a a, radioOn 1 ⟨36, 36, 0, 0⟩, radioOn 0 ⟨1, 1, 0, 0⟩, radioOn 2 ⟨1, 1, 0, 0⟩]).dev
    let held := fun h => trackingOn [mldMod (fun u => { u with hold := some h }), put MLD_STR_HOLD_HOLD 1,
      fun d => { d with tb := { d.tb with elapsed := 500001 } }]
    let run := fun dir st prep => trackingOn [strcMod (fun u => { u with run := some (7, prep) }), put STRC_STATUS_DIR dir,
      put STRC_STATUS_STEP st, put STRC_CPL_B_PRESENT 1, put STRC_STATUS_STATE scTRAINING]
    frozen (trackingOn []) = false ∧
    (∀ a ∈ [0, 1, 2, 3], ∀ l ∈ [0, 1, 2], linkState (li a) l = a ∧ mldActs (li a) = true ∧ writeTaken (li a) 16 (pMld + 1) = true ∧
      isActive (li a) (pRadio l) = true ∧ chanOf (li a) l ≠ none ∧ radioReduced (li a) l = false) ∧
    mldActs (upAll [pMld] live.dev) = false ∧ writeTaken (upAll [pMld] live.dev) 16 (pMld + 1) = true ∧
    pairRow (held 1) = none ∧ (held 1).mld.hold = some 1 ∧ 1 + 500000 * (held 1).rd MLD_STR_HOLD_HOLD ≤ (held 1).tb.elapsed ∧
    ¬(2 + 500000 * (held 2).rd MLD_STR_HOLD_HOLD ≤ (held 2).tb.elapsed) ∧ pairRow live.dev = some (0, 9) ∧
    (writeTaken (trackingOn []) 16 pStrc = true ∧ isActive (trackingOn []) pStrc = true ∧ strcAccepted (trackingOn []) = true ∧
      (trackingOn []).strc.run = none ∧ strcState (trackingOn []) = 3) ∧
    (∀ dir ∈ [0, 1], ∀ st ∈ [1, 3, 4], (run dir st false).strc.run = some (7, false) ∧ (run dir st true).strc.run = some (7, true) ∧
      (run dir st true).rd STRC_STATUS_DIR = dir ∧ (run dir st true).rd STRC_STATUS_STEP = st ∧
      trainFault (run dir st true) dir [⟨0, 1, 2, -700, -20⟩] [] = false ∧
      trainFault (run dir st true) dir [⟨0, 1, 2, -700, -19⟩] [] = true) ∧
    trainFault (run 0 1 true) 0 [] [0] = true ∧ isActive (run 1 4 true) pStrc = true ∧
    (∀ v ∈ [0, 1], activeChains (trackingOn []) (victimRadio v) ≠ []) := by decide

/-! ### Witnesses: the air scheduler -/

/-- AIR in service on a grid of 16 slots from 0, at the start of slot `k`, periods up to `p` formed and resolved. -/
def airOnAt (k p : Nat) (d : Dev) : Dev :=
  let e := put AIR_GRID_CFG_PERIOD 16 0 0 (put AIR_GRID_BASE_S_LO_S 0 0 0 (feats pAir (upAll [pAir] d)))
  airMod (fun u => { u with first := some 0, formed := p, resolved := p, last := some (k - 1) })
    { e with tb := { e.tb with count := 64000 * k * 2 ^ 48 } }

/-- A BSS entry of DCLASS 3 on link C, and its occurrence at slot 5. -/
def bssEnt : AirEnt := { words := [2 ^ 31 + 2 * 2 ^ 29 + 3 * 2 ^ 27 + 4 * 2 ^ 24, 2 * 2 ^ 10 + 5, 0, 0], home := 2 }
def bssOcc : AirOcc := ⟨0, 2, 5, 3, 3, 0, 511⟩

/-- That entry and its plan, radio C in service at `c`. -/
def planned (c : Chan) (d : Dev) : Dev :=
  airMod (fun u => { u with table := { ents := [(0, bssEnt)] }, plans := [(0, [bssOcc])] }) (radioOn 2 c d)

theorem witness_AirSchedulerActs_slots :
    let a := (wit [airOnAt 5 2]).dev
    let c := (wit [airOnAt 5 1]).dev
    let f := (wit [airOnAt 5 2, put AIR_GRID_BASE_S_LO_S 1]).dev
    let p := (wit [airOnAt 5 2, planned ⟨1, 1, 0, 0⟩]).dev
    let x := (wit [airOnAt 5 2, planned ⟨1, 1, 0, 0⟩, upAll [], fun d => setBlockState (pRadio 2) .off d]).dev
    let again := (wit [airOnAt 5 2, airMod (fun u => { u with last := some 5 })]).dev
    airActs live.dev = false ∧ airActs a = true ∧ frozen a = false ∧ a.air.first ≠ none ∧
    (periodAt a (nowTotal a) = 0 ∧ periodsDue a.air.formed 0 (0 + airA a) = [] ∧ periodsDue a.air.resolved 0 (0 + 1) = [] ∧
      slotAt a (nowTotal a) = some 5 ∧ slotAgain 5 a = false ∧ slotAgain 5 again = true) ∧
    (airCoordinates c = false ∧ periodAt c (nowTotal c) = 0 ∧ periodsDue c.air.formed 0 (0 + airA c) = [1] ∧
      periodsDue c.air.resolved 0 (0 + 1) = [1] ∧ slotAt c (nowTotal c) = some 5) ∧
    slotAgain 5 (wit [airOnAt 5 1, airMod (fun u => { u with last := some 5 })]).dev = true ∧
    (airActs f = true ∧ periodsDue f.air.formed (periodAt f (nowTotal f)) (periodAt f (nowTotal f) + airA f) = [] ∧
      periodsDue f.air.resolved (periodAt f (nowTotal f)) (periodAt f (nowTotal f) + 1) = [] ∧ slotAt f (nowTotal f) = none) ∧
    (∀ d ∈ [p, x], airActs d = true ∧ d.air.last = some 4 ∧ 4 / airP d = 5 / airP d ∧ slotAgain 5 d = false ∧
      slotAt d (nowTotal d) = some 5 ∧
      (tabGet d.air.plans (5 / airP d) []).filter (fun x => x.start == 5 % airP d) = [bssOcc] ∧
      tabFind d.air.table.ents bssOcc.entry = some bssEnt ∧ bssEnt.kind ≠ 0 ∧ linksOf bssEnt = [bssOcc.link] ∧
      pairNstr d = false ∧ holding d pAir = false ∧ d.air.blocks = []) ∧
    2 ≤ bssEnt.dclass ∧ airUsable p p.air.table bssEnt 2 = true ∧ airUsable x x.air.table bssEnt 2 = false := by decide +kernel

theorem witness_AirSchedulerActs_apply :
    let b := fun n => (wit [airOnAt 5 2, planned ⟨1, 1, 0, 0⟩,
      airMod (fun u => { u with blocks := [⟨2, 5, n, [bssOcc], false, false⟩] })]).dev
    let a := (wit [airOnAt 5 2]).dev
    let n := fun d => (effectPeriods d).2
    let bad := (wit [airOnAt 5 2, put AIR_RES_W_WORD (2 ^ 31 + 3 * 2 ^ 29) 0 16380]).dev
    let good := (wit [airOnAt 5 2, radioOn 2 ⟨1, 1, 0, 0⟩, put AIR_RES_W_WORD (bssEnt.w 0) 0 0,
      put AIR_RES_W_WORD (bssEnt.w 1) 0 1]).dev
    (∀ l ∈ [2, 3], airActs (b l) = true ∧ radioUp (b l) 2 = true ∧ blockNow (b l) 2 = some ⟨2, 5, l, [bssOcc], false, false⟩) ∧
    ([bssOcc].foldl (fun x o => max x (minLen o.dir)) 0 = 3 ∧ slotInstant (b 3) 5 = nowTotal (b 3) ∧
      max (nowTotal (b 3) - pifs 2 false) (slotInstant (b 3) 5) + 64000 * 3 = slotInstant (b 3) (5 + 3)) ∧
    airOn live.dev = false ∧ airOn a = true ∧ writeTaken a 16 (pAir + 1) = true ∧ writeTaken live.dev 16 (pAir + 1) = true ∧
    (wit [airOnAt 5 2, put AIR_TBL_STATUS_PENDING 1]).dev.on AIR_TBL_STATUS_PENDING = true ∧ a.on AIR_TBL_STATUS_PENDING = false ∧
    applyRefused bad (stagedTable bad) (n bad) = some (1, 4095) ∧ applyRefused good (stagedTable good) (n good) = none ∧
    good.on AIR_TBL_STATUS_PENDING = false ∧
    (∀ i ∈ [0, 4095], let r := (wit [airOnAt 5 2, put AIR_RES_IDX_ENTRY i, put AIR_RES_STAT_STATE 2 0 i]).dev
      airOn r = true ∧ r.rd AIR_RES_IDX_ENTRY = i ∧ r.rd AIR_RES_STAT_STATE 0 i = 2) := by decide +kernel

theorem witness_AirSchedulerActs_triggers :
    let d := (wit [airOnAt 5 2, put AIR_BSRP_BSRP_MS 10]).dev
    let u := fun fs => (wit ([radioOn 1 ⟨36, 36, 0, 0⟩] ++ fs)).dev
    airActs d = true ∧ d.on AIR_BSRP_BSRP_MS = true ∧ ulThrottled d = false ∧
    (wit [airOnAt 5 2, put AIR_BSRP_BSRP_MS 0]).dev.on AIR_BSRP_BSRP_MS = false ∧
    radioUp (u []) 1 = true ∧ airActs (u []) = false ∧ radioUp live.dev 1 = false ∧
    pairNstr (u [put MLD_PAIR_STATUS_BC 2]) = true ∧ holding (u [put MLD_PAIR_STATUS_BC 2]) pMld = false ∧
    pairNstr (u []) = false ∧ (u [put MLD_LINK_STATUS_MSD 1 0 1]).on MLD_LINK_STATUS_MSD 0 1 = true ∧
    (u []).on MLD_LINK_STATUS_MSD 0 1 = false := by decide

/-- A part of a plan of one entry, of period 3, of the parts `parts`. -/
def planPart (parts : Nat) : Bytes :=
  toBE 4 3 ++ toBE 2 16 ++ [2, 0] ++ toBE 1 parts ++ [0] ++ toBE 6 0 ++ toBE 4 0 ++ toBE 4 1 ++ [0, 1] ++ toBE 2 0 ++ [2, 0, 1, 0]

/-- Coordination on, with neighbour 5 heard. -/
def coordOn (p : Nat) (d : Dev) : Dev :=
  nbrMod 5 (fun x => { x with heard := [(0, (0, d.tb.elapsed))] }) (put AIR_CVY_CFG_EN 1 0 0 (put AIR_CVY_CFG_AHEAD 2 0 0
    (allFeats (put AIR_GRID_CFG_PERIOD p 0 0 d))))

theorem witness_AirSchedulerActs_plans : CvyReady 9 (planPart 1) [coordOn 16] ∧ CvyReady 9 (planPart 1) [coordOn 17] ∧
    CvyReady 9 (planPart 0) [] ∧
    (let d := fun p => (cvyState 9 (planPart 1) [coordOn p]).dev
     let same := fun p => be (planPart 1) 4 2 = airP (d p) ∧ be (planPart 1) 6 1 = airA (d p) ∧
       be (planPart 1) 16 4 = (d p).rd AIR_GRID_BASE_NS_NS ∧
       be (planPart 1) 10 6 = (d p).rd AIR_GRID_BASE_S_LO_S + 2 ^ 32 * (d p).rd AIR_GRID_BASE_S_HI_S
     (∀ p ∈ [16, 17], airCoordinates (d p) = true ∧ (nbrList (d p)).any (fun n => n.1 == 5) = true) ∧
     partBad (planPart 1) = false ∧ partBad (planPart 0) = true ∧ be (planPart 1) 8 1 = 1 ∧ same 16 ∧ ¬same 17 ∧
     airCoordinates (cvyState 9 (planPart 0) []).dev = false) := by
  refine ⟨?_, ?_, ?_, ?_⟩ <;> decide +kernel

/-! ### Witnesses: frames of the radios -/

/-- A data MPDU of TID 5, and a PPDU of format 1 from address 5 that holds `l`. -/
def dataMpdu (sn : Nat) (f : Bytes) : RxMpdu := { fcsOk := true, kind := .data true false false [f], tid := 5, sn := sn }
def rxPpdu (l : List RxMpdu) : RxPpdu :=
  { format := 1, headerOk := true, ta := 5, toUs := true, rssi := 200, offset := 0, doze := true, chains := [], mpdus := l }

/-- Radio A in service on channel 1, and the station of entry 2047 in state `st`. -/
def wlan (st : Nat) (fs : List (Dev → Dev)) : Dev :=
  (wit ([radioOn 0 ⟨1, 1, 0, 0⟩, upAll [pSerai], staWith st 2047] ++ fs)).dev

/-- An agreement for TID 5 of that station at `ws`. -/
def agreement (ws : Nat) (d : Dev) : Dev :=
  put BA_RX_EN 1 0 (ti 2047 5) (put BA_RX_STATUS_WINSTART ws 0 (ti 2047 5) d)

theorem witness_RadioFramesAct_arrive :
    let d := fun st => wlan st []
    let b := fun ws => wlan 4 [agreement ws]
    frozen (d 4) = false ∧ radioUp (d 4) 0 = true ∧ (∀ f ∈ [0, 1], rxFormat (d 4) 0 f = true) ∧ rxFormat (d 4) 0 6 = false ∧
    radioUp live.dev 0 = false ∧ holding (d 4) (pRadio 0) = false ∧ holding (d 4) pSta = false ∧ isActive (d 4) pSta = true ∧
    staLookup (d 0) 0 5 = none ∧ (∀ st ∈ [2, 3, 4], staLookup (d st) 0 5 = some 2047 ∧ staState (d st) 2047 = st) ∧
    (baOn (d 4) 2047 5 = false ∧ (d 4).rst.inboundClosed = false ∧ live.memCanonical = true ∧
      admitTest (d 4) 0 (cellsFor (headRoom (d 4)) (max ((d 4).rd STA_W4_MAX_MPDU 0 2047) 64)) ≠ none) ∧
    (∀ ws ∈ [0, 4095], baOn (b ws) 2047 5 = true ∧ staState (b ws) 2047 = 4 ∧ staLookup (b ws) 0 5 = some 2047 ∧
      baVerdict (b ws) 2047 5 ((ws + 2048) % 4096) = .dup ∧ baVerdict (b ws) 2047 5 ws = .want ∧
      winStart (b ws) 2047 5 = ws ∧ ws < 4096 ∧ heldOf (b ws) 2047 5 = [] ∧ (b ws).rst.inboundClosed = false ∧
      admitTest (b ws) 0 (cellsFor (headRoom (b ws)) (max ((b ws).rd STA_W4_MAX_MPDU 0 2047) 64)) ≠ none) := by decide +kernel

theorem witness_RadioFramesAct_goOut :
    let x : Manifest := { head := 8, len := 64, queue := 7 }
    let tx := fun (k : TxKind) (other : Bool) => ({ kind := k, mpdus := [], dur := 100, otherRx := other } : TxPpdu)
    let d := wlan 4 [put QMGR_Q_CFG_OWNER_KIND 1 0 7, put QMGR_Q_CFG_OWNER_INDEX (2047 * 16 + 5) 0 7, handTo 6 x, seraiWith]
    let u := fun fs => (wit (radioOn 1 ⟨36, 36, 0, 0⟩ :: fs)).dev
    let n := u [put MLD_PAIR_STATUS_BC 2]
    let air := (wit [radioOn 1 ⟨36, 36, 0, 0⟩, airOnAt 5 2]).dev
    (radioUp d 0 = true ∧ txMayBegin d 0 (tx .su false) = true ∧ txMayBegin d 0 (tx .mu false) = false ∧
      txMayBegin air 1 (tx .trigger false) = true ∧ holding air pAir = false ∧ txMayBegin d 0 (tx .response true) = true) ∧
    (pairNstr n = true ∧ radioUp n 1 = true ∧ txMayBegin n 1 (tx .su true) = true ∧ holding n pMld = false) ∧
    (handedTo d (6 + 0) = [x] ∧ ownerKind d x.queue = 1 ∧ ownerIndex d x.queue / 16 = 2047 ∧ staState d 2047 = 4 ∧
      (staOf d 2047).stopping = false ∧ twtAsleep d 0 2047 = false ∧ txEndsByClose d 0 100 x = true ∧
      d.on BA_TX_EN 0 (ti 2047 (ownerIndex d x.queue % 16)) = false ∧ framePoisoned d x.head 0 x.len = false ∧ d.on STA_W4_KEY_VALID 0 2047 = false ∧
      d.rd STA_TX_CFG_RETRY_LIMIT ≠ 0 ∧ (staOf d 2047).outst = []) := by decide +kernel

theorem witness_RadioFramesAct_beacons :
    let li := fun a left => (wit [linksIn a a a, radioOn 2 ⟨1, 1, 0, 0⟩, put MLD_LINK_STATUS_TBTT_LEFT left 0 2]).dev
    radioUp live.dev 0 = false ∧ (∀ a ∈ [2, 3], ∀ left ∈ [0, 1, 2], radioUp (li a left) 2 = true ∧ mldActs (li a left) = true ∧
      linkUp (li a left) 2 = true ∧ linkState (li a left) 2 = a ∧ (li a left).rd MLD_LINK_STATUS_TBTT_LEFT 0 2 = left) ∧
    (∀ left ∈ [1, 2], let x := (wit [linksIn 3 3 3, put MLD_LINK_STATUS_TBTT_LEFT left 0 2]).dev
      radioUp x 2 = false ∧ linkState x 2 = 3 ∧ x.rd MLD_LINK_STATUS_TBTT_LEFT 0 2 = left) := by
  decide

/-! ### Witnesses: Outrider -/

/-- Outrider in service; neighbour `e` of MODE `m` in state `st`, of short address 0x1234. -/
def outrWith (e st m : Nat) (d : Dev) : Dev :=
  [put NBR_W0_STATE st 0 e, put NBR_IDX_ENTRY e, put OM_ADDR_SHORT 1,
    onbrMod e (fun n => { n with mode := m, short := 0x1234, profile := 0 })].foldl (fun x f => f x) (upAll [pOp, pOm] d)

def outrDev (e st m : Nat) (fs : List (Dev → Dev)) : Dev := (wit (outrWith e st m :: fs)).dev

/-- A frame sent to neighbour 1022 that may wait for its acknowledgement of number 7. -/
def heldTo (tries : Nat) (waiting : Bool) : OutrHeld :=
  { x := { head := 8, len := 64, queue := 9 }, nbr := 1022, seq := some 7, tries := tries, waiting := waiting, nominal := none }

/-- A cell of link 2047 for neighbour `n`. -/
def cellOf (n asn : Nat) (tx expect : Bool) : OutrCell := ⟨2047, asn, 1, n, 0, 0, tx, false, expect, (asn + 1) * 10000000, false⟩

theorem witness_OutriderNeighboursAct :
    let d := fun e st fs => outrDev e st 0 fs
    let cal := fun k => d 0 1 [put OP_CAL_STATUS_RUNNING 1, put OP_CAL_STATUS_STEP k]
    let clash := d 1022 1 [put NBR_W0_STATE 0 0 7, put NBR_IDX_ENTRY 7, put NBR_W0_SHORT 0x1234 0 7]
    let both := d 1022 1 [outrWith 7 1 0, put NBR_W0_SHORT 0x1234 0 7]
    let old := fun st x => d 1022 st [put OM_AGE_NBR_AGE 1, fun d => { d with tb := { d.tb with elapsed := x } }]
    let cell := fun n ex => d 1022 1 [outrMod (fun u => { u with cell := some (cellOf n 4 false ex) })]
    (isActive live.dev pOp = false ∧ isActive (d 0 1 []) pOp = true ∧ holding (d 0 1 []) pOp = false ∧ frozen (d 0 1 []) = false) ∧
    (live.dev.on OP_CAL_STATUS_RUNNING = false ∧ ∀ k ∈ [1, 5, 6], (cal k).on OP_CAL_STATUS_RUNNING = true ∧
      (cal k).rd OP_CAL_STATUS_STEP = k ∧ holding (cal k) pOp = false ∧ (cal k).on HDR_ERR_CODE_VALID pOp = false) ∧
    (∀ e ∈ [0, 1022, 1023], ∀ st ∈ [0, 1, 2, 3], writeTaken (d e st []) 16 (pOm + 2) = true ∧ (d e st []).rd NBR_IDX_ENTRY = e ∧
      onState (d e st []) e = st ∧ (d e st []).rd NBR_W0_SHORT 0 e = 0xFFFE ∧ (d e st []).rd NBR_W1_EXT 0 e = 0) ∧
    (∀ c ∈ [clash, both], c.rd NBR_IDX_ENTRY = 7 ∧ 1022 ∈ onEntries c ∧ c.rd NBR_W0_SHORT 0 7 = 0x1234 ∧
      (onbr c 1022).short = 0x1234) ∧ onState clash 7 = 0 ∧ onState both 7 = 1 ∧ writeTaken both 16 (pOm + 2) = true ∧
    (∀ f ∈ [0, 1, 2, 5, 63], (d 1022 1 [put NBR_STAT_FAILS f 0 1022]).rd NBR_STAT_FAILS 0 1022 = f) ∧
    ((onbr (old 1 500000000) 1022).lostSaid = false ∧ (onbr (old 1 0) 1022).heard = 0 ∧
      0 + 500000000 * max 1 ((old 1 500000000).rd OM_AGE_NBR_AGE) ≤ (old 1 500000000).tb.elapsed ∧ onState (old 1 500000000) 1022 ≠ 0) ∧
    (outrActs (d 1022 3 []) = true ∧ cellNow (d 1022 3 []) = none ∧ (onbr (d 1022 3 []) 1022).period = 0 ∧
      (onbr (d 1022 3 []) 1022).listened = none ∧ (d 1022 3 []).outr.listen = none ∧ profValid (d 1022 3 []) 0 = true ∧
      profChanOk (d 1022 3 []) 0 0 = true ∧ profChanOk (d 1022 3 []) 0 100 = false ∧
      (onbr (d 1022 3 [onbrMod 1022 (fun n => { n with advChan := 100 })]) 1022).advChan = 100) ∧
    (pageReadable (d 0 1 []) 16 pOm = true ∧ present (d 0 1 []) pOm = true ∧ (d 0 1 []).outr.evts = [] ∧
      (d 0 1 [outrMod (fun u => { u with evts := [(1, 1023)] })]).outr.evts = [(1, 1023)]) ∧
    (live.dev.outr.cell = none ∧ (cell 0x3FF true).outr.cell = some (cellOf 0x3FF 4 false true) ∧
      (cell 1022 true).outr.cell = some (cellOf 1022 4 false true)) ∧
    (live.dev.outr.held = [] ∧ ∀ k ∈ [0, 7], let h := d 1022 1 [put OM_RETRY_MAX_RETRIES 0, seraiWith,
        outrMod (fun u => { u with held := [heldTo k true] })]
      h.outr.held.find? (fun g => g.nbr == 1022 && g.waiting) = some (heldTo k true) ∧ holding h pOm = false ∧
      h.rd OM_RETRY_MAX_RETRIES = 0 ∧ caravanAt h 8 = some { cells := [8, 9], refs := 2 }) := by decide +kernel

/-- A data frame from 0x1234 to 1 that asks for an acknowledgement, one without a number, a flood, and an
acknowledgement of number 7. -/
def outrData (q : Byte) : Bytes := [0x61, 0x88, q, 0xFF, 0xFF, 1, 0, 0x34, 0x12, 5]
def outrNoSeq : Bytes := [0x41, 0xA9, 0xFF, 0xFF, 1, 0, 0x34, 0x12, 5]
def outrFlood : Bytes := [0x41, 0x88, 9, 0xFF, 0xFF, 0xFF, 0xFF, 0x34, 0x12, 0x3F, 4, 9, 0, 3, 0, 1]
def outrAckOf : Bytes := [2, 0, 7]

theorem witness_OutriderFramesAct_arrive :
    let d := fun st fs => outrDev 1022 st 0 (upAll [pSerai] :: put OP_BAND_BAND 1 :: fs)
    let seq := fun high map v => d 1 [put NBR_SEQ_HIGH high 0 1022, put NBR_SEQ_MAP_MAP map 0 1022, put NBR_SEQ_VALID v 0 1022]
    let f := fun (b : Bytes) => outrMac b
    let seen := d 1 [put OM_FLOOD_CFG_DISPATCH 0x3F, outrMod (fun u => { u with seen := [⟨9, 3, 0, 1⟩] })]
    (outrDetects (d 1 []) 0 = true ∧ outrDetects (d 1 []) 12 = false ∧ holding (d 1 []) pOp = false ∧ isActive (d 1 []) pOm = true) ∧
    (f outrAckOf).type = 2 ∧ (f outrAckOf).seq = some 7 ∧
    (∀ st ∈ [0, 1], (d st [outrMod (fun u => { u with held := [heldTo 1 true] })]).outr.held.find?
      (fun g => g.waiting && g.seq == some 7) = some (heldTo 1 true)) ∧
    ((f (outrData 9)).type = 1 ∧ outrAccepts (d 1 []) (f (outrData 9)) = true ∧
      outrAccepts (d 1 [put OM_ADDR_SHORT 2]) (f (outrData 9)) = false ∧ (f (outrData 9)).seq = some 9 ∧
      (f (outrData 9)).ackReq = true ∧ (f (outrData 9)).dst = .short 1 ∧ (f outrNoSeq).seq = none ∧ outrAccepts (d 1 []) (f outrNoSeq) = true) ∧
    (floodHeader seen (f outrFlood).dst (f outrFlood).payload outrFlood = some (4, 9, 3) ∧ outrAccepts seen (f outrFlood) = true ∧
      seenFind seen 9 3 = some ⟨9, 3, 0, 1⟩) ∧
    (outrSource (d 0 []) (f (outrData 9)).src = none ∧ outrSource (d 1 []) (f (outrData 9)).src = some 1022 ∧
      outrSource (d 1 []) (f outrNoSeq).src = some 1022 ∧
      floodHeader (d 1 []) (f (outrData 9)).dst (f (outrData 9)).payload (outrData 9) = none ∧
      floodHeader (d 1 []) (f outrNoSeq).dst (f outrNoSeq).payload outrNoSeq = none) ∧
    (live.dev.rst.inboundClosed = false ∧ live.memCanonical = true ∧ admitTest (d 1 []) 5 (cellsFor (headRoom (d 1 [])) 10) ≠ none ∧
      admitTest (outrDev 1022 1 0 []) 5 (cellsFor (headRoom (outrDev 1022 1 0 [])) 10) = none) ∧
    (∀ x ∈ [(9, 0, 1), (41, 2 ^ 31, 1), (8, 0, 1), (40, 0, 1), (0, 0, 0)], (seq x.1 x.2.1 x.2.2).rd NBR_SEQ_HIGH 0 1022 = x.1 ∧
      (seq x.1 x.2.1 x.2.2).rd NBR_SEQ_MAP_MAP 0 1022 = x.2.1 ∧ ((seq x.1 x.2.1 x.2.2).on NBR_SEQ_VALID 0 1022 = (x.2.2 == 1))) := by
  decide +kernel

/-- A link 2047 of slotframe 7 at timeslot offset 4 with profile 0, for neighbour `n`. -/
def linkOf (n tx rx : Nat) (d : Dev) : Dev :=
  [put SF_CFG_EN 1 0 7, put SF_CFG_LENGTH 16 0 7, put OM_LINK_W_LO_VALID 1 0 2047, put OM_LINK_W_LO_SF 7 0 2047,
    put OM_LINK_W_LO_TX tx 0 2047, put OM_LINK_W_LO_RX rx 0 2047, put OM_LINK_W_LO_NBR n 0 2047, put OM_LINK_W_HI_TS_OFFSET 4 0 2047,
    put OM_TS_LEN_US 10000, put OM_EPOCH_S_LO_S 0].foldl (fun x f => f x)
    { d with tb := { d.tb with count := 40000000 * 2 ^ 48 } }

theorem witness_OutriderFramesAct_timeslots :
    let d := fun st n tx rx fs => outrDev 1022 st 0 (linkOf n tx rx :: fs)
    let send := d 1 1022 1 0 [outrMod (fun u => { u with held := [heldTo 1 false] })]
    let hear := d 1 1022 0 1 []
    let spans := d 1 1022 0 1 [outrMod (fun u => { u with cell := some { cellOf 1022 3 true false with span := 2, ends := 50000000 } })]
    let act := fun (x : Dev) => (outrLinks x).filter (fun i => linkAt x 4 i && !linkFree x i)
    outrActs live.dev = false ∧ asnAt (d 1 1022 1 0 [put OM_EPOCH_S_LO_S 1]) 40000000 = none ∧
    (∀ x ∈ [send, hear, spans], outrActs x = true ∧ asnAt x (nowTotal x) = some 4 ∧ x.outr.last = none ∧ act x = [2047] ∧
      profValid x 0 = true ∧ profChanOk x 0 (hopChan x 0 4 0) = true ∧ holding x pOm = false) ∧
    (d 1 1022 1 0 [outrMod (fun u => { u with last := some 4 })]).outr.last = some 4 ∧
    firstLink send ((act send).filter (linkSends send)) = some 2047 ∧ firstLink hear ((act hear).filter (linkSends hear)) = none ∧
    firstLink hear ((act hear).filter (linkListens hear)) = some 2047 ∧ linkListens spans 2047 = true ∧
    spans.outr.cell = some { cellOf 1022 3 true false with span := 2, ends := 50000000 } ∧ nowTotal spans < 50000000 ∧ send.outr.cell = none ∧
    (act (d 0 1022 1 0 []) = [] ∧ (outrLinks (d 0 1022 1 0 [])).filter (linkAt (d 0 1022 1 0 []) 4) = [2047] ∧
      linkFree (d 0 1022 1 0 []) 2047 = true) := by decide +kernel

theorem witness_OutriderFramesAct_goOut :
    let x : OutrTx := ⟨0, 0, false, 0⟩
    let s := fun m fs (h : OutrHeld) => frameAt8 (outrData 9) (wit (outrWith 1022 1 m :: fs ++
      [outrMod (fun u => { u with held := [h] })]))
    let fresh := { heldTo 0 false with x := { head := 8, len := 10, queue := 9 } }
    let w : OutrWay := ⟨0, 0, none⟩
    let cell := cellOf 1022 4 true false
    let wide := fun n => { cell with span := n }
    let inCell := s 0 [outrMod (fun u => { u with cell := some cell })] fresh
    let sleepy := fun m => s m [onbrMod 1022 (fun n => { n with period := 100 })] fresh
    outrActs inCell.dev = true ∧ cellNow inCell.dev = some cell ∧ cellServes inCell.dev 1022 false = [1022] ∧
    cellServes (outrDev 1022 3 0 []) 1022 false = [] ∧
    inCell.dev.outr.held.find? (fun g => g.nbr == 1022) = some fresh ∧ fresh.waiting = false ∧
    outrMac (readFrame inCell.dev inCell.mem 8 0 10) = outrMac (outrData 9) ∧ framePoisoned inCell.dev 8 0 10 = false ∧
    (readFrame inCell.dev inCell.mem 8 0 10).length = 10 ∧ tabFind inCell.dev.outr.relays 8 = none ∧
    outrTooLong inCell.dev ⟨0, 0, some cell⟩ x 1022 10 true = false ∧ outrTooLong inCell.dev w x 1022 10 true = false ∧
    outrTooLong inCell.dev w x 1022 125 true = false ∧ outrTooLong inCell.dev w x 1022 126 true = true ∧
    outrTooLong inCell.dev ⟨0, 0, some (wide 0)⟩ x 1022 10 true = true ∧ holding inCell.dev pOp = false ∧
    (let o := s 3 [] fresh
     outrActs o.dev = true ∧ cellNow o.dev = none ∧ onState o.dev 1022 = 1 ∧ (onbr o.dev 1022).mode = 3 ∧
     outsideProfile o.dev 1022 = (0, 0) ∧ profValid o.dev 0 = true ∧ profChanOk o.dev 0 0 = true ∧
     ∃ ns, outsideNs o.dev o.mem 1022 x = some ns ∧ fitsOutside o.dev ns = true) ∧
    (let o := s 3 [onbrMod 1022 (fun n => { n with advChan := 100 })] fresh
     profChanOk o.dev 0 (outsideProfile o.dev 1022).2 = false) ∧
    (outsideNs (outrDev 1022 1 3 []) [] 1022 x = none ∧ sleepyReady (outrDev 1022 1 1 []) 1022 1 = false) ∧
    (∀ m ∈ [1, 2], sleepyReady (sleepy m).dev 1022 m = true ∧ profChanOk (sleepy m).dev 0 (outsideProfile (sleepy m).dev 1022).2 = true ∧
      (outsideNs (sleepy m).dev (sleepy m).mem 1022 x).isSome = true ∧ fitsOutside (sleepy m).dev 1000000000 = true) := by
  decide +kernel

/-! ### The spec's worked examples, and single steps -/

/-- spec/00_scope.md, after R13: STATUS of SERAI. -/
theorem test_register_address : regAddr 0x10 0x010 = 0xF000010010 := by decide

/-- spec/02_register_model.md, after R50: line 1 of ETH3 is interrupt number 813. -/
theorem test_interrupt_number : numberOn (wit [put HDR_INT_RAW_RAW 256 0xCB, put HDR_INT_EN_EN 256 0xCB]).dev 813 = true ∧
    numberOn live.dev 813 = false ∧ 813 = 32 * 25 + 13 := by decide

/-- spec/06_radio_phy.md, after R240: NOISE_FLOOR −93.0 dBm, the reset settings. Steps 3 and 6, and step 6 on Radio A. -/
theorem test_shadow_capture : let d := (wit [put RADIO_NOISE_FLOOR_NF (2 ^ 16 - 372) 1]).dev
    refPower d 1 (-400) = -412 ∧ captures d 1 (-400) (-284) false = true ∧ captures d 1 (-284) (-232) true = false ∧
    captures (d.put RADIO_CAPTURE_CFG_CAPTURE_IN_DATA 1 1) 1 (-284) (-232) true = true := by decide

/-- spec/07_multilink.md, after R289: separations of 290, 210 and 370 MHz. -/
theorem test_separation : let d := fun (c : Chan) => (wit [radioOn 1 ⟨163, 149, 3, 0⟩, radioOn 2 c]).dev
    separation (d ⟨31, 5, 4, 0⟩) = 290 ∧ separation (d ⟨15, 5, 3, 0⟩) = 210 ∧ separation (d ⟨47, 37, 3, 0⟩) = 370 := by decide

/-- spec/09_stations.md, after R376: 40 against ws 105 is left of the window; 200 moves ws to 137 and is held. -/
theorem test_reorder_window : let d := (wit [put BA_RX_EN 1 0 (ti 731 5), put BA_RX_SIZE 64 0 (ti 731 5),
      put BA_RX_STATUS_WINSTART 105 0 (ti 731 5)]).dev
    snDist 105 40 = 4031 ∧ baVerdict d 731 5 40 = .dup ∧ winStart (baTake 731 5 200 none [] d) 731 5 = 137 ∧
    (heldOf (baTake 731 5 200 none [] d) 731 5).map (·.sn) = [200] := by decide +kernel

/-- spec/10_outrider.md, after R393: 20 octets at SF 32 with PREAMBLE_LEN 32, and an acknowledgement of 12 octets. -/
theorem test_long_range_airtime : outrAirtime 10 32 20 0 = 6848 ∧ outrAirtime 10 32 12 0 = 4800 := by decide

/-- spec/10_outrider.md, after R424: the drift sample of step 2. -/
theorem test_drift_sample : let d := driftSample 88 120000 1492000 (wit [put NBR_DRIFT_DRIFT 1240 0 88, put NBR_DRIFT_UNC 35 0 88,
      put OM_SYNC_DRIFT_SHIFT 3, onbrMod 88 (fun n => { n with driftValid := true })]).dev
    d.rd NBR_DRIFT_DRIFT 0 88 = 1240 ∧ d.rd NBR_DRIFT_UNC 0 88 = 31 := by decide

/-- spec/10_outrider.md, after R428: W_c of 2,440 µs takes 7 wake-up frames, one of 250 ms 680. -/
theorem test_wake_up_frames : wakeCount live.dev 2440000 544 = 7 ∧ wakeCount live.dev 250000000 544 = 680 ∧
    outrAirtime 0 0 11 0 = 544 := by decide

/-- spec/11_waystation.md, after R450: RATE 12,500, BURST 15,000, frames of 1,500 bytes every 12 µs: 11 pass. -/
def policeRun : Nat → Policer → List Bool
  | 0, _ => []
  | n + 1, p =>
    let q := polCredit (12000 + p.last.getD 0) p
    let ok := decide (1500 * polUnit ≤ q.tokens)
    ok :: policeRun n (if ok then { q with tokens := q.tokens - 1500 * polUnit } else q)
theorem test_policer : let l := policeRun 31 ⟨true, 12500, 15000, 15000 * polUnit, some 0⟩
    (List.range 31).filter (fun i => l.getD i false) = [0, 1, 2, 3, 4, 5, 6, 7, 8, 9, 10, 20, 30] := by decide

/-- spec/12_traffic_manager.md, after R485: two rounds of DRR. -/
def drrRun : Nat → Dev → List Nat × Dev
  | 0, d => ([], d)
  | n + 1, d => let r := drr 0 (fun q => [1024, 1500, 224].getD q 0) (fun _ => true) [0, 1, 2] d
    let z := drrRun n r.2
    (r.1.getD 9 :: z.1, z.2)
theorem test_drr : let r := drrRun 11 (wit [put TM_Q_QUANTUM_QUANTUM 1500 0 0, put TM_Q_QUANTUM_QUANTUM 3000 0 1,
      put TM_Q_QUANTUM_QUANTUM 500 0 2]).dev
    r.1 = [0, 1, 1, 2, 2, 0, 1, 1, 2, 2, 0] ∧ deficitOf r.2 2 = 104 ∧ deficitOf r.2 0 = 1428 := by decide +kernel

/-- spec/12_traffic_manager.md, after R491: the shaper at 0, 8, 16, 24, 32 and 40 µs, its counts in bytes. -/
def shaperRun : Nat → Nat → Dev → List (Int × Int)
  | 0, _, _ => []
  | n + 1, t, d =>
    let e := evalShaper 3 { d with tb := { d.tb with count := t * 2 ^ 48 } }
    let x := (shaperOf e 3).getD ⟨false, false, 0, 0, 0, 0, 0, 0, none, 0⟩
    (x.c / shpUnit, x.p / shpUnit) :: shaperRun n (t + 8000) (chargeShaper 1000 8000 e 3)
theorem test_shaper : shaperRun 8 0 (setShaper 3 ⟨false, false, 200000, 400000, 2000, 4000, 2000 * shpUnit, 4000 * shpUnit, none, 0⟩
    live.dev) = [(2000, 4000), (1200, 3400), (400, 2800), (-400, 2200), (-1200, 1600), (-1800, 1000), (-1800, 400), (-1800, -200)] := by
  decide

/-- spec/21_package_electrical.md, after R791: 765 mV with VOUT_MODE 0x14. -/
theorem test_vout_word : (voutWord 45 (wit [put PMB_STATUS_EXP 0x14]).dev).1 = 0x0C3D := by decide

/-- R154: cells that a frame takes, with 64 bytes of headroom. -/
theorem test_cells : cellsFor 64 192 = 1 ∧ cellsFor 64 193 = 2 := by decide

/-- A command in front of an empty queue runs, and an empty queue lets 2 ns pass. -/
theorem test_step_runs_front : step { live with pending := [.intrHeldPost] } = exec .intrHeldPost live := rfl
theorem test_idle_tick : (match step live with
    | .next t => t.dev.tb.elapsed
    | _ => 0) = live.dev.tb.elapsed + 1 := by decide

/-- No row of the table gives bits. -/
theorem test_no_table_word : decodeTableWord 32 0 = none ∧ live.withFetchWord 32 0 = live := by decide

/-- FIPS-197, C.3: AES-256 of 00112233445566778899AABBCCDDEEFF under 000102…1F. -/
theorem test_aes256 : aesEnc (roundKeys ((List.range 32).map (BitVec.ofNat 8))) ((List.range 16).map (fun i => BitVec.ofNat 8 (17 * i))) =
    [0x8E, 0xA2, 0xB7, 0xCA, 0x51, 0x67, 0x45, 0xBF, 0xEA, 0xFC, 0x49, 0x90, 0x4B, 0x49, 0x60, 0x89] := by decide +kernel

end Sys2Proof.Tests
end

namespace Sys2Proof.Machine

open Sys2Proof

/-! ### Frames of a command, from what it did to the device -/

theorem OffKeys.refl (ks : List Key) (d : Dev) : OffKeys ks d d := fun _ _ => rfl

/-- A write of a listed field stays within the list. -/
theorem OffKeys.put {ks : List Key} {d e : Dev} (h : OffKeys ks d e) {F : Fld} {n i : Nat} (hk : F.key n i ∈ ks)
    (v : Nat) : OffKeys ks d (e.put F v n i) := fun k hn =>
  (Dev.look_put_ne e F v n i k (fun x => hn (x ▸ hk))).trans (h k hn)

/-- A command that changed nothing of the device but registers, and those at listed homes. -/
theorem OnlyKeys.of_regs {ks : List Key} {s : State} {e : Dev} (hr : { e with regs := [] } = { s.dev with regs := [] })
    (hk : OffKeys ks s.dev e) : OnlyKeys ks s { s with dev := e } := ⟨⟨rfl, rfl⟩, hk, hr⟩

theorem OffPages.refl (ps : List Nat) (d : Dev) : OffPages ps d d := fun _ _ => rfl

/-- A field off the listed pages lies on none of them. -/
theorem OffPages.ne_of_mem {ps : List Nat} {k : Key} (hk : ps.contains (k.reg / 4096) = false) {p : Nat} (hp : p ∈ ps) :
    k.reg / 4096 ≠ p := fun h => by
  rw [h, List.contains_eq_mem, decide_eq_false_iff_not] at hk
  exact hk hp

/-- A write of a field of a listed page stays within the list. -/
theorem OffPages.put {ps : List Nat} {d e : Dev} (h : OffPages ps d e) {F : Fld} {n : Nat} (hp : F.pageOf n ∈ ps)
    (ho : F.off < 4096) (v i : Nat) : OffPages ps d (e.put F v n i) := fun k hk =>
  (look_put_page k F v n i e ho (ne_of_mem hk hp)).trans (h k hk)

/-- Routing the lines that rise changes no page but that of the MSI-X pending bits. -/
theorem OffPages.withLines {ps : List Nat} {d e : Dev} {f : Dev → Dev} (h : OffPages ps d (f e)) (hx : 0xCE ∈ ps)
    (p : Nat) : OffPages ps d (withLines p f e) := fun k hk =>
  (look_withLines k (fun x => ne_of_mem hk hx (by rw [x]; rfl)) p f e).trans (h k hk)

/-- Raising causes of a listed page stays within the list. -/
theorem OffPages.raise {ps : List Nat} {d e : Dev} (h : OffPages ps d e) {p : Nat} (hp : p ∈ ps) (hx : 0xCE ∈ ps)
    (m : Nat) : OffPages ps d (raise p m e) := fun k hk =>
  (look_raise_page k p m e (ne_of_mem hk hp) (ne_of_mem hk hx)).trans (h k hk)

/-- A report of a listed page stays within the list, DIAG's page among it. -/
theorem OffPages.report {ps : List Nat} {d e : Dev} (h : OffPages ps d e) {r : ErrRec} (hp : r.page ∈ ps)
    (hd : 0xF0 ∈ ps) (hx : 0xCE ∈ ps) : OffPages ps d (report r e) := fun k hk =>
  (look_report_page k r e (ne_of_mem hk hp) (ne_of_mem hk hd) (ne_of_mem hk hx)).trans (h k hk)

/-- Counting on a listed page stays within the list. -/
theorem OffPages.count {ps : List Nat} {d e : Dev} (h : OffPages ps d e) {F : Fld} {n : Nat} (hp : F.pageOf n ∈ ps)
    (ho : F.off < 4096) (i : Nat) : OffPages ps d (count F n i e) := fun k hk =>
  (look_count_page k F n i e ho (ne_of_mem hk hp)).trans (h k hk)

/-- While the units are as they were, so is every part of a state that keeps its memory and its queue. -/
theorem Part.same_of_units {s : State} {e : Dev} (hu : e.units = s.dev.units) (p : Part) :
    p.same s { s with dev := e } := by
  simp only [Dev.units, Dev.mk.injEq, true_and, and_true] at hu
  cases p <;> simp only [Part.same, hu]

/-- A command that left the units and the registers of all other pages. -/
theorem OnlyPages.of_units {ps : List Nat} {s : State} {e : Dev} (hu : e.units = s.dev.units)
    (hp : OffPages ps s.dev e) : OnlyPages ps s { s with dev := e } := ⟨fun p _ => Part.same_of_units hu p, hp⟩

/-! ### Fields read through updates of the registers -/

/-- A field that an update leaves in the store reads as before. -/
theorem Dev.rd_of_look {d e : Dev} {F : Fld} {n i : Nat} (h : regLook (F.key n i) e.regs = regLook (F.key n i) d.regs) :
    e.rd F n i = d.rd F n i := by simp only [Dev.rd, h]

/-- Writes of other fields leave a field. -/
theorem Dev.rd_foldl_put_ne {l : List Fld} {F : Fld} {p : Nat} (h : ∀ G ∈ l, G.key p 0 ≠ F.key p 0) (v : Nat) (d : Dev) :
    (l.foldl (fun e G => e.put G v p) d).rd F p = d.rd F p := by
  induction l generalizing d with
  | nil => rfl
  | cons G l ih =>
    rw [List.foldl_cons, ih (fun H hH => h H (List.mem_cons_of_mem _ hH))]
    exact Dev.rd_put_ne d G F v p 0 p 0 (h G List.mem_cons_self)

/-- Clearing fields with homes of their own clears each of them. -/
theorem Dev.rd_foldl_clear {l : List Fld} {p : Nat} (h : l.Pairwise (fun F G => G.key p 0 ≠ F.key p 0)) {F : Fld}
    (hF : F ∈ l) (d : Dev) : (l.foldl (fun e G => e.put G 0 p) d).rd F p = 0 := by
  induction l generalizing d with
  | nil => exact absurd hF List.not_mem_nil
  | cons G l ih =>
    obtain ⟨hG, hl⟩ := List.pairwise_cons.mp h
    rw [List.foldl_cons]
    rcases List.mem_cons.mp hF with rfl | hF
    · rw [Dev.rd_foldl_put_ne hG, Dev.rd_put_self, Nat.zero_mod]
    · exact ih hl hF _

/-- Writes of fields of a listed page stay within the list. -/
theorem OffPages.foldl_put {ps : List Nat} {p : Nat} {l : List Fld} (hl : ∀ F ∈ l, F.pageOf p ∈ ps ∧ F.off < 4096) (v : Nat)
    {d e : Dev} (h : OffPages ps d e) : OffPages ps d (l.foldl (fun x F => x.put F v p) e) := by
  induction l generalizing e with
  | nil => exact h
  | cons F l ih =>
    obtain ⟨hp, ho⟩ := hl F List.mem_cons_self
    exact ih (fun G hG => hl G (List.mem_cons_of_mem _ hG)) (h.put hp ho v 0)

/-! ### Reports and the registers behind a page's header -/

/-- A write of a header field leaves every register from 0x040 on, on every page (R42). -/
theorem look_put_header (k : Key) (hk : 0x40 ≤ k.reg % 4096) {F : Fld} (hF : F.page = 0) (hs : F.span = 1)
    (ho : F.off < 0x40) (v p : Nat) (d : Dev) : regLook k (d.put F v p).regs = regLook k d.regs := by
  refine Dev.look_put_ne _ _ _ _ _ _ (fun x => ?_)
  rw [← x] at hk
  simp only [Fld.key, hF, hs] at hk
  omega

/-- A capture writes the header of its page and the MSI-X pending bits alone (R46). -/
theorem look_capture_header (k : Key) (hk : 0x40 ≤ k.reg % 4096) (hx : k.reg / 4096 ≠ 0xCE) (e : ErrRec) (d : Dev) :
    regLook k (capture e d).regs = regLook k d.regs := by
  unfold capture captureNow
  split
  · rfl
  · split
    · exact look_put_header k hk rfl rfl (by decide) _ _ _
    · rw [raiseBit, look_raise k (fun h => hx (by rw [h]; rfl)) _ (fun h => by omega)]
      iterate 7 rw [look_put_header k hk rfl rfl (by decide)]

/-- A report leaves every register from 0x040 on, but those of DIAG and the MSI-X pending bits. -/
theorem look_report_header (k : Key) (hk : 0x40 ≤ k.reg % 4096) (hd : k.reg / 4096 ≠ 0xF0) (hx : k.reg / 4096 ≠ 0xCE)
    (e : ErrRec) (d : Dev) : regLook k (report e d).regs = regLook k d.regs :=
  (look_diagReport_page k e _ hd hx).trans (look_capture_header k hk hx e d)

/-! ### Counting -/

/-- A counter whose block does not hold its statistics counts. -/
theorem rd_count_of_not_holding {F : Fld} {n i : Nat} {d : Dev} (h : holding d (firstPage (F.pageOf n)) = false) :
    (count F n i d).rd F n i = satAdd (2 ^ F.width - 1) (d.rd F n i) 1 % 2 ^ F.width := by
  simp [count, bump, h, satPut, Dev.rd_put_self]

/-- What a refusal of the customs tables counts: CUSTOMS ignores FREEZE and snapshots (R68, R75). -/
theorem rd_customsRefuse_viol (t : CustomsTarget) (m : Nat) (k : AccKind) (a : Nat) (d : Dev) :
    (customsRefuse t m k a d).rd CUSTOMS_VIOL_COUNT 0 (targetNo t) =
      satAdd (2 ^ CUSTOMS_VIOL_COUNT.width - 1) (d.rd CUSTOMS_VIOL_COUNT 0 (targetNo t)) 1 %
        2 ^ CUSTOMS_VIOL_COUNT.width := by
  have hr : ∀ e : ErrRec, (report e d).rd CUSTOMS_VIOL_COUNT 0 (targetNo t) = d.rd CUSTOMS_VIOL_COUNT 0 (targetNo t) :=
    fun e => Dev.rd_of_look (look_report_header _ (by simp [Fld.key, CUSTOMS_VIOL_COUNT])
      (by simp [Fld.key, CUSTOMS_VIOL_COUNT]) (by simp [Fld.key, CUSTOMS_VIOL_COUNT]) e d)
  unfold customsRefuse
  rw [rd_count_of_not_holding rfl, hr]

/-- A refusal changes the page that captures it, those that a report shows on, and the CUSTOMS counters. -/
theorem OffPages.customsRefuse {ps : List Nat} {d e : Dev} (h : OffPages ps d e) {t : CustomsTarget} {k : AccKind}
    {m a : Nat} (hp : violationPage e t a ∈ ps) (hd : 0xF0 ∈ ps) (hx : 0xCE ∈ ps) (hc : 7 ∈ ps) :
    OffPages ps d (customsRefuse t m k a e) :=
  (h.report hp hd hx).count (F := CUSTOMS_VIOL_COUNT) (n := 0) hc (by decide) _

/-- A refusal writes no register from 0x040 on but those of CUSTOMS, DIAG and the MSI-X pending bits. -/
theorem look_customsRefuse_header (k : Key) (hk : 0x40 ≤ k.reg % 4096) (hc : k.reg / 4096 ≠ 7) (hd : k.reg / 4096 ≠ 0xF0)
    (hx : k.reg / 4096 ≠ 0xCE) (t : CustomsTarget) (m : Nat) (a : AccKind) (i : Nat) (d : Dev) :
    regLook k (customsRefuse t m a i d).regs = regLook k d.regs :=
  (look_count_page k CUSTOMS_VIOL_COUNT 0 _ _ (by decide) hc).trans (look_report_header k hk hd hx _ d)

/-- A register write to an absent page is captured at SYS (R39, R68). -/
theorem violationPage_regs_absent {d : Dev} {page : Nat} (h : present d page = false) {off : Nat} (ho : off < 4096) :
    violationPage d .regs (regAddr page off) = 0 := by
  have hp : (regAddr page off - regBase) / 4096 = page := by
    unfold regAddr
    omega
  simp [violationPage, hp, h]

/-! ### Commands that write a register -/

/-- A write of a page's register, given what the register makes of it. -/
theorem pageWrite_eq {s : State} (hf : frozen s.dev = false) {m p off v : Nat} {x : DM}
    (h : regStore m p off (v % 2 ^ 32) (s.dev, s.mem) = x) :
    pageWrite m p off v s = .next { s with dev := x.1, mem := x.2 } := by
  rw [pageWrite, updMem_live hf, h]

/-- The address of a register of the 512 pages lies in the register space (R12, R27). -/
theorem regionOf_regAddr {p off : Nat} (hp : p < 512) (ho : off < 4096) : regionOf (regAddr p off) = .regs := by
  unfold regionOf regAddr regBase
  rw [if_neg (by omega), if_neg (by omega), if_pos (by omega)]

/-- A register write at a register's address is a write of its page's register. -/
theorem exec_regWrite_regAddr {m p off v : Nat} (hp : p < 512) (ho : off < 4096) (h4 : off % 4 = 0) (s : State) :
    exec (.regWrite m (regAddr p off) v) s = pageWrite m p off v s := by
  have hr : regionOf (regAddr p off) = .regs ∧ regAddr p off % 4 = 0 := by
    refine ⟨regionOf_regAddr hp ho, ?_⟩
    unfold regAddr regBase
    omega
  have hpage : (regAddr p off - regBase) / 4096 = p := by
    unfold regAddr
    omega
  have hoff : (regAddr p off - regBase) % 4096 = off := by
    unfold regAddr
    omega
  show updMem s (fun d mem => wordWrite m (regAddr p off) v (d, mem)) = _
  simp only [wordWrite, if_pos hr, hpage, hoff, pageWrite]

/-- R40: a granted write to an absent page, whatever its offset. -/
theorem regStore_absent {d : Dev} {m p : Nat} (hb : p ≠ pBryn) (hw : pageWritable d m p = true)
    (ha : present d p = false) (off v : Nat) (mem : Memory) :
    regStore m p off v (d, mem) = (absentWrite m p d, mem) := by
  by_cases hc : off = 0x00C
  · simp [regStore, hb, hc, ctrlWrite, hw, ha]
  · simp [regStore, hb, hc, writeTaken, writeLost, onDev, hw, ha]

/-- A write that is taken goes to the header or to the block (R42). -/
theorem regStore_taken {d : Dev} {m p off : Nat} (ht : writeTaken d m p = true) (hb : p ≠ pBryn) (hc : off ≠ 0x00C)
    (v : Nat) (mem : Memory) :
    regStore m p off v (d, mem) =
      if off < 0x040 then (headerStore m p off v d, mem) else blockStore m p off v (d, mem) := by
  simp [regStore, hb, hc, ht, onDev]

/-- A page that takes a write is one of R38's table. -/
theorem lt_of_present {d : Dev} {p : Nat} (h : present d p = true) : p < 512 := by
  simp only [present, listedPage, Bool.and_eq_true, Bool.or_eq_true, decide_eq_true_eq, beq_iff_eq] at h
  omega

theorem present_of_writeTaken {d : Dev} {m p : Nat} (h : writeTaken d m p = true) : present d p = true := by
  obtain ⟨⟨-, hp⟩, -⟩ : (pageWritable d m p = true ∧ present d p = true) ∧ inSoftReset d p = false := by
    simpa [writeTaken] using h
  exact hp

/-! ### Registers of a block -/

/-- Fields that hold nothing do not stop a write. -/
theorem writeHeld_none {d : Dev} {held : Slot → Bool} {p off : Nat} (h : ∀ x ∈ slotsAt true d p off, held x = false)
    (v : Nat) : writeHeld d held p off v = false := by
  have hn : ((slotsAt true d p off).filter Slot.writable).any held = false := by
    rw [List.any_eq_false]
    intro x hx
    obtain ⟨hmem, -⟩ := List.mem_filter.mp hx
    simp [h x hmem]
  simp [writeHeld, hn]

/-- A register all of whose fields are writable and held takes no write. -/
theorem writeHeld_all {d : Dev} {held : Slot → Bool} {p off : Nat} (hne : slotsAt true d p off ≠ [])
    (hw : ∀ x ∈ slotsAt true d p off, x.writable = true) (h : ∀ x ∈ slotsAt true d p off, held x = true) (v : Nat) :
    writeHeld d held p off v = true := by
  have hany : (slotsAt true d p off).any held = true := by
    obtain ⟨x, hx⟩ := List.exists_mem_of_ne_nil _ hne
    exact List.any_eq_true.mpr ⟨x, hx, h x hx⟩
  simp only [writeHeld, List.filter_eq_self.mpr hw, hany, List.all_eq_true.mpr h, Bool.true_or, Bool.and_self]

/-- No field of the register is closed by the commit (R61). -/
theorem any_closed_false {d : Dev} {p off : Nat} (h : ∀ x ∈ slotsAt true d p off, x.closed = false) :
    (slotsAt true d p off).any Slot.closed = false := by
  rw [List.any_eq_false]
  intro x hx
  simp [h x hx]

/-- A register none of whose fields is locked, closed by the commit, or static refuses no write (R45, R61, R72). -/
theorem blockRefusal_none {d : Dev} {p off : Nat} (hl : ∀ x ∈ slotsAt true d p off, x.lockable = false)
    (hc : ∀ x ∈ slotsAt true d p off, x.closed = false) (hs : ∀ x ∈ slotsAt true d p off, x.fld.stat = false) (v : Nat) :
    blockRefusal d p off v = none := by
  simp [blockRefusal, writeHeld_none hl, writeHeld_none hs, any_closed_false hc]

/-- An unlocked register that holds only static fields is closed outside Off (R72). -/
theorem blockRefusal_static {d : Dev} {p off : Nat} (hne : slotsAt true d p off ≠ [])
    (hw : ∀ x ∈ slotsAt true d p off, x.writable = true) (hc : ∀ x ∈ slotsAt true d p off, x.closed = false)
    (hs : ∀ x ∈ slotsAt true d p off, x.fld.stat = true) (hl : cfgLocked d p = false)
    (ho : isOff d (firstPage p) = false) (hr : homePage p ≠ 0x21) (v : Nat) : blockRefusal d p off v = some 0x04 := by
  simp [blockRefusal, hl, any_closed_false hc, ho, hr, writeHeld_all hne hw hs]

/-- A write that nothing refuses, of a register that is no part of a pair, has the block's effect. -/
theorem blockStore_single {d : Dev} {m p off v : Nat} (hh : regHidden true d p off = false)
    (hr : blockRefusal d p off v = none) (hl : isLo p off = false) (hl' : isLo p (off - 4) = false) (mem : Memory) :
    blockStore m p off v (d, mem) = blockWrite m p off 0 v (d, mem) := by
  simp [blockStore, hh, hr, hl, hl']

/-- A refused write is discarded and captured, the word held for its _LO partner with it (R78). -/
theorem blockStore_refused {d : Dev} {m p off v c : Nat} (hh : regHidden true d p off = false)
    (hr : blockRefusal d p off v = some c) (mem : Memory) :
    blockStore m p off v (d, mem) =
      (refuseWrite (firstPage p) c m (regAddr p off) (dropLo m (regAddr p off - 4) d), mem) := by
  simp [blockStore, hh, hr, discardWith, onDev]

/-- Where no word is held, there is none to drop. -/
theorem dropLo_of_none {d : Dev} {m a : Nat} (h : heldLo d m a = none) : dropLo m a d = d := by
  have hk : d.sh.heldLo.filter (fun e => e.1 != (m, a)) = d.sh.heldLo := by
    refine List.filter_eq_self.mpr (fun e he => ?_)
    have hf := List.find?_eq_none.mp (Option.map_eq_none_iff.mp h) e he
    simpa using hf
  simp only [dropLo, hk]

/-- The words of SYS_ABSENT_CLR, PMB_DATA and PMB_CFG. -/
theorem slotsAt_sysAbsentClr (d : Dev) : slotsAt true d 0 0x0F8 = [⟨SYS_ABSENT_CLR_CLR, 0, 0⟩] := rfl

theorem slotsAt_pmbData (d : Dev) : slotsAt true d pPmb 0x04C = [⟨PMB_DATA_DATA, 0, 0⟩] := rfl

theorem slotsAt_pmbCfg (d : Dev) : slotsAt true d pPmb 0x040 =
    [⟨PMB_CFG_PAGE, 0, 0⟩, ⟨PMB_CFG_PEC, 0, 0⟩, ⟨PMB_CFG_RATE, 0, 0⟩, ⟨PMB_CFG_ADDR, 0, 0⟩] := rfl

/-! ### Writes to absent pages (R39, R40) -/

/-- The homes of the three fields that R40 writes. -/
def absentKeys : List Key :=
  [SYS_ABSENT_HITS_COUNT.key 0 0, SYS_ABSENT_LAST_MASTER.key 0 0, SYS_ABSENT_LAST_PAGE.key 0 0]

/-- R40's three fields, written one after the other, hold what was written, and no other field has changed. -/
theorem absentFields_written (d : Dev) (h m p : Nat) :
    let e := ((d.put SYS_ABSENT_HITS_COUNT h).put SYS_ABSENT_LAST_MASTER m).put SYS_ABSENT_LAST_PAGE p
    e.rd SYS_ABSENT_HITS_COUNT = h % 2 ^ 32 ∧ e.rd SYS_ABSENT_LAST_MASTER = m % 64 ∧
      e.rd SYS_ABSENT_LAST_PAGE = p % 512 ∧ OffKeys absentKeys d e := by
  refine ⟨?_, ?_, Dev.rd_put_self _ _ _ _ _, ?_⟩
  · rw [Dev.rd_put_ne _ _ _ _ _ _ _ _ (by decide), Dev.rd_put_ne _ _ _ _ _ _ _ _ (by decide), Dev.rd_put_self]
    rfl
  · rw [Dev.rd_put_ne _ _ _ _ _ _ _ _ (by decide), Dev.rd_put_self]
    rfl
  · exact (((OffKeys.refl _ d).put (by decide) h).put (by decide) m).put (by decide) p

/-- R40: a granted write to an absent page counts, records its master and page, and changes nothing else. -/
theorem absentWrite_acts {c : Instr} {s : State} {m page : Nat} (hp : page < 512)
    (he : exec c s = .next { s with dev := absentWrite m page s.dev }) :
    Acts c s (fun t =>
      t.dev.rd SYS_ABSENT_HITS_COUNT = satAdd (2 ^ 32 - 1) (s.dev.rd SYS_ABSENT_HITS_COUNT) 1 % 2 ^ 32 ∧
      t.dev.rd SYS_ABSENT_LAST_MASTER = m % 64 ∧ t.dev.rd SYS_ABSENT_LAST_PAGE = page ∧ OnlyKeys absentKeys s t) := by
  obtain ⟨hh, hm, hl, hk⟩ :=
    absentFields_written s.dev (satAdd (2 ^ 32 - 1) (s.dev.rd SYS_ABSENT_HITS_COUNT) 1) m page
  exact ⟨_, he, hh, hm, hl.trans (Nat.mod_eq_of_lt hp), .of_regs rfl hk⟩

/-- The dispatch of a write to an absent page. -/
theorem exec_absentPageWrite (m page : Nat) (s : State) :
    exec (.absentPageWrite m page) s = execAbsentPageWrite m page s := rfl

/-- A write to an absent page by its own command. -/
theorem exec_absentPageWrite_granted {s : State} (hf : frozen s.dev = false) {m page : Nat}
    (ha : present s.dev page = false) (hw : pageWritable s.dev m page = true) :
    exec (.absentPageWrite m page) s = .next { s with dev := absentWrite m page s.dev } := by
  rw [exec_absentPageWrite, execAbsentPageWrite, upd_live hf]
  simp [ha, hw]

/-- A write to an absent page that the customs tables refuse, by its own command. -/
theorem exec_absentPageWrite_refused {s : State} (hf : frozen s.dev = false) {m page : Nat}
    (ha : present s.dev page = false) (hw : pageWritable s.dev m page = false) :
    exec (.absentPageWrite m page) s =
      .next { s with dev := customsRefuse .regs m .write (regAddr page 0x040) s.dev } := by
  rw [exec_absentPageWrite, execAbsentPageWrite, upd_live hf]
  simp [ha, hw]

/-- A write to an absent page as a register write of any offset. -/
theorem exec_regWrite_absent {s : State} (hf : frozen s.dev = false) {m page off : Nat} (hp : page < 512)
    (ho : off < 4096) (h4 : off % 4 = 0) (hb : page ≠ pBryn) (ha : present s.dev page = false)
    (hw : pageWritable s.dev m page = true) (v : Nat) :
    exec (.regWrite m (regAddr page off) v) s = .next { s with dev := absentWrite m page s.dev } := by
  rw [exec_regWrite_regAddr hp ho h4, pageWrite_eq hf (regStore_absent hb hw ha _ _ _)]

/-- R68: a refused write to an absent page counts in CUSTOMS_VIOL, and SYS_ABSENT_HITS stays. -/
theorem absentPageWrite_refused_acts {s : State} (hf : frozen s.dev = false) {m page : Nat}
    (ha : present s.dev page = false) (hw : pageWritable s.dev m page = false) :
    Acts (.absentPageWrite m page) s (fun t =>
      t.dev.rd SYS_ABSENT_HITS_COUNT = s.dev.rd SYS_ABSENT_HITS_COUNT ∧
      t.dev.rd CUSTOMS_VIOL_COUNT 0 2 = satAdd (2 ^ CUSTOMS_VIOL_COUNT.width - 1) (s.dev.rd CUSTOMS_VIOL_COUNT 0 2) 1 %
        2 ^ CUSTOMS_VIOL_COUNT.width ∧ OnlyPages (eventPages 0 ++ [7]) s t) := by
  have hv : violationPage s.dev .regs (regAddr page 0x040) ∈ eventPages 0 ++ [7] := by
    rw [violationPage_regs_absent ha (by decide)]
    decide
  have hk := look_customsRefuse_header (SYS_ABSENT_HITS_COUNT.key 0 0) (by decide) (by decide) (by decide) (by decide)
    .regs m .write (regAddr page 0x040) s.dev
  exact ⟨_, exec_absentPageWrite_refused hf ha hw, Dev.rd_of_look hk, rd_customsRefuse_viol .regs m .write _ s.dev,
    .of_units (units_customsRefuse _ _ _ _ _) ((OffPages.refl _ _).customsRefuse hv (by decide) (by decide) (by decide))⟩

/-- SYS_ABSENT_CLR, whose write is taken, clears by bit 0 (R40). -/
theorem regStore_sysAbsentClr {d : Dev} {m : Nat} (ht : writeTaken d m 0 = true) (v : Nat) (mem : Memory) :
    regStore m 0 0x0F8 v (d, mem) = (absentClear v d, mem) := by
  have hr : blockRefusal d 0 0x0F8 v = none :=
    blockRefusal_none (by rw [slotsAt_sysAbsentClr]; decide) (by rw [slotsAt_sysAbsentClr]; decide)
      (by rw [slotsAt_sysAbsentClr]; decide) v
  rw [regStore_taken ht (by decide) (by decide), if_neg (by decide), blockStore_single rfl hr (by decide) (by decide)]
  rfl

/-- R40: a granted write of 1 to SYS_ABSENT_CLR clears the three fields and nothing else. -/
theorem absentClr_acts {s : State} (hf : frozen s.dev = false) {m v : Nat} (ht : writeTaken s.dev m 0 = true)
    (hv : v.testBit 0 = true) :
    Acts (.absentClr m v) s (fun t =>
      t.dev.rd SYS_ABSENT_HITS_COUNT = 0 ∧ t.dev.rd SYS_ABSENT_LAST_MASTER = 0 ∧ t.dev.rd SYS_ABSENT_LAST_PAGE = 0 ∧
      OnlyKeys absentKeys s t) := by
  have hv' : (v % 2 ^ 32).testBit 0 = true := by simpa [Nat.testBit_mod_two_pow] using hv
  obtain ⟨hh, hm, hl, hk⟩ := absentFields_written s.dev 0 0 0
  have he := pageWrite_eq hf (regStore_sysAbsentClr ht (v % 2 ^ 32) s.mem)
  rw [absentClear, if_pos hv'] at he
  exact ⟨_, he, hh, hm, hl, .of_regs rfl hk⟩

/-! ### The page header (R44–R48) -/

/-- A write of a header register other than CTRL that is taken. -/
theorem pageWrite_header {s : State} (hf : frozen s.dev = false) {m p off : Nat} (ht : writeTaken s.dev m p = true)
    (hb : p ≠ pBryn) (ho : off < 0x040) (hc : off ≠ 0x00C) (v : Nat) :
    pageWrite m p off v s = .next { s with dev := headerStore m p off (v % 2 ^ 32) s.dev } := by
  rw [pageWrite_eq hf (regStore_taken ht hb hc _ _), if_pos ho]

/-- R48: INT_TEST sets the bits written in INT_RAW. -/
theorem intTestWrite_acts {s : State} (hf : frozen s.dev = false) {m p : Nat} (ht : writeTaken s.dev m p = true)
    (hp : firstPage p = p) (hb : p ≠ pBryn) (v : Nat) :
    Acts (.intTestWrite m p v) s (fun t =>
      (∀ i, i < 32 → (t.dev.rd HDR_INT_RAW_RAW p).testBit i = ((s.dev.rd HDR_INT_RAW_RAW p).testBit i || v.testBit i)) ∧
      OnlyPages [p, 0xCE] s t) := by
  have hs : headerStore m p 0x020 (v % 2 ^ 32) s.dev = raise p (v % 2 ^ 32) s.dev := by simp [headerStore, hp]
  refine ⟨_, pageWrite_header hf ht hb (by decide) (by decide) v, fun i hi => ?_, ?_⟩
  · rw [hs, State.with_dev_dev, rd_raise]
    simp only [Nat.testBit_mod_two_pow, Nat.testBit_or, hi, decide_true, Bool.true_and]
  · rw [hs]
    exact .of_units (units_raise _ _ _) ((OffPages.refl _ _).raise (by simp) (by simp) _)

/-- The fields of ERR_CODE and ERR_ADDR. -/
def captureFlds : List Fld :=
  [HDR_ERR_CODE_VALID, HDR_ERR_CODE_MORE, HDR_ERR_CODE_SEVERITY, HDR_ERR_CODE_KIND, HDR_ERR_CODE_MASTER, HDR_ERR_CODE_CODE,
    HDR_ERR_ADDR_LO_ADDR, HDR_ERR_ADDR_HI_ADDR]

/-- The fields of a capture have homes of their own. -/
theorem captureFlds_pairwise (p : Nat) : captureFlds.Pairwise (fun F G => G.key p 0 ≠ F.key p 0) := by
  simp [captureFlds, Fld.key, HDR_ERR_CODE_VALID, HDR_ERR_CODE_MORE, HDR_ERR_CODE_SEVERITY, HDR_ERR_CODE_KIND,
    HDR_ERR_CODE_MASTER, HDR_ERR_CODE_CODE, HDR_ERR_ADDR_LO_ADDR, HDR_ERR_ADDR_HI_ADDR]

/-- The fields of a capture lie on the block's own page. -/
theorem captureFlds_page (p : Nat) : ∀ F ∈ captureFlds, F.pageOf p ∈ [p] ∧ F.off < 4096 := by
  simp [captureFlds, Fld.pageOf, HDR_ERR_CODE_VALID, HDR_ERR_CODE_MORE, HDR_ERR_CODE_SEVERITY, HDR_ERR_CODE_KIND,
    HDR_ERR_CODE_MASTER, HDR_ERR_CODE_CODE, HDR_ERR_ADDR_LO_ADDR, HDR_ERR_ADDR_HI_ADDR]

theorem units_foldl_put (v p : Nat) (l : List Fld) (d : Dev) : (l.foldl (fun e F => e.put F v p) d).units = d.units :=
  foldl_units _ (fun _ _ => units_put _ _ _ _ _) l d

/-- R46: a write of 1 to ERR_CODE.VALID clears the whole capture. -/
theorem errCodeClear_acts {s : State} (hf : frozen s.dev = false) {m p : Nat} (ht : writeTaken s.dev m p = true)
    (hp : firstPage p = p) (hb : p ≠ pBryn) :
    Acts (.errCodeClear m p) s (fun t => (∀ F ∈ captureFlds, t.dev.rd F p = 0) ∧ OnlyPages [p] s t) := by
  have hs : headerStore m p 0x024 (2 ^ 31 % 2 ^ 32) s.dev = captureFlds.foldl (fun e F => e.put F 0 p) s.dev := by
    have hv : (2 ^ 31 % 2 ^ 32).testBit 31 = true := by decide
    simp only [headerStore, hp, hv, ne_eq, not_true_eq_false, if_true, if_false, Nat.reduceEqDiff]
    rfl
  have he := pageWrite_header hf ht hb (by decide) (by decide : 0x024 ≠ 0x00C) (2 ^ 31)
  rw [hs] at he
  exact ⟨_, he, fun F hF => Dev.rd_foldl_clear (captureFlds_pairwise p) hF s.dev,
    .of_units (units_foldl_put 0 p captureFlds s.dev) ((OffPages.refl _ _).foldl_put (captureFlds_page p) 0)⟩

/-- A command that sets one single-bit field of the device. -/
theorem set_acts {c : Instr} {s : State} {F : Fld} {p : Nat} (hw : F.width = 1)
    (he : exec c s = .next { s with dev := s.dev.put F 1 p }) :
    Acts c s (fun t => t.dev.rd F p = 1 ∧ OnlyKeys [F.key p 0] s t) := by
  have hv : 1 % 2 ^ F.width = 1 := by simp only [hw, Nat.reducePow, Nat.reduceMod]
  exact ⟨_, he, (Dev.rd_put_self s.dev F 1 p 0).trans hv,
    .of_regs rfl ((OffKeys.refl _ _).put List.mem_cons_self 1)⟩

/-- R45: LOCK.SET_CFG sets LOCK.CFG alone. -/
theorem lockSetCfg_acts {s : State} (hf : frozen s.dev = false) {m p : Nat} (ht : writeTaken s.dev m p = true)
    (hp : firstPage p = p) (hb : p ≠ pBryn) :
    Acts (.lockSetCfg m p) s (fun t => t.dev.rd HDR_LOCK_CFG p = 1 ∧ OnlyKeys [HDR_LOCK_CFG.key p 0] s t) := by
  have he := pageWrite_header hf ht hb (by decide) (by decide : 0x030 ≠ 0x00C) 1
  refine set_acts rfl (he.trans ?_)
  simp [headerStore, hp, Dev.putIf, Nat.testBit]

/-- R45: LOCK.SET_CTRL sets LOCK.CTRL alone. -/
theorem lockSetCtrl_acts {s : State} (hf : frozen s.dev = false) {m p : Nat} (ht : writeTaken s.dev m p = true)
    (hp : firstPage p = p) (hb : p ≠ pBryn) :
    Acts (.lockSetCtrl m p) s (fun t => t.dev.rd HDR_LOCK_CTRL p = 1 ∧ OnlyKeys [HDR_LOCK_CTRL.key p 0] s t) := by
  have he := pageWrite_header hf ht hb (by decide) (by decide : 0x030 ≠ 0x00C) 2
  refine set_acts rfl (he.trans ?_)
  simp [headerStore, hp, Dev.putIf, Nat.testBit]

/-- INT_EN after a write, the lines that rise having been routed. -/
theorem rd_withLines_intEn (p v : Nat) (d : Dev) :
    (withLines p (fun x => x.put HDR_INT_EN_EN v p) d).rd HDR_INT_EN_EN p = v % 2 ^ 32 := by
  have hk : (HDR_INT_EN_EN.key p 0).reg ≠ pbaReg := by
    simp only [Fld.key, HDR_INT_EN_EN, pbaReg]
    omega
  exact (Dev.rd_of_look (d := d.put HDR_INT_EN_EN v p) (look_withLines _ hk p _ d)).trans (Dev.rd_put_self _ _ _ _ _)

/-- R48: a write of INT_EN stores the word, and the lines that rise are routed. -/
theorem intEnWrite_acts {s : State} (hf : frozen s.dev = false) {m p : Nat} (ht : writeTaken s.dev m p = true)
    (hp : firstPage p = p) (hb : p ≠ pBryn) (v : Nat) :
    Acts (.regWrite m (regAddr p 0x018) v) s (fun t =>
      t.dev.rd HDR_INT_EN_EN p = v % 2 ^ 32 ∧ OnlyPages [p, 0xCE] s t) := by
  have hs : headerStore m p 0x018 (v % 2 ^ 32) s.dev =
      withLines p (fun x => x.put HDR_INT_EN_EN (v % 2 ^ 32) p) s.dev := by simp [headerStore, hp]
  have he := pageWrite_header hf ht hb (by decide) (by decide : 0x018 ≠ 0x00C) v
  rw [hs] at he
  refine ⟨_, (exec_regWrite_regAddr (lt_of_present (present_of_writeTaken ht)) (by decide) (by decide) s).trans he, ?_, ?_⟩
  · exact (rd_withLines_intEn p (v % 2 ^ 32) s.dev).trans (Nat.mod_mod v (2 ^ 32))
  · exact .of_units (units_withLines _ _ _) (((OffPages.refl _ _).put (by simp [Fld.pageOf, HDR_INT_EN_EN]) (by decide)
      (v % 2 ^ 32) 0).withLines (by simp) p)

/-! ### Plain and static registers of PMB (R14, R72) -/

/-- PMB_DATA takes the low 16 bits of the word. -/
theorem regStore_pmbData {d : Dev} {m : Nat} (ht : writeTaken d m pPmb = true) (v : Nat) (mem : Memory) :
    regStore m pPmb 0x04C v (d, mem) = (d.put PMB_DATA_DATA (bitsOf v 15 0), mem) := by
  have hr : blockRefusal d pPmb 0x04C v = none :=
    blockRefusal_none (by rw [slotsAt_pmbData]; decide) (by rw [slotsAt_pmbData]; decide)
      (by rw [slotsAt_pmbData]; decide) v
  rw [regStore_taken ht (by decide) (by decide), if_neg (by decide), blockStore_single rfl hr (by decide) (by decide)]
  rfl

/-- A write of PMB_DATA stores its 16 bits and nothing else. -/
theorem pmbDataWrite_acts {s : State} (hf : frozen s.dev = false) {m : Nat} (ht : writeTaken s.dev m pPmb = true)
    (v : Nat) :
    Acts (.regWrite m (regAddr pPmb 0x04C) v) s (fun t =>
      t.dev.rd PMB_DATA_DATA = v % 2 ^ 16 ∧ OnlyKeys [PMB_DATA_DATA.key 0 0] s t) := by
  have he := pageWrite_eq hf (regStore_pmbData ht (v % 2 ^ 32) s.mem)
  refine ⟨_, (exec_regWrite_regAddr (by decide) (by decide) (by decide) s).trans he, ?_,
    .of_regs rfl ((OffKeys.refl _ _).put List.mem_cons_self _)⟩
  rw [State.with_dev_dev, Dev.rd_put_self]
  simp only [PMB_DATA_DATA, Fld.width, bitsOf]
  omega

/-- R72: a write of PMB_CFG outside Off is discarded and captured. -/
theorem exec_pmbCfgWrite_outside_off {s : State} (hf : frozen s.dev = false) {m : Nat}
    (ht : writeTaken s.dev m pPmb = true) (hl : cfgLocked s.dev pPmb = false) (ho : isOff s.dev pPmb = false)
    (hh : heldLo s.dev m (regAddr pPmb 0x03C) = none) (v : Nat) :
    exec (.regWrite m (regAddr pPmb 0x040) v) s =
      .next { s with dev := refuseWrite pPmb 0x04 m (regAddr pPmb 0x040) s.dev } := by
  have hr : blockRefusal s.dev pPmb 0x040 (v % 2 ^ 32) = some 0x04 :=
    blockRefusal_static (by simp [slotsAt_pmbCfg]) (by rw [slotsAt_pmbCfg]; decide) (by rw [slotsAt_pmbCfg]; decide)
      (by rw [slotsAt_pmbCfg]; decide) hl ho (by decide) _
  have hb : regStore m pPmb 0x040 (v % 2 ^ 32) (s.dev, s.mem) =
      (refuseWrite pPmb 0x04 m (regAddr pPmb 0x040) s.dev, s.mem) := by
    have hd : dropLo m (regAddr pPmb 0x040 - 4) s.dev = s.dev := dropLo_of_none hh
    rw [regStore_taken ht (by decide) (by decide), if_neg (by decide), blockStore_refused rfl hr, hd]
    rfl
  exact (exec_regWrite_regAddr (by decide) (by decide) (by decide) s).trans (pageWrite_eq hf hb)

/-! ### Held edges (R52) -/

/-- The dispatch of a held edge. -/
theorem exec_intrHeldPost (s : State) : exec .intrHeldPost s = execIntrHeldPost s := rfl

/-- The oldest held edge enters the event-post queue, which has room. -/
theorem intrHeldPost_acts {s : State} (hf : frozen s.dev = false) {n : Nat} {l : List Nat}
    (hh : s.dev.sh.heldLines = n :: l) (hr : postRoom s.dev = true) (hn : n < 1024) :
    Acts .intrHeldPost s (fun t =>
      t.dev.sh = { s.dev.sh with heldLines := l, posts := s.dev.sh.posts ++
        [⟨s.dev.rd INTR_ROUTE_DATA_TASK 0 n, s.dev.rd INTR_ROUTE_DATA_TARGET 0 n % 32, none⟩] } ∧ Changes [] [] s t) := by
  have he : exec .intrHeldPost s =
      .next { s with dev := { postHeld n s.dev with sh := { (postHeld n s.dev).sh with heldLines := l } } } := by
    rw [exec_intrHeldPost, execIntrHeldPost, upd_live hf]
    simp only [hh, hr, if_true]
  rw [postHeld, if_pos hn] at he
  exact ⟨_, he, rfl, OnlyPages.of_units rfl (OffPages.refl _ _)⟩

/-! ### The statement -/

/-- Settles O9: one lemma for each register, put together. -/
theorem pageWritesAct : Obligations.PageWritesAct := by
  unfold Obligations.PageWritesAct
  intro s hf
  refine ⟨?absent, fun m page ha hw => absentPageWrite_refused_acts hf ha hw,
    fun m v ht hv => absentClr_acts hf ht hv, ?header, fun m v ht => pmbDataWrite_acts hf ht v,
    fun m v ht hl ho hh => exec_pmbCfgWrite_outside_off hf ht hl ho hh v,
    fun n l hh hr hn => intrHeldPost_acts hf hh hr hn⟩
  case absent =>
    rintro m page hp ha hw c (rfl | ⟨off, v, ho, h4, hb, rfl⟩)
    · exact absentWrite_acts hp (exec_absentPageWrite_granted hf ha hw)
    · exact absentWrite_acts hp (exec_regWrite_absent hf hp ho h4 hb ha hw v)
  case header =>
    intro m p v ht hp hb
    exact ⟨intTestWrite_acts hf ht hp hb v, errCodeClear_acts hf ht hp hb, lockSetCfg_acts hf ht hp hb,
      lockSetCtrl_acts hf ht hp hb, intEnWrite_acts hf ht hp hb v⟩

end Sys2Proof.Machine

namespace Sys2Proof.Machine

open Sys2Proof

/-! ### What a step keeps (R27, R76) -/

/-- A state is sound exactly when its memory is canonical and every command that waits is well formed. -/
theorem State.sound_iff {s : State} : s.sound = true ↔ Canon s.mem ∧ s.pending.all Instr.wf = true := by
  rw [State.sound, Bool.and_eq_true]
  exact ⟨fun ⟨hm, hq⟩ => ⟨⟨hm⟩, hq⟩, fun ⟨hm, hq⟩ => ⟨hm.ok, hq⟩⟩

/-- What a step does to memory and to the queue: a tick leaves the queue as it is, empty, and a command leaves the
commands behind it; neither takes memory out of its canonical form. -/
theorem step_next {s t : State} (h : step s = .next t) :
    t.pending = s.pending.tail ∧ (Canon s.mem → Canon t.mem) := by
  unfold step at h
  split at h
  next hp =>
    obtain rfl := Host.Outcome.next.inj h
    exact ⟨by rw [hp]; rfl, idleTick_keeps (s.dev, s.mem)⟩
  next c rest hp =>
    obtain ⟨u, hu, hq, hm⟩ := exec_fine c { s with pending := rest }
    obtain rfl := Host.Outcome.next.inj (hu.symm.trans h)
    exact ⟨by rw [hq, hp]; rfl, hm⟩

/-- A part of a queue of well-formed commands is one. -/
theorem queueWf_tail {q : List Instr} (h : q.all Instr.wf = true) : q.tail.all Instr.wf = true :=
  List.all_eq_true.mpr fun c hc => List.all_eq_true.mp h c (List.mem_of_mem_tail hc)

/-- Settles O2: a step only takes a command off the queue, and each command and the tick keep memory canonical. -/
theorem everyStepKeepsStateSound : Obligations.EveryStepKeepsStateSound := by
  unfold Obligations.EveryStepKeepsStateSound
  intro s t hs h
  obtain ⟨hm, hq⟩ := State.sound_iff.mp hs
  obtain ⟨htail, hmem⟩ := step_next h
  exact State.sound_iff.mpr ⟨hmem hm, htail ▸ queueWf_tail hq⟩

end Sys2Proof.Machine
